-- ==== Sys2Proof/Word.lean ====
section
/-!
DEFINITION. The words and the numbers that name things on the panel.
Bit vectors are what the spec treats as bits; codes of a fixed range are `Fin`.
-/
namespace Sys2Proof

/-- A byte. -/
abbrev Byte := BitVec 8
/-- A 32-bit word of cell memory (R46). -/
abbrev W32 := BitVec 32
/-- A 64-bit register or control access (R61, R92). -/
abbrev W64 := BitVec 64
/-- A worker register number (R92). -/
abbrev Reg := BitVec 5
/-- A predicate number (R92). -/
abbrev PReg := BitVec 3
/-- A comb site code, row × 16 + column (R14). -/
abbrev Site := Fin 224
/-- A physical cell site of a comb, frame × 12 + position (R294, R473). -/
abbrev Phys := Fin 192
/-- A frame of a comb (chapter 01, *Frames, physical positions and logical cells*). -/
abbrev Frame := Fin 16
/-- A hardware task of a core (R35). -/
abbrev TaskId := Fin 8
/-- A store code, row × 8 + pair (R15). -/
abbrev StoreId := Fin 112
/-- A colony id (R198). -/
abbrev ColonyId := Fin 64
/-- A sampler of a comb (R23). -/
abbrev SamplerId := Fin 4
/-- A sampler context (R161). -/
abbrev Ctx := Fin 256
/-- A service port, two per octet (R277). -/
abbrev PortId := Fin 224
/-- An endpoint identifier: panel, site byte, endpoint (R21). -/
abbrev Eid := BitVec 24

/-- The two half-panels (chapter 01). -/
inductive Half where
  | west
  | east
  deriving DecidableEq, Repr

/-- A core that runs worker instructions: a cell's worker, a steward, a keeper core (R35, R121). -/
inductive CoreId where
  | cell (site : Site) (phys : Phys)
  | steward (site : Site)
  | keeper (half : Half) (core : Fin 16)
  deriving DecidableEq, Repr

/-- The half whose columns hold a comb: West 0–7, East 8–15 (R14). -/
def halfOf (s : Site) : Half := if s.val % 16 < 8 then .west else .east

/-- The number of a half, 0 West and 1 East (R473). -/
def Half.code : Half → Nat
  | .west => 0
  | .east => 1

/-- The other half. -/
def Half.other : Half → Half
  | .west => .east
  | .east => .west

/-- The store of a comb's pair: row × 8 + column div 2 (R15, R16). -/
def storeOf (s : Site) : Nat := s.val / 16 * 8 + s.val % 16 / 2

/-- The frame of a physical site. -/
def frameOf (p : Phys) : Nat := p.val / 12

/-- The position of a physical site in its frame, from the outer edge (R13). -/
def posOf (p : Phys) : Nat := p.val % 12

end Sys2Proof
end

