-- ==== Sys2Proof/Packet.lean ====
section
/-!
DEFINITION. What travels between the agents of the panel: data packets (R301), control packets (R298),
waggle packets (R323), neighbour lines (R39), error records (R474). They are operands of commands and contents of State.
-/
namespace Sys2Proof

/-- A data packet: the header fields of R301 and the payload as 32-bit words, sixteen to a flit. -/
structure DataPkt where
  gen : BitVec 2
  type : BitVec 6
  dst : Eid
  src : Eid
  colony : Byte
  lenM1 : BitVec 6
  ep : BitVec 2
  addr : W32
  tag : BitVec 16
  hcrc : Byte
  /-- A payload flit was uncorrectable on die or failed the link check beyond retry (R315 PAYLOAD_ERROR). -/
  badPayload : Bool
  payload : List W32
  deriving DecidableEq, Repr

/-- A control packet (R298). -/
structure CtlPkt where
  gen : BitVec 2
  cls : Byte
  dst : Eid
  src : Eid
  crc : BitVec 6
  payload : W64
  deriving DecidableEq, Repr

/-- A waggle packet: the head token's fields and its data tokens (R323). -/
structure WagPkt where
  gen : BitVec 2
  op : BitVec 4
  down : Bool
  group : BitVec 7
  seq : BitVec 4
  len : BitVec 3
  status : BitVec 3
  crc : Byte
  data : List W32
  deriving DecidableEq, Repr

/-- A neighbour channel (R39, SUB of R174). -/
inductive Dir where
  | n
  | e
  | s
  | w
  deriving DecidableEq, Repr

/-- One line on a neighbour channel: its receive address and its 64 words, and which mover of which cell sent it (R175). -/
structure NbrLine where
  addr : BitVec 24
  words : List W32
  fromPhys : Phys
  mover : Fin 2
  serial : Nat
  line : Nat
  deriving DecidableEq, Repr

/-- An error record (R474). TIME, SERIAL, FLAGS, COLONY, ORIG, REPEAT and CAUSE are set by the lead keeper at logging. -/
structure ErrRec where
  serial : Nat
  code : BitVec 16
  severity : Byte
  kind : Byte
  inst : Nat
  source : Eid
  flags : Byte
  time : W64
  addr : W64
  info0 : W64
  info1 : W64
  colony : Byte
  orig : Byte
  rep : Nat
  cause : Nat
  arrival : Nat
  deriving DecidableEq, Repr

/-- A link frame as received (R347–R349): bits [55:0] of its SOF block, its 32 DATA blocks, the CRC of its EOF block; whether a block error
or another CONTROL block stood in it, and whether a codeword that it touches could not be corrected. -/
structure LinkFrame where
  sof : BitVec 56
  data : List W64
  crc : W32
  blockErr : Bool
  uncorrected : Bool
  deriving DecidableEq, Repr

end Sys2Proof
end

