-- ==== Sys2Proof/Operand.lean ====
section
/-!
DEFINITION. The operand records that the commands of Syntax carry: the worker's instruction formats (R98), control accesses,
packets with the place they arrive at, management requests.
-/
namespace Sys2Proof

/-- Which task of which core issues a worker instruction (R36, R121). -/
structure At where
  core : CoreId
  task : TaskId
  deriving DecidableEq, Repr

/-- Format RR of the ALU group: RD, RS1, RS2 and FN[10:8] (R98, R101). -/
structure OpRR where
  rd : Reg
  rs1 : Reg
  rs2 : Reg
  fh : BitVec 3
  deriving DecidableEq, Repr

/-- Format RR of the atomics: RD, RS1, RS2 and FN[10:4] (R107). -/
structure OpAmo where
  rd : Reg
  rs1 : Reg
  rs2 : Reg
  fh : BitVec 7
  deriving DecidableEq, Repr

/-- Format RR with a whole FN field (R98). -/
structure OpRRf where
  rd : Reg
  rs1 : Reg
  rs2 : Reg
  fn : BitVec 11
  deriving DecidableEq, Repr

/-- Format RI (R98). -/
structure OpRI where
  rd : Reg
  rs1 : Reg
  imm : BitVec 16
  deriving DecidableEq, Repr

/-- Format ST (R98). -/
structure OpST where
  rs2 : Reg
  rs1 : Reg
  imm : BitVec 16
  deriving DecidableEq, Repr

/-- Format BR (R98). -/
structure OpBR where
  rs1 : Reg
  rs2 : Reg
  off : BitVec 16
  deriving DecidableEq, Repr

/-- Format LI (R98). -/
structure OpLI where
  rd : Reg
  imm : BitVec 21
  deriving DecidableEq, Repr

/-- Format PC, with the bits [25:24] that must be zero (R98, R104). -/
structure OpPC where
  top : BitVec 2
  pd : PReg
  rs1 : Reg
  rs2 : Reg
  fn : BitVec 11
  deriving DecidableEq, Repr

/-- Format PI (R98). -/
structure OpPI where
  pd : PReg
  cc : BitVec 2
  rs1 : Reg
  imm : BitVec 16
  deriving DecidableEq, Repr

/-- Format PL, with the bits [16:3] that must be zero (R98, R105). -/
structure OpPL where
  pd : PReg
  pa : PReg
  pb : PReg
  z : BitVec 14
  deriving DecidableEq, Repr

/-- Format BP, with the bits [25:24] and [19:16] that must be zero (R98). -/
structure OpBP where
  top : BitVec 2
  pn : PReg
  z : BitVec 4
  off : BitVec 16
  deriving DecidableEq, Repr

/-- Format MS (R98). -/
structure OpMS where
  rd : Reg
  rs1 : Reg
  imm : Byte
  deriving DecidableEq, Repr

/-- Format MS of tcount and twait: FN[7:4] and the unit FN[2:0] (R111). -/
structure OpCnt where
  rd : Reg
  rs1 : Reg
  imm : Byte
  fh : BitVec 4
  unit : BitVec 3
  deriving DecidableEq, Repr

/-- A cell site of the panel. -/
structure CellAt where
  site : Site
  phys : Phys
  deriving DecidableEq, Repr

/-- A sampler of the panel (R23). -/
structure SmpAt where
  site : Site
  smp : SamplerId
  deriving DecidableEq, Repr

/-- The two tile engines (R35). -/
inductive Eng where
  | mxe
  | vxe
  deriving DecidableEq, Repr

/-- A mover of a core (R171). -/
structure MovAt where
  core : CoreId
  mov : Fin 2
  deriving DecidableEq, Repr

/-- A block whose registers the control network reaches (R60, R61, R170, R319 and the other register maps). -/
inductive RegUnit where
  | core (c : CoreId)
  | sampler (site : Site) (smp : SamplerId)
  | store (store : StoreId)
  | port (site : Site) (pr : Fin 8)
  deriving DecidableEq, Repr

/-- A control access performed at a block: which block, offset and value (R60). -/
structure RegWr where
  unit : RegUnit
  off : BitVec 16
  val : W64
  /-- The access comes from a keeper: the registers that only keepers write check it. -/
  keeper : Bool
  deriving DecidableEq, Repr

/-- Blocks that take a live-class write at a safe point, or swap epochs (R59, R337). -/
inductive Block where
  | cellBlk (site : Site) (phys : Phys)
  | moverBlk (core : CoreId)
  | engine (site : Site) (phys : Phys) (eng : Eng)
  | samplerBlk (site : Site) (smp : SamplerId)
  | combBlk (site : Site)
  | storeBlk (store : StoreId)
  | portBlk (site : Site) (pr : Fin 8)
  | keeperBlk (half : Half)
  deriving DecidableEq, Repr

/-- The two networks that a packet hop names (R294). -/
inductive NetPkt where
  | bulk (p : DataPkt)
  | ctl (p : CtlPkt)
  deriving DecidableEq, Repr

/-- A Ciard object reference: index, instance, subindex (chapter 00, *Ciard notation*). -/
structure ObjRef where
  idx : BitVec 16
  inst : BitVec 16
  sub : Byte
  deriving DecidableEq, Repr

/-- How a management request reached the panel (R495, R496, R546). -/
inductive MgmtPath where
  | eth (linkLocal : Bool)
  | can
  deriving DecidableEq, Repr

/-- What a Ciard request carries besides its service and body (R500, R505): protocol version, session, transaction number, counter, whether
its TAG verifies under the session key, and its transport. -/
structure Req where
  version : Byte
  session : W32
  txn : BitVec 16
  counter : W32
  tagOk : Bool
  path : MgmtPath
  deriving DecidableEq, Repr

/-- A READ's body (R508): object, STAGED, MAXLEN, OFFSET and SNAP. -/
structure ReadBody where
  obj : ObjRef
  staged : Bool
  maxLen : BitVec 16
  offset : W32
  snap : W32
  deriving DecidableEq, Repr

/-- A WRITE's body (R509): object, MORE, OFFSET and TOTAL. -/
structure WriteBody where
  obj : ObjRef
  more : Bool
  offset : W32
  total : W32
  deriving DecidableEq, Repr

/-- How a steward's fetch of a shard ends (R268): landed, retries exhausted, or a broken container. -/
inductive FetchEnd where
  | landed
  | source
  | container
  deriving DecidableEq, Repr

/-- A link end: of a comb, by the numbers of R371 (0–3 edges N, E, S, W; 4–7 express XN, XI, XS, XO; 8–11 external lanes), or of the
keeper link (R341). -/
inductive LinkAt where
  | comb (site : Site) (i : Fin 12)
  | keeper (half : Half)
  deriving DecidableEq, Repr

/-- What a command of R371 or R373 names: one link end, or the eight lanes of an octet. -/
inductive LinkSel where
  | one (l : LinkAt)
  | octet (o : StoreId)
  deriving DecidableEq, Repr

/-- What training finds on the wire or fibre (R353): a signal, equalisers that settle, the failed wires by channel, and whether T6 is clean
at full and at half rate or width. -/
structure TrainOut where
  signal : Bool
  eqOk : Bool
  wires : List (Fin 16 × BitVec 38)
  berOk : Bool
  berHalfOk : Bool
  deriving DecidableEq, Repr

/-- What the lead keeper measures for the panel loop (R430), in units of 10 mW: input power of the two halves, and of each half the power of
everything that REG_L and REG_A do not feed. -/
structure PowerMeas where
  inWest : Nat
  inEast : Nat
  otherWest : Nat
  otherEast : Nat
  deriving DecidableEq, Repr

/-- A regulator's meter (R416, R417): output and input voltage in mV and current in mA, and the output energy since the last reading in µJ. -/
structure RegRead where
  vout : BitVec 16
  iout : BitVec 16
  vin : BitVec 16
  iin : BitVec 16
  energy : Nat
  deriving DecidableEq, Repr

/-- A second's meters of the panel (R416, R421): blades with F32 voltage and current and the energy of the second in µJ; F32 voltage and current
of the two planes; telemetry of converters. -/
structure Meter where
  blades : List (Fin 8 × W32 × W32 × Nat)
  west : W32 × W32
  east : W32 × W32
  convs : List (Fin 64 × List W32)
  deriving DecidableEq, Repr

/-- A junction sensor (R432): of a comb 0–21, of a store base 0–3, of a keeper 0–1. -/
inductive SensorAt where
  | comb (site : Site) (n : Fin 22)
  | store (st : StoreId) (n : Fin 4)
  | keeper (half : Half) (n : Fin 2)
  deriving DecidableEq, Repr

/-- Where a record that the lead keeper logs comes from: a comb's error queue, or a keeper (R475). -/
inductive LogFrom where
  | comb (site : Site)
  | keeper (half : Half)
  deriving DecidableEq, Repr

/-- What a census finds (R368): the combs with a failed on-die link, and the results of the links under test by link number. -/
structure CensusOut where
  onDie : List Site
  links : List (Nat × List Byte)
  deriving DecidableEq, Repr

/-- What a cold start or a warm restart finds (R464–R468). Whatever a list does not name is found good.
`straps` and `open_`: the levels of the identity straps at the two connectors, and whether one reads open (R498, R556). `westAnswers`: West
has answered by the end of wave 0. `unreadable`: stored values that a keeper's flash does not give back (R529). `edges`: how comb edges and
the keeper link train. `stores`: store tests that fail, and repaired rows (R391); in a warm restart, the stores whose map does not let the
test be skipped. `combs`: combs that fail W1–W4 twice, and whether in their transit. `cells`: sites that fail the self-test (R466). `fmax`:
sites characterised anew. `aborts`: the epoch stage aborts twice. `images`: what the supers give for colonies that are deployed. -/
structure StartFinds where
  strapsW : Byte
  strapsE : Byte
  openW : Bool
  openE : Bool
  westAnswers : Bool
  unreadable : List (Half × ObjRef)
  edges : List (LinkAt × TrainOut)
  stores : List (StoreId × Bool × List W64)
  combs : List (Site × Bool)
  cells : List CellAt
  fmax : List (CellAt × Fin 16)
  census : CensusOut
  aborts : Bool
  images : List (ColonyId × List Byte)
  deriving DecidableEq, Repr

end Sys2Proof
end

