-- ==== Sys2Proof/Syntax.lean ====
section
/-!
DEFINITION. The commands of the panel: one constructor per row of the spec's table of operations and events.
A worker instruction carries its decoded fields; a packet arrives with the packet; a register access with its value.
-/
namespace Sys2Proof

/-- The commands. Each constructor's line names its row and the rule that governs it. -/
inductive Instr where
  /-- ADD (R101): Worker ALU add of two registers into rd. -/
  | add (at_ : At) (f : OpRR)
  /-- SUB (R101): Worker ALU subtract of two registers into rd. -/
  | sub (at_ : At) (f : OpRR)
  /-- AND (R101): Worker bitwise AND of two registers. -/
  | and_ (at_ : At) (f : OpRR)
  /-- OR (R101): Worker bitwise OR of two registers. -/
  | or_ (at_ : At) (f : OpRR)
  /-- XOR (R101): Worker bitwise XOR of two registers. -/
  | xor_ (at_ : At) (f : OpRR)
  /-- ANDN (R101): Worker AND of rs1 with the complement of rs2. -/
  | andn (at_ : At) (f : OpRR)
  /-- SLL (R101): Worker logical left shift by rs2[5:0]. -/
  | sll (at_ : At) (f : OpRR)
  /-- SRL (R101): Worker logical right shift by rs2[5:0]. -/
  | srl (at_ : At) (f : OpRR)
  /-- SRA (R101): Worker arithmetic right shift by rs2[5:0]. -/
  | sra (at_ : At) (f : OpRR)
  /-- ADDW (R101): Worker 32-bit add, sign-extended to 64 bits. -/
  | addw (at_ : At) (f : OpRR)
  /-- SUBW (R101): Worker 32-bit subtract, sign-extended to 64 bits. -/
  | subw (at_ : At) (f : OpRR)
  /-- MUL (R101): Worker multiply, low 64 bits, result after 3 cycles. -/
  | mul (at_ : At) (f : OpRR)
  /-- MULH (R101): Worker signed multiply, high 64 bits. -/
  | mulh (at_ : At) (f : OpRR)
  /-- MULHU (R101): Worker unsigned multiply, high 64 bits. -/
  | mulhu (at_ : At) (f : OpRR)
  /-- DIV (R103): Worker signed divide, never trapping. -/
  | div (at_ : At) (f : OpRR)
  /-- DIVU (R103): Worker unsigned divide, never trapping. -/
  | divu (at_ : At) (f : OpRR)
  /-- REM (R103): Worker signed remainder. -/
  | rem (at_ : At) (f : OpRR)
  /-- REMU (R103): Worker unsigned remainder. -/
  | remu (at_ : At) (f : OpRR)
  /-- MIN (R101): Worker signed minimum. -/
  | min (at_ : At) (f : OpRR)
  /-- MAX (R101): Worker signed maximum. -/
  | max (at_ : At) (f : OpRR)
  /-- MINU (R101): Worker unsigned minimum. -/
  | minu (at_ : At) (f : OpRR)
  /-- MAXU (R101): Worker unsigned maximum. -/
  | maxu (at_ : At) (f : OpRR)
  /-- CLZ (R101): Worker count of leading zeros. -/
  | clz (at_ : At) (f : OpRR)
  /-- CTZ (R101): Worker count of trailing zeros. -/
  | ctz (at_ : At) (f : OpRR)
  /-- POPC (R101): Worker population count. -/
  | popc (at_ : At) (f : OpRR)
  /-- SEL (R101): Worker select of rs1 or rs2 by a predicate. -/
  | sel (at_ : At) (f : OpRR)
  /-- ADDI (R102): Worker add of a sign-extended 16-bit immediate. -/
  | addi (at_ : At) (f : OpRI)
  /-- ANDI (R102): Worker AND with a zero-extended immediate. -/
  | andi (at_ : At) (f : OpRI)
  /-- ORI (R102): Worker OR with a zero-extended immediate. -/
  | ori (at_ : At) (f : OpRI)
  /-- XORI (R102): Worker XOR with a zero-extended immediate. -/
  | xori (at_ : At) (f : OpRI)
  /-- SHI (R102): Worker shift by an immediate amount. -/
  | shi (at_ : At) (f : OpRI)
  /-- MOVI (R102): Worker load of a sign-extended 21-bit immediate. -/
  | movi (at_ : At) (f : OpLI)
  /-- SHORI (R102): Worker shift left 16 and OR in an immediate. -/
  | shori (at_ : At) (f : OpRI)
  /-- BFX (R102): Worker bit-field extract. -/
  | bfx (at_ : At) (f : OpRI)
  /-- BFI (R102): Worker bit-field insert. -/
  | bfi (at_ : At) (f : OpRI)
  /-- CMP (R104): Worker register compare setting a predicate. -/
  | cmp (at_ : At) (f : OpPC)
  /-- CMPI (R104): Worker immediate compare setting a predicate. -/
  | cmpi (at_ : At) (f : OpPI)
  /-- PAND (R105): Predicate AND. -/
  | pand (at_ : At) (f : OpPL)
  /-- POR (R105): Predicate OR. -/
  | por (at_ : At) (f : OpPL)
  /-- PXOR (R105): Predicate XOR. -/
  | pxor (at_ : At) (f : OpPL)
  /-- PANDN (R105): Predicate AND-NOT. -/
  | pandn (at_ : At) (f : OpPL)
  /-- PNOT (R105): Predicate NOT. -/
  | pnot (at_ : At) (f : OpPL)
  /-- PSET (R105): Predicate set to 1. -/
  | pset (at_ : At) (f : OpPL)
  /-- PCLR (R105): Predicate clear to 0. -/
  | pclr (at_ : At) (f : OpPL)
  /-- LW (R106): Worker load of one word, sign-extended, through a cell window. -/
  | lw (at_ : At) (f : OpRI)
  /-- LWU (R106): Worker load of one word, zero-extended. -/
  | lwu (at_ : At) (f : OpRI)
  /-- LD (R106): Worker load of two words at an even address. -/
  | ld (at_ : At) (f : OpRI)
  /-- SW (R106): Worker posted store of one word. -/
  | sw (at_ : At) (f : OpST)
  /-- SD (R106): Worker posted store of two words. -/
  | sd (at_ : At) (f : OpST)
  /-- AMOSWAP (R107): Local atomic swap. -/
  | amoswap (at_ : At) (f : OpAmo)
  /-- AMOADD (R107): Local atomic add. -/
  | amoadd (at_ : At) (f : OpAmo)
  /-- AMOAND (R107): Local atomic AND. -/
  | amoand (at_ : At) (f : OpAmo)
  /-- AMOOR (R107): Local atomic OR. -/
  | amoor (at_ : At) (f : OpAmo)
  /-- AMOXOR (R107): Local atomic XOR. -/
  | amoxor (at_ : At) (f : OpAmo)
  /-- AMOMIN (R107): Local atomic signed minimum. -/
  | amomin (at_ : At) (f : OpAmo)
  /-- AMOMAX (R107): Local atomic signed maximum. -/
  | amomax (at_ : At) (f : OpAmo)
  /-- AMOMINU (R107): Local atomic unsigned minimum. -/
  | amominu (at_ : At) (f : OpAmo)
  /-- AMOMAXU (R107): Local atomic unsigned maximum. -/
  | amomaxu (at_ : At) (f : OpAmo)
  /-- AMOCAS (R107): Local atomic compare-and-swap. -/
  | amocas (at_ : At) (f : OpAmo)
  /-- FENCE_TASK (R189): Fence waiting for the task's narrow accesses and local atomics. -/
  | fenceTask (at_ : At) (z : BitVec 23)
  /-- FENCE_CELL (R189): Fence waiting for class L operations. -/
  | fenceCell (at_ : At) (z : BitVec 23)
  /-- FENCE_COLONY (R189): Fence waiting for class L and C operations. -/
  | fenceColony (at_ : At) (z : BitVec 23)
  /-- FENCE_PANEL (R189): Fence waiting for class L, C and P operations. -/
  | fencePanel (at_ : At) (z : BitVec 23)
  /-- FENCE_SWARM (R189): Fence waiting for operations of every class. -/
  | fenceSwarm (at_ : At) (z : BitVec 23)
  /-- FENCE_WAIT_END (R189): A waiting fence ends once every listed MOV_PEND count is zero. -/
  | fenceWaitEnd (at_ : At)
  /-- BEQ (R108): Branch if equal. -/
  | beq (at_ : At) (f : OpBR)
  /-- BNE (R108): Branch if not equal. -/
  | bne (at_ : At) (f : OpBR)
  /-- BLT (R108): Branch if signed less than. -/
  | blt (at_ : At) (f : OpBR)
  /-- BGE (R108): Branch if signed greater or equal. -/
  | bge (at_ : At) (f : OpBR)
  /-- BLTU (R108): Branch if unsigned less than. -/
  | bltu (at_ : At) (f : OpBR)
  /-- BGEU (R108): Branch if unsigned greater or equal. -/
  | bgeu (at_ : At) (f : OpBR)
  /-- BP (R108): Branch if a predicate is set. -/
  | bp (at_ : At) (f : OpBP)
  /-- BNP (R108): Branch if a predicate is clear. -/
  | bnp (at_ : At) (f : OpBP)
  /-- JAL (R108): Jump and link by a 21-bit offset. -/
  | jal (at_ : At) (f : OpLI)
  /-- JALR (R108): Jump and link to a register plus offset. -/
  | jalr (at_ : At) (f : OpRI)
  /-- TQ (R110): Issue of a 256-bit descriptor to a unit queue, waiting if full. -/
  | tq (at_ : At) (f : OpRRf)
  /-- TQ_QUEUE_ROOM (R110): A tq waiting on a full queue enters the queue when room appears, checking and translating operands. -/
  | tqQueueRoom (at_ : At)
  /-- TCOUNT (R111): Read of the exact outstanding count per unit. -/
  | tcount (at_ : At) (f : OpCnt)
  /-- TWAIT (R111): Wait until a unit's outstanding count is at most IMM8. -/
  | twait (at_ : At) (f : OpCnt)
  /-- WAITW (R112): Wait until a cell word differs from a value or a timeout passes. -/
  | waitw (at_ : At) (f : OpRRf)
  /-- WAITW_TIMEOUT (R112): A waitw timeout of 2^FN cycles expires and rd is set to 1. -/
  | waitwTimeout (at_ : At)
  /-- YIELD (R114): Task waits until other active tasks have issued once or 8 cycles. -/
  | yield (at_ : At) (f : OpMS)
  /-- YIELD_END (R114): The wait of a yield ends. -/
  | yieldEnd (at_ : At)
  /-- STOP (R114): Task stops itself, saving next_pc and entering STOPPING. -/
  | stop (at_ : At) (f : OpMS)
  /-- TID (R114): Read of the task number. -/
  | tid (at_ : At) (f : OpMS)
  /-- RDP (R114): Read of all predicates into a register. -/
  | rdp (at_ : At) (f : OpMS)
  /-- WRP (R114): Write of all predicates from a register. -/
  | wrp (at_ : At) (f : OpMS)
  /-- SWTRAP (R114): Software trap with cause 0x80 plus IMM8. -/
  | swtrap (at_ : At) (f : OpMS)
  /-- RDREG (R115): Worker read of a cell register. -/
  | rdreg (at_ : At) (f : OpRI)
  /-- WRREG (R116): Worker write of a cell register. -/
  | wrreg (at_ : At) (f : OpRI)
  /-- CREAD (R122): Privileged 64-bit control read of a remote register. -/
  | cread (at_ : At) (f : OpRRf)
  /-- CWRITE (R122): Privileged 64-bit control write of a remote register. -/
  | cwrite (at_ : At) (f : OpRRf)
  /-- CSEND (R122): Privileged send of a control message packet. -/
  | csend (at_ : At) (f : OpRRf)
  /-- CRECV (R123): Privileged take of the oldest receive-queue entry. -/
  | crecv (at_ : At) (f : OpRRf)
  /-- PRD (R124): Read of a privileged register. -/
  | prd (at_ : At) (f : OpRI)
  /-- PWR (R124): Write of a privileged register. -/
  | pwr (at_ : At) (f : OpRI)
  /-- TRET (R124): Return from a privileged trap handler. -/
  | tret (at_ : At) (z : BitVec 26)
  /-- INTERRUPT (R127): A privileged core takes an enabled pending interrupt at an instruction boundary. -/
  | interrupt (core : CoreId)
  /-- LOAD_DATA_RETURN (R95): Data of a pending load or atomic returns and the task becomes issuable. -/
  | loadDataReturn (at_ : At)
  /-- MULDIV_RESULT (R95): A multiply or divide result arrives in its register. -/
  | muldivResult (at_ : At) (rd : Reg)
  /-- CONTROL_ACCESS_TIMEOUT (R122): A cread or cwrite gets no answer within 50 us. -/
  | controlAccessTimeout (at_ : At)
  /-- TASK_START (R43): TSK_CTRL START moves a STOPPED task to ACTIVE. -/
  | taskStart (at_ : At) (v : W64)
  /-- TASK_STOP (R43): TSK_CTRL STOP moves a task to STOPPING. -/
  | taskStop (at_ : At) (v : W64)
  /-- CLEAR_TRAP (R43): TSK_CTRL CLEAR_TRAP moves a trapped idle task to STOPPED. -/
  | clearTrap (at_ : At) (v : W64)
  /-- CELL_RESET (R57): TSK_CELL_CTRL RESET resets the cell in bounded steps. -/
  | cellReset (c : CellAt) (v : W64)
  /-- QUIESCE (R58): TSK_CELL_CTRL QUIESCE freezes the cell with state intact. -/
  | quiesce (c : CellAt) (v : W64)
  /-- RESUME (R58): TSK_CELL_CTRL RESUME continues a quiesced cell. -/
  | resume (c : CellAt) (v : W64)
  /-- CELL_BIND_WRITE (R62): Control write of TSK_CELL_BIND with its LOGICAL check. -/
  | cellBindWrite (c : CellAt) (v : W64)
  /-- REGISTER_WRITE (R60): Write of a register without a row of its own, under access, class and field checks. -/
  | registerWrite (w : RegWr)
  /-- SAFE_POINT_APPLY (R59): A latched live-class write takes effect at its block's safe point. -/
  | safePointApply (b : Block)
  /-- CELL_SCRUB_TICK (R49): Every 4096 cycles scrub reads one line per bank and corrects it. -/
  | cellScrubTick (c : CellAt)
  /-- ACC_DATA_ACCESS (R169): Access of MXE_ACC_DATA while quiesced, with optional auto-increment. -/
  | accDataAccess (c : CellAt) (w : Option W64)
  /-- CMEM_ERR_READ (R63): Read-clear of CMEM_ERR counts. -/
  | cmemErrRead (c : CellAt)
  /-- CMEM_ARB_STAT_READ (R63): Read-clear of the arbitration wait maxima. -/
  | cmemArbStatRead (c : CellAt)
  /-- TSK_CLK_MON_READ (R454): Read-clear of clock monitor counts. -/
  | tskClkMonRead (c : CellAt)
  /-- UNDEFINED_DESCRIPTOR (R128): A unit completes an undefined descriptor BAD_OPCODE without record. -/
  | undefinedDescriptor (core : CoreId) (unit : BitVec 3)
  /-- MMA (R145): Matrix multiply-accumulate into an accumulator tile. -/
  | mma (c : CellAt)
  /-- ACC_LOAD (R146): Load of a tile region from cell memory. -/
  | accLoad (c : CellAt)
  /-- ACC_STORE (R147): Store of a tile region with conversion. -/
  | accStore (c : CellAt)
  /-- ACC_ZERO (R148): Zeroing of masked tiles. -/
  | accZero (c : CellAt)
  /-- ACC_SCALE (R148): Per-row scaling of a tile. -/
  | accScale (c : CellAt)
  /-- PACK (R149): Transposing and packing conversion load. -/
  | pack (c : CellAt)
  /-- VBIN (R154): Vector binary element-wise operation selected by FN. -/
  | vbin (c : CellAt)
  /-- VUN (R155): Vector unary operation or conversion selected by FN. -/
  | vun (c : CellAt)
  /-- VRED (R156): Vector row reduction selected by FN. -/
  | vred (c : CellAt)
  /-- VNORM (R157): Vector RMS or layer normalisation. -/
  | vnorm (c : CellAt)
  /-- VROPE (R158): Vector rotary position rotation. -/
  | vrope (c : CellAt)
  /-- VSMXU (R159): Online-softmax step of streamed attention. -/
  | vsmxu (c : CellAt)
  /-- TILE_COMMAND_COMPLETE (R134): A command completes: writes visible, record, counter, then counts drop. -/
  | tileCommandComplete (c : CellAt) (eng : Eng) (cycles : BitVec 30)
  /-- SAMPLER_COMMAND_START (R162): The network interface starts the next sampler command and sends it to the sampler. -/
  | samplerCommandStart (c : CellAt)
  /-- SELECT (R161): A SELECT part arrives at a sampler and joins or opens a selection. -/
  | select (q : SmpAt) (p : DataPkt)
  /-- SCORE (R161): A SCORE part arrives at a sampler and joins or opens a selection. -/
  | score (q : SmpAt) (p : DataPkt)
  /-- SMP_FETCH (R162): A sampler's logit fetch request is served by the issuing cell. -/
  | smpFetch (c : CellAt) (p : DataPkt)
  /-- SMP_DATA (R165): Fetched logits arrive at the sampler. -/
  | smpData (q : SmpAt) (p : DataPkt)
  /-- SELECTION_COMPLETE (R248): With all logits in, the sampler computes the token and log-probability. -/
  | selectionComplete (q : SmpAt) (ctx : Ctx) (serial : W32)
  /-- PART_TIMEOUT (R163): A selection's last part does not arrive within 32 us. -/
  | partTimeout (q : SmpAt) (ctx : Ctx) (serial : W32)
  /-- SMP_RESULT (R162): A sampler result arrives at the cell, is written and completes the command. -/
  | smpResult (c : CellAt) (p : DataPkt)
  /-- SMP_START (R170): SMP_CTRL START clears STOPPED. -/
  | smpStart (q : SmpAt) (v : W64)
  /-- SMP_STOP (R170): SMP_CTRL STOP lets open selections finish and refuses new ones. -/
  | smpStop (q : SmpAt) (v : W64)
  /-- SMP_RESET (R166): SMP_CTRL RESET completes every held command SAMPLER_RESET. -/
  | smpReset (q : SmpAt) (v : W64)
  /-- SMP_CTX_RESET (R247): Reset of one sampler context's state. -/
  | smpCtxReset (q : SmpAt) (v : W64)
  /-- SMP_CFG_WRITE (R245): Write of a context configuration word with validity checks. -/
  | smpCfgWrite (q : SmpAt) (ctx : Ctx) (word : Fin 4) (v : W64)
  /-- SMP_GRM_DESC_WRITE (R254): Write of a grammar descriptor unless running. -/
  | smpGrmDescWrite (q : SmpAt) (g : Fin 16) (v : W64)
  /-- SMP_GDATA_ACCESS (R254): Access of grammar memory with auto-increment. -/
  | smpGdataAccess (q : SmpAt) (w : Option W64)
  /-- SMP_HDATA_ACCESS (R244): Access of history memory with auto-increment. -/
  | smpHdataAccess (q : SmpAt) (w : Option W64)
  /-- SMP_COUNTS_READ (R170): Read-clear of sampler counts. -/
  | smpCountsRead (q : SmpAt)
  /-- SMP_ST_COUNT_READ (R244): Read-clear of context counts. -/
  | smpStCountRead (q : SmpAt) (ctx : Ctx)
  /-- COPY (R175): Mover local copy of L lines. -/
  | copy (m : MovAt)
  /-- NPUT (R175): Mover write to a neighbour over a channel. -/
  | nput (m : MovAt)
  /-- PUT (R175): Mover remote write to a rank or endpoint. -/
  | put (m : MovAt)
  /-- GET (R175): Mover remote read. -/
  | get (m : MovAt)
  /-- SREAD (R175): Mover store read. -/
  | sread (m : MovAt)
  /-- SWRITE (R175): Mover store write. -/
  | swrite (m : MovAt)
  /-- PUTIMM (R175): Mover remote write of an immediate word. -/
  | putimm (m : MovAt)
  /-- RATOM (R181): Mover remote atomic on a cell word. -/
  | ratom (m : MovAt)
  /-- SATOM (R181): Mover atomic on a store granule. -/
  | satom (m : MovAt)
  /-- SGATHER (R179): Mover gather of listed store entries. -/
  | sgather (m : MovAt)
  /-- SFETCH (R180): Privileged super fetch of a chunk with a transform. -/
  | sfetch (m : MovAt)
  /-- MOVER_DESCRIPTOR_START (R171): A mover starts its head descriptor once WAIT, REL and ACQ conditions allow. -/
  | moverDescriptorStart (m : MovAt)
  /-- MOVER_DESCRIPTOR_COMPLETE (R177): A descriptor whose reads and acknowledged writes are done completes in queue order. -/
  | moverDescriptorComplete (m : MovAt)
  /-- MOVER_TIMEOUT (R184): An expected answer does not arrive within MOV_TIMEOUT. -/
  | moverTimeout (m : MovAt) (tag : BitVec 16)
  /-- CELL_WRITE_PACKET (R178): A WRITE packet arrives at a cell and is applied line by line. -/
  | cellWritePacket (u : RegUnit) (p : DataPkt)
  /-- WRITE_WORD_PACKET (R302): A narrow write packet arrives at an endpoint. -/
  | writeWordPacket (u : RegUnit) (p : DataPkt)
  /-- READ_REQ_PACKET (R302): A remote read request arrives at a cell or keeper. -/
  | readReqPacket (u : RegUnit) (p : DataPkt)
  /-- ATOMIC_PACKET (R181): A remote atomic request arrives at a cell. -/
  | atomicPacket (c : CellAt) (p : DataPkt)
  /-- NEIGHBOUR_LINE (R41): A neighbour-channel line arrives at a cell. -/
  | neighbourLine (c : CellAt) (d : Dir) (l : NbrLine)
  /-- READ_RSP_PACKET (R177): Read response lines arrive for a mover. -/
  | readRspPacket (core : CoreId) (p : DataPkt)
  /-- ATOMIC_RSP_PACKET (R181): The old value of a remote atomic arrives. -/
  | atomicRspPacket (core : CoreId) (p : DataPkt)
  /-- ACK_PACKET (R303): An ACK for a data request arrives. -/
  | ackPacket (u : RegUnit) (p : CtlPkt)
  /-- NACK_PACKET (R182): A NACK arrives and is mapped to a status. -/
  | nackPacket (u : RegUnit) (p : CtlPkt)
  /-- REG_RD (R299): A control register read request arrives at its target. -/
  | regRd (u : RegUnit) (p : CtlPkt)
  /-- REG_WR (R300): A linked REG_WR_HEAD and BODY pair arrives and the write is performed. -/
  | regWr (u : RegUnit) (head : CtlPkt) (body : CtlPkt)
  /-- REG_RD_RSP (R122): A register read response arrives at a privileged core. -/
  | regRdRsp (core : CoreId) (p : CtlPkt)
  /-- REG_WR_ACK (R122): A register write acknowledgement arrives. -/
  | regWrAck (core : CoreId) (p : CtlPkt)
  /-- CONTROL_MESSAGE (R123): A message-class control packet arrives at a privileged core's receive queue. -/
  | controlMessage (core : CoreId) (p : CtlPkt)
  /-- PACKET_HOP (R306): A packet header reaches a router and is looked up. -/
  | packetHop (site : Site) (phys : Phys) (p : NetPkt)
  /-- HOLD_EXPIRY (R311): A held packet stays HOLD past RTR_HOLD_LIMIT and is refused. -/
  | holdExpiry (site : Site) (phys : Phys) (p : NetPkt)
  /-- RTR_DATA_WRITE (R319): Broadcast write of a routing table entry to every router of the comb. -/
  | rtrDataWrite (site : Site) (v : W64) (keeper : Bool)
  /-- RTR_COUNTERS_READ (R319): Read-clear of router counters. -/
  | rtrCountersRead (site : Site)
  /-- COMB_RESET (R317): Whole-comb reset with detours, drain, reset and restoration. -/
  | combReset (x : Site) (drained hold : Bool) (fails : List Nat)
  /-- DRAIN_CONFIRM_TIMEOUT (R317): A comb drain is not confirmed within 200 us. -/
  | drainConfirmTimeout (x : Site)
  /-- DRAIN_RETRY (R317): 10 ms after a failed drain the keeper tries once more. -/
  | drainRetry (x : Site) (drained : Bool) (fails : List Nat)
  /-- WGO_BARRIER (R325): Waggle barrier operation. -/
  | wgoBarrier (at_ : At) (f : OpRRf)
  /-- WGO_AND (R325): Waggle bitwise AND reduction. -/
  | wgoAnd (at_ : At) (f : OpRRf)
  /-- WGO_OR (R325): Waggle bitwise OR reduction. -/
  | wgoOr (at_ : At) (f : OpRRf)
  /-- WGO_XOR (R325): Waggle bitwise XOR reduction. -/
  | wgoXor (at_ : At) (f : OpRRf)
  /-- WGO_ADD (R325): Waggle sum reduction. -/
  | wgoAdd (at_ : At) (f : OpRRf)
  /-- WGO_MAXU (R325): Waggle unsigned maximum reduction. -/
  | wgoMaxu (at_ : At) (f : OpRRf)
  /-- WGO_MINU (R325): Waggle unsigned minimum reduction. -/
  | wgoMinu (at_ : At) (f : OpRRf)
  /-- WGO_MAX (R325): Waggle signed maximum reduction. -/
  | wgoMax (at_ : At) (f : OpRRf)
  /-- WGO_MIN (R325): Waggle signed minimum reduction. -/
  | wgoMin (at_ : At) (f : OpRRf)
  /-- WGO_QUERY (R335): Solicited query of a steward condition. -/
  | wgoQuery (at_ : At) (f : OpRRf)
  /-- WGO_DIGEST (R336): Solicited configuration digest comparison. -/
  | wgoDigest (at_ : At) (f : OpRRf)
  /-- WGO_COMMIT (R337): Solicited epoch commit; units swap and answer. -/
  | wgoCommit (at_ : At) (f : OpRRf)
  /-- WGO_ABORT_STAGE (R337): Solicited discard of staged shadows. -/
  | wgoAbortStage (at_ : At) (f : OpRRf)
  /-- WGO_ABORT (R329): Abort of a group's open operation, travelling down. -/
  | wgoAbort (at_ : At) (f : OpRRf)
  /-- WAGGLE_UP_TOKEN (R328): An up token arrives at a node and is combined. -/
  | waggleUpToken (site : Site) (input : BitVec 3) (p : WagPkt)
  /-- WAGGLE_DOWN_TOKEN (R328): A down token arrives, closes the operation and delivers the result. -/
  | waggleDownToken (site : Site) (p : WagPkt)
  /-- WAGGLE_LIMIT_EXPIRY (R328): A comb root's limit expires and TIMEOUT is sent. -/
  | waggleLimitExpiry (site : Site) (group : BitVec 7)
  /-- UNIT_EPOCH_SWAP (R337): A unit swaps to its staged epoch at its next safe point. -/
  | unitEpochSwap (b : Block)
  /-- WAG_PARENT_WRITE (R339): Write of the comb's waggle tree parent. -/
  | wagParentWrite (site : Site) (v : W64)
  /-- WAG_GROUP_WRITE (R340): Write of a group's waggle inputs. -/
  | wagGroupWrite (site : Site) (g : Fin 66) (v : W64)
  /-- LINK_FRAME_RECEIVE (R350): A link frame is received and accepted or discarded for replay. -/
  | linkFrameReceive (l : LinkAt) (ch : Fin 16) (f : LinkFrame)
  /-- ACKNAK (R350): An ACKNAK block is received and the transmitter frees or replays. -/
  | acknak (l : LinkAt) (ch : Fin 16) (ack : BitVec 12) (nak : Bool)
  /-- ACKNAK_SEND_TIMER (R350): The receiver sends ACKNAK at least every 16 frame times. -/
  | acknakSendTimer (l : LinkAt) (ch : Fin 16)
  /-- REPLAY_TIMEOUT (R350): ACK does not advance within the replay timeout and frames are resent. -/
  | replayTimeout (l : LinkAt) (ch : Fin 16) (spent : Bool)
  /-- CREDIT_BLOCK (R351): A CREDIT block returns credits to the transmitter. -/
  | creditBlock (l : LinkAt) (ch : Fin 16) (e0 e1 : BitVec 16)
  /-- WAGGLE_BLOCK (R347): A preemptive waggle beat arrives on a link. -/
  | waggleBlock (l : LinkAt) (t0 t1 : W32)
  /-- TRAINING_RECORD (R352): A peer's training record is received. -/
  | trainingRecord (l : LinkAt) (bs : List Byte)
  /-- LINK_TRAINING (R353): A lane or channel trains through T1 to T7. -/
  | linkTraining (l : LinkAt) (o : TrainOut)
  /-- LOCK_LOSS (R363): Block lock or ALIGN is lost for 1 us and the link retrains. -/
  | lockLoss (l : LinkAt)
  /-- ROUTE_FLIP_TIMER (R363): A link out of UP for 1 ms has its routes flipped to alternates. -/
  | routeFlipTimer (l : LinkAt)
  /-- ROUTE_RESTORE_TIMER (R363): Routes are restored 1 s after the link is UP again. -/
  | routeRestoreTimer (l : LinkAt)
  /-- LINK_RECALIBRATION (R365): Periodic recalibration of quarantined links and re-tune of UP links. -/
  | linkRecalibration (l : LinkAt) (clean : Bool)
  /-- LINK_RETRAIN (R371): Commanded retrain of a link. -/
  | linkRetrain (l : LinkSel) (r : Option Req)
  /-- LINK_DISABLE (R371): Commanded disable of a link. -/
  | linkDisable (l : LinkSel) (r : Option Req)
  /-- LINK_ENABLE (R371): Commanded enable of a link, starting training. -/
  | linkEnable (l : LinkSel) (r : Option Req)
  /-- LINK_RELEASE (R371): Commanded end of quarantine. -/
  | linkRelease (l : LinkSel) (r : Option Req)
  /-- LNK_COUNTS_READ (R371): Read-clear of link counts. -/
  | lnkCountsRead (i : Site) (k : Fin 12)
  /-- FETCH_REQ (R358): A port router sends a super fetch request with an RID. -/
  | fetchReq (i : Site) (pr : Fin 8) (p : DataPkt)
  /-- FETCH_DATA (R358): Fetched lines arrive from a super and are forwarded as shard data. -/
  | fetchData (i : Site) (pr : Fin 8) (p : DataPkt)
  /-- FETCH_END (R358): A super ends a fetch with a status. -/
  | fetchEnd (i : Site) (pr : Fin 8) (p : DataPkt)
  /-- FETCH_NO_PROGRESS (R358): A fetch shows no progress for 2 ms and fails. -/
  | fetchNoProgress (i : Site) (pr : Fin 8) (rid : Fin 64)
  /-- SWARM_COMMAND (R360): A swarm COMMAND message arrives from the coordinator. -/
  | swarmCommand (h : Half) (p : DataPkt) (img : Option (List Byte)) (delivered : Bool)
  /-- SWARM_STEP_DONE (R360): A swarm STEP_DONE message arrives at the coordinator. -/
  | swarmStepDone (h : Half) (p : DataPkt) (img : Option (List Byte)) (delivered : Bool)
  /-- SWARM_SEGMENTS (R360): A swarm SEGMENTS message arrives. -/
  | swarmSegments (h : Half) (p : DataPkt)
  /-- SWARM_EPOCH (R516): A swarm EPOCH message carrying a new swarm epoch arrives. -/
  | swarmEpoch (h : Half) (p : DataPkt)
  /-- SWARM_HEARTBEAT (R360): A swarm heartbeat is sent every 10 ms or received. -/
  | swarmHeartbeat (h : Half) (p : Option DataPkt)
  /-- SWARM_ACK (R360): A SWARM_ACK answer arrives. -/
  | swarmAck (h : Half) (p : DataPkt)
  /-- SWARM_PEER_LOST (R215): A swarm panel fails to answer within 100 ms and its colonies fail. -/
  | swarmPeerLost (panel : Fin 32)
  /-- LASER_INSERT (R367): A laser module is inserted, identified and ramped. -/
  | laserInsert (n : Fin 56) (accepted : Bool) (tele : List W32)
  /-- LASER_LOSS (R367): A laser module is removed or fails and its partner takes the load. -/
  | laserLoss (n : Fin 56) (removed : Bool)
  /-- CENSUS (R369): Interconnect census of a link, comb or the panel. -/
  | census (r : Req) (ctrl : List Byte) (o : CensusOut)
  /-- STORE_WRITE_PACKET (R377): A WRITE packet arrives at a store port. -/
  | storeWritePacket (st : StoreId) (p : DataPkt)
  /-- STORE_READ_REQ (R377): A READ_REQ arrives at a store port. -/
  | storeReadReq (st : StoreId) (p : DataPkt)
  /-- STORE_ATOMIC (R377): An ATOMIC arrives at a store port. -/
  | storeAtomic (st : StoreId) (p : DataPkt)
  /-- GATHER (R379): A GATHER request arrives at a store port. -/
  | gather (st : StoreId) (p : DataPkt)
  /-- GATHER_RSP (R179): Gathered lines arrive for a mover. -/
  | gatherRsp (i : CoreId) (p : DataPkt)
  /-- SHARD_OPEN (R386): A port router opens a chunk landing at the store base. -/
  | shardOpen (st : StoreId) (p : DataPkt)
  /-- SHARD_DATA (R386): Chunk lines arrive at the store base. -/
  | shardData (st : StoreId) (p : DataPkt)
  /-- SHARD_END (R386): A chunk ends and the store base transforms and writes it. -/
  | shardEnd (st : StoreId) (p : DataPkt)
  /-- SHARD_DONE (R386): A chunk landing status arrives and completes the SFETCH. -/
  | shardDone (i : CoreId) (p : DataPkt)
  /-- KV_DOORBELL (R388): A SATOM to KQ_HEAD makes the store base take new KV entries. -/
  | kvDoorbell (st : StoreId) (c : ColonyId)
  /-- KV_QUEUE_POLL (R388): The store base takes new KV entries within 100 us without a doorbell. -/
  | kvQueuePoll (st : StoreId) (c : ColonyId)
  /-- KV_ENTRY_COMPLETE (R390): All writes of a KV entry are acknowledged and its status is written. -/
  | kvEntryComplete (st : StoreId) (c : ColonyId) (entry : W64)
  /-- STORE_SCRUB_TICK (R385): Scrub reads the next granules of the store. -/
  | storeScrubTick (st : StoreId)
  /-- SCRUB_NOW (R394): STB_CTRL SCRUB_NOW starts a scrub pass. -/
  | scrubNow (st : StoreId) (v : W64)
  /-- STORE_TEST (R391): STB_CTRL TEST or a start begins the store test. -/
  | storeTest (st : StoreId) (v : W64)
  /-- STORE_TEST_COMPLETE (R391): The store test ends and the test map is reported. -/
  | storeTestComplete (st : StoreId) (pass : Bool) (rows : List W64)
  /-- STORE_FENCE (R392): STB_CTRL FENCE fences the store. -/
  | storeFence (st : StoreId) (v : W64)
  /-- STORE_CHANNEL_TIMEOUT (R392): A DRAM channel does not answer within 10 us and the store fences. -/
  | storeChannelTimeout (st : StoreId)
  /-- STORE_ZERO (R382): STB_ZERO_SIZE write starts zeroing of units. -/
  | storeZero (st : StoreId) (v : W64)
  /-- STORE_ZERO_DONE (R382): Zeroing completes and BUSY clears. -/
  | storeZeroDone (st : StoreId)
  /-- DIGEST_START (R387): STB_DIG_LEN write starts a SHA-512 digest. -/
  | digestStart (st : StoreId) (slot : Fin 2) (v : W64)
  /-- DIGEST_DONE (R387): A digest slot completes its result. -/
  | digestDone (st : StoreId) (slot : Fin 2)
  /-- STB_EXT_WRITE (R395): Write of a colony extent with overlap checks. -/
  | stbExtWrite (st : StoreId) (c : ColonyId) (v : W64)
  /-- STB_ECC_READ (R394): Read-clear of store ECC counts. -/
  | stbEccRead (st : StoreId)
  /-- COLONY_LAYOUT_WRITE (R199): Write of a colony layout with range checks. -/
  | colonyLayoutWrite (r : Req) (c : ColonyId) (bytes : List Byte)
  /-- DEPLOY (R210): COLONY_CTRL DEPLOY places, loads and readies a colony. -/
  | deploy (r : Req) (c : ColonyId) (img : Option (List Byte))
  /-- COLONY_START (R210): COLONY_CTRL START moves READY to SERVING. -/
  | colonyStart (r : Req) (c : ColonyId)
  /-- COLONY_STOP (R210): COLONY_CTRL STOP moves SERVING to DRAINING. -/
  | colonyStop (r : Req) (c : ColonyId)
  /-- RESTART (R210): COLONY_CTRL RESTART triggers a colony restart. -/
  | restart (r : Req) (c : ColonyId) (delivered : Bool)
  /-- COLONY_RELEASE (R210): COLONY_CTRL RELEASE frees the colony. -/
  | colonyRelease (r : Req) (c : ColonyId)
  /-- DRAIN_COMPLETE (R210): The last batch retires and DRAINING becomes READY. -/
  | drainComplete (c : ColonyId) (delivered : Bool)
  /-- DRAIN_TIMEOUT (R210): COLONY_DRAIN_MS elapses and DRAINING becomes READY. -/
  | drainTimeout (c : ColonyId) (delivered : Bool)
  /-- ENERGY_CHARGE (R216): Every 1 ms energy is divided among colonies and overhead. -/
  | energyCharge (h : Half) (frames : List (Site × Frame × Nat)) (stores : List (StoreId × Nat)) (other : Nat)
  /-- COLONY_BRIDGES_WRITE (R218): Write of bridge grants, copied to every hosting comb. -/
  | colonyBridgesWrite (r : Req) (c : ColonyId) (v : W64)
  /-- RNK_DIR_WRITE (R204): Write of a colony rank directory entry. -/
  | rnkDirWrite (i : Site) (c : ColonyId) (v : W64)
  /-- RNK_DATA_ACCESS (R206): Access of a rank memory entry under its change class. -/
  | rnkDataAccess (i : Site) (w : Option W64)
  /-- SESSION_CTRL_OPEN (R232): SESSION_CTRL OPEN opens a session in its colonies. -/
  | sessionCtrlOpen (r : Req) (w0 w1 w2 : W64)
  /-- SESSION_CTRL_END (R234): SESSION_CTRL END ends a session. -/
  | sessionCtrlEnd (r : Req) (w0 w1 w2 : W64)
  /-- OPEN_TIMEOUT (R234): A colony fails to set OPEN within 100 ms and the session ends. -/
  | openTimeout (slot : BitVec 24)
  /-- REQUEST_RING_POLL (R234): The keeper reads every request ring at least every 100 us. -/
  | requestRingPoll
  /-- REQ_END (R234): A colony request 0x81 ends a session. -/
  | reqEnd (c : ColonyId)
  /-- REQ_RETIRED (R234): A colony request 0x82 frees its sequence state word. -/
  | reqRetired (c : ColonyId)
  /-- REQ_SET_PROFILE (R243): A colony request 0x83 resets a context and writes a profile. -/
  | reqSetProfile (c : ColonyId)
  /-- SESSION_END_TIMEOUT (R234): A colony misses SESSION_END_MS and receives a contained error. -/
  | sessionEndTimeout (c : ColonyId) (slot : BitVec 24)
  /-- SESSION_IDLE_CHECK (R235): Once per second idle sessions are ended. -/
  | sessionIdleCheck
  /-- EVENT_QUEUE_POST (R233): Queued events are posted when an event ring has room. -/
  | eventQueuePost (c : ColonyId)
  /-- BANK_RELEASE (R231): The keeper releases an unused weight bank. -/
  | bankRelease (c : ColonyId) (x : Fin 2)
  /-- WEIGHT_LOAD (R267): WEIGHT_LOAD starts a load into the invalid bank. -/
  | weightLoad (r : Req) (c : ColonyId) (data : List Byte)
  /-- MANIFEST_CHECK (R260): The fetched manifest is checked and shard lists distributed. -/
  | manifestCheck (c : ColonyId) (len : Option Nat)
  /-- CONTAINER_CHECK (R268): A fetched container header and chunk table are checked. -/
  | containerCheck (c : ColonyId) (entry : BitVec 15) (slot : Fin 16) (fetched : Bool)
  /-- SHARD_DIGEST_CHECK (R269): A landed shard is digested and compared with DIGEST. -/
  | shardDigestCheck (c : ColonyId) (bank : Fin 2) (entry : BitVec 15) (how : FetchEnd)
  /-- LOAD_COMPLETE (R267): After every steward reports, ADMIT is written and the load completes. -/
  | loadComplete (c : ColonyId)
  /-- WEIGHT_LOAD_TIMEOUT (R276): WEIGHT_LOAD_TIMEOUT_S elapses and the load fails. -/
  | weightLoadTimeout (c : ColonyId)
  /-- WEIGHT_ACTIVATE (R270): WEIGHT_ACTIVATE sets the active bank. -/
  | weightActivate (r : Req) (c : ColonyId) (v : Byte)
  /-- WEIGHT_RECHECK (R272): Periodic re-digest of every resident shard. -/
  | weightRecheck (c : ColonyId)
  /-- STREAM_RING_POLL (R275): A steward reads SR_HEAD at least every 20 us and takes requests. -/
  | streamRingPoll (st : StoreId) (c : ColonyId)
  /-- STREAM_REQUEST_DONE (R275): A stream request completes and its status is posted. -/
  | streamRequestDone (st : StoreId) (c : ColonyId) (n : W64) (how : FetchEnd)
  /-- SERVICE_FRAME_RECEIVE (R278): A frame arrives at a service port and is classified. -/
  | serviceFrameReceive (p : PortId) (bs : List Byte) (arrival : W32)
  /-- RING_DELIVERY_ACK (R284): After the slot write is acknowledged, SEQ_k and DELIVERED are written. -/
  | ringDeliveryAck (p : PortId) (k : CtlPkt)
  /-- RTCP_REPORT_TIMER (R286): A bound direction sends an RTCP compound packet. -/
  | rtcpReportTimer (p : PortId) (entry : Fin 16384) (out : Bool)
  /-- EGRESS_RECORD (R287): An egress record arrives at a port and is sent as RTP. -/
  | egressRecord (p : PortId) (k : DataPkt)
  /-- CONTROL_DATAGRAM_OPEN (R290): A session-control OPEN datagram opens a session. -/
  | controlDatagramOpen
  /-- CONTROL_DATAGRAM_BIND (R291): A session-control BIND datagram binds a media direction. -/
  | controlDatagramBind
  /-- CONTROL_DATAGRAM_END (R290): A session-control END datagram ends a session. -/
  | controlDatagramEnd
  /-- EVENT_ACK (R290): An EVENT_ACK stops resending of an event. -/
  | eventAck
  /-- EVENT_RESEND (R290): An unacknowledged event is resent every 100 ms. -/
  | eventResend (exch : Fin 8) (serial : W32)
  /-- SVC_MEDIA_MAP_WRITE (R282): Write of a colony's media map, setting port segments. -/
  | svcMediaMapWrite (r : Req) (c : ColonyId) (v : W64)
  /-- BLADE_REVERSED (R398): A reversed blade is blocked and reported. -/
  | bladeReversed (b : Fin 8)
  /-- BLADE_OVERCURRENT (R398): A blade e-fuse latches open on overcurrent. -/
  | bladeOvercurrent (b : Fin 8)
  /-- EFUSE_RECLOSE (R398): A tripped blade e-fuse re-closes after 1 s. -/
  | efuseReclose (b : Fin 8)
  /-- BUS_UNDERVOLT (R398): A half's bus stays below 34 V for 1 ms and converters stop. -/
  | busUndervolt (h : Half)
  /-- BUS_OVERVOLT (R398): A half's bus exceeds 50 V for 10 us and converters stop. -/
  | busOvervolt (h : Half)
  /-- BLADE_ABSENT (R398): A blade falls below 10 V and is counted absent. -/
  | bladeAbsent (b : Fin 8)
  /-- HALF_POWER_UP (R404): A half powers up when its bus reaches 35 V. -/
  | halfPowerUp (h : Half) (found : List (Fin 64 × Bool))
  /-- CONVERTER_INSERT (R401): An inserted converter is identified, matched and connected. -/
  | converterInsert (p : Fin 64) (accepted : Bool) (tele : List W32)
  /-- CONVERTER_FAULT (R401): A faulty converter isolates its output. -/
  | converterFault (p : Fin 64)
  /-- CONVERTER_REMOVE (R401): A converter is removed from its socket. -/
  | converterRemove (p : Fin 64)
  /-- ZONE_FEED_TRIP (R405): A zone feed e-fuse opens and the zone is fenced. -/
  | zoneFeedTrip (z : StoreId)
  /-- PHASE_FAILURE (R409): A regulator phase fails and is spared or derated. -/
  | phaseFailure (i : Site) (r : Fin 49) (p : Option (Fin 13)) (fit : Fin 17)
  /-- REGULATOR_LATCH (R410): A regulator latches off on a short or undervoltage. -/
  | regulatorLatch (i : Site) (r : Fin 49) (under : Bool)
  /-- DROOP_CATCH (R411): A droop catcher isolates a regulator input. -/
  | droopCatch (i : Site) (r : Fin 49)
  /-- DOMAIN_POWER_ON (R413): A PWR_DOM ON request asks for an inrush token. -/
  | domainPowerOn (i : Site) (d : Fin 80) (who : Option Half)
  /-- DOMAIN_POWER_OFF (R408): A PWR_DOM OFF request switches a domain off in order. -/
  | domainPowerOff (i : Site) (d : Fin 80) (who : Option Half)
  /-- INRUSH_GRANT (R413): A waiting domain is granted the zone token when headroom allows. -/
  | inrushGrant (z : StoreId) (current : Nat)
  /-- DOMAIN_POWER_GOOD (R413): A ramping domain reports power good and releases the token. -/
  | domainPowerGood (z : StoreId)
  /-- DOMAIN_RAMP_TIMEOUT (R413): A domain reaches no power good within 50 us and enters FAULT. -/
  | domainRampTimeout (z : StoreId)
  /-- INRUSH_WAIT_TIMEOUT (R413): A request waits WAIT_MS without grant and is withdrawn. -/
  | inrushWaitTimeout (i : Site) (d : Fin 80)
  /-- VSET_WRITE (R417): Write of REG_L VSET, slewed at 10 mV/us. -/
  | vsetWrite (i : Site) (r : Fin 49) (v : W64)
  /-- SITE_DUSK_ENTRY (R423): After 64 idle cycles a site enters Dusk. -/
  | siteDuskEntry (c : CellAt)
  /-- SITE_DESCEND (R423): An idle site steps one state deeper after its dwell time. -/
  | siteDescend (c : CellAt)
  /-- SITE_WAKE (R425): A wake event starts Dawn of a site below Noon. -/
  | siteWake (c : CellAt)
  /-- SITE_DAWN (R439): PST_SITE DAWN wakes the site to Noon. -/
  | siteDawn (c : CellAt)
  /-- FRAME_LIMITER_TICK (R429): Every 10 us a frame limiter adjusts LEVEL. -/
  | frameLimiterTick (i : Site) (f : Frame) (power : Nat) (reads : List (Fin 49 × RegRead))
  /-- PANEL_LOOP (R430): Every 1 ms the lead keeper writes frame LIMITs. -/
  | panelLoop (m : PowerMeas)
  /-- RUN_DOWNSHIFT (R431): LEVEL at 6 or more for 10 ms lowers RUN by one code. -/
  | runDownshift (i : Site) (f : Frame)
  /-- RUN_UPSHIFT (R431): LEVEL at 0 for 100 ms raises RUN by one code. -/
  | runUpshift (i : Site) (f : Frame)
  /-- FMX_CAP_WRITE (R427): Write of a site's CAP, leading to a RUN change. -/
  | fmxCapWrite (c : CellAt) (v : W64)
  /-- VOLTAGE_SETTLED (R449): REG_L reaches VSET and the clock change proceeds. -/
  | voltageSettled (i : Site) (f : Frame)
  /-- CLOCK_RELOCK (R449): The generator locks at the new code and the clock resumes. -/
  | clockRelock (c : CellAt)
  /-- CLOCK_GO (R455): TSK_CLK_CTRL GO starts a change to TARGET. -/
  | clockGo (c : CellAt) (v : W64)
  /-- SENSOR_CONVERSION (R432): A junction sensor converts and its level is evaluated. -/
  | sensorConversion (a : SensorAt) (v : BitVec 16) (fault : Bool)
  /-- THROTTLE_STEP (R433): Every 10 ms at THROTTLE a frame LIMIT falls by 10 %. -/
  | throttleStep (i : Site) (f : Frame)
  /-- FRAME_HEAT_OFF (R434): A frame sensor at CRITICAL switches the frame off for heat. -/
  | frameHeatOff (i : Site) (f : Frame)
  /-- THERMAL_TRIP (R433): A sensor at TRIP stops the half's converters in hardware. -/
  | thermalTrip (h : Half)
  /-- HEAT_FRAME_RETURN (R435): A heat-fenced frame cool for 60 s is tested and restored. -/
  | heatFrameReturn (i : Site) (f : Frame) (passed : BitVec 12)
  /-- POWER_REPORT (R436): Once per second colony and panel power are updated. -/
  | powerReport (m : Meter)
  /-- REFCLK_LOSS (R443): A reference input is lost and the PLL fails over or holds over. -/
  | refclkLoss (h : Half) (b : Bool)
  /-- REFCLK_SELECT_WRITE (R457): Write of the selected reference input. -/
  | refclkSelectWrite (r : Req) (h : Half) (v : Byte)
  /-- TRANSIT_INPUT_LOSS (R446): A comb's transit clock input is lost and it switches input. -/
  | transitInputLoss (i : Site) (k : Fin 5)
  /-- CLK_COMB_WRITE (R456): Write of a comb's transit clock input order. -/
  | clkCombWrite (i : Site) (v : W64)
  /-- DROOP_STRETCH (R450): Supply droop stretches the cell clock until recovery. -/
  | droopStretch (c : CellAt) (cycles : Nat)
  /-- KEEPER_TIME_WRITE (R452): Write of keeper time, taken over by the other keeper. -/
  | keeperTimeWrite (r : Req) (h : Half) (v : W64)
  /-- KEEPER_TIME_ALIGN (R452): Once per second the other keeper aligns its time. -/
  | keeperTimeAlign (dt : W64)
  /-- FWL_ARM (R461): FWL_CTRL ARM prepares the steward loader. -/
  | fwlArm (i : Site)
  /-- FWL_CHECK (R461): FWL_CTRL CHECK starts hashing the received image. -/
  | fwlCheck (i : Site)
  /-- FWL_CHECK_DONE (R461): The loader hash ends with OK, MISMATCH or MISSING. -/
  | fwlCheckDone (i : Site)
  /-- FWL_START (R461): FWL_CTRL START starts the steward at ENTRY. -/
  | fwlStart (i : Site) (keeper : Bool)
  /-- FW_BLOCK (R462): A firmware block arrives at an armed steward loader. -/
  | fwBlock (i : Site) (p : DataPkt)
  /-- COLD_START (R464): Power-on or a released long reset starts a cold start. -/
  | coldStart (f : StartFinds)
  /-- WARM_RESTART (R468): PANEL_CTRL or a short reset pulse restarts the panel warm. -/
  | warmRestart (r : Option Req) (f : StartFinds)
  /-- SAFE_STOP (R555): SAFE_STOP_L low for 1 ms takes the safe state. -/
  | safeStop (h : Half) (low : Bool)
  /-- ERR_RECORD (R475): An error record arrives at a steward's comb error queue. -/
  | errRecord (i : Site) (r : ErrRec) (arrival : W32)
  /-- ERQ_OVERFLOW_RECORD (R478): An overflow record is queued at the first free entry. -/
  | erqOverflowRecord (i : Site) (arrival : W32)
  /-- ERR_RECORD_ACK_TIMEOUT (R475): No ACK in 1 ms, the record goes to the other keeper. -/
  | errRecordAckTimeout (i : Site)
  /-- ERROR_RECORD_LOG (R479): The lead keeper logs, mirrors and acts on a record. -/
  | errorRecordLog (src : LogFrom) (closed fails : List Nat)
  /-- ERQ_OVERFLOWS_READ (R492): Read-clear of dropped record count. -/
  | erqOverflowsRead (i : Site)
  /-- GUARD_SWAP (R485): Every GRD_PERIOD the spare swaps with its sweep neighbour. -/
  | guardSwap (i : Site) (f : Frame)
  /-- GUARD_TEST_DONE (R485): The vacated position's test ends: spare or fenced. -/
  | guardTestDone (i : Site) (f : Frame) (pass : Bool) (fmax : Fin 17)
  /-- PARKED_TEST (R486): A frame without a spare parks and tests one position. -/
  | parkedTest (i : Site) (f : Frame) (q : Fin 12)
  /-- OVERDUE_REPORT (R486): Hourly record for positions overdue for test. -/
  | overdueReport (i : Site)
  /-- GUARD_PAUSE (R492): GRD_CTRL PAUSE stops new swaps in the comb. -/
  | guardPause (i : Site) (keeper : Bool)
  /-- GUARD_RESUME (R492): GRD_CTRL RESUME allows swaps again. -/
  | guardResume (i : Site) (keeper : Bool)
  /-- KEEPER_HEARTBEAT (R487): Keepers exchange a heartbeat every 1 ms. -/
  | keeperHeartbeat (h : Half)
  /-- KEEPER_SILENT (R487): The lead is silent for 10 ms and the lead passes. -/
  | keeperSilent (fails : List Nat)
  /-- HAND_OVER (R487): LEAD_CTRL HAND_OVER passes the lead. -/
  | handOver (r : Req) (v : Byte) (fails : List Nat)
  /-- DUMP (R490): DUMP_CTRL DUMP writes a dump without quiescing. -/
  | dump (r : Req)
  /-- DUMP_RELEASE (R494): DUMP_CTRL RELEASE empties the dump state. -/
  | dumpRelease (r : Req)
  /-- OPERATOR_FENCE (R494): FENCE_CTRL FENCE logs a contained record and fences. -/
  | operatorFence (r : Req) (d : List Byte) (fails : List Nat)
  /-- FENCE_RELEASE (R484): FENCE_CTRL RELEASE lifts a fence at the next cold start. -/
  | fenceRelease (r : Req) (d : List Byte)
  /-- MGMT_FRAME_RECEIVE (R495): A frame arrives at a keeper management port. -/
  | mgmtFrameReceive (h : Half) (bs : List Byte)
  /-- CAN_FRAME_RECEIVE (R497): A CAN frame arrives and is reassembled into a PDU. -/
  | canFrameReceive (h : Half) (bus : Fin 2) (id : BitVec 11) (fd : Bool) (data : List Byte)
  /-- CAN_REASSEMBLY_TIMEOUT (R497): A partial PDU with a 10 ms gap is discarded. -/
  | canReassemblyTimeout (h : Half) (bus : Fin 2) (client : Fin 8)
  /-- HELLO (R507): Ciard HELLO negotiates the version. -/
  | hello (r : Req) (vmin vmax : Byte)
  /-- SESSION_OPEN (R504): Ciard SESSION_OPEN creates a provisional session. -/
  | sessionOpen (r : Req) (role : Byte)
  /-- SESSION_AUTH (R545): Ciard SESSION_AUTH verifies a proof and opens the session. -/
  | sessionAuth (r : Req) (proof : List Byte)
  /-- SESSION_CLOSE (R504): Ciard SESSION_CLOSE closes the session. -/
  | sessionClose (r : Req)
  /-- PROVISIONAL_TIMEOUT (R504): A provisional session lapses after 10 s. -/
  | provisionalTimeout (session : W32)
  /-- SESSION_IDLE_TIMEOUT (R504): An open session closes after CIARD_IDLE_S without a valid PDU. -/
  | sessionIdleTimeout (session : W32)
  /-- CIARD_READ (R508): Ciard READ of an object, with snapshots. -/
  | ciardRead (r : Req) (b : ReadBody)
  /-- CIARD_WRITE (R512): Ciard WRITE of an object without a command row, under its change class. -/
  | ciardWrite (r : Req) (w : WriteBody) (d : List Byte)
  /-- SNAPSHOT_EXPIRY (R508): A snapshot unused for 10 s is released. -/
  | snapshotExpiry (session : W32)
  /-- SEGMENT_TIMEOUT (R509): A segmented write idle for 10 s is discarded. -/
  | segmentTimeout (session : W32)
  /-- EPOCH_COMMIT (R515): EPOCH_CTRL COMMIT stages and commits the pending set. -/
  | epochCommit (r : Req) (abort : Bool) (late : List CellAt) (lateCombs : List Site) (fails : List Nat)
  /-- EPOCH_DISCARD (R514): EPOCH_CTRL DISCARD empties the pending set. -/
  | epochDiscard (r : Req)
  /-- DIGEST_CHECK (R516): DIGEST_CHECK runs a digest comparison on a domain. -/
  | digestCheck (r : Req) (dom : Byte) (fails : List Nat)
  /-- IMAGE_UPDATE (R518): IMAGE_UPDATE checks a new colony image and restarts on it. -/
  | imageUpdate (r : Req) (c : ColonyId) (d : List Byte) (img : Option (List Byte)) (delivered : Bool)
  /-- IMAGE_SET (R519): IMAGE_SET writes a keeper image set to the idle flash. -/
  | imageSet (r : Req) (h : Half) (w : WriteBody) (d : List Byte)
  /-- KEEPER_RESTART (R520): KEEPER_CTRL RESTART restarts the non-lead keeper from flash. -/
  | keeperRestart (r : Req) (h : Half)
  /-- STEWARD_ROLL (R521): STEWARD_ROLL reloads every steward one comb at a time. -/
  | stewardRoll (r : Req) (bad : List Site) (fails : List Nat)
  /-- ATTEST_NONCE (R548): A nonce write makes the lead keeper build a signed report. -/
  | attestNonce (r : Req) (nonce : List Byte)
  /-- KEY_SLOT_WRITE (R547): Write of an operator key slot, closing sessions under it. -/
  | keySlotWrite (r : Req) (keys : Fin 2) (slot : Fin 8) (v : List Byte)
  /-- SVN_FLOOR_WRITE (R543): Write of a security version floor. -/
  | svnFloorWrite (r : Req) (kind : Byte) (v : BitVec 16)
  /-- PANEL_RESET_HOLD (R464): PANEL_RESET_L held low for 100 ms stops the converters of both halves before release. -/
  | panelResetHold (h : Half)
  /-- REFCLK_RETURN (R443): A reference input becomes valid, first or again, and REFCLK_STATE leaves FREE_RUN or records the returned input. -/
  | refclkReturn (h : Half) (b : Bool)
  /-- TRANSIT_INPUT_RETURN (R456): A lost transit clock input of a comb returns and its LOST bit clears. -/
  | transitInputReturn (i : Site) (k : Fin 5)
  /-- BLADE_RETURN (R398): A blade that was ABSENT rises above 10 V again and is counted OK. -/
  | bladeReturn (b : Fin 8)
  /-- OVERVOLT_RECOVERY (R398): A half stopped for OVERVOLT restarts once its bus falls below 49 V. -/
  | overvoltRecovery (h : Half)
  /-- CONVERTER_DEGRADED (R400): A converter moves to or from DEGRADED on an open remote-sense line or a temperature above 100 °C. -/
  | converterDegraded (p : Fin 64) (deg : Bool)
  /-- LASER_WORN (R366): A laser module's drive current rises above 90 % of its limit and its state becomes WORN. -/
  | laserWorn (n : Fin 56) (tele : List W32)
  /-- CHARACTERISATION_OVERDUE (R428): A site's CHAR_AGE passes 4 hours and its RUN is limited to code 8 until it is tested again. -/
  | characterisationOverdue (c : CellAt)
  /-- SERVICE_PORT_LINK_CHANGE (R293): A service port's Ethernet link comes up or goes down and SVC_PORT_STATE moves between DOWN and UP. -/
  | servicePortLinkChange (p : PortId) (up : Bool)
  /-- CAN_BUS_OFF_RECOVERY (R498): A CAN controller in BUS_OFF completes recovery under ISO 11898-1 and returns to ERROR_ACTIVE. -/
  | canBusOffRecovery (h : Half) (bus : Fin 2)
  /-- COUNTER_PUBLISH (R320): Once per second the steward reads and sums RTR_COUNTERS into NET_COUNTERS, and STB_ECC into STORE_ECC_COUNTS. -/
  | counterPublish (i : Site)
  deriving DecidableEq, Repr

end Sys2Proof
end

