-- ==== Sys2Proof/Decode.lean ====
section
/-!
DEFINITION. Commands spelled by words: the table of operations gives its rows no bits, so no word of the table spells a command.
A worker's own instruction words (R98, R99) are spelled here beside it: which instruction a 32-bit word of cell memory is, and which word an
instruction is.
-/
namespace Sys2Proof

/-- The command a word spells by the table's bits: none, since the table gives none. -/
def decodeTableWord (_nbits _w : Nat) : Option Instr := none

/-! ### Worker words (R98–R100) -/

/-- The word of a worker instruction: its major opcode in [31:26] and its format's fields below it (R98, R99). None for a command that is no
worker instruction. -/
def workerWord : Instr → Option (BitVec 32)
  | .add _ f => some (0x01#6 ++ (f.rd ++ f.rs1 ++ f.rs2 ++ f.fh ++ 0x00#8))
  | .sub _ f => some (0x01#6 ++ (f.rd ++ f.rs1 ++ f.rs2 ++ f.fh ++ 0x01#8))
  | .and_ _ f => some (0x01#6 ++ (f.rd ++ f.rs1 ++ f.rs2 ++ f.fh ++ 0x02#8))
  | .or_ _ f => some (0x01#6 ++ (f.rd ++ f.rs1 ++ f.rs2 ++ f.fh ++ 0x03#8))
  | .xor_ _ f => some (0x01#6 ++ (f.rd ++ f.rs1 ++ f.rs2 ++ f.fh ++ 0x04#8))
  | .andn _ f => some (0x01#6 ++ (f.rd ++ f.rs1 ++ f.rs2 ++ f.fh ++ 0x05#8))
  | .sll _ f => some (0x01#6 ++ (f.rd ++ f.rs1 ++ f.rs2 ++ f.fh ++ 0x08#8))
  | .srl _ f => some (0x01#6 ++ (f.rd ++ f.rs1 ++ f.rs2 ++ f.fh ++ 0x09#8))
  | .sra _ f => some (0x01#6 ++ (f.rd ++ f.rs1 ++ f.rs2 ++ f.fh ++ 0x0a#8))
  | .addw _ f => some (0x01#6 ++ (f.rd ++ f.rs1 ++ f.rs2 ++ f.fh ++ 0x10#8))
  | .subw _ f => some (0x01#6 ++ (f.rd ++ f.rs1 ++ f.rs2 ++ f.fh ++ 0x11#8))
  | .mul _ f => some (0x01#6 ++ (f.rd ++ f.rs1 ++ f.rs2 ++ f.fh ++ 0x18#8))
  | .mulh _ f => some (0x01#6 ++ (f.rd ++ f.rs1 ++ f.rs2 ++ f.fh ++ 0x19#8))
  | .mulhu _ f => some (0x01#6 ++ (f.rd ++ f.rs1 ++ f.rs2 ++ f.fh ++ 0x1a#8))
  | .div _ f => some (0x01#6 ++ (f.rd ++ f.rs1 ++ f.rs2 ++ f.fh ++ 0x1c#8))
  | .divu _ f => some (0x01#6 ++ (f.rd ++ f.rs1 ++ f.rs2 ++ f.fh ++ 0x1d#8))
  | .rem _ f => some (0x01#6 ++ (f.rd ++ f.rs1 ++ f.rs2 ++ f.fh ++ 0x1e#8))
  | .remu _ f => some (0x01#6 ++ (f.rd ++ f.rs1 ++ f.rs2 ++ f.fh ++ 0x1f#8))
  | .min _ f => some (0x01#6 ++ (f.rd ++ f.rs1 ++ f.rs2 ++ f.fh ++ 0x20#8))
  | .max _ f => some (0x01#6 ++ (f.rd ++ f.rs1 ++ f.rs2 ++ f.fh ++ 0x21#8))
  | .minu _ f => some (0x01#6 ++ (f.rd ++ f.rs1 ++ f.rs2 ++ f.fh ++ 0x22#8))
  | .maxu _ f => some (0x01#6 ++ (f.rd ++ f.rs1 ++ f.rs2 ++ f.fh ++ 0x23#8))
  | .clz _ f => some (0x01#6 ++ (f.rd ++ f.rs1 ++ f.rs2 ++ f.fh ++ 0x28#8))
  | .ctz _ f => some (0x01#6 ++ (f.rd ++ f.rs1 ++ f.rs2 ++ f.fh ++ 0x29#8))
  | .popc _ f => some (0x01#6 ++ (f.rd ++ f.rs1 ++ f.rs2 ++ f.fh ++ 0x2a#8))
  | .sel _ f => some (0x01#6 ++ (f.rd ++ f.rs1 ++ f.rs2 ++ f.fh ++ 0x30#8))
  | .addi _ f => some (0x02#6 ++ (f.rd ++ f.rs1 ++ f.imm))
  | .andi _ f => some (0x03#6 ++ (f.rd ++ f.rs1 ++ f.imm))
  | .ori _ f => some (0x04#6 ++ (f.rd ++ f.rs1 ++ f.imm))
  | .xori _ f => some (0x05#6 ++ (f.rd ++ f.rs1 ++ f.imm))
  | .shi _ f => some (0x06#6 ++ (f.rd ++ f.rs1 ++ f.imm))
  | .shori _ f => some (0x08#6 ++ (f.rd ++ f.rs1 ++ f.imm))
  | .bfx _ f => some (0x09#6 ++ (f.rd ++ f.rs1 ++ f.imm))
  | .bfi _ f => some (0x0a#6 ++ (f.rd ++ f.rs1 ++ f.imm))
  | .lw _ f => some (0x0e#6 ++ (f.rd ++ f.rs1 ++ f.imm))
  | .lwu _ f => some (0x0f#6 ++ (f.rd ++ f.rs1 ++ f.imm))
  | .ld _ f => some (0x10#6 ++ (f.rd ++ f.rs1 ++ f.imm))
  | .jalr _ f => some (0x1d#6 ++ (f.rd ++ f.rs1 ++ f.imm))
  | .rdreg _ f => some (0x22#6 ++ (f.rd ++ f.rs1 ++ f.imm))
  | .wrreg _ f => some (0x23#6 ++ (f.rd ++ f.rs1 ++ f.imm))
  | .prd _ f => some (0x34#6 ++ (f.rd ++ f.rs1 ++ f.imm))
  | .pwr _ f => some (0x35#6 ++ (f.rd ++ f.rs1 ++ f.imm))
  | .movi _ f => some (0x07#6 ++ (f.rd ++ f.imm))
  | .jal _ f => some (0x1c#6 ++ (f.rd ++ f.imm))
  | .cmp _ f => some (0x0b#6 ++ (f.top ++ f.pd ++ f.rs1 ++ f.rs2 ++ f.fn))
  | .cmpi _ f => some (0x0c#6 ++ (f.pd ++ f.cc ++ f.rs1 ++ f.imm))
  | .pand _ f => some (0x0d#6 ++ (f.pd ++ f.pa ++ f.pb ++ f.z ++ 0#3))
  | .por _ f => some (0x0d#6 ++ (f.pd ++ f.pa ++ f.pb ++ f.z ++ 1#3))
  | .pxor _ f => some (0x0d#6 ++ (f.pd ++ f.pa ++ f.pb ++ f.z ++ 2#3))
  | .pandn _ f => some (0x0d#6 ++ (f.pd ++ f.pa ++ f.pb ++ f.z ++ 3#3))
  | .pnot _ f => some (0x0d#6 ++ (f.pd ++ f.pa ++ f.pb ++ f.z ++ 4#3))
  | .pset _ f => some (0x0d#6 ++ (f.pd ++ f.pa ++ f.pb ++ f.z ++ 5#3))
  | .pclr _ f => some (0x0d#6 ++ (f.pd ++ f.pa ++ f.pb ++ f.z ++ 6#3))
  | .sw _ f => some (0x11#6 ++ (f.rs2 ++ f.rs1 ++ f.imm))
  | .sd _ f => some (0x12#6 ++ (f.rs2 ++ f.rs1 ++ f.imm))
  | .amoswap _ f => some (0x13#6 ++ (f.rd ++ f.rs1 ++ f.rs2 ++ f.fh ++ 0#4))
  | .amoadd _ f => some (0x13#6 ++ (f.rd ++ f.rs1 ++ f.rs2 ++ f.fh ++ 1#4))
  | .amoand _ f => some (0x13#6 ++ (f.rd ++ f.rs1 ++ f.rs2 ++ f.fh ++ 2#4))
  | .amoor _ f => some (0x13#6 ++ (f.rd ++ f.rs1 ++ f.rs2 ++ f.fh ++ 3#4))
  | .amoxor _ f => some (0x13#6 ++ (f.rd ++ f.rs1 ++ f.rs2 ++ f.fh ++ 4#4))
  | .amomin _ f => some (0x13#6 ++ (f.rd ++ f.rs1 ++ f.rs2 ++ f.fh ++ 5#4))
  | .amomax _ f => some (0x13#6 ++ (f.rd ++ f.rs1 ++ f.rs2 ++ f.fh ++ 6#4))
  | .amominu _ f => some (0x13#6 ++ (f.rd ++ f.rs1 ++ f.rs2 ++ f.fh ++ 7#4))
  | .amomaxu _ f => some (0x13#6 ++ (f.rd ++ f.rs1 ++ f.rs2 ++ f.fh ++ 8#4))
  | .amocas _ f => some (0x13#6 ++ (f.rd ++ f.rs1 ++ f.rs2 ++ f.fh ++ 9#4))
  | .fenceTask _ z => some (0x14#6 ++ (z ++ 0#3))
  | .fenceCell _ z => some (0x14#6 ++ (z ++ 1#3))
  | .fenceColony _ z => some (0x14#6 ++ (z ++ 2#3))
  | .fencePanel _ z => some (0x14#6 ++ (z ++ 3#3))
  | .fenceSwarm _ z => some (0x14#6 ++ (z ++ 4#3))
  | .beq _ f => some (0x15#6 ++ (f.rs1 ++ f.rs2 ++ f.off))
  | .bne _ f => some (0x16#6 ++ (f.rs1 ++ f.rs2 ++ f.off))
  | .blt _ f => some (0x17#6 ++ (f.rs1 ++ f.rs2 ++ f.off))
  | .bge _ f => some (0x18#6 ++ (f.rs1 ++ f.rs2 ++ f.off))
  | .bltu _ f => some (0x19#6 ++ (f.rs1 ++ f.rs2 ++ f.off))
  | .bgeu _ f => some (0x1a#6 ++ (f.rs1 ++ f.rs2 ++ f.off))
  | .bp _ f => some (0x1b#6 ++ (f.top ++ f.pn ++ 0#1 ++ f.z ++ f.off))
  | .bnp _ f => some (0x1b#6 ++ (f.top ++ f.pn ++ 1#1 ++ f.z ++ f.off))
  | .tq _ f => some (0x1e#6 ++ (f.rd ++ f.rs1 ++ f.rs2 ++ f.fn))
  | .tcount _ f => some (0x1f#6 ++ (f.rd ++ f.rs1 ++ f.imm ++ f.fh ++ 0#1 ++ f.unit))
  | .twait _ f => some (0x1f#6 ++ (f.rd ++ f.rs1 ++ f.imm ++ f.fh ++ 1#1 ++ f.unit))
  | .waitw _ f => some (0x20#6 ++ (f.rd ++ f.rs1 ++ f.rs2 ++ f.fn))
  | .yield _ f => some (0x21#6 ++ (f.rd ++ f.rs1 ++ f.imm ++ 0x01#8))
  | .stop _ f => some (0x21#6 ++ (f.rd ++ f.rs1 ++ f.imm ++ 0x02#8))
  | .tid _ f => some (0x21#6 ++ (f.rd ++ f.rs1 ++ f.imm ++ 0x03#8))
  | .rdp _ f => some (0x21#6 ++ (f.rd ++ f.rs1 ++ f.imm ++ 0x04#8))
  | .wrp _ f => some (0x21#6 ++ (f.rd ++ f.rs1 ++ f.imm ++ 0x05#8))
  | .swtrap _ f => some (0x21#6 ++ (f.rd ++ f.rs1 ++ f.imm ++ 0x06#8))
  | .wgoBarrier _ f => some (0x24#6 ++ (f.rd ++ f.rs1 ++ f.rs2 ++ f.fn))
  | .wgoAnd _ f => some (0x24#6 ++ (f.rd ++ f.rs1 ++ f.rs2 ++ f.fn))
  | .wgoOr _ f => some (0x24#6 ++ (f.rd ++ f.rs1 ++ f.rs2 ++ f.fn))
  | .wgoXor _ f => some (0x24#6 ++ (f.rd ++ f.rs1 ++ f.rs2 ++ f.fn))
  | .wgoAdd _ f => some (0x24#6 ++ (f.rd ++ f.rs1 ++ f.rs2 ++ f.fn))
  | .wgoMaxu _ f => some (0x24#6 ++ (f.rd ++ f.rs1 ++ f.rs2 ++ f.fn))
  | .wgoMinu _ f => some (0x24#6 ++ (f.rd ++ f.rs1 ++ f.rs2 ++ f.fn))
  | .wgoMax _ f => some (0x24#6 ++ (f.rd ++ f.rs1 ++ f.rs2 ++ f.fn))
  | .wgoMin _ f => some (0x24#6 ++ (f.rd ++ f.rs1 ++ f.rs2 ++ f.fn))
  | .wgoQuery _ f => some (0x24#6 ++ (f.rd ++ f.rs1 ++ f.rs2 ++ f.fn))
  | .wgoDigest _ f => some (0x24#6 ++ (f.rd ++ f.rs1 ++ f.rs2 ++ f.fn))
  | .wgoCommit _ f => some (0x24#6 ++ (f.rd ++ f.rs1 ++ f.rs2 ++ f.fn))
  | .wgoAbortStage _ f => some (0x24#6 ++ (f.rd ++ f.rs1 ++ f.rs2 ++ f.fn))
  | .wgoAbort _ f => some (0x24#6 ++ (f.rd ++ f.rs1 ++ f.rs2 ++ f.fn))
  | .cread _ f => some (0x30#6 ++ (f.rd ++ f.rs1 ++ f.rs2 ++ f.fn))
  | .cwrite _ f => some (0x31#6 ++ (f.rd ++ f.rs1 ++ f.rs2 ++ f.fn))
  | .csend _ f => some (0x32#6 ++ (f.rd ++ f.rs1 ++ f.rs2 ++ f.fn))
  | .crecv _ f => some (0x33#6 ++ (f.rd ++ f.rs1 ++ f.rs2 ++ f.fn))
  | .tret _ z => some (0x36#6 ++ (z))
  | _ => none

/-- The fields of format RR (R98). -/
def opRR (w : BitVec 32) : OpRR := { rd := w.extractLsb' 21 5, rs1 := w.extractLsb' 16 5, rs2 := w.extractLsb' 11 5, fh := w.extractLsb' 8 3 }
/-- The fields of format Amo (R98). -/
def opAmo (w : BitVec 32) : OpAmo := { rd := w.extractLsb' 21 5, rs1 := w.extractLsb' 16 5, rs2 := w.extractLsb' 11 5, fh := w.extractLsb' 4 7 }
/-- The fields of format RRf (R98). -/
def opRRf (w : BitVec 32) : OpRRf := { rd := w.extractLsb' 21 5, rs1 := w.extractLsb' 16 5, rs2 := w.extractLsb' 11 5, fn := w.extractLsb' 0 11 }
/-- The fields of format RI (R98). -/
def opRI (w : BitVec 32) : OpRI := { rd := w.extractLsb' 21 5, rs1 := w.extractLsb' 16 5, imm := w.extractLsb' 0 16 }
/-- The fields of format ST (R98). -/
def opST (w : BitVec 32) : OpST := { rs2 := w.extractLsb' 21 5, rs1 := w.extractLsb' 16 5, imm := w.extractLsb' 0 16 }
/-- The fields of format BR (R98). -/
def opBR (w : BitVec 32) : OpBR := { rs1 := w.extractLsb' 21 5, rs2 := w.extractLsb' 16 5, off := w.extractLsb' 0 16 }
/-- The fields of format LI (R98). -/
def opLI (w : BitVec 32) : OpLI := { rd := w.extractLsb' 21 5, imm := w.extractLsb' 0 21 }
/-- The fields of format PC (R98). -/
def opPC (w : BitVec 32) : OpPC := { top := w.extractLsb' 24 2, pd := w.extractLsb' 21 3, rs1 := w.extractLsb' 16 5, rs2 := w.extractLsb' 11 5, fn := w.extractLsb' 0 11 }
/-- The fields of format PI (R98). -/
def opPI (w : BitVec 32) : OpPI := { pd := w.extractLsb' 23 3, cc := w.extractLsb' 21 2, rs1 := w.extractLsb' 16 5, imm := w.extractLsb' 0 16 }
/-- The fields of format PL (R98). -/
def opPL (w : BitVec 32) : OpPL := { pd := w.extractLsb' 23 3, pa := w.extractLsb' 20 3, pb := w.extractLsb' 17 3, z := w.extractLsb' 3 14 }
/-- The fields of format BP (R98). -/
def opBP (w : BitVec 32) : OpBP := { top := w.extractLsb' 24 2, pn := w.extractLsb' 21 3, z := w.extractLsb' 16 4, off := w.extractLsb' 0 16 }
/-- The fields of format MS (R98). -/
def opMS (w : BitVec 32) : OpMS := { rd := w.extractLsb' 21 5, rs1 := w.extractLsb' 16 5, imm := w.extractLsb' 8 8 }
/-- The fields of format Cnt (R98). -/
def opCnt (w : BitVec 32) : OpCnt := { rd := w.extractLsb' 21 5, rs1 := w.extractLsb' 16 5, imm := w.extractLsb' 8 8, fh := w.extractLsb' 4 4, unit := w.extractLsb' 0 3 }

/-- The ALU group by FN[7:0] (R101). -/
def decodeAlu (a : At) (w : BitVec 32) : Option Instr :=
  match (w.extractLsb' 0 8).toNat with
  | 0x00 => some (.add a (opRR w))
  | 0x01 => some (.sub a (opRR w))
  | 0x02 => some (.and_ a (opRR w))
  | 0x03 => some (.or_ a (opRR w))
  | 0x04 => some (.xor_ a (opRR w))
  | 0x05 => some (.andn a (opRR w))
  | 0x08 => some (.sll a (opRR w))
  | 0x09 => some (.srl a (opRR w))
  | 0x0a => some (.sra a (opRR w))
  | 0x10 => some (.addw a (opRR w))
  | 0x11 => some (.subw a (opRR w))
  | 0x18 => some (.mul a (opRR w))
  | 0x19 => some (.mulh a (opRR w))
  | 0x1a => some (.mulhu a (opRR w))
  | 0x1c => some (.div a (opRR w))
  | 0x1d => some (.divu a (opRR w))
  | 0x1e => some (.rem a (opRR w))
  | 0x1f => some (.remu a (opRR w))
  | 0x20 => some (.min a (opRR w))
  | 0x21 => some (.max a (opRR w))
  | 0x22 => some (.minu a (opRR w))
  | 0x23 => some (.maxu a (opRR w))
  | 0x28 => some (.clz a (opRR w))
  | 0x29 => some (.ctz a (opRR w))
  | 0x2a => some (.popc a (opRR w))
  | 0x30 => some (.sel a (opRR w))
  | _ => none

/-- The predicate-logic group by OP2 (R105). -/
def decodePlog (a : At) (w : BitVec 32) : Option Instr :=
  match (w.extractLsb' 0 3).toNat with
  | 0x00 => some (.pand a (opPL w))
  | 0x01 => some (.por a (opPL w))
  | 0x02 => some (.pxor a (opPL w))
  | 0x03 => some (.pandn a (opPL w))
  | 0x04 => some (.pnot a (opPL w))
  | 0x05 => some (.pset a (opPL w))
  | 0x06 => some (.pclr a (opPL w))
  | _ => none

/-- The atomics by FN[3:0] (R107). -/
def decodeAmo (a : At) (w : BitVec 32) : Option Instr :=
  match (w.extractLsb' 0 4).toNat with
  | 0x00 => some (.amoswap a (opAmo w))
  | 0x01 => some (.amoadd a (opAmo w))
  | 0x02 => some (.amoand a (opAmo w))
  | 0x03 => some (.amoor a (opAmo w))
  | 0x04 => some (.amoxor a (opAmo w))
  | 0x05 => some (.amomin a (opAmo w))
  | 0x06 => some (.amomax a (opAmo w))
  | 0x07 => some (.amominu a (opAmo w))
  | 0x08 => some (.amomaxu a (opAmo w))
  | 0x09 => some (.amocas a (opAmo w))
  | _ => none

/-- The fences by their scope (R113). -/
def decodeFence (a : At) (w : BitVec 32) : Option Instr :=
  match (w.extractLsb' 0 3).toNat with
  | 0x00 => some (.fenceTask a (w.extractLsb' 3 23))
  | 0x01 => some (.fenceCell a (w.extractLsb' 3 23))
  | 0x02 => some (.fenceColony a (w.extractLsb' 3 23))
  | 0x03 => some (.fencePanel a (w.extractLsb' 3 23))
  | 0x04 => some (.fenceSwarm a (w.extractLsb' 3 23))
  | _ => none

/-- bp and bnp by NEG (R108). -/
def decodeBp (a : At) (w : BitVec 32) : Option Instr :=
  match (w.extractLsb' 20 1).toNat with
  | 0 => some (.bp a (opBP w))
  | _ => some (.bnp a (opBP w))

/-- tcount and twait by FN[3] (R111). -/
def decodeCnt (a : At) (w : BitVec 32) : Option Instr :=
  match (w.extractLsb' 3 1).toNat with
  | 0 => some (.tcount a (opCnt w))
  | _ => some (.twait a (opCnt w))

/-- The misc group by FN (R114). -/
def decodeMisc (a : At) (w : BitVec 32) : Option Instr :=
  match (w.extractLsb' 0 8).toNat with
  | 0x01 => some (.yield a (opMS w))
  | 0x02 => some (.stop a (opMS w))
  | 0x03 => some (.tid a (opMS w))
  | 0x04 => some (.rdp a (opMS w))
  | 0x05 => some (.wrp a (opMS w))
  | 0x06 => some (.swtrap a (opMS w))
  | _ => none

/-- wgo by the operation that its register names (R326); the gen-reserved ones go to a row that answers BAD_OP (log 28). -/
def decodeWgo (a : At) (w : BitVec 32) (op : Nat) : Option Instr :=
  match op with
  | 0x00 => some (.wgoBarrier a (opRRf w))
  | 0x01 => some (.wgoAnd a (opRRf w))
  | 0x02 => some (.wgoOr a (opRRf w))
  | 0x03 => some (.wgoXor a (opRRf w))
  | 0x04 => some (.wgoAdd a (opRRf w))
  | 0x05 => some (.wgoMaxu a (opRRf w))
  | 0x06 => some (.wgoMinu a (opRRf w))
  | 0x07 => some (.wgoMax a (opRRf w))
  | 0x08 => some (.wgoMin a (opRRf w))
  | 0x09 => some (.wgoQuery a (opRRf w))
  | 0x0a => some (.wgoDigest a (opRRf w))
  | 0x0b => some (.wgoCommit a (opRRf w))
  | 0x0c => some (.wgoAbortStage a (opRRf w))
  | 0x0d => some (.wgoAbort a (opRRf w))
  | _ => some (.wgoBarrier a (opRRf w))

/-- The instruction a worker word is, for a task whose registers read x; none for a word that R100 makes ILLEGAL by its opcode or its
operation code. The fields that a defined instruction must leave zero are checked where it executes. -/
def decodeWorker (x : Reg → W64) (a : At) (w : BitVec 32) : Option Instr :=
  match (w.extractLsb' 26 6).toNat with
  | 0x01 => decodeAlu a w
  | 0x02 => some (.addi a (opRI w))
  | 0x03 => some (.andi a (opRI w))
  | 0x04 => some (.ori a (opRI w))
  | 0x05 => some (.xori a (opRI w))
  | 0x06 => some (.shi a (opRI w))
  | 0x07 => some (.movi a (opLI w))
  | 0x08 => some (.shori a (opRI w))
  | 0x09 => some (.bfx a (opRI w))
  | 0x0a => some (.bfi a (opRI w))
  | 0x0b => some (.cmp a (opPC w))
  | 0x0c => some (.cmpi a (opPI w))
  | 0x0d => decodePlog a w
  | 0x0e => some (.lw a (opRI w))
  | 0x0f => some (.lwu a (opRI w))
  | 0x10 => some (.ld a (opRI w))
  | 0x11 => some (.sw a (opST w))
  | 0x12 => some (.sd a (opST w))
  | 0x13 => decodeAmo a w
  | 0x14 => decodeFence a w
  | 0x15 => some (.beq a (opBR w))
  | 0x16 => some (.bne a (opBR w))
  | 0x17 => some (.blt a (opBR w))
  | 0x18 => some (.bge a (opBR w))
  | 0x19 => some (.bltu a (opBR w))
  | 0x1a => some (.bgeu a (opBR w))
  | 0x1b => decodeBp a w
  | 0x1c => some (.jal a (opLI w))
  | 0x1d => some (.jalr a (opRI w))
  | 0x1e => some (.tq a (opRRf w))
  | 0x1f => decodeCnt a w
  | 0x20 => some (.waitw a (opRRf w))
  | 0x21 => decodeMisc a w
  | 0x22 => some (.rdreg a (opRI w))
  | 0x23 => some (.wrreg a (opRI w))
  | 0x24 => decodeWgo a w (((x (opRRf w).rs1).extractLsb' 26 4).toNat)
  | 0x30 => some (.cread a (opRRf w))
  | 0x31 => some (.cwrite a (opRRf w))
  | 0x32 => some (.csend a (opRRf w))
  | 0x33 => some (.crecv a (opRRf w))
  | 0x34 => some (.prd a (opRI w))
  | 0x35 => some (.pwr a (opRI w))
  | 0x36 => some (.tret a (w.extractLsb' 0 26))
  | _ => none

end Sys2Proof
end

