-- ==== Sys2Proof/Config.lean ====
section
/-!
DEFINITION. What the spec leaves open: uninterpreted constants, with no body. Nothing in Lean can evaluate them, so a statement
holds for every value they may have. Each is named in the assumption log.
-/
namespace Sys2Proof.Config

/-- A fresh open 64-bit value, by how many have been drawn (log 3). -/
opaque freeValue : Nat → BitVec 64

/-- A special function of R85 on an FP32 operand: function code and operand (log 20). The error bounds of R85 are not imposed. -/
opaque special : Nat → BitVec 32 → BitVec 32

/-- Which of the results within one ulp a divide, square root or reciprocal gives (R85): fresh draw, 0, 1 or 2 (log 21). -/
opaque ulpPick : Nat → Nat

/-- The order in which the groups of a matrix accumulator are added (R82): fresh draw, number of groups (log 22). -/
opaque groupOrder : Nat → Nat → List Nat

/-- Shape of a reduction tree (R87): fresh draw, number of leaves; a list of merge positions (log 23). -/
opaque sumTree : Nat → Nat → List Nat

/-- The generator lane of a vector result element: row, column (R78, log 24). -/
opaque vectorLane : Nat → Nat → Nat

/-- cos and sin of the reduced phase of position p and frequency theta (R86, R158, log 20). -/
opaque ropeCos : Nat → BitVec 32 → BitVec 32
opaque ropeSin : Nat → BitVec 32 → BitVec 32

/-- Softmax probability of one logit among the kept ones (R88): the adjusted logits and the index (log 25). -/
opaque softmax : List (BitVec 32) → Nat → BitVec 32

/-- The routes the lead keeper chooses (R312): own site, destination site byte; exit code and alternate exit code (log 12). -/
opaque exit_ : Nat → Nat → Nat
opaque altExit : Nat → Nat → Nat

/-- Whether the primary and the alternate exit of that entry are datelines (R312, log 12). -/
opaque dateline : Nat → Nat → Bool
opaque altDateline : Nat → Nat → Bool

/-- SHA-512 (log 30). -/
opaque sha512 : List (BitVec 8) → List (BitVec 8)

/-- Ed25519: public key of a seed, verification, signature (log 30). -/
opaque ed25519Verify : List (BitVec 8) → List (BitVec 8) → List (BitVec 8) → Bool
opaque ed25519Sign : List (BitVec 8) → List (BitVec 8) → List (BitVec 8)

/-- HMAC-SHA-512 and X25519 (log 30). -/
opaque hmacSha512 : List (BitVec 8) → List (BitVec 8) → List (BitVec 8)
opaque x25519 : List (BitVec 8) → List (BitVec 8) → List (BitVec 8)

/-- HMAC-SHA-256, and SRTP and SRTCP (RFC 3711): master key, master salt, ROC or index, packet; unprotect answers none where
authentication fails (log 30). -/
opaque hmacSha256 : List (BitVec 8) → List (BitVec 8) → List (BitVec 8)
opaque srtpProtect : List (BitVec 8) → List (BitVec 8) → Nat → List (BitVec 8) → List (BitVec 8)
opaque srtpUnprotect : List (BitVec 8) → List (BitVec 8) → Nat → List (BitVec 8) → Option (List (BitVec 8))
opaque srtcpProtect : List (BitVec 8) → List (BitVec 8) → Nat → List (BitVec 8) → List (BitVec 8)
opaque srtcpUnprotect : List (BitVec 8) → List (BitVec 8) → List (BitVec 8) → Option (List (BitVec 8))

/-- Zstandard decompression of the frame at the head of a byte string: its length and content; none where the frame breaks RFC 8878 or
R265. And whether its Content_Checksum holds (log 31). -/
opaque zstd : List (BitVec 8) → Option (Nat × List (BitVec 8))
opaque zstdChecksum : List (BitVec 8) → Bool

/-- The DRAM row and the bank that hold a granule of a store: not given by the spec (log 32). -/
opaque storeRow : Nat → Nat
opaque storeBank : Nat → Nat

end Sys2Proof.Config
end

