-- ==== Sys2Proof/Machine/Bits.lean ====
section
/-!
DEFINITION. Bit fields, sign extension and byte order, as the chapters' field tables use them.
Bits [hi:lo] of a register are `fld w hi lo` as a number and `bits w lo len` as a vector.
-/
namespace Sys2Proof.Machine

/-- Bits [hi:lo] of a word, as a number (notation of the spec's field tables). -/
def fld {n : Nat} (w : BitVec n) (hi lo : Nat) : Nat := w.toNat / 2 ^ lo % 2 ^ (hi + 1 - lo)

/-- `len` bits of a word from bit `lo` up. -/
def bits {n : Nat} (w : BitVec n) (lo len : Nat) : BitVec len := w.extractLsb' lo len

/-- Bit `i` of a word. -/
def bit {n : Nat} (w : BitVec n) (i : Nat) : Bool := w.getLsbD i

/-- A bit as a number. -/
def b2n (b : Bool) : Nat := if b then 1 else 0

/-- The low `b` bits of a value, sign-extended to 64 bits (R100, *Pseudocode terms*). -/
def sext64 {n : Nat} (v : BitVec n) : W64 := v.signExtend 64

/-- The low bits of a value, zero-extended to 64 bits (R100, *Pseudocode terms*). -/
def zext64 {n : Nat} (v : BitVec n) : W64 := v.setWidth 64

/-- `w` with bits [lo+len-1:lo] replaced by the low bits of `v`. -/
def setBits {n : Nat} (w : BitVec n) (lo len v : Nat) : BitVec n :=
  BitVec.ofNat n (w.toNat - w.toNat / 2 ^ lo % 2 ^ len * 2 ^ lo + v % 2 ^ len * 2 ^ lo)

/-- `w` with bit `i` set to `b`. -/
def setBit {n : Nat} (w : BitVec n) (i : Nat) (b : Bool) : BitVec n := setBits w i 1 (b2n b)

/-- A word keeping only the bits of a mask: reserved bits read zero (R9). -/
def keep {n : Nat} (w : BitVec n) (mask : Nat) : BitVec n := w &&& BitVec.ofNat n mask

/-- A register's W1C bits after a write: bits written 1 clear (R8). -/
def w1c {n : Nat} (old : BitVec n) (v : W64) : BitVec n := old &&& ~~~ (v.setWidth n)

/-- A 16-bit count that saturates (R63 and the other RC counters). -/
def satAdd (w a b : Nat) : Nat := min (2 ^ w - 1) (a + b)

/-- A saturating count held in a bit vector. -/
def satInc {n : Nat} (v : BitVec n) : BitVec n := BitVec.ofNat n (satAdd n v.toNat 1)

/-- Two words as one 64-bit value, the lower address in bits [31:0] (R94). -/
def joinW (lo hi : W32) : W64 := hi ++ lo

/-- Bits [31:0] of a 64-bit value: the word at the lower address (R94). -/
def loW (v : W64) : W32 := v.setWidth 32

/-- Bits [63:32] of a 64-bit value: the word at the higher address (R94). -/
def hiW (v : W64) : W32 := v.extractLsb' 32 32

/-- Quotient rounded up. -/
def cdiv (a b : Nat) : Nat := (a + b - 1) / b

/-- A little-endian number from bytes (R72, R474). -/
def leBytes : List Byte → Nat
  | [] => 0
  | b :: bs => b.toNat + 256 * leBytes bs

/-- `n` little-endian bytes of a number. -/
def toLe : Nat → Nat → List Byte
  | 0, _ => []
  | n + 1, v => BitVec.ofNat 8 v :: toLe n (v / 256)

/-- The bytes of a 32-bit word, lowest first (R72). -/
def wordBytes (w : W32) : List Byte := toLe 4 w.toNat

/-- 32-bit words from bytes, four at a time (R72); a rest shorter than four is padded with zero. -/
def wordsOfBytes : List Byte → List W32
  | [] => []
  | [a] => [BitVec.ofNat 32 (leBytes [a])]
  | [a, b] => [BitVec.ofNat 32 (leBytes [a, b])]
  | [a, b, c] => [BitVec.ofNat 32 (leBytes [a, b, c])]
  | a :: b :: c :: d :: t => BitVec.ofNat 32 (leBytes [a, b, c, d]) :: wordsOfBytes t

/-- 64-bit words from bytes, eight at a time (R72); a rest shorter than eight is dropped. -/
def words64 : List Byte → List W64
  | a :: b :: c :: d :: e :: f :: g :: h :: t => BitVec.ofNat 64 (leBytes [a, b, c, d, e, f, g, h]) :: words64 t
  | _ => []

/-- A list cut or padded to a length. -/
def fitTo {α : Type} (d : α) : Nat → List α → List α
  | 0, _ => []
  | n + 1, [] => d :: fitTo d n []
  | n + 1, x :: xs => x :: fitTo d n xs

/-- The element at a place of a list, or a default. -/
def nth {α : Type} (d : α) : List α → Nat → α
  | [], _ => d
  | x :: _, 0 => x
  | _ :: xs, n + 1 => nth d xs n

/-- A list with one place replaced (unchanged past its end). -/
def setNth {α : Type} : List α → Nat → α → List α
  | [], _, _ => []
  | _ :: xs, 0, v => v :: xs
  | x :: xs, n + 1, v => x :: setNth xs n v

end Sys2Proof.Machine
end

