-- ==== Sys2Proof/Machine/Table.lean ====
section
/-!
DEFINITION. Sparse tables in one canonical form: strictly rising keys, no entry equal to the default.
Every RAM, register bank and set of units of the panel is such a table, so equal contents are equal data.
-/
namespace Sys2Proof.Machine

/-- A sparse table: key and value pairs. -/
abbrev Tbl (α : Type) := List (Nat × α)

/-- The value at a key: the listed one, or the default. -/
def Tbl.get {α : Type} (d : α) : Tbl α → Nat → α
  | [], _ => d
  | (k, v) :: t, a => if a = k then v else Tbl.get d t a

/-- The table without a key. -/
def Tbl.del {α : Type} : Tbl α → Nat → Tbl α
  | [], _ => []
  | (k, v) :: t, a => if a = k then Tbl.del t a else (k, v) :: Tbl.del t a

/-- The table with a key set to a value, whatever the value is. -/
def Tbl.ins {α : Type} : Tbl α → Nat → α → Tbl α
  | [], a, x => [(a, x)]
  | (k, v) :: t, a, x =>
    if a < k then (a, x) :: (k, v) :: t else if a = k then (k, x) :: t else (k, v) :: Tbl.ins t a x

/-- The table after writing `x` at `a`; writing the default removes the entry. -/
def Tbl.put {α : Type} [DecidableEq α] (d : α) (t : Tbl α) (a : Nat) (x : α) : Tbl α :=
  if x = d then Tbl.del t a else Tbl.ins t a x

/-- Every key of the table is above `b`. -/
def Tbl.above {α : Type} (b : Nat) (t : Tbl α) : Bool := t.all (fun e => decide (b < e.1))

/-- The canonical form: keys strictly rising, and no entry equal to the default. -/
def Tbl.wf {α : Type} [DecidableEq α] (d : α) : Tbl α → Bool
  | [] => true
  | (k, v) :: t => Tbl.above k t && decide (v ≠ d) && Tbl.wf d t

/-- Writes a run of values from an address up. -/
def Tbl.putAll {α : Type} [DecidableEq α] (d : α) (t : Tbl α) (a : Nat) : List α → Tbl α
  | [] => t
  | x :: xs => Tbl.putAll d (Tbl.put d t a x) (a + 1) xs

/-- Reads a run of values from an address up. -/
def Tbl.getAll {α : Type} (d : α) (t : Tbl α) (a : Nat) : Nat → List α
  | 0 => []
  | n + 1 => Tbl.get d t a :: Tbl.getAll d t (a + 1) n

/-- The table without the keys in [a, a + n). -/
def Tbl.clear {α : Type} (t : Tbl α) (a n : Nat) : Tbl α := t.filter (fun e => decide (e.1 < a ∨ a + n ≤ e.1))

/-- The values listed, with their keys mapped through a function. -/
def Tbl.mapVal {α : Type} [DecidableEq α] (d : α) (f : Nat → α → α) (t : Tbl α) : Tbl α :=
  (t.map (fun e => (e.1, f e.1 e.2))).filter (fun e => decide (e.2 ≠ d))

end Sys2Proof.Machine
end

