-- ==== Sys2Proof/Machine/StCore.lean ====
section
/-!
DEFINITION. The state of a core: tasks, movers, receive queue, privileged registers, waggle interface (chapters 02, 04, 06, 12).
Cells, stewards and keeper cores each hold one. Plain data throughout.
-/
namespace Sys2Proof.Machine

/-- Task states (R42). -/
inductive TaskState where
  | stopped
  | active
  | waiting
  | stopping
  | trapped
  deriving DecidableEq, Repr

/-- The code TSK_STATE.STATE reports (R42). -/
def TaskState.code : TaskState → Nat
  | .stopped => 0
  | .active => 1
  | .waiting => 2
  | .stopping => 3
  | .trapped => 4

/-- What a WAITING task waits for (R97, R110–R114, R122). -/
inductive Wait where
  | none
  | yield
  | tq (rs1 : Reg) (unit : BitVec 3)
  | twait (unit : BitVec 3) (limit : Byte)
  | waitw (rd : Reg) (phys : Nat) (val : W32) (timed : Bool)
  | fence (scope : BitVec 3)
  /-- Waits for the result of an operation open at the member interface: group, or 128 + group for a solicited one. -/
  | wgo (rd : Reg) (key : Nat)
  /-- A second solicited operation of a group, which waits for the first to close and then issues again (R335). -/
  | wgoHeld (key : Nat)
  | cread (rd : Reg) (pd : PReg)
  | cwrite (pd : PReg)
  | crecv (rd : Reg) (order : Nat)
  deriving DecidableEq, Repr

/-- The per-task privileged registers (R125). -/
structure PrvTask where
  tstatus : BitVec 2
  tvec : BitVec 24
  tpc : BitVec 24
  tcause : Byte
  tval : W64
  scratch : W64
  deriving DecidableEq, Repr

/-- A hardware task (R92, R42, R44). The program counter is 24 bits wide because a privileged core's is (R121). -/
structure Task where
  st : TaskState
  trapCause : Byte
  pc : BitVec 24
  regs : Vector W64 32
  preds : Byte
  cwin0 : W64
  cwin1 : W64
  swin0 : W64
  swin1 : W64
  swin2 : W64
  swin3 : W64
  /-- Multiply and divide results on their way (R95). -/
  pend : List (Reg × W64)
  /-- A load's or atomic's data on its way (R95). -/
  load : Option (Reg × W64)
  /-- STOP came while a load was pending (R120). -/
  stopReq : Bool
  wait : Wait
  prv : PrvTask
  deriving DecidableEq, Repr

/-- Where a store operand goes: store code, physical byte address, and the comb it goes through (R55, R172). -/
structure StoAddr where
  via : Byte
  store : Nat
  addr : Nat
  deriving DecidableEq, Repr

/-- A descriptor in a unit's queue, with the physical operands fixed at issue (R110, R131). -/
structure Queued where
  task : TaskId
  /-- The cell's single issue order (R132). -/
  serial : Nat
  w0 : W64
  w1 : W64
  w2 : W64
  w3 : W64
  /-- Physical word addresses of the completion record or counter, the operands of words 1, 2, 3 and their scale arrays. -/
  caddr : Nat
  a : Nat
  aS : Nat
  b : Nat
  bS : Nat
  d : Nat
  dS : Nat
  sto : StoAddr
  /-- The task's store windows at issue, for SGATHER (R179). -/
  swin : List W64
  deriving DecidableEq, Repr

/-- What answers a packet of a descriptor, and where it lands (R177, R179–R181, R303). -/
inductive Answer where
  /-- An ACK. -/
  | ack
  /-- A READ_RSP whose lines land from a physical word address. -/
  | lines (phys n : Nat)
  /-- An ATOMIC_RSP. -/
  | old
  /-- GATHER_RSP lines: entry numbers in the request, and lines not yet arrived. -/
  | gather (entries : List Nat) (left : Nat)
  /-- The SHARD_DONE of a super fetch. -/
  | shard
  /-- The acceptance of one neighbour line. -/
  | nbr (line : Nat)
  deriving DecidableEq, Repr

/-- An answer a descriptor still expects, with the TAG of the packet that asked for it. -/
structure Expect where
  tag : BitVec 16
  answer : Answer
  deriving DecidableEq, Repr

/-- A started mover descriptor (R171, R177, R178). -/
structure Started where
  q : Queued
  /-- The opcode's own work has been done: all its packets are sent, or it failed before sending. -/
  ran : Bool
  expect : List Expect
  /-- Status of the first failure, 0 while none, its DETAIL, and the NACK reason it came from, 0 for none (R178, R182). -/
  status : Byte
  detail : Nat
  reason : Nat
  /-- The compare value amocas read at start (R181). -/
  cmp : W64
  deriving DecidableEq, Repr

/-- One mover (R171). `parked` is the stop of a quiesce (R194). -/
structure Mover where
  queue : List Queued
  started : List Started
  parked : Bool
  deriving DecidableEq, Repr

/-- MOV_ERR (R194). -/
structure MovErr where
  bits : BitVec 5
  lastStatus : Byte
  lastReason : Byte
  deriving DecidableEq, Repr

/-- The waggle interface of a member for one group (R327). -/
structure WagMember where
  seq : BitVec 4
  /-- The word of the member operation this member has contributed to and that is open. -/
  openOp : Option W32
  /-- An unclaimed result: the operation word, the status and the value. -/
  unclaimed : Option (W32 × Byte × W32)
  deriving DecidableEq, Repr

/-- A core (R35, R121). -/
structure Core where
  tasks : Vector Task 8
  /-- The task that issued last (R36). -/
  last : TaskId
  /-- The next serial of the issue order (R132). -/
  serial : Nat
  mov0 : Mover
  mov1 : Mover
  movErr : MovErr
  movDone : W64
  movTx : W64
  movRx : W64
  /-- MOV_TIMEOUT.SWARM and PANEL (R195). -/
  movSwarm : BitVec 16
  movPanel : BitVec 16
  /-- A live MOV_TIMEOUT write waiting for the mover safe point (R59). -/
  movLatch : Option W64
  /-- The next TAG the core's movers put on a packet (R301). -/
  nextTag : BitVec 16
  /-- Receive queue of control packets (R123). -/
  rx : List CtlPkt
  ie : BitVec 3
  itask : BitVec 3
  cycles : W64
  tcmp : W64
  wag : Tbl WagMember
  deriving DecidableEq, Repr

/-- The privileged task registers at reset (R125). -/
def PrvTask.reset : PrvTask := { tstatus := 0, tvec := 0, tpc := 0, tcause := 0, tval := 0, scratch := 0 }

/-- A task after cell reset (R45). -/
def Task.reset : Task :=
  { st := .stopped, trapCause := 0, pc := 0, regs := Vector.replicate 32 0, preds := 0,
    cwin0 := 0, cwin1 := 0, swin0 := 0, swin1 := 0, swin2 := 0, swin3 := 0,
    pend := [], load := none, stopReq := false, wait := .none, prv := PrvTask.reset }

/-- An idle mover (R171, R194). -/
def Mover.reset : Mover := { queue := [], started := [], parked := false }

/-- A member interface at reset: SEQ starts at 0 (R327). -/
def WagMember.reset : WagMember := { seq := 0, openOp := none, unclaimed := none }

/-- A core after reset (R45, R125, R194, R195). The round robin starts after task 7 (DESIGN CHOICE, log 4). -/
def Core.reset : Core :=
  { tasks := Vector.replicate 8 Task.reset, last := 7, serial := 0, mov0 := Mover.reset, mov1 := Mover.reset,
    movErr := { bits := 0, lastStatus := 0, lastReason := 0 }, movDone := 0, movTx := 0, movRx := 0,
    movSwarm := 12500, movPanel := 1250, movLatch := none, nextTag := 0, rx := [],
    ie := 0, itask := 0, cycles := 0, tcmp := BitVec.allOnes 64, wag := [] }

end Sys2Proof.Machine
end

