-- ==== Sys2Proof/Machine/StCell.lean ====
section
/-!
DEFINITION. The state of a cell: memories with their ECC marks, tile engines, sampler interface, clock generator (chapters 02, 05, 17).
-/
namespace Sys2Proof.Machine

/-- The ECC state of a stored word or granule (R48, R383). -/
inductive Ecc where
  | good
  | single
  | double
  deriving DecidableEq, Repr

/-- A word-addressed RAM with its ECC marks: unlisted words read 0 with good ECC (R46, R50, R57 step 4). -/
structure Ram where
  words : Tbl W32
  ecc : Tbl Ecc
  deriving DecidableEq, Repr

/-- What an unlisted word of a RAM reads as: zero, as a cell reset leaves it (R57 step 4; log 2 for memory before it). -/
def Ram.unlisted : W32 := 0

/-- A command a tile engine is running; its effects are made when it starts (log 6). -/
structure Running where
  q : Queued
  status : Byte
  flags : BitVec 4
  detail : Nat
  deriving DecidableEq, Repr

/-- A tile engine (R131, R167, R168). -/
structure Engine where
  queue : List Queued
  running : Option Running
  parked : Bool
  err : BitVec 4
  lastStatus : Byte
  done : W64
  busy : W64
  seed : W32
  seedLatch : Option W32
  /-- Stochastic-rounding generators by lane; an unlisted lane holds 0x0000_0001 (R78, R150). -/
  lanes : Tbl W32
  deriving DecidableEq, Repr

/-- A sampler command the cell's interface has sent and not yet counted complete (R162). -/
structure SmpOut where
  q : Queued
  tag : BitVec 16
  /-- The completion status and the result written, once it has arrived. -/
  done : Option Byte
  deriving DecidableEq, Repr

/-- The cell's clock generator (R449, R454, R455). -/
structure CellClk where
  target : BitVec 5
  code : BitVec 5
  locked : Bool
  changing : Bool
  /-- The code that the generator is locking at while CHANGING. -/
  goal : BitVec 5
  second : Option (BitVec 5)
  stretch : W64
  thresh : Byte
  threshLatch : Option Byte
  relocks : BitVec 16
  longest : BitVec 16
  episodes : W32
  stretching : Bool
  /-- RESET or RESUME written while CHANGING: taken when the clock resumes (R453). -/
  resetAfter : Bool
  resumeAfter : Bool
  deriving DecidableEq, Repr

/-- A cell site's cell (R35, R61–R63). TSK_CELL_BIND.LOGICAL is the site map's (R62) and is not stored twice. -/
structure Cell where
  core : Core
  colony : Byte
  quiescing : Bool
  quiesced : Bool
  inReset : Bool
  ready : Bool
  err : BitVec 5
  cycles : W64
  rwin0 : W64
  rwin1 : W64
  cmem : Ram
  acc : Ram
  ceCount : BitVec 16
  ueCount : BitVec 16
  lastAddr : BitVec 19
  passes : W32
  scrubRow : Nat
  arbWide : Byte
  arbNarrow : Byte
  mxe : Engine
  vxe : Engine
  accInc : Bool
  accPair : BitVec 15
  smpQ : List Queued
  smpOut : List SmpOut
  /-- Lines held in the elastic buffers of a quiesced cell, by channel of arrival (R41, R58). -/
  elastic : List (Dir × NbrLine)
  clk : CellClk
  deriving DecidableEq, Repr

/-- An empty RAM. -/
def Ram.zero : Ram := { words := [], ecc := [] }

/-- An idle engine (R150, R167, R168). MXE_SEED and VXE_SEED read 0 at reset (DESIGN CHOICE, log 4). -/
def Engine.reset : Engine :=
  { queue := [], running := none, parked := false, err := 0, lastStatus := 0, done := 0, busy := 0,
    seed := 0, seedLatch := none, lanes := [] }

/-- The clock generator at domain power-up (R454, R455). -/
def CellClk.reset : CellClk :=
  { target := 8, code := 8, locked := false, changing := false, goal := 8, second := none, stretch := 0, thresh := 40,
    threshLatch := none, relocks := 0, longest := 0, episodes := 0, stretching := false,
    resetAfter := false, resumeAfter := false }

/-- A cell at domain power-up: in reset, unbound (R62). -/
def Cell.powerUp : Cell :=
  { core := Core.reset, colony := 0xFF, quiescing := false, quiesced := false, inReset := true, ready := false,
    err := 0, cycles := 0, rwin0 := 0, rwin1 := 0, cmem := Ram.zero, acc := Ram.zero, ceCount := 0, ueCount := 0,
    lastAddr := 0, passes := 0, scrubRow := 0, arbWide := 0, arbNarrow := 0, mxe := Engine.reset, vxe := Engine.reset,
    accInc := false, accPair := 0, smpQ := [], smpOut := [], elastic := [], clk := CellClk.reset }

end Sys2Proof.Machine
end

