-- ==== Sys2Proof/Machine/StComb.lean ====
section
/-!
DEFINITION. The state of a comb around its cells: routers, rank tables, samplers, waggle nodes, links, power, thermal, clock,
loader, error queue, guard patrol, steward (chapters 07, 08, 11–13, 15–19).
-/
namespace Sys2Proof.Machine

/-! ### Routers (R306–R319) -/

/-- The routing tables and router registers of a comb; all its routers hold the same tables (R306). -/
structure Router where
  /-- Panel table entries written; an unlisted one is the start-up one (R307). -/
  panelTbl : Tbl (Option W64)
  /-- Site table entries written one by one; an unlisted one reads the default route once the keeper has written the tables (R308, log 12). -/
  siteTbl : Tbl (Option W64)
  /-- Local table entries that differ from what the site map gives: HOLD and NACK entries (R309, R311). -/
  localTbl : Tbl (Option W64)
  tablesUp : Bool
  autoInc : Bool
  table : BitVec 2
  index : Byte
  badWr : Bool
  drain : BitVec 17
  crcDiscards : W32
  nacksSent : BitVec 16
  unpaired : BitVec 16
  holdLimit : BitVec 16
  deriving DecidableEq, Repr

/-- Routers after reset (R319). -/
def Router.reset : Router :=
  { panelTbl := [], siteTbl := [], localTbl := [], tablesUp := false, autoInc := false, table := 0, index := 0,
    badWr := false, drain := 0, crcDiscards := 0, nacksSent := 0, unpaired := 0, holdLimit := 625 }

/-! ### Rank tables (R203–R206) -/

/-- The rank directory, rank memory, bridge grants and their registers (R203). -/
structure Ranks where
  dir : Tbl W64
  mem : Tbl W64
  bridge : Tbl W64
  autoInc : Bool
  index : BitVec 13
  badWr : Bool
  staticWr : Bool
  deriving DecidableEq, Repr

/-- Rank registers after reset (R203–R205; RNK_BRIDGE zero: DESIGN CHOICE, log 4). -/
def Ranks.reset : Ranks :=
  { dir := [], mem := [], bridge := [], autoInc := false, index := 0, badWr := false, staticWr := false }

/-! ### Samplers (R161–R170, R244–R254) -/

/-- A sampler context: configuration, staged configuration writes, state and counts (R244, R245, R251). -/
structure SmpCtx where
  mode : W64
  temp : W64
  pen : W64
  pres : W64
  /-- Configuration writes waiting for the sampler's safe point: word number 0–3 and value (R245). -/
  staged : List (Nat × W64)
  gram : BitVec 18
  rng : W64
  head : BitVec 10
  total : W32
  selections : W32
  empties : BitVec 16
  refused : BitVec 16
  deriving DecidableEq, Repr

/-- A context before its first configuration (R245; other words zero: DESIGN CHOICE, log 4). -/
def SmpCtx.reset : SmpCtx :=
  { mode := 0, temp := 0, pen := 0, pres := 0, staged := [], gram := 0, rng := 0, head := 0, total := 0,
    selections := 0, empties := 0, refused := 0 }

/-- A part of an open selection: which cell sent it, its descriptor words, the packet tag, and its logits as they arrive (R161–R163). -/
structure SmpPart where
  src : Eid
  tag : BitVec 16
  score : Bool
  part : Nat
  parts : Nat
  tbase : Nat
  count : Nat
  fmt : Nat
  line : Nat
  word3 : W64
  /-- Logit lines received, by line of the part. -/
  lines : Tbl (List W32)
  deriving DecidableEq, Repr

/-- A selection a sampler is assembling or computing (R163). -/
structure Selection where
  ctx : Ctx
  serial : W32
  parts : List SmpPart
  deriving DecidableEq, Repr

/-- A sampler (R170, R244, R252). -/
structure Sampler where
  ready : Bool
  stopped : Bool
  /-- STOP was written; STOPPED follows when no selection is open (R170). -/
  stopReq : Bool
  err : BitVec 4
  completed : W32
  busyRefused : BitVec 16
  dropped : BitVec 16
  open_ : List Selection
  ctxs : Tbl SmpCtx
  grmDesc : Tbl W64
  gAuto : Bool
  gIndex : BitVec 18
  grammar : Tbl W64
  hAuto : Bool
  hIndex : BitVec 18
  history : Tbl (BitVec 21)
  cfgErr : BitVec 3
  deriving DecidableEq, Repr

/-- A sampler at domain power-up (R170, R244). -/
def Sampler.reset : Sampler :=
  { ready := false, stopped := false, stopReq := false, err := 0, completed := 0, busyRefused := 0, dropped := 0, open_ := [],
    ctxs := [], grmDesc := [], gAuto := false, gIndex := 0, grammar := [], hAuto := false, hIndex := 0, history := [], cfgErr := 0 }

/-! ### Waggle nodes (R328, R339, R340) -/

/-- An operation open at a comb root (R328). The inputs are fixed when its first token arrives. -/
structure WagOpen where
  op : BitVec 4
  seq : BitVec 4
  /-- Tokens of own members still awaited; for COMMIT, 1 while a unit of the comb has not swapped (R337). -/
  members : Nat
  /-- Other inputs still awaited: 1 N, 2 E, 3 S, 4 W, 5 keeper, 6 and 7 child panels. -/
  inputs : List Nat
  /-- The combined data so far; none while no contribution has arrived. -/
  acc : Option (List W32)
  /-- The request's operand, for a solicited operation. -/
  operand : List W32
  /-- The combined token, or a status, has gone up. -/
  sent : Bool
  deriving DecidableEq, Repr

/-- The waggle registers of a comb and its open operations (R339, R340). -/
structure Waggle where
  upPanel : Byte
  parent : BitVec 3
  err : BitVec 7
  colonyLimit : W32
  sysLimit : BitVec 16
  limitLatch : Option W64
  digDomain : Byte
  digUnit : Byte
  group : Tbl W64
  /-- Open operations: a member operation of group g at g, a solicited one at 128 + g. -/
  opens : Tbl (Option WagOpen)
  deriving DecidableEq, Repr

/-- Waggle registers at reset (R339, R340). -/
def Waggle.reset : Waggle :=
  { upPanel := 0xFF, parent := 0, err := 0, colonyLimit := 0, sysLimit := 5000, limitLatch := none,
    digDomain := 0, digUnit := 0, group := [], opens := [] }

/-! ### Link ends (R341–R372) -/

/-- One channel of a link end: replay, credits, and what is being put together on reception (R349–R351). Edges have 16, the others one. -/
structure Chan where
  txSeq : BitVec 12
  /-- Unacknowledged frames, oldest first: sequence number and how often each was sent. -/
  unacked : List (BitVec 12 × Nat)
  rxSeq : BitVec 12
  nakSent : Bool
  rxPending : Bool
  /-- Credits by net × 4 + virtual channel (0 request-low, 1 request-high, 2 response-low, 3 response-high). Below 0: flits that wait behind
  their header. -/
  credits : Tbl Int
  /-- Flits of a bulk packet and tokens of a waggle packet not whole yet (external lanes). -/
  flits : List (BitVec 512)
  tokens : List W32
  deriving DecidableEq, Repr

/-- A channel that has not trained. -/
def Chan.reset : Chan :=
  { txSeq := 0, unacked := [], rxSeq := 0, nakSent := false, rxPending := false, credits := [], flits := [], tokens := [] }

/-- A link end: state and registers (R350, R351, R362–R372). -/
structure Link where
  state : Nat
  reason : Nat
  peerLane : Byte
  peerPanel : Byte
  version : Byte
  width : Byte
  half : Bool
  policy : Bool
  /-- A policy written and not yet applied by a retrain (R364). -/
  policyNext : Option Bool
  err : BitVec 4
  replays : BitVec 16
  crcFails : BitVec 16
  uncorrected : BitVec 16
  retrains : BitVec 16
  /-- LNK_WIRES.CHAN, and the failed wires by channel (R343, R371). -/
  chan : BitVec 4
  wires : Tbl (BitVec 38)
  totals : List W64
  peer : List Byte
  /-- The training record heard and not yet checked (R352–R354). -/
  heard : Option (List Byte)
  chans : Tbl Chan
  /-- KEEPER_TIME of the counted retrains of the last 10 minutes (R365). -/
  history : List W64
  recalFails : Nat
  /-- Its routes are flipped to their alternates (R363). -/
  flipped : Bool
  census : List Byte
  deriving DecidableEq, Repr

/-- A link end at reset (R372, R373). -/
def Link.reset : Link :=
  { state := 0, reason := 0, peerLane := 0, peerPanel := 0, version := 0, width := 0, half := false, policy := false,
    policyNext := none, err := 0, replays := 0, crcFails := 0, uncorrected := 0, retrains := 0, chan := 0, wires := [],
    totals := [0, 0, 0, 0], peer := List.replicate 35 0, heard := none, chans := [], history := [], recalFails := 0, flipped := false,
    census := [] }

/-- An open super fetch of a port router (R358). -/
structure Fetch where
  rid : Nat
  src : Eid
  tag : BitVec 16
  object : Nat
  xform : Byte
  lines : Nat
  offset : Nat
  dest : Eid
  store : Nat
  saddr : Nat
  outLines : Nat
  /-- The store base has acknowledged SHARD_OPEN. -/
  opened : Bool
  /-- Lines that have arrived from the super, and packets that wait for SHARD_OPEN's ACK. -/
  seen : List Nat
  waiting : List (Nat × List W32)
  /-- A line came twice. -/
  dup : Bool
  /-- The status of FETCH_END, once it has come. -/
  ended : Option Nat
  deriving DecidableEq, Repr

/-- A port router: its open fetches and the RIDs a timeout keeps out of use (R358). -/
structure PortRouter where
  fetches : List Fetch
  quarantined : List Nat
  deriving DecidableEq, Repr

/-- A port router at reset (R358). -/
def PortRouter.reset : PortRouter := { fetches := [], quarantined := [] }

/-! ### Power, clock, thermal (R417–R420, R437–R440, R456) -/

/-- A power domain (R418). -/
structure Dom where
  on : Bool
  state : Nat
  reason : Nat
  deriving DecidableEq, Repr

/-- A domain at reset (R418). -/
def Dom.reset : Dom := { on := false, state := 0, reason := 0 }

/-- An on-die regulator (R417, R419). -/
structure Regul where
  latchCause : Byte
  phaseFail : BitVec 13
  catches : Byte
  fuseOpen : Bool
  latched : Bool
  derated : Bool
  spareInUse : Bool
  vout : BitVec 16
  iout : BitVec 16
  vin : BitVec 16
  iin : BitVec 16
  energy : W64
  vset : BitVec 16
  vsetLatch : Option (BitVec 16)
  deriving DecidableEq, Repr

/-- A regulator at comb power-up (R419; VSET 600 mV, the least legal value: DESIGN CHOICE, log 4). -/
def Regul.reset : Regul :=
  { latchCause := 0, phaseFail := 0, catches := 0, fuseOpen := false, latched := false, derated := false,
    spareInUse := false, vout := 0, iout := 0, vin := 0, iin := 0, energy := 0, vset := 600, vsetLatch := none }

/-- The power, power-state, thermal and clock registers of a comb (R417–R420, R437–R440, R456). -/
structure CombPower where
  doms : Tbl Dom
  regs : Tbl Regul
  guard : BitVec 16
  waitMs : BitVec 16
  inrushLatch : Option W64
  pwrErr : BitVec 7
  /-- PST_SITE.STATE and DEEPEST by physical site (R439). -/
  siteState : Tbl Nat
  deepest : Tbl Nat
  deepestLatch : Tbl (Option Nat)
  /-- FMX_SITE by physical site (R440). -/
  charAge : Tbl Nat
  cap : Tbl Nat
  run : Tbl Nat
  fmax : Tbl Nat
  /-- A frequency change in progress: the code asked for (R449). -/
  runChange : Tbl (Option Nat)
  limit : Tbl Nat
  limitLatch : Tbl (Option Nat)
  level : Tbl Nat
  power : Tbl Nat
  tlimit : Tbl Nat
  /-- THM_SENSOR by sensor: temperature, FAULT, LEVEL (R438). -/
  temp : Tbl (BitVec 16)
  sensFault : Tbl Bool
  sensLevel : Tbl Nat
  throttleC : Byte
  throttleLatch : Option Byte
  pstErr : BitVec 4
  /-- Highest code at which a frame's demand fits its derated REG_L, by frame (R409); 16 where it is not derated. -/
  fit : Tbl Nat
  /-- Frames off for heat, and how often within 24 h (R434, R435). -/
  heat : BitVec 16
  heatCount : Tbl Nat
  clkAlt2 : BitVec 3
  clkAlt1 : BitVec 3
  clkPrimary : BitVec 3
  clkLost : BitVec 5
  clkSel : BitVec 3
  clkLatch : Option W64
  clkErr : BitVec 4
  deriving DecidableEq, Repr

/-- Power and clock registers at comb power-up. Default STATE 5 Dark, DEEPEST 1, CAP and RUN 8, LIMIT 2000 (R438–R440).
FMAX and the sensors' first readings: DESIGN CHOICE, log 4. -/
def CombPower.reset : CombPower :=
  { doms := [], regs := [], guard := 100, waitMs := 50, inrushLatch := none, pwrErr := 0, siteState := [], deepest := [],
    deepestLatch := [], charAge := [], cap := [], run := [], fmax := [], runChange := [], limit := [], limitLatch := [],
    level := [], power := [], tlimit := [], temp := [], sensFault := [], sensLevel := [], throttleC := 95,
    throttleLatch := none, pstErr := 0, fit := [], heat := 0, heatCount := [], clkAlt2 := 0, clkAlt1 := 0, clkPrimary := 0,
    clkLost := 0, clkSel := 0, clkLatch := none, clkErr := 0 }

/-! ### Loader, error queue, guard patrol (R461, R485, R492, R493) -/

/-- The steward's firmware loader (R461). -/
structure Loader where
  state : Nat
  rx : List Nat
  cfg : W64
  digest : List W64
  err : BitVec 3
  deriving DecidableEq, Repr

/-- The loader at reset (R461). -/
def Loader.reset : Loader := { state := 0, rx := [], cfg := 0, digest := List.replicate 8 0, err := 0 }

/-- The guard patrol of one frame (R485, R493). -/
structure Guard where
  lastS : W32
  testPos : BitVec 4
  dir : Bool
  mode : Nat
  /-- The state of the cell under a parked test, its memories apart, which lie in the parking slot (R486). -/
  parked : Option Cell
  deriving DecidableEq, Repr

/-- A frame's patrol at reset (R493). -/
def Guard.reset : Guard := { lastS := 0, testPos := 0xF, dir := false, mode := 0, parked := none }

/-- A whole-comb reset in progress (R317). -/
structure ResetRun where
  tries : Nat
  waiting : Bool
  deriving DecidableEq, Repr

/-- A unit's epoch state: the epoch it runs, its staged epoch and whether the commit has reached it (R305, R335, R337). -/
structure UnitEpoch where
  epoch : Nat
  staged : Option Nat
  commit : Option Nat
  deriving DecidableEq, Repr

/-- A unit's epoch at reset. -/
def UnitEpoch.reset : UnitEpoch := { epoch := 0, staged := none, commit := none }

/-- A comb (R6, R14, chapters 07–19). -/
structure Comb where
  /-- COMB_STATE (R34). -/
  state : Nat
  /-- Its routes are detoured around it, and its site entry refuses, for a whole-comb reset (R317). -/
  detour : Bool
  /-- What an unlisted cell holds. -/
  cellInit : Cell
  cells : Tbl Cell
  /-- SITE_MAP_FRAME words by frame (R18). -/
  siteMap : Tbl W64
  steward : Core
  stewardMem : Ram
  /-- SVN of the image that the steward runs (R543). -/
  stewardSvn : BitVec 16
  router : Router
  netCounters : W64
  ranks : Ranks
  samplers : Tbl Sampler
  smpInit : Sampler
  waggle : Waggle
  links : Tbl Link
  linkInit : Link
  ports : Tbl PortRouter
  pw : CombPower
  loader : Loader
  erq : List ErrRec
  erqErr : BitVec 2
  erqDropped : W32
  /-- An overflow record waits for a free entry (R478). -/
  erqPending : Bool
  /-- Records forwarded to a keeper and not acknowledged (R475). -/
  erqSent : List (Half × ErrRec)
  guards : Tbl Guard
  guardPeriod : BitVec 16
  guardLatch : Option (BitVec 16)
  guardPaused : Bool
  resetRun : Option ResetRun
  /-- Epochs by unit: endpoint code 0xB0–0xBD (R336, R337); cells share the steward's. -/
  epochs : Tbl UnitEpoch
  epochInit : UnitEpoch
  deriving DecidableEq, Repr

/-- A comb at comb power-up, not yet started (R34, R62, chapter 18). COMB_STATE comes from the birth map. -/
def Comb.powerUp : Comb :=
  { state := 0, detour := false, cellInit := Cell.powerUp, cells := [], siteMap := [], steward := Core.reset, stewardMem := Ram.zero, stewardSvn := 0,
    router := Router.reset, netCounters := 0, ranks := Ranks.reset, samplers := [], smpInit := Sampler.reset,
    waggle := Waggle.reset, links := [], linkInit := Link.reset, ports := [], pw := CombPower.reset, loader := Loader.reset,
    erq := [], erqErr := 0, erqDropped := 0, erqPending := false, erqSent := [], guards := [], guardPeriod := 600, guardLatch := none,
    guardPaused := false, resetRun := none, epochs := [], epochInit := UnitEpoch.reset }

/-! ### Stores (R374–R395) -/

/-- A chunk landing at the store base (R386). -/
structure Chunk where
  rid : Nat
  router : Eid
  saddr : Nat
  xform : Byte
  lines : Nat
  src : Eid
  tag : BitVec 16
  outLines : Nat
  /-- Lines received, by chunk line. -/
  got : Tbl (List W32)
  dup : Bool
  deriving DecidableEq, Repr

/-- An open KV entry (R388–R390): its colony and ring count, the endpoint of its target, word 4, the answers its writes still await,
the STATUS of its first failure (0 while none) and its MAP codes by block. -/
structure KvOpen where
  colony : Nat
  entry : Nat
  target : Eid
  w4 : W64
  expect : List (BitVec 16)
  failed : Nat
  map : List Nat
  deriving DecidableEq, Repr

/-- A store and its store base (R374–R395). -/
structure Store where
  /-- STORE_STATE (R34). -/
  state : Nat
  /-- Content by byte address: unlisted bytes read 0 (log 2). -/
  mem : List Host.Cell
  ecc : Tbl Ecc
  stb : Nat
  err : BitVec 7
  corrected : W32
  uncorrectable : BitVec 16
  repaired : BitVec 16
  eccTotal : W64
  ueAddr : W64
  xfErr : W64
  scrubS : W32
  scrubLatch : Option W32
  passes : BitVec 31
  scrubAt : Nat
  zeroBase : BitVec 20
  zeroSize : BitVec 20
  zeroBusy : Bool
  digAddr : List (BitVec 36)
  digLen : List (BitVec 28)
  digBusy : List Bool
  digResult : List (List Byte)
  ext : Tbl W64
  kvq : Tbl W64
  unreadable : List Nat
  /-- Corrected reads by row, and spare rows used by bank (R385). -/
  rowCounts : Tbl Nat
  spares : Tbl Nat
  chunks : List Chunk
  kv : List KvOpen
  /-- KQ entries taken and completed, by colony (R388). -/
  kvTaken : Tbl Nat
  kvDone : Tbl Nat
  /-- The next TAG of the store base's own packets, and the port the next of them leaves by. -/
  nextTag : BitVec 16
  viaInner : Bool
  testMap : List Byte
  domBase : Dom
  domDram : Dom
  epoch : UnitEpoch
  /-- Zone feed e-fuse open, and the zone's measured current in 0.1 A (R405, R420). -/
  zoneOpen : Bool
  zoneCurrent : Nat
  /-- The zone's inrush token: comb and domain, and the requests waiting in order (R413). -/
  token : Option (Site × Nat)
  waiting : List (Site × Nat)
  temps : Tbl (BitVec 16)
  tempLevel : Tbl Nat
  deriving DecidableEq, Repr

/-- A store before its first test (R394, R395). -/
def Store.powerUp : Store :=
  { state := 0, mem := [], ecc := [], stb := 0, err := 0, corrected := 0, uncorrectable := 0, repaired := 0, eccTotal := 0,
    ueAddr := 0, xfErr := 0, scrubS := 3600, scrubLatch := none, passes := 0, scrubAt := 0, zeroBase := 0, zeroSize := 0,
    zeroBusy := false, digAddr := [0, 0], digLen := [0, 0], digBusy := [false, false],
    digResult := [List.replicate 64 0, List.replicate 64 0], ext := [], kvq := [], unreadable := [], rowCounts := [],
    spares := [], chunks := [], kv := [], kvTaken := [], kvDone := [], nextTag := 0, viaInner := false, testMap := [], domBase := Dom.reset, domDram := Dom.reset,
    epoch := UnitEpoch.reset, zoneOpen := false, zoneCurrent := 0, token := none, waiting := [],
    temps := [], tempLevel := [] }

end Sys2Proof.Machine
end

