-- ==== Sys2Proof/Machine/StPanel.lean ====
section
/-!
DEFINITION. The state above the combs: networks in flight, keepers.
-/
namespace Sys2Proof.Machine

/-- A data packet in flight: where its header stands, whether on the high virtual channel, whether held (R294, R311, R312). -/
structure Flight where
  pkt : DataPkt
  at_ : Option (Nat × Nat)
  high : Bool
  held : Bool
  deriving DecidableEq, Repr

/-- A control packet in flight. -/
structure CtlFlight where
  pkt : CtlPkt
  at_ : Option (Nat × Nat)
  high : Bool
  held : Bool
  deriving DecidableEq, Repr

/-- A waggle packet on its way to a comb (R321): site code of the comb it goes to, the input it arrives on, the packet. -/
structure WagFlight where
  site : Nat
  input : BitVec 3
  pkt : WagPkt
  deriving DecidableEq, Repr

/-- An error record on its way to a steward or keeper (R475): site byte of the receiver. -/
structure ErrFlight where
  site : Nat
  rec_ : ErrRec
  deriving DecidableEq, Repr

/-- A neighbour line on its way to a cell (R39). -/
structure NbrFlight where
  site : Site
  phys : Phys
  dir : Dir
  line : NbrLine
  deriving DecidableEq, Repr

/-- A packet that leaves the panel on an external lane: comb, port router and packet (R345, R358). -/
structure LaneOut where
  site : Nat
  port : Nat
  pkt : NetPkt
  deriving DecidableEq, Repr

/-- Everything in flight between the agents. `lane` holds what has been put on the external lanes, oldest first. -/
structure Net where
  bulk : List Flight
  ctl : List CtlFlight
  wag : List WagFlight
  err : List ErrFlight
  nbr : List NbrFlight
  lane : List LaneOut
  deriving DecidableEq, Repr

/-- A colony (chapter 07). -/
structure Colony where
  /-- COLONY_STATE and COLONY_REASON (R209, R210). -/
  state : Nat
  reason : Nat
  /-- COLONY_RESTARTS, and the restart starts of the open series (R213). -/
  restarts : W32
  series : Nat
  /-- KEEPER_TIME at the series' first start. -/
  seriesAt : W64
  /-- The segment list in the layout of R205, own segments first (COLONY_PLACEMENT). -/
  placement : List W64
  /-- The extents reserved: store, base and size in 64 KiB units (R380). -/
  extents : List (Nat × Nat × Nat)
  /-- A restart in progress ends in SERVING (R210). -/
  endServing : Bool
  /-- COLONY_ENERGY in microjoules (R217). -/
  energy : W64
  deriving DecidableEq, Repr

/-- A FREE colony. -/
def Colony.free : Colony :=
  { state := 0, reason := 0, restarts := 0, series := 0, seriesAt := 0, placement := [], extents := [], endServing := false, energy := 0 }

/-- A power blade (R398, R421): its state, re-closes of its e-fuse, and what its meter reads. -/
structure Blade where
  state : Nat
  recloses : Nat
  volt : W32
  amp : W32
  energy : W64
  deriving DecidableEq, Repr

/-- A panel converter (R400, R421): its state and telemetry, five F32 values. -/
structure Converter where
  state : Nat
  tele : List W32
  deriving DecidableEq, Repr

/-- The power and the reference clock of a half (R398, R402–R404, R443, R444). -/
structure HalfPower where
  /-- The plane is within range: PWR_OK. -/
  on : Bool
  /-- Why the converters stopped: 0 never powered, 1 UNDERVOLT, 2 OVERVOLT, 3 thermal trip, 4 too few converters, 5 reset hold. -/
  stop : Nat
  volt : W32
  amp : W32
  /-- REFCLK_STATE, and which inputs are valid. -/
  refState : Nat
  refA : Bool
  refB : Bool
  deriving DecidableEq, Repr

/-- A laser module (R366, R373): its state, its telemetry (four F32 values), and KEEPER_TIME of its last event. -/
structure Laser where
  state : Nat
  tele : List W32
  at_ : Option W64
  deriving DecidableEq, Repr

/-- An empty socket. -/
def Laser.reset : Laser := { state := 0, tele := [0, 0, 0, 0], at_ := none }

/-- The panel's power (R216, R217, R421, R436). -/
structure PanelPower where
  blades : Tbl Blade
  convs : Tbl Converter
  lasers : Tbl Laser
  west : HalfPower
  east : HalfPower
  /-- INPUT_ENERGY, and what it and COLONY_ENERGY were at the last report. -/
  input : W64
  inputMark : W64
  marks : Tbl W64
  watts : W32
  colWatts : Tbl W32
  deriving DecidableEq, Repr

/-- A blade, a converter and a half at reset. -/
def Blade.reset : Blade := { state := 0, recloses := 0, volt := 0, amp := 0, energy := 0 }
def Converter.reset : Converter := { state := 0, tele := [0, 0, 0, 0, 0] }
def HalfPower.reset : HalfPower := { on := false, stop := 0, volt := 0, amp := 0, refState := 0, refA := false, refB := false }

/-- The panel before it is powered. -/
def PanelPower.reset : PanelPower :=
  { blades := [], convs := [], lasers := [], west := HalfPower.reset, east := HalfPower.reset, input := 0, inputMark := 0, marks := [], watts := 0,
    colWatts := [] }

/-- The networks at reset: nothing in flight. -/
def Net.reset : Net := { bulk := [], ctl := [], wag := [], err := [], nbr := [], lane := [] }

end Sys2Proof.Machine
end

