-- ==== Sys2Proof/Machine/StMgmt.lean ====
section
/-!
DEFINITION. The state of the keepers' work: management sessions and objects, configuration epochs, panel log, images, colonies'
sessions and weights (chapters 07–09, 18–22).
-/
namespace Sys2Proof.Machine

/-! ### Management sessions (R500–R509, R544) -/

/-- A response as last sent (R500, R502). -/
structure Reply where
  session : W32
  txn : BitVec 16
  status : Nat
  data : List Byte
  deriving DecidableEq, Repr

/-- The snapshot a session holds (R508). -/
structure Snap where
  id : W32
  obj : ObjRef
  data : List Byte
  deriving DecidableEq, Repr

/-- A segmented write a session has open (R509). -/
structure SegWrite where
  obj : ObjRef
  total : Nat
  data : List Byte
  deriving DecidableEq, Repr

/-- A management session (R501–R506, R544, R548). Provisional until its proof is accepted. -/
structure MgmtSession where
  id : W32
  provisional : Bool
  /-- The role asked for at SESSION_OPEN, granted on success: 1 operate, 2 administer, 3 vendor. -/
  role : Nat
  /-- The key it was authenticated under: set 0 OPERATE_KEY, 1 ADMIN_KEY, 2 VENDOR_KEY, and slot. -/
  keySet : Nat
  keySlot : Nat
  challenge : List Byte
  /-- The panel's ephemeral private key, discarded once the proof has been checked. -/
  secret : List Byte
  key : List Byte
  /-- The highest COUNTER accepted, the panel's own last COUNTER, and PDUs with a bad TAG. -/
  ctrIn : W32
  ctrOut : W32
  badTags : Nat
  /-- The last 16 responses, newest first. -/
  cache : List Reply
  snap : Option Snap
  seg : Option SegWrite
  /-- Its latest attestation report (R548). -/
  report : List Byte
  /-- The lead keeper's time at its last valid PDU. -/
  last : W64
  deriving DecidableEq, Repr

/-! ### Configuration epochs (R514, R515) -/

/-- EPOCH_CTRL's work. Keys are object keys (index, instance, subindex). -/
structure EpochCtl where
  pending : Tbl (Option (List Byte))
  committed : Nat
  committing : Bool
  last : Nat
  deriving DecidableEq, Repr

/-! ### Panel log (R474–R479) -/

/-- A contained or panel-fatal record whose handling is open, and the units that its handling has reset, quiesced, switched off or fenced
(R477). -/
structure OpenRec where
  serial : Nat
  units : List Eid
  deriving DecidableEq, Repr

/-- A service fence: domain and code (R479, R494). -/
structure Fence where
  kind : Nat
  inst : Nat
  code : Nat
  deriving DecidableEq, Repr

/-- The panel log, its persistent part, the fence map. -/
structure Log where
  next : Nat
  recs : List ErrRec
  overwritten : Nat
  opens : List OpenRec
  persistent : List ErrRec
  fences : List Fence
  /-- Fences whose RELEASE is logged: lifted at the next cold start (R484). -/
  released : List Fence
  cursor : W32
  deriving DecidableEq, Repr

/-! ### Images (R458–R460, R472, R517) -/

/-- An image's header facts and body. -/
structure Image where
  version : W32
  svn : BitVec 16
  entry : W32
  digest : List Byte
  body : List Byte
  deriving DecidableEq, Repr

/-- An image set in a flash device: valid under R460. -/
structure ImgSet where
  valid : Bool
  keeper : Image
  steward : Image
  deriving DecidableEq, Repr

/-- A section of a colony image (R459). -/
structure Section where
  segLo : Nat
  segHi : Nat
  tasks : Bool
  line : Nat
  digest : List Byte
  data : List Byte
  deriving DecidableEq, Repr

/-- An installed colony image. -/
structure ColImage where
  version : W32
  svn : BitVec 16
  digest : List Byte
  sections : List Section
  deriving DecidableEq, Repr

/-! ### Keepers (R29, R121, R487–R490, R519) -/

/-- A CAN controller of a keeper and the PDUs it reassembles, by client (R496–R498). -/
structure CanBus where
  state : Nat
  inverted : Bool
  tec : Nat
  rec_ : Nat
  /-- By client number: next SEQ, FD format, and the bytes so far. -/
  partials : Tbl (Option (Nat × Bool × List Byte))
  /-- The panel transmits only when not BUS_OFF; a rate change waits for idle. -/
  rate : Nat
  deriving DecidableEq, Repr

/-- A CAN controller at reset: error active, 2 Mbit/s. -/
def CanBus.reset : CanBus := { state := 1, inverted := false, tec := 0, rec_ := 0, partials := [], rate := 2 }

/-- An empty image. -/
def Image.empty : Image := { version := 0, svn := 0, entry := 0, digest := List.replicate 64 0, body := [] }

/-- No acceptable set. -/
def ImgSet.none : ImgSet := { valid := false, keeper := Image.empty, steward := Image.empty }

/-- A keeper: its memory, its sixteen cores, its flash and what it reports. -/
structure Keeper where
  cores : Tbl Core
  mem : Ram
  epoch : UnitEpoch
  /-- KEEPER_HEALTH (R494). -/
  health : Nat
  /-- KEEPER_TIME (R452). -/
  time : W64
  setA : ImgSet
  setB : ImgSet
  /-- The running set: false A, true B. -/
  activeB : Bool
  /-- IMAGE_SET_STATE and the segments programmed (R519). -/
  setState : Nat
  prog : List Byte
  /-- Stored values by object key; none was never written (R513, R529). -/
  flash : Tbl (Option (List Byte))
  /-- The keeper link's end (R341). -/
  link : Link
  /-- DUMP_STATE, and the last summaries, newest first (R489, R490). -/
  dumpState : Nat
  summaries : List (List Byte)
  can0 : CanBus
  can1 : CanBus
  /-- Strap levels sampled at this half's management connector (R498). -/
  straps : Byte
  /-- STRAP_OPEN, and the levels SAFE_STOP_L low and PANEL_RESET_L low (R557). -/
  strapOpen : Bool
  safeStop : Bool
  resetLow : Bool
  /-- DISCRETE_STATE as the lead keeper last received it, for a keeper that is down. -/
  discrete : Byte
  /-- Its two sensors, in 1/16 °C (R432). -/
  temps : Tbl (BitVec 16)
  deriving DecidableEq, Repr

/-- A keeper at reset. The flash as delivered holds one acceptable set, in device A (DESIGN CHOICE, log 36). -/
def Keeper.reset : Keeper :=
  { cores := [], mem := Ram.zero, epoch := UnitEpoch.reset, health := 2, time := 0,
    setA := { ImgSet.none with valid := true }, setB := ImgSet.none, activeB := false, setState := 0, prog := [], flash := [],
    link := Link.reset, dumpState := 0, summaries := [], can0 := CanBus.reset, can1 := CanBus.reset, straps := 0, strapOpen := false, safeStop := false, resetLow := false, discrete := 0, temps := [] }

/-! ### Colonies: sessions, weights (R219–R236, R256–R276) -/

/-- A session of the panel, as the lead keeper holds it (R220, R232–R236). -/
structure Session where
  slot : Nat
  home : Nat
  peers : W64
  ext : W64
  /-- The colonies where its state word is not FREE yet. -/
  live : List Nat
  /-- An END that met OPENING, by colony: applied when OPEN is set. -/
  endReason : Option Nat
  activity : W64
  /-- Seconds for which ACTIVITY has not changed (R235). -/
  idle : Nat
  /-- Latest BIND bodies, as the last BINDs gave them (R291). -/
  bindIn : List Byte
  bindOut : List Byte
  /-- The exchange that opened it by datagram. -/
  opener : Option Nat
  deriving DecidableEq, Repr

/-- A weight bank of a colony (R228, R267). -/
structure Bank where
  valid : Bool
  epoch : BitVec 16
  /-- The manifest it was loaded from. -/
  manifest : List Byte
  deriving DecidableEq, Repr

/-- An empty bank. -/
def Bank.empty : Bank := { valid := false, epoch := 0, manifest := [] }

/-- A load in progress or ended (R267, R276). -/
structure Load where
  state : Nat
  reason : Nat
  progress : Nat
  /-- The target bank, 0 A or 1 B, and AUTO_ACTIVATE. -/
  bank : Nat
  auto : Bool
  /-- The manifest once accepted, and its entries not yet landed and checked. -/
  manifest : List Byte
  left : List Nat
  /-- Entries whose digest failed once, as bank × 32,768 + entry (R269). -/
  again : List Nat
  /-- The first load of DEPLOY, or of a restart with no valid bank. -/
  first : Bool
  /-- What asked for it: a WEIGHT_LOAD or COLONY_WEIGHTS value. -/
  ref : List Byte
  deriving DecidableEq, Repr

/-- No load since DEPLOY. -/
def Load.idle : Load :=
  { state := 0, reason := 0, progress := 0, bank := 0, auto := false, manifest := [], left := [], again := [], first := false, ref := [] }

/-- What the keeper holds of a colony beside its life cycle. -/
structure ColonyWork where
  /-- COLONY_SLOT_BASE; none is 0xFFFF_FFFF (R219). -/
  slotBase : Option Nat
  /-- Context runs by comb site: first n of the run (R242). -/
  contexts : Tbl (Option Nat)
  /-- Grammar memory bases by comb site and sampler: one base for each colony grammar, and its descriptor numbers. -/
  grammars : Tbl (List (Nat × Nat))
  /-- The control region: comb of segment 0, store, first unit (R221). -/
  region : Option (Nat × Nat × Nat)
  bankA : Bank
  bankB : Bank
  lastEpoch : BitVec 16
  load : Load
  passes : W32
  mismatches : W32
  image : Option ColImage
  /-- COLONY_IMAGE_STATE (R523). -/
  imageState : Nat
  /-- The drain of an IMAGE_UPDATE is under way (R518). -/
  updateDrain : Bool
  /-- Events queued while the ring is full (R233). -/
  events : List (List Byte)
  /-- Streamed requests taken and open: store, ring count, and whether its digest has failed once (R275). -/
  streams : List (Nat × Nat × Bool)
  /-- Bridge ranges as fixed at DEPLOY: peer, first segment, length (R199). -/
  bridges : List (Nat × Nat × Nat)
  /-- Resident shards that a restart fetches again before it ends: bank and manifest entry (R271, R272). -/
  refetch : List (Nat × Nat)
  /-- A swarm command whose STEP_DONE the coordinator awaits: the command, and the panels left (R215). -/
  swarm : Option (Nat × List Nat)
  /-- Panels that have reported the load done (R270). -/
  swarmLoaded : List Nat
  deriving DecidableEq, Repr

/-- Nothing held. -/
def ColonyWork.empty : ColonyWork :=
  { slotBase := none, contexts := [], grammars := [], region := none, bankA := Bank.empty, bankB := Bank.empty, lastEpoch := 0,
    load := Load.idle, passes := 0, mismatches := 0, image := none, imageState := 0, updateDrain := false,
    events := [], streams := [], bridges := [], refetch := [], swarm := none, swarmLoaded := [] }

/-! ### The panel as a whole (R464–R472, R488, R521, R523) -/

/-- Where a PDU came from: a management port, with the sender's MAC, address and UDP port; or a CAN bus, with its client and frame
format. -/
inductive MgmtFrom where
  | eth (half : Half) (mac : List Byte) (v6 : Bool) (addr : List Byte) (udp : Nat)
  | can (half : Half) (bus : Fin 2) (client : Fin 8) (fd : Bool)
  deriving DecidableEq, Repr

/-- What the lead keeper serves. -/
structure Mgmt where
  sessions : List MgmtSession
  /-- Values of objects that are written, by key; none is the default. -/
  objs : Tbl (Option (List Byte))
  /-- The response last sent. -/
  reply : Option Reply
  /-- CIARD_COUNTERS: requests, responses other than OK, dropped for TAG or COUNTER, other drops. -/
  requests : W64
  failures : W64
  tagDrops : W64
  otherDrops : W64
  epoch : EpochCtl
  /-- DIGEST_RESULT: domain, agreement, combs named, serial of the record. -/
  digest : List Byte
  /-- STEWARD_ROLL_STATE: state, site, combs done. -/
  rollState : Nat
  rollSite : Nat
  rollDone : Nat
  /-- Raises of SVN_FLOOR .01 and .02 so far (R543). -/
  raises : Tbl Nat
  /-- STORED_LOST, and whether it has been read since the start (R529). -/
  storedLost : List ObjRef
  lostRead : Bool
  /-- CENSUS_STATE (R373). -/
  census : Nat
  /-- The snapshot that SESSION 0 holds (R508). -/
  snap0 : Option Snap
  /-- The PDU that the last frame completed, and where it came from: its response goes there (R495–R500). -/
  received : Option (MgmtFrom × List Byte)
  /-- Other frames the management ports have sent, by half, oldest first, and echo replies in the present second (R495). -/
  frames : List (Nat × List Byte)
  echoW : Nat
  echoE : Nat
  deriving DecidableEq, Repr

/-- The management plane at reset. -/
def Mgmt.reset : Mgmt :=
  { sessions := [], objs := [], reply := none, requests := 0, failures := 0, tagDrops := 0, otherDrops := 0,
    epoch := { pending := [], committed := 0, committing := false, last := 0 }, digest := List.replicate 8 0,
    rollState := 0, rollSite := 0, rollDone := 0, raises := [], storedLost := [], lostRead := true, census := 0,
    snap0 := none, received := none, frames := [], echoW := 0, echoE := 0 }

/-- The birth defect map (R31–R33): what differs from a map with everything good. -/
structure Birth where
  serial : List Byte
  built : W64
  combs : List Nat
  /-- FRAME_GOOD by site × 16 + frame. -/
  good : Tbl (BitVec 12)
  stores : List Nat
  defects : Tbl W32
  sig : List Byte
  /-- A copy passes every check of R33. -/
  ok : Bool
  deriving DecidableEq, Repr

/-- A map with nothing fenced (DESIGN CHOICE, log 1). -/
def Birth.allGood : Birth :=
  { serial := List.replicate 16 0, built := 0, combs := [], good := [], stores := [], defects := [], sig := List.replicate 64 0, ok := true }

/-- What manufacture wrote and software only reads (R421, R526, R528, R541). -/
structure Ident where
  macBase : List Byte
  deviceSeed : List Byte
  devicePub : List Byte
  deviceCert : List Byte
  mfgPub : List Byte
  keeperKey : List Byte
  stewardKey : List Byte
  vendorKey : List Byte
  energyCoeff : List Byte
  deriving DecidableEq, Repr

/-- Zeros stand for what manufacture writes (DESIGN CHOICE, log 1). -/
def Ident.reset : Ident :=
  { macBase := List.replicate 6 0, deviceSeed := List.replicate 32 0, devicePub := List.replicate 32 0,
    deviceCert := List.replicate 384 0, mfgPub := List.replicate 32 0, keeperKey := List.replicate 32 0,
    stewardKey := List.replicate 32 0, vendorKey := List.replicate 32 0, energyCoeff := List.replicate 16 0 }

/-! ### Voice service (R277–R293) -/

/-- A UDP endpoint: IP family, address and port. -/
structure UdpAddr where
  v6 : Bool
  addr : List Byte
  udp : Nat
  deriving DecidableEq, Repr

/-- A UDP datagram at a service port: its sender and receiver, and its payload. -/
structure Datagram where
  src : UdpAddr
  dst : UdpAddr
  payload : List Byte
  deriving DecidableEq, Repr

/-- A classifier entry: one direction of one session's media on a port (R279, R291), and its acceptance, SRTP and RTP state
(R283, R285–R287). -/
structure Stream where
  index : Nat
  slot : Nat
  home : Nat
  out : Bool
  /-- The BIND body. -/
  body : List Byte
  remote : UdpAddr
  localUdp : Nat
  ssrc : Nat
  /-- Inbound: SSRC_ANY has not met its packet yet. -/
  anySsrc : Bool
  srtp : Bool
  rtcpMux : Bool
  pt : Nat
  key : List Byte
  salt : List Byte
  /-- The ring of the slot: endpoint and receive address (R282). -/
  ring : Eid × Nat
  /-- H, and the accepted numbers of the last 32 (R283): extended sequence numbers, which may lie before the first wrap. -/
  high : Option Int
  accepted : List Int
  /-- SRTP: the highest authenticated index, and those of the last 128 (R285). -/
  srtpHigh : Option Nat
  srtpSeen : List Nat
  /-- Words 32 and 33 of the ring, as the port counts them. -/
  delivered : W32
  dropped : W32
  /-- Outbound: the next sequence number, packets and octets sent, whether the key is spent; the last RTP timestamp. -/
  seq : BitVec 16
  sent : Nat
  octets : Nat
  spent : Bool
  timestamp : W32
  /-- Inbound reports received, last sender report (R286). -/
  reports : Nat
  lastSr : List Byte
  /-- SRTCP index of its own next report. -/
  srtcp : Nat
  deriving DecidableEq, Repr

/-- A slot write that awaits its acknowledgement (R284): entry, TAG, sequence number. -/
structure Delivery where
  entry : Nat
  tag : BitVec 16
  x : Nat
  deriving DecidableEq, Repr

/-- A service port (R277). -/
structure VoicePort where
  linkUp : Bool
  streams : List Stream
  deliveries : List Delivery
  nextTag : BitVec 16
  /-- SVC_PORT_COUNTERS (R293). -/
  counters : List W64
  /-- Echo replies sent in the present second (R278). -/
  echoes : Nat
  deriving DecidableEq, Repr

/-- A port at reset. -/
def VoicePort.reset : VoicePort :=
  { linkUp := false, streams := [], deliveries := [], nextTag := 0, counters := List.replicate 8 0, echoes := 0 }

/-- An exchange's working state (R290): answers to its last SEQ values, where its latest valid datagram came from, its next event serial. -/
structure Exchange where
  answers : List (W32 × List Byte)
  from_ : Option (Nat × UdpAddr)
  next : W32
  deriving DecidableEq, Repr

/-- An exchange before its first datagram. -/
def Exchange.reset : Exchange := { answers := [], from_ := none, next := 0 }

/-- An event that no EVENT_ACK has answered: exchange, serial, datagram, sends (R290). -/
structure SvcEvent where
  exch : Nat
  serial : W32
  bytes : List Byte
  sends : Nat
  deriving DecidableEq, Repr

/-- The voice service: ports, exchanges, unacknowledged events, and what the ports have sent. -/
structure Voice where
  ports : Tbl VoicePort
  exchanges : Tbl Exchange
  events : List SvcEvent
  /-- Session-control datagrams that wait at the lead keeper, with the port they came by, oldest first. -/
  ctl : List (Nat × Datagram)
  /-- The frames that the ports have sent, without FCS, oldest first. -/
  frames : List (Nat × List Byte)
  deriving DecidableEq, Repr

/-- The voice service at reset. -/
def Voice.reset : Voice := { ports := [], exchanges := [], events := [], ctl := [], frames := [] }

/-- The key of an object's value: index, instance, subindex. -/
def objKey (idx inst sub : Nat) : Nat := idx * 2 ^ 24 + inst * 2 ^ 8 + sub

/-- The panel's start and state (R464–R472). -/
structure Boot where
  /-- PANEL_STATE (R470). -/
  state : Nat
  wave : Nat
  /-- BOOT_REPORT: combs, stores, reference; and whether the entries that record a failure have been read. -/
  combs : Tbl Nat
  stores : Tbl Nat
  reference : W64
  alertRead : Bool
  /-- Colonies to deploy again after a warm restart (R468 K1). -/
  redeploy : List Nat
  deriving DecidableEq, Repr

/-- The panel before its first start: POWERING. -/
def Boot.reset : Boot :=
  { state := 0, wave := 0xFF, combs := [], stores := [], reference := 0, alertRead := true, redeploy := [] }

end Sys2Proof.Machine
end

