-- ==== Sys2Proof/Machine/State.lean ====
section
/-!
DEFINITION. The state of the panel: combs, stores, keepers, colonies, networks, and the queue of waiting commands.
-/
namespace Sys2Proof.Machine

/-- Why a step stops. -/
inductive Fault where
  /-- A link command names an edge that R14 does not provide (R341). Safe: no such link exists. -/
  | noSuchUnit
  deriving DecidableEq, Repr

/-- Why a command has no meaning. -/
inductive Refusal where
  /-- The command's meaning has not been written. Raised by exec's refused arms alone. Safe. -/
  | notModelled (mnemonic : String)
  /-- prd or pwr of a register number 0x800–0xFFF: a steward or keeper peripheral whose behaviour the spec does not give (R124).
  Safe. -/
  | peripheral
  deriving DecidableEq, Repr

/-- The panel. -/
structure State where
  combInit : Comb
  combs : Tbl Comb
  storeInit : Store
  stores : Tbl Store
  west : Keeper
  east : Keeper
  net : Net
  colonies : Tbl Colony
  /-- The lead keeper (R487). -/
  lead : Half
  /-- What the keeper holds of a colony beside its life cycle. -/
  works : Tbl ColonyWork
  /-- COLONY_ENERGY of the overhead account (R217). -/
  overhead : W64
  /-- A cell's counts of activity at its last charge, by site × 256 + physical number: cycles, busy cycles of the engines, mover bytes
  (R216). -/
  energyMarks : Tbl (List W64)
  sessions : List Session
  mgmt : Mgmt
  log : Log
  birth : Birth
  ident : Ident
  /-- The swarm as last committed: epoch, and the panels' numbers and UIDs (R516). -/
  swarmEpoch : W32
  swarmMembers : List (Nat × List Byte)
  /-- Serial of the next SWARM_MSG (R360). -/
  swarmSerial : W32
  boot : Boot
  voice : Voice
  power : PanelPower
  /-- How many free values have been drawn: the model's own field, not the spec's (log 3). -/
  free : Nat
  /-- The commands that wait, first in, first out. -/
  pending : List Instr
  deriving DecidableEq, Repr

/-- The panel at power-up. -/
def State.reset : State :=
  { combInit := Comb.powerUp, combs := [], storeInit := Store.powerUp, stores := [], west := Keeper.reset, east := Keeper.reset,
    net := Net.reset, colonies := [], lead := .west, works := [], overhead := 0, energyMarks := [], sessions := [],
    mgmt := Mgmt.reset, log := { next := 1, recs := [], overwritten := 0, opens := [], persistent := [], fences := [], released := [], cursor := 1 },
    birth := Birth.allGood, ident := Ident.reset, swarmEpoch := 0, swarmMembers := [], swarmSerial := 0, boot := Boot.reset, voice := Voice.reset, power := PanelPower.reset, free := 0, pending := [] }

end Sys2Proof.Machine
end

