-- ==== Sys2Proof/Machine/Ops.lean ====
section
/-!
DEFINITION. The named operations over the panel's state: reaching a comb, cell, core or memory; error records; narrow and wide
memory accesses; taking a trap; sending packets; free values.
-/
namespace Sys2Proof.Machine

/-! ### Objects that the hardware reads -/

/-- The written value of a management object; none is the default (R526). -/
def State.objVal (s : State) (idx inst sub : Nat) : Option (List Byte) := Tbl.get none s.mgmt.objs (objKey idx inst sub)

/-- The value of a numeric object, with its default. -/
def State.objNum (s : State) (idx inst sub dflt : Nat) : Nat :=
  match s.objVal idx inst sub with
  | some v => leBytes v
  | none => dflt

/-- SWARM_PANEL as committed (R214). -/
def State.swarmPanel (s : State) : Byte := BitVec.ofNat 8 (s.objNum 0x2030 0 0 0)

/-- COLONY_LAYOUT as words: header, bridge words, segment words (R199). -/
def State.layout (s : State) (c : Nat) : List W64 := words64 ((s.objVal 0x5010 c 0).getD [])

/-- KEEPER_TIME of the lead keeper (R452). -/
def State.leadTime (s : State) : W64 :=
  match s.lead with
  | .west => s.west.time
  | .east => s.east.time

/-! ### Reaching the parts -/

/-- The comb at a site. -/
def State.comb (s : State) (i : Site) : Comb := Tbl.get s.combInit s.combs i.val

/-- The panel with one comb replaced. -/
def State.setComb (s : State) (i : Site) (c : Comb) : State := { s with combs := Tbl.put s.combInit s.combs i.val c }

/-- The panel with one comb changed by a function. -/
def State.modComb (s : State) (i : Site) (f : Comb → Comb) : State := s.setComb i (f (s.comb i))

/-- The cell at a physical site of a comb. -/
def Comb.cell (c : Comb) (p : Phys) : Cell := Tbl.get c.cellInit c.cells p.val

/-- The comb with one cell replaced. -/
def Comb.setCell (c : Comb) (p : Phys) (x : Cell) : Comb := { c with cells := Tbl.put c.cellInit c.cells p.val x }

/-- The cell at a site. -/
def State.cell (s : State) (c : CellAt) : Cell := (s.comb c.site).cell c.phys

/-- The panel with one cell replaced. -/
def State.setCell (s : State) (c : CellAt) (x : Cell) : State := s.modComb c.site (fun k => k.setCell c.phys x)

/-- The panel with one cell changed by a function. -/
def State.modCell (s : State) (c : CellAt) (f : Cell → Cell) : State := s.setCell c (f (s.cell c))

/-- The keeper of a half. -/
def State.keeper (s : State) : Half → Keeper
  | .west => s.west
  | .east => s.east

/-- The panel with one keeper replaced. -/
def State.setKeeper (s : State) : Half → Keeper → State
  | .west, k => { s with west := k }
  | .east, k => { s with east := k }

/-- The core of a cell, steward or keeper (R121). -/
def State.core (s : State) : CoreId → Core
  | .cell i p => ((s.comb i).cell p).core
  | .steward i => (s.comb i).steward
  | .keeper h k => Tbl.get Core.reset (s.keeper h).cores k.val

/-- The panel with one core replaced. -/
def State.setCore (s : State) : CoreId → Core → State
  | .cell i p, x => s.modCell ⟨i, p⟩ (fun c => { c with core := x })
  | .steward i, x => s.modComb i (fun c => { c with steward := x })
  | .keeper h k, x => s.setKeeper h { s.keeper h with cores := Tbl.put Core.reset (s.keeper h).cores k.val x }

/-- The panel with one core changed by a function. -/
def State.modCore (s : State) (i : CoreId) (f : Core → Core) : State := s.setCore i (f (s.core i))

/-- The task a worker command names. -/
def State.task (s : State) (a : At) : Task := (s.core a.core).tasks.get a.task

/-- The panel with one task replaced. -/
def State.setTask (s : State) (a : At) (t : Task) : State :=
  s.modCore a.core (fun c => { c with tasks := c.tasks.set a.task.val t a.task.isLt })

/-- The panel with one task changed by a function. -/
def State.modTask (s : State) (a : At) (f : Task → Task) : State := s.setTask a (f (s.task a))

/-- Whether a core is a cell worker, which runs without the privileged extension (R121). -/
def isCell : CoreId → Bool
  | .cell _ _ => true
  | .steward _ => false
  | .keeper _ _ => false

/-- The local memory of a core (R46, R121). -/
def State.ram (s : State) : CoreId → Ram
  | .cell i p => ((s.comb i).cell p).cmem
  | .steward i => (s.comb i).stewardMem
  | .keeper h _ => (s.keeper h).mem

/-- The panel with a core's local memory replaced. -/
def State.setRam (s : State) : CoreId → Ram → State
  | .cell i p, x => s.modCell ⟨i, p⟩ (fun c => { c with cmem := x })
  | .steward i, x => s.modComb i (fun c => { c with stewardMem := x })
  | .keeper h _, x => s.setKeeper h { s.keeper h with mem := x }

/-- Words of local memory (R46, R121). -/
def memWordsOf : CoreId → Nat
  | .cell _ _ => 458752
  | .steward _ => 524288
  | .keeper _ _ => 16777216

/-! ### Site map and identities (R18, R21–R24, R62) -/

/-- A site map word before any fence: slot s at position s, spare 11 (R19 on a map with every position good, log 1). -/
def siteMapDefault : W64 := 0x0000BA9876543210

/-- The site map word of a frame (R18). -/
def Comb.mapWord (c : Comb) (f : Nat) : W64 := Tbl.get siteMapDefault c.siteMap f

/-- The position of a slot in a site map word; 15 is unmapped (R18). -/
def slotPos (w : W64) (slot : Nat) : Nat := w.toNat / 16 ^ slot % 16

/-- The spare position of a site map word; 15 is none (R18). -/
def sparePos (w : W64) : Nat := w.toNat / 2 ^ 44 % 16

/-- The slot that sits at a position of a site map word (R17). -/
def slotAt (w : W64) (pos : Nat) : Option Nat := (List.range 11).find? (fun k => slotPos w k == pos)

/-- The logical cell at a physical site, 0xFF when it holds none (R18, R62). -/
def Comb.logicalOf (c : Comb) (p : Phys) : Nat :=
  match slotAt (c.mapWord (frameOf p)) (posOf p) with
  | some k => frameOf p * 11 + k
  | none => 0xFF

/-- The physical site of a logical cell, if its slot is mapped (R18). -/
def Comb.physOf (c : Comb) (l : Nat) : Option Phys :=
  if h : l / 11 * 12 + slotPos (c.mapWord (l / 11)) (l % 11) < 192 then
    if slotPos (c.mapWord (l / 11)) (l % 11) < 12 then some ⟨_, h⟩ else none
  else none

/-- An endpoint identifier of this panel (R21). -/
def State.eid (s : State) (site ep : Nat) : Eid := BitVec.ofNat 24 (s.swarmPanel.toNat * 65536 + site * 256 + ep)

/-- The endpoint identifier of a core; a cell's is its logical identifier (R23, R24, R298). -/
def State.eidOf (s : State) : CoreId → Eid
  | .cell i p => s.eid i.val ((s.comb i).logicalOf p)
  | .steward i => s.eid i.val 0xB9
  | .keeper h k => s.eid (0xF0 + h.code) k.val

/-- TSK_CELL_BIND of a cell (R62). -/
def State.bindReg (s : State) (c : CellAt) : W64 :=
  BitVec.ofNat 64 ((s.cell c).colony.toNat * 65536 + (s.comb c.site).logicalOf c.phys)

/-! ### Free values -/

/-- A fresh open value, and the panel with one more drawn (log 3). -/
def State.draw (s : State) : W64 × State := (Config.freeValue s.free, { s with free := s.free + 1 })

/-! ### Error records (R473–R476) -/

/-- An error record as its unit sends it (R474). -/
def mkErr (code sev kind inst : Nat) (source : Eid) (addr info0 info1 : W64) : ErrRec :=
  { serial := 0, code := BitVec.ofNat 16 code, severity := BitVec.ofNat 8 sev, kind := BitVec.ofNat 8 kind, inst := inst,
    source := source, flags := 0, time := 0, addr := addr, info0 := info0, info1 := info1, colony := 0xFF,
    orig := BitVec.ofNat 8 sev, rep := 0, cause := 0, arrival := 0 }

/-- Sends an error record to the steward, or keeper, at a site byte (R475). -/
def State.sendErr (s : State) (site : Nat) (r : ErrRec) : State :=
  { s with net := { s.net with err := s.net.err ++ [{ site := site, rec_ := r }] } }

/-- CMEM_ERR (R63). -/
def Cell.cmemErrReg (c : Cell) : W64 :=
  BitVec.ofNat 64 (c.ceCount.toNat * 2 ^ 48 + c.ueCount.toNat * 2 ^ 32 + c.lastAddr.toNat)

/-- The instance of a cell domain: site code × 256 + physical site number (R473). -/
def cellInst (c : CellAt) : Nat := c.site.val * 256 + c.phys.val

/-- The cell site that a cell domain's INSTANCE names (R473). -/
def cellOfInst (n : Nat) : Option CellAt :=
  if h : n / 256 < 224 ∧ n % 256 < 192 then some ⟨⟨n / 256, h.1⟩, ⟨n % 256, h.2⟩⟩ else none

/-- Sets a TSK_CELL_ERR bit; its 0-to-1 transition sends a record: CMEM_UE (2) and ACC_UE (3) contained, the others corrected (R63). -/
def State.setCellErr (s : State) (c : CellAt) (b : Nat) : State :=
  if bit (s.cell c).err b then s
  else
    let s1 := s.modCell c (fun x => { x with err := setBit x.err b true })
    let info0 := (s1.cell c).err.setWidth 64
    let src := s.eidOf (.cell c.site c.phys)
    let r := if b = 2 then mkErr 0x0102 1 1 (cellInst c) src ((s.cell c).lastAddr.setWidth 64) info0 (s1.cell c).cmemErrReg
      else if b = 3 then mkErr 0x0103 1 1 (cellInst c) src 0 info0 0
      else mkErr 0x0104 0 1 (cellInst c) src 0 info0 0
    s1.sendErr c.site.val r

/-- TSK_CELL_ERR bits (R63). -/
def errStaticWr : Nat := 0
def errBadWr : Nat := 1
def errCmemUe : Nat := 2
def errAccUe : Nat := 3
def errRxWin : Nat := 4

/-! ### Memory (R46–R48) -/

/-- The word at an address of a RAM. -/
def Ram.word (r : Ram) (a : Nat) : W32 := Tbl.get Ram.unlisted r.words a

/-- The ECC state of a word. -/
def Ram.eccOf (r : Ram) (a : Nat) : Ecc := Tbl.get Ecc.good r.ecc a

/-- The RAM after words are written from an address up, with valid ECC. -/
def Ram.write (r : Ram) (a : Nat) (ws : List W32) : Ram :=
  { words := Tbl.putAll Ram.unlisted r.words a ws, ecc := Tbl.clear r.ecc a ws.length }

/-- The words of a RAM from an address up. -/
def Ram.read (r : Ram) (a n : Nat) : List W32 := Tbl.getAll Ram.unlisted r.words a n

/-- The first uncorrectable word in a range. -/
def Ram.firstUe (r : Ram) (a n : Nat) : Option Nat := (List.range n).find? (fun i => r.eccOf (a + i) == .double) |>.map (a + ·)

/-- How many words of a range hold a single-bit error. -/
def Ram.ceIn (r : Ram) (a n : Nat) : List Nat := ((List.range n).filter (fun i => r.eccOf (a + i) == .single)).map (a + ·)

/-- Counts corrected words and, when one is met, an uncorrectable word of a cell memory read (R48). -/
def State.noteRead (s : State) (c : CellAt) (ces : List Nat) (ue : Option Nat) : State :=
  let s1 := match ces.getLast? with
    | none => s
    | some a => s.modCell c (fun x => { x with ceCount := BitVec.ofNat 16 (satAdd 16 x.ceCount.toNat ces.length), lastAddr := BitVec.ofNat 19 a })
  match ue with
  | none => s1
  | some a =>
    (s1.modCell c (fun x => { x with ueCount := satInc x.ueCount, lastAddr := BitVec.ofNat 19 a })).setCellErr c errCmemUe

/-- A read of local memory by a core: the words, or the uncorrectable address met, and the counts kept (R48). -/
def State.memRead (s : State) (i : CoreId) (a n : Nat) : Except Nat (List W32) × State :=
  let r := s.ram i
  let s1 := match i with
    | .cell si p => s.noteRead ⟨si, p⟩ (r.ceIn a n) (r.firstUe a n)
    | _ => s
  match r.firstUe a n with
  | some u => (.error u, s1)
  | none => (.ok (r.read a n), s1)

/-! ### Program counters and traps (R92, R117–R119, R126, R127) -/

/-- The program counter wraps at 20 bits on a cell task and at 24 bits on a privileged core (R92, R121; log 5). -/
def pcWrap (i : CoreId) (v : Nat) : BitVec 24 := if isCell i then BitVec.ofNat 24 (v % 2 ^ 20) else BitVec.ofNat 24 v

/-- next_pc (R100). -/
def nextPc (i : CoreId) (pc : BitVec 24) : BitVec 24 := pcWrap i (pc.toNat + 1)

/-- x[n] (R100): w0 reads as zero (R92). -/
def Task.x (t : Task) (n : Reg) : W64 := if n = 0 then 0 else t.regs.get n.toFin

/-- set(n, v) (R100): discarded when n = 0. A later write to a register drops a result still on its way to it (log 5). -/
def Task.set (t : Task) (n : Reg) (v : W64) : Task :=
  if n = 0 then t
  else { t with regs := t.regs.set n.toNat v n.isLt, pend := t.pend.filter (fun e => e.1 ≠ n) }

/-- p[n] (R100). -/
def Task.p (t : Task) (n : PReg) : Bool := bit t.preds n.toNat

/-- Sets a predicate. -/
def Task.setP (t : Task) (n : PReg) (b : Bool) : Task := { t with preds := setBit t.preds n.toNat b }

/-- Trap causes (R117). -/
def cIllegal : Byte := 0x01
def cPrivileged : Byte := 0x02
def cFetchBound : Byte := 0x03
def cFetchPerm : Byte := 0x04
def cFetchUe : Byte := 0x05
def cDataBound : Byte := 0x06
def cDataPerm : Byte := 0x07
def cMisaligned : Byte := 0x08
def cDataUe : Byte := 0x09
def cIssueBound : Byte := 0x0A
def cIssuePerm : Byte := 0x0B
def cIssueAlign : Byte := 0x0C
def cNested : Byte := 0x0D

/-- TRAP record INFO0: cause, task and TSK_PC (R474). -/
def trapInfo (cause : Byte) (t : TaskId) (pc : BitVec 24) : W64 :=
  BitVec.ofNat 64 (cause.toNat + t.val * 256 + pc.toNat % 2 ^ 20 * 2 ^ 32)

/-- Whether trap records of a colony are contained against it (0 RESTART) or only reported (1 REPORT), by COLONY_TRAP_POLICY (R482). -/
def State.trapReports (s : State) (colony : Byte) : Bool := s.objNum 0x501A colony.toNat 0 0 == 1

/-- The record of a trap on a cell task (R482): DATA_UE and FETCH_UE contained against the cell; otherwise against the colony, or
corrected against the cell under policy REPORT. A task of an unbound cell has no colony: corrected against the cell (log 5). -/
def State.trapRec (s : State) (c : CellAt) (t : TaskId) (cause : Byte) (pc : BitVec 24) (addr : W64) : ErrRec :=
  let src := s.eidOf (.cell c.site c.phys)
  let col := (s.cell c).colony
  if cause = cDataUe ∨ cause = cFetchUe then mkErr 0x0101 1 1 (cellInst c) src addr (trapInfo cause t pc) 0
  else if col = 0xFF ∨ s.trapReports col then mkErr 0x0101 0 1 (cellInst c) src addr (trapInfo cause t pc) 0
  else mkErr 0x0101 1 6 col.toNat src addr (trapInfo cause t pc) 0

/-- The entry to a privileged trap handler (R126): PRV_TPC, PRV_TCAUSE, PRV_TVAL saved, IN_TRAP set, pc := PRV_TVEC. -/
def Task.enterTrap (t : Task) (cause : Byte) (pc : BitVec 24) (addr : W64) : Task :=
  let prv := { t.prv with tpc := pc, tcause := cause, tval := addr, tstatus := setBit t.prv.tstatus 0 true }
  { t with st := .active, wait := .none, pc := t.prv.tvec, prv := prv }

/-- Takes a trap with the pc that TSK_PC is to hold (R118, R119). A cell task, and a privileged task already in a trap, stops in
TRAPPED and a report is sent; otherwise the privileged core saves pc, cause and address and goes to PRV_TVEC (R126, R127). -/
def State.trapAt (s : State) (a : At) (cause : Byte) (pc : BitVec 24) (addr : W64) : State :=
  match a.core with
  | .cell si p =>
    (s.modTask a (fun t => { t with st := .trapped, trapCause := cause, pc := pc, wait := .none })).sendErr si.val
      (s.trapRec ⟨si, p⟩ a.task cause pc addr)
  | .steward si =>
    if bit (s.task a).prv.tstatus 0 then
      (s.modTask a (fun t => { t with st := .trapped, trapCause := cNested, pc := pc, wait := .none })).sendErr si.val
        (mkErr 0x0201 1 3 si.val (s.eidOf a.core) addr (trapInfo cNested a.task pc) 0)
    else s.modTask a (fun t => t.enterTrap cause pc addr)
  | .keeper h _ =>
    if bit (s.task a).prv.tstatus 0 then
      (s.modTask a (fun t => { t with st := .trapped, trapCause := cNested, pc := pc, wait := .none })).sendErr (0xF0 + h.code)
        (mkErr 0x0701 1 7 (0xF0 + h.code) (s.eidOf a.core) addr (trapInfo cNested a.task pc) 0)
    else s.modTask a (fun t => t.enterTrap cause pc addr)

/-- Takes a trap at the instruction being issued (R118). -/
def State.trap (s : State) (a : At) (cause : Byte) (addr : W64) : State := s.trapAt a cause (s.task a).pc addr

/-- The return from a privileged trap handler (R124): pc := PRV_TPC, IN_TRAP := 0. -/
def Task.tret (t : Task) : Task := { t with pc := t.prv.tpc, prv := { t.prv with tstatus := setBit t.prv.tstatus 0 false } }

/-! ### Which cores run -/

/-- PST_SITE.STATE of a site: 5 Dark at comb power-up (R439). -/
def Comb.siteSt (c : Comb) (p : Phys) : Nat := Tbl.get 5 c.pw.siteState p.val

/-- Does the core take cycles: a cell that is ready, in Noon, not quiesced and with its clock running (R57, R58, R422, R449)? -/
def State.coreRuns (s : State) : CoreId → Bool
  | .cell i p =>
    let c := (s.comb i).cell p
    c.ready && !c.inReset && !c.quiescing && !c.quiesced && !c.clk.changing && decide ((s.comb i).siteSt p = 0)
  | _ => true

/-! ### Writes to local memory, and the waits they end (R93, R112) -/

/-- Ends a task's wait: rd := v, the pc moves on, the task is ACTIVE (R97). -/
def State.endWait (s : State) (a : At) (rd : Reg) (v : W64) : State :=
  s.modTask a (fun t => { (t.set rd v) with st := .active, wait := .none, pc := nextPc a.core t.pc })

/-- One evaluation of a waiting `waitw` (R112): a differing word ends it with rd := 0, an uncorrectable word traps. -/
def State.evalWaitw (s : State) (a : At) : State :=
  match (s.task a).wait with
  | .waitw rd phys val _ =>
    if (s.task a).st = .waiting ∧ s.coreRuns a.core then
      match s.memRead a.core phys 1 with
      | (.error _, s1) => s1.trap a cDataUe (BitVec.ofNat 64 phys)
      | (.ok ws, s1) => if nth 0 ws 0 = val then s1 else s1.endWait a rd 0
    else s
  | _ => s

/-- Does a waiting `waitw` watch a word in one of the lines of a written range (R112)? -/
def Task.watches (t : Task) (a n : Nat) : Bool :=
  match t.wait with
  | .waitw _ phys _ _ => decide (a / 64 ≤ phys / 64 ∧ phys / 64 ≤ (a + n - 1) / 64)
  | _ => false

/-- The eight tasks of a core. -/
def tasksOf (i : CoreId) : List At := (List.finRange 8).map (fun t => ⟨i, t⟩)

/-- Re-evaluates every `waitw` of the cores that share a memory, after a write to it (R112). -/
def State.wake (s : State) (i : CoreId) (a n : Nat) : State :=
  let cores := match i with
    | .keeper h _ => (List.finRange 16).map (fun k => CoreId.keeper h k)
    | _ => [i]
  (cores.flatMap tasksOf).foldl (fun s t => if (s.task t).watches a n then s.evalWaitw t else s) s

/-- A performed write to local memory: the words change, and waiting `waitw`s look again (R112, R186). -/
def State.memWrite (s : State) (i : CoreId) (a : Nat) (ws : List W32) : State :=
  ((s.setRam i ((s.ram i).write a ws))).wake i a ws.length

/-! ### Windows (R51, R54, R55) -/

/-- The outcome of a window check. -/
inductive Chk where
  | ok (phys : Nat)
  | bound
  | perm
  deriving DecidableEq, Repr

/-- A right of R51. -/
structure Right where
  r : Bool
  w : Bool
  x : Bool
  deriving DecidableEq, Repr

def rightR : Right := { r := true, w := false, x := false }
def rightW : Right := { r := false, w := true, x := false }
def rightX : Right := { r := false, w := false, x := true }
def rightRW : Right := { r := true, w := true, x := false }

/-- Does a cell window grant a right (R53)? -/
def winGrants (win : W64) (q : Right) : Bool :=
  (!q.r || bit win 48) && (!q.w || bit win 49) && (!q.x || bit win 50)

/-- The check of R51: `n` words at virtual address `va` through two windows. -/
def winCheck (win0 win1 : W64) (va n : Nat) (q : Right) : Chk :=
  let win := if va / 2 ^ 19 % 2 = 1 then win1 else win0
  let o := va % 2 ^ 19
  if va ≥ 2 ^ 20 then .bound
  else if !bit win 63 then .bound
  else if o + n > fld win 28 16 * 64 then .bound
  else if !winGrants win q then .perm
  else .ok (fld win 12 0 * 64 + o)

/-- A local access of a core: through the task's windows on a cell (R51), physical on a privileged core (R121). -/
def State.check (s : State) (a : At) (va n : Nat) (q : Right) : Chk :=
  if isCell a.core then winCheck (s.task a).cwin0 (s.task a).cwin1 va n q
  else if va + n > memWordsOf a.core then .bound else .ok va

/-- The store window of a task by number (R55). -/
def swinOf (sw : List W64) (i : Nat) : W64 := nth 0 sw i

/-- The check of R55: `n` bytes at a virtual store address. A failing access traps as in R51. -/
inductive StoChk where
  | ok (x : StoAddr)
  | bound
  | perm
  deriving DecidableEq, Repr

/-- The check of R55 through four store windows. -/
def stoCheck (sw : List W64) (va n : Nat) (r w : Bool) : StoChk :=
  let win := swinOf sw (va / 2 ^ 36 % 4)
  let o := va % 2 ^ 36
  if !bit win 63 then .bound
  else if o + n > fld win 39 20 * 65536 then .bound
  else if (r && !bit win 61) || (w && !bit win 62) then .perm
  else .ok { via := BitVec.ofNat 8 (fld win 60 53), store := fld win 52 46, addr := fld win 19 0 * 65536 + o }

/-- A task's store windows. -/
def Task.swins (t : Task) : List W64 := [t.swin0, t.swin1, t.swin2, t.swin3]

/-! ### Counts of commands not complete (R44, R111, R195) -/

/-- How many descriptors of a list a task issued. -/
def countTask (t : TaskId) (qs : List Queued) : Nat := (qs.filter (fun q => q.task = t)).length

/-- A running command as a list. -/
def Engine.all (e : Engine) : List Queued :=
  match e.running with
  | some r => r.q :: e.queue
  | none => e.queue

/-- A mover's descriptors not complete. -/
def Mover.all (m : Mover) : List Queued := m.started.map (·.q) ++ m.queue

/-- A mover of a core. -/
def Core.mover (c : Core) (m : Fin 2) : Mover := if m = 0 then c.mov0 else c.mov1

/-- A core with one mover replaced. -/
def Core.setMover (c : Core) (m : Fin 2) (x : Mover) : Core := if m = 0 then { c with mov0 := x } else { c with mov1 := x }

/-- The descriptors not complete at a unit of a core: 0 matrix, 1 vector, 2 and 3 movers, 4 sampler (R109, R111). -/
def State.unitAll (s : State) (i : CoreId) (u : Nat) : List Queued :=
  match u with
  | 2 => (s.core i).mov0.all
  | 3 => (s.core i).mov1.all
  | _ =>
    match i with
    | .cell si p =>
      let c := (s.comb si).cell p
      if u = 0 then c.mxe.all else if u = 1 then c.vxe.all else if u = 4 then c.smpOut.map (·.q) ++ c.smpQ else []
    | _ => []

/-- The exact count of R111 for a task and a unit; 7 is all units. -/
def State.count (s : State) (a : At) (u : Nat) : Nat :=
  if u = 7 then ((List.range 5).map (fun k => countTask a.task (s.unitAll a.core k))).foldl (· + ·) 0
  else countTask a.task (s.unitAll a.core u)

/-- OUTSTANDING before saturation (R44). -/
def State.outstanding (s : State) (a : At) : Nat := s.count a 7

/-- A STOPPING task with nothing outstanding becomes STOPPED (R42). -/
def State.settleStop (s : State) (a : At) : State :=
  if (s.task a).st = .stopping ∧ s.outstanding a = 0 ∧ (s.task a).load = none then s.modTask a (fun t => { t with st := .stopped })
  else s

/-- A `twait` whose count has fallen far enough ends (R111). -/
def State.evalTwait (s : State) (a : At) : State :=
  match (s.task a).wait with
  | .twait u lim =>
    if (s.task a).st = .waiting ∧ s.coreRuns a.core ∧ s.count a u.toNat ≤ lim.toNat then s.endWait a 0 0 else s
  | _ => s

/-- What follows a fall of a task's counts: a STOPPING task may stop, a `twait` may end (R42, R111, R134 step 4). -/
def State.countFell (s : State) (a : At) : State := (s.settleStop a).evalTwait a

/-! ### Packets -/

/-- Puts a data packet on the bulk network (R301). -/
def State.sendData (s : State) (p : DataPkt) : State :=
  { s with net := { s.net with bulk := s.net.bulk ++ [{ pkt := p, at_ := none, high := false, held := false }] } }

/-- Puts a control packet on the control network (R298). -/
def State.sendCtl (s : State) (p : CtlPkt) : State :=
  { s with net := { s.net with ctl := s.net.ctl ++ [{ pkt := p, at_ := none, high := false, held := false }] } }

/-- Takes one copy of a data packet off the network, when it arrives. -/
def State.takeData (s : State) (p : DataPkt) : State :=
  { s with net := { s.net with bulk := s.net.bulk.eraseP (fun f => f.pkt = p) } }

/-- Takes one copy of a control packet off the network, when it arrives. -/
def State.takeCtl (s : State) (p : CtlPkt) : State :=
  { s with net := { s.net with ctl := s.net.ctl.eraseP (fun f => f.pkt = p) } }

/-- One step of a CRC register over one bit, most significant bit first. -/
def crcBit (w poly : Nat) (r : Nat) (b : Bool) : Nat :=
  let top := r / 2 ^ (w - 1) % 2
  let r2 := r * 2 % 2 ^ w
  if (top == 1) != b then r2 ^^^ poly else r2

/-- A CRC over the bits of a number from bit `n - 1` down (R298, R301, R323). -/
def crcOver (w poly : Nat) : Nat → Nat → Nat → Nat
  | 0, _, r => r
  | n + 1, v, r => crcOver w poly n v (crcBit w poly r (v / 2 ^ n % 2 == 1))

/-- CRC6 of a control packet: bits [127:70], then [63:0] (R298). -/
def ctlCrc6 (p : CtlPkt) : BitVec 6 :=
  let hi := ((p.gen.toNat * 256 + p.cls.toNat) * 2 ^ 24 + p.dst.toNat) * 2 ^ 24 + p.src.toNat
  BitVec.ofNat 6 (crcOver 6 3 64 p.payload.toNat (crcOver 6 3 58 hi 0x3F))

/-- A control packet with its CRC (R298). -/
def mkCtl (cls : Nat) (dst src : Eid) (payload : W64) : CtlPkt :=
  let p : CtlPkt := { gen := 0, cls := BitVec.ofNat 8 cls, dst := dst, src := src, crc := 0, payload := payload }
  { p with crc := ctlCrc6 p }

/-- HCRC of a data packet: header bits [127:8] (R301). -/
def dataHcrc (p : DataPkt) : Byte :=
  let h1 := ((p.gen.toNat * 64 + p.type.toNat) * 2 ^ 24 + p.dst.toNat) * 2 ^ 24 + p.src.toNat
  let h2 := (((h1 * 256 + p.colony.toNat) * 64 + p.lenM1.toNat) * 4 + p.ep.toNat) * 2 ^ 32 + p.addr.toNat
  BitVec.ofNat 8 (crcOver 8 7 120 (h2 * 65536 + p.tag.toNat) 0xFF)

/-- A data packet from its fields and payload words, padded to whole flits, with its HCRC (R301). -/
def mkData (type : Nat) (dst src : Eid) (colony : Byte) (ep : Nat) (addr : Nat) (tag : BitVec 16) (ws : List W32) : DataPkt :=
  let flits := max 1 (cdiv ws.length 16)
  let p : DataPkt :=
    { gen := 0, type := BitVec.ofNat 6 type, dst := dst, src := src, colony := colony, lenM1 := BitVec.ofNat 6 (flits - 1),
      ep := BitVec.ofNat 2 ep, addr := BitVec.ofNat 32 addr, tag := tag, hcrc := 0, badPayload := false,
      payload := fitTo 0 (16 * flits) ws }
  { p with hcrc := dataHcrc p }

/-- NACK reasons (R315, R378, R361). -/
def nkInReset : Nat := 0x01
def nkNoEndpoint : Nat := 0x02
def nkOutside : Nat := 0x03
def nkNotPermitted : Nat := 0x04
def nkQueueFull : Nat := 0x05
def nkBadGen : Nat := 0x06
def nkBadPacket : Nat := 0x07
def nkPayload : Nat := 0x08
def nkRemoteUe : Nat := 0x09
def nkStoreFenced : Nat := 0x0A
def nkNoReceiver : Nat := 0x0B
def nkLinkDown : Nat := 0x0C
def nkEpochStale : Nat := 0x0D
def nkAddrRange : Nat := 0x40
def nkNotOwned : Nat := 0x41
def nkBadList : Nat := 0x42
def nkTesting : Nat := 0x43
def nkMode : Nat := 0x50

/-- Answers a data packet with a NACK (R314): TAG, NET 0, TYPE and reason. -/
def State.nackData (s : State) (src : Eid) (p : DataPkt) (reason : Nat) : State :=
  s.sendCtl (mkCtl 0x05 p.src src (BitVec.ofNat 64 (p.tag.toNat * 2 ^ 32 + p.type.toNat * 256 + reason)))

/-- Answers a control request with a NACK (R314): TASK, NET 1, CLASS and reason. A NACK is never answered with a NACK. -/
def State.nackCtl (s : State) (src : Eid) (p : CtlPkt) (reason : Nat) : State :=
  if p.cls = 0x05 then s
  else s.sendCtl (mkCtl 0x05 p.src src
    (BitVec.ofNat 64 (fld p.payload 18 16 * 2 ^ 32 + 2 ^ 16 + p.cls.toNat * 256 + reason)))

/-- Acknowledges a data packet (R302): control class ACK with its TAG. -/
def State.ackData (s : State) (src : Eid) (p : DataPkt) : State :=
  s.sendCtl (mkCtl 0x04 p.src src (p.tag.setWidth 64))

end Sys2Proof.Machine
end

