-- ==== Sys2Proof/Machine/Operands.lean ====
section
/-!
DEFINITION. Issuing a worker instruction, and the operand forms of descriptors: where each opcode's operands lie, how many words
they span, and how the worker checks and translates them (R36, R93, R109, R110, R129, R140–R143, R152, R161, R172, R174, R175).
-/
namespace Sys2Proof.Machine

/-! ### Issue (R36, R95, R97) -/

/-- Is a result still on its way to a register (R95)? -/
def Task.isPending (t : Task) (r : Reg) : Bool := r ≠ 0 && t.pend.any (fun e => e.1 = r)

/-- May the task issue an instruction that reads these registers (R36, R95)? -/
def State.canIssue (s : State) (a : At) (reads : List Reg) : Bool :=
  s.coreRuns a.core && decide ((s.task a).st = .active) && (s.task a).load.isNone &&
  reads.all (fun r => !(s.task a).isPending r)

/-- The fetch at the task's pc, through its windows with the X right: the trap cause it meets, if any (R93, R117). -/
def State.fetch (s : State) (a : At) : Option Byte × State :=
  match s.check a (s.task a).pc.toNat 1 rightX with
  | .bound => (some cFetchBound, s)
  | .perm => (some cFetchPerm, s)
  | .ok phys =>
    match s.memRead a.core (phys / 64 * 64) 64 with
    | (.error _, s1) => (some cFetchUe, s1)
    | (.ok _, s1) => (none, s1)

/-- An issue is noted: the round robin starts after this task (R36). -/
def State.noteIssue (s : State) (a : At) : State := s.modCore a.core (fun c => { c with last := a.task })

/-- Issues one instruction: nothing where the task is not issuable; a fetch trap; ILLEGAL where a field breaks R100; else its own work. -/
def State.issue (s : State) (a : At) (reads : List Reg) (illegal : Bool) (body : State → State) : State :=
  if s.canIssue a reads then
    match s.fetch a with
    | (some cause, s1) => s1.trap a cause ((s.task a).pc.setWidth 64)
    | (none, s1) => if illegal then (s1.noteIssue a).trap a cIllegal 0 else body (s1.noteIssue a)
  else s

/-- The task moves on to the next instruction after a change to it. -/
def State.step1 (s : State) (a : At) (f : Task → Task) : State :=
  s.modTask a (fun t => { (f t) with pc := nextPc a.core t.pc })

/-- set(rd, v) and on to the next instruction. -/
def State.setRd (s : State) (a : At) (rd : Reg) (v : W64) : State := s.step1 a (fun t => t.set rd v)

/-- The task waits at this instruction (R97). -/
def State.waitFor (s : State) (a : At) (w : Wait) : State := s.modTask a (fun t => { t with st := .waiting, wait := w })

/-! ### Descriptor words (R129, R130) -/

/-- Fields of word 0 (R129). -/
def Queued.opcode (q : Queued) : Nat := fld q.w0 7 0
def Queued.waitBits (q : Queued) : Nat := fld q.w0 12 8
def Queued.cmode (q : Queued) : Nat := fld q.w0 14 13
def Queued.ctag (q : Queued) : Nat := fld q.w0 23 16
def Queued.cvirt (q : Queued) : Nat := fld q.w0 43 24
def Queued.lines (q : Queued) : Nat := fld q.w0 63 52 + 1
def Queued.acq (q : Queued) : Bool := bit q.w0 51
def Queued.rel (q : Queued) : Bool := bit q.w0 50
def Queued.w64 (q : Queued) : Bool := bit q.w0 49
def Queued.sub (q : Queued) : Nat := fld q.w0 47 44

/-- Does a unit define an opcode (R128)? Units: 0 matrix, 1 vector, 2 and 3 movers, 4 sampler. -/
def opcodeDefined (unit op : Nat) : Bool :=
  if unit = 0 then decide (1 ≤ op ∧ op ≤ 6)
  else if unit = 1 then decide (0x40 ≤ op ∧ op ≤ 0x45)
  else if unit = 2 ∨ unit = 3 then decide (0x80 ≤ op ∧ op ≤ 0x8A)
  else if unit = 4 then decide (op = 0xA0 ∨ op = 0xA1)
  else false

/-! ### Operand words (R140–R142) -/

/-- Element width in bits of a format code; an undefined format counts as 32 (R65, R142). -/
def fmtBits (f : Nat) : Nat :=
  if f = 1 ∨ f = 2 then 16
  else if f = 3 ∨ f = 5 ∨ f = 6 ∨ f = 10 then 8
  else if f = 7 ∨ f = 8 then 6
  else if f = 9 then 4
  else 32

/-- Is a format an MX format (R65)? -/
def isMx (f : Nat) : Bool := decide (5 ≤ f ∧ f ≤ 10)

/-- An operand word's fields (R140). -/
structure OpWord where
  aux : Nat
  form : Nat
  spitch : Nat
  sline : Nat
  pitch : Nat
  fmt : Nat
  line : Nat
  deriving DecidableEq, Repr

/-- The fields of an operand word (R140). -/
def opWord (w : W64) : OpWord :=
  { aux := fld w 63 55, form := fld w 54 53, spitch := fld w 52 45, sline := fld w 44 31, pitch := fld w 30 18,
    fmt := fld w 17 14, line := fld w 13 0 }

/-- Lines of one row: ⌈C × w / 2048⌉ (R142). -/
def rowLines (c fmt : Nat) : Nat := cdiv (c * fmtBits fmt) 2048

/-- Lines of a data range from LINE, by form: 0 TENSOR, 1 ROW, 2 COL, 3 SCALAR (R142). -/
def dataLines (o : OpWord) (form r c : Nat) : Nat :=
  if form = 0 then (r - 1) * o.pitch + rowLines c o.fmt
  else if form = 1 then rowLines c o.fmt
  else if form = 2 then cdiv (r * fmtBits o.fmt) 2048
  else 1

/-- Words of an MX scale range from SLINE × 64 (R142). -/
def scaleWords (o : OpWord) (form r c : Nat) : Nat :=
  (if form = 1 then 0 else (r - 1) * 2 * o.spitch) + cdiv (cdiv c 32) 4

/-- One cell range that the worker checks at issue. -/
structure CellReq where
  va : Nat
  n : Nat
  right : Right
  wide : Bool
  deriving DecidableEq, Repr

/-- A wide data range of an operand word. -/
def reqData (o : OpWord) (form r c : Nat) (q : Right) : CellReq :=
  { va := o.line * 64, n := dataLines o form r c * 64, right := q, wide := true }

/-- The scale range of an MX operand word; none otherwise. -/
def reqScale (o : OpWord) (form r c : Nat) (q : Right) : List CellReq :=
  if isMx o.fmt then [{ va := o.sline * 64, n := scaleWords o form r c, right := q, wide := true }] else []

/-- A packed 32-bit column at SLINE: ROWS words (R158, R159). -/
def reqCol32 (sline rows : Nat) (q : Right) : CellReq :=
  { va := sline * 64, n := cdiv (rows * 32) 2048 * 64, right := q, wide := true }

/-- Where the operands of a descriptor lie: the ranges of word 1's, 2's and 3's operands, each with its scale range. A range is
absent where the opcode has none. `sto` is a store operand: its word, its bytes and its rights. -/
structure Operands where
  a : Option CellReq
  aS : Option CellReq
  b : Option CellReq
  bS : Option CellReq
  d : Option CellReq
  dS : Option CellReq
  sto : Option (W64 × Nat × Bool × Bool)
  deriving DecidableEq, Repr

/-- No operands. -/
def Operands.none : Operands := { a := .none, aS := .none, b := .none, bS := .none, d := .none, dS := .none, sto := .none }

/-- Operands of the matrix opcodes (R145–R149). -/
def matrixOperands (q : Queued) : Operands :=
  let o1 := opWord (q.w1 &&& 0x001FFFFFFFFFFFFF)
  let o2 := opWord (q.w2 &&& 0x001FFFFFFFFFFFFF)
  let m := fld q.w0 54 49 + 1
  let n := fld q.w0 60 55 + 1
  let k := (fld q.w1 60 53 + 1) * 32
  if q.opcode = 1 then
    { Operands.none with a := some (reqData o1 0 m k rightR), aS := (reqScale o1 0 m k rightR).head?,
                         b := some (reqData o2 0 n k rightR), bS := (reqScale o2 0 n k rightR).head? }
  else if q.opcode = 2 then
    { Operands.none with a := some (reqData o1 0 m n rightR), aS := (reqScale o1 0 m n rightR).head? }
  else if q.opcode = 3 then
    { Operands.none with d := some (reqData o1 0 m n rightW), dS := (reqScale o1 0 m n rightW).head? }
  else if q.opcode = 5 then { Operands.none with a := some (reqData o1 2 m 1 rightR) }
  else if q.opcode = 6 then
    let dr := if bit q.w0 48 then n else m
    let dc := if bit q.w0 48 then m else n
    { Operands.none with a := some (reqData o1 0 m n rightR), aS := (reqScale o1 0 m n rightR).head?,
                         d := some (reqData o2 0 dr dc rightW), dS := (reqScale o2 0 dr dc rightW).head? }
  else Operands.none

/-- Operands of the vector opcodes (R152–R159). -/
def vectorOperands (q : Queued) : Operands :=
  let o1 := opWord (q.w1 &&& 0x001FFFFFFFFFFFFF)
  let o2 := opWord q.w2
  let o3 := opWord q.w3
  let rows := fld q.w0 63 56 + 1
  let cols := fld q.w0 55 44 + 1
  let fn := fld q.w1 58 53
  let dT : Operands :=
    { Operands.none with d := some (reqData o1 0 rows cols rightW), dS := (reqScale o1 0 rows cols rightW).head?,
                         a := some (reqData o2 o2.form rows cols rightR), aS := (reqScale o2 o2.form rows cols rightR).head? }
  if q.opcode = 0x40 then
    let dq := if fn = 6 then rightRW else rightW
    { dT with d := some (reqData o1 0 rows cols dq), b := some (reqData o3 o3.form rows cols rightR),
              bS := (reqScale o3 o3.form rows cols rightR).head? }
  else if q.opcode = 0x41 then
    if fn = 0 ∧ o1.fmt = 3 then { dT with b := some (reqData o3 3 rows cols rightR) } else dT
  else if q.opcode = 0x42 then { dT with d := some (reqData o1 2 rows cols rightW), dS := none }
  else if q.opcode = 0x43 then
    { dT with b := some (reqData o3 1 rows cols rightR),
              bS := if fn = 1 then some { va := o3.sline * 64, n := rowLines cols o3.fmt * 64, right := rightR, wide := true } else none }
  else if q.opcode = 0x44 then
    { dT with b := some (reqData o3 1 rows (cols / 2) rightR), bS := some (reqCol32 o3.sline rows rightR) }
  else
    { dT with aS := some (reqCol32 o2.sline rows rightW), b := some (reqData o3 2 rows cols rightRW),
              bS := some (reqCol32 o3.sline rows rightRW) }

/-- Words an atomic or immediate works on (R174). -/
def Queued.nWords (q : Queued) : Nat := if q.w64 then 2 else 1

/-- Operands of the mover opcodes (R175). -/
def moverOperands (q : Queued) : Operands :=
  let loc (w : W64) (n : Nat) (right : Right) (wide : Bool) : Option CellReq :=
    some { va := fld w 23 0, n := n, right := right, wide := wide }
  let l := q.lines
  let op := q.opcode
  if op = 0x80 then { Operands.none with a := loc q.w1 (64 * l) rightR true, b := loc q.w2 (64 * l) rightW true }
  else if op = 0x81 ∨ op = 0x82 then { Operands.none with a := loc q.w1 (64 * l) rightR true }
  else if op = 0x83 then { Operands.none with a := loc q.w1 (64 * l) rightW true }
  else if op = 0x84 then { Operands.none with a := loc q.w1 (64 * l) rightW true, sto := some (q.w2, 256 * l, true, false) }
  else if op = 0x85 then { Operands.none with a := loc q.w1 (64 * l) rightR true, sto := some (q.w2, 256 * l, false, true) }
  else if op = 0x87 then { Operands.none with a := loc q.w1 q.nWords rightRW false }
  else if op = 0x88 then { Operands.none with a := loc q.w1 q.nWords rightRW false, sto := some (q.w2, 64, true, true) }
  else if op = 0x89 then
    let e := fld q.w3 7 0 + 1
    { Operands.none with a := loc q.w1 (64 * (e * l)) rightW true, b := loc q.w2 (64 * cdiv e 32) rightR true }
  else if op = 0x8A then { Operands.none with sto := some (q.w2, 64, false, true) }
  else Operands.none

/-- Operands of the sampler opcodes (R161). -/
def samplerOperands (q : Queued) : Operands :=
  let cnt := fld q.w1 35 18 + 1
  let w := fmtBits (fld q.w1 17 14)
  { Operands.none with a := some { va := fld q.w1 13 0 * 64, n := cdiv (cnt * w) 2048 * 64, right := rightR, wide := true },
                       d := some { va := fld q.w2 19 0, n := 2, right := rightW, wide := false } }

/-- The operands of a descriptor at a unit; an unrecognised opcode has none (R110). -/
def operandsOf (unit : Nat) (q : Queued) : Operands :=
  if !opcodeDefined unit q.opcode then Operands.none
  else if unit = 0 then matrixOperands q
  else if unit = 1 then vectorOperands q
  else if unit = 4 then samplerOperands q
  else moverOperands q

/-- The completion ranges: record 2 words with W, counter 1 word with R and W (R130, R142). -/
def completionReqs (unit : Nat) (q : Queued) : List CellReq :=
  if !opcodeDefined unit q.opcode then []
  else
    let rec2 : CellReq := { va := q.cvirt, n := 2, right := rightW, wide := false }
    if q.cmode = 1 then [rec2]
    else if q.cmode = 2 then [{ va := q.cvirt, n := 1, right := rightRW, wide := false }]
    else if q.cmode = 3 then [rec2, { va := q.cvirt + 2, n := 1, right := rightRW, wide := false }]
    else []

/-! ### Checking and translating (R52, R110) -/

/-- The outcome of the issue checks. -/
inductive IssueChk where
  | ok (phys : Nat)
  | fail (cause : Byte) (addr : Nat)
  deriving DecidableEq, Repr

/-- One cell range checked: alignment first, then R51 (R110, R117). -/
def State.checkReq (s : State) (a : At) (r : CellReq) : IssueChk :=
  if r.wide && decide (r.va % 64 ≠ 0) && decide (r.va < 2 ^ 24) then
    if isCell a.core && decide (r.va ≥ 2 ^ 20) then .fail cIssueBound r.va else .fail cIssueAlign r.va
  else
    match s.check a r.va r.n r.right with
    | .ok p => .ok p
    | .bound => .fail cIssueBound r.va
    | .perm => .fail cIssuePerm r.va

/-- An absent range needs no check. -/
def State.checkOpt (s : State) (a : At) : Option CellReq → IssueChk
  | none => .ok 0
  | some r => s.checkReq a r

/-- Bytes of a store (R374). -/
def storeBytes : Nat := 0xC00000000

/-- The store operand checked: through the task's store windows on a cell task (R55), against store range on a privileged core (R121, R172). -/
def State.checkSto (s : State) (a : At) : Option (W64 × Nat × Bool × Bool) → Except (Byte × Nat) StoAddr
  | none => .ok { via := 0, store := 0, addr := 0 }
  | some (w, n, r, wr) =>
    let va := fld w 37 0
    if isCell a.core then
      if va % 64 ≠ 0 then .error (cIssueAlign, va)
      else
        match stoCheck (s.task a).swins va n r wr with
        | .ok x => .ok x
        | .bound => .error (cIssueBound, va)
        | .perm => .error (cIssuePerm, va)
    else
      let addr := fld w 35 0
      let store := fld w 42 38 * 4 + fld w 37 36
      if addr % 64 ≠ 0 then .error (cIssueAlign, va)
      else if store ≥ 112 ∨ addr + n > storeBytes then .error (cIssueBound, va)
      else .ok { via := BitVec.ofNat 8 (fld w 50 43), store := store, addr := addr }

/-- The checks of a list of ranges: the first failure. -/
def State.checkAll (s : State) (a : At) : List CellReq → Option (Byte × Nat)
  | [] => none
  | r :: rs =>
    match s.checkReq a r with
    | .fail c v => some (c, v)
    | .ok _ => s.checkAll a rs

/-- The physical address of a range that passed; 0 where there is none. -/
def State.physOpt (s : State) (a : At) (r : Option CellReq) : Nat :=
  match s.checkOpt a r with
  | .ok p => p
  | .fail _ _ => 0

/-- A descriptor as it enters the queue: operands checked in the order words 1, 2, 3, store, completion, and replaced by their
physical addresses; or the trap of the first that fails (R110; the order of the checks: log 7). An SFETCH of a cell task moves
nothing, so its store operand is not checked (R180). -/
def State.translate (s : State) (a : At) (unit : Nat) (q : Queued) : Except (Byte × Nat) Queued :=
  let o := operandsOf unit q
  let cells := [o.a, o.aS, o.b, o.bS, o.d, o.dS].filterMap id
  let sto := if isCell a.core && decide (q.opcode = 0x8A) then none else o.sto
  match s.checkAll a cells with
  | some e => .error e
  | none =>
    match s.checkSto a sto with
    | .error e => .error e
    | .ok st =>
      match s.checkAll a (completionReqs unit q) with
      | some e => .error e
      | none =>
        let c := (completionReqs unit q).head?
        .ok { q with caddr := s.physOpt a c, a := s.physOpt a o.a, aS := s.physOpt a o.aS, b := s.physOpt a o.b,
                     bS := s.physOpt a o.bS, d := s.physOpt a o.d, dS := s.physOpt a o.dS, sto := st, swin := (s.task a).swins }

/-- The descriptor that four registers hold (R109). -/
def Task.descriptor (t : Task) (tid : TaskId) (serial : Nat) (rs1 : Reg) : Queued :=
  { task := tid, serial := serial, w0 := t.x rs1, w1 := t.x (rs1 + 1), w2 := t.x (rs1 + 2), w3 := t.x (rs1 + 3),
    caddr := 0, a := 0, aS := 0, b := 0, bS := 0, d := 0, dS := 0, sto := { via := 0, store := 0, addr := 0 }, swin := [] }

/-- The queue length of a unit, and its depth: 16 for an engine, 32 for a mover, 4 for the sampler queue (R131, R171). -/
def State.queueLen (s : State) (i : CoreId) (unit : Nat) : Nat :=
  if unit = 2 then (s.core i).mov0.queue.length
  else if unit = 3 then (s.core i).mov1.queue.length
  else
    match i with
    | .cell si p =>
      let c := (s.comb si).cell p
      if unit = 0 then c.mxe.queue.length else if unit = 1 then c.vxe.queue.length else c.smpQ.length
    | _ => 0

/-- The depth of a unit's queue (R131, R171). -/
def queueDepth (unit : Nat) : Nat := if unit = 0 ∨ unit = 1 then 16 else if unit = 4 then 4 else 32

/-- Appends a descriptor to a unit's queue; the core's issue order moves on. -/
def State.enqueue (s : State) (i : CoreId) (unit : Nat) (q : Queued) : State :=
  let s1 :=
    if unit = 2 then s.modCore i (fun c => { c with mov0 := { c.mov0 with queue := c.mov0.queue ++ [q] } })
    else if unit = 3 then s.modCore i (fun c => { c with mov1 := { c.mov1 with queue := c.mov1.queue ++ [q] } })
    else
      match i with
      | .cell si p =>
        s.modCell ⟨si, p⟩ (fun c =>
          if unit = 0 then { c with mxe := { c.mxe with queue := c.mxe.queue ++ [q] } }
          else if unit = 1 then { c with vxe := { c.vxe with queue := c.vxe.queue ++ [q] } }
          else { c with smpQ := c.smpQ ++ [q] })
      | _ => s
  s1.modCore i (fun c => { c with serial := c.serial + 1 })

end Sys2Proof.Machine
end

