-- ==== Sys2Proof/Machine/Alu.lean ====
section
/-!
DEFINITION. The worker's integer, compare and predicate instructions (R101–R105), and the arrival of multiply and divide results (R95).
-/
namespace Sys2Proof.Machine

/-! ### Shared shapes -/

/-- An ALU instruction of R101 whose result is ready for the next instruction; FN[10:8] must be zero. -/
def State.aluRR (s : State) (a : At) (f : OpRR) (op : W64 → W64 → W64) : State :=
  s.issue a [f.rs1, f.rs2] (f.fh != 0) (fun s => s.setRd a f.rd (op ((s.task a).x f.rs1) ((s.task a).x f.rs2)))

/-- An ALU instruction of one operand: RS2 must be 0 (R101). -/
def State.aluR (s : State) (a : At) (f : OpRR) (op : W64 → W64) : State :=
  s.issue a [f.rs1] (f.fh != 0 || f.rs2 != 0) (fun s => s.setRd a f.rd (op ((s.task a).x f.rs1)))

/-- A register result on its way: it is in the register only when MULDIV_RESULT brings it (R95); w0 discards it. -/
def Task.defer (t : Task) (rd : Reg) (v : W64) : Task :=
  if rd = 0 then t else { t with pend := t.pend.filter (fun e => e.1 ≠ rd) ++ [(rd, v)] }

/-- A multiply or divide: the result is pending after issue (R95, R101). -/
def State.mulRR (s : State) (a : At) (f : OpRR) (op : W64 → W64 → W64) : State :=
  s.issue a [f.rs1, f.rs2] (f.fh != 0)
    (fun s => s.step1 a (fun t => t.defer f.rd (op (t.x f.rs1) (t.x f.rs2))))

/-- An immediate instruction of R102. -/
def State.aluRI (s : State) (a : At) (f : OpRI) (op : W64 → BitVec 16 → W64) : State :=
  s.issue a [f.rs1] false (fun s => s.setRd a f.rd (op ((s.task a).x f.rs1) f.imm))

/-- A predicate result: p[n] := b, and on to the next instruction. -/
def State.setPd (s : State) (a : At) (n : PReg) (b : Bool) : State := s.step1 a (fun t => t.setP n b)

/-- A predicate operation of two predicates (R105). -/
def State.plog2 (s : State) (a : At) (f : OpPL) (op : Bool → Bool → Bool) : State :=
  s.issue a [] (f.z != 0) (fun s => s.setPd a f.pd (op ((s.task a).p f.pa) ((s.task a).p f.pb)))

/-! ### The operations of R101 -/

/-- Bits [127:64] of the signed product. -/
def mulhS (x y : W64) : W64 := ((x.signExtend 128) * (y.signExtend 128)).extractLsb' 64 64

/-- Bits [127:64] of the unsigned product. -/
def mulhU (x y : W64) : W64 := ((x.setWidth 128) * (y.setWidth 128)).extractLsb' 64 64

/-- Signed quotient, rounded toward zero; all ones for a zero divisor; −2^63 ÷ −1 wraps to −2^63 (R103). -/
def divS (x y : W64) : W64 := if y = 0 then BitVec.allOnes 64 else BitVec.ofInt 64 (x.toInt.tdiv y.toInt)

/-- Unsigned quotient (R103). -/
def divU (x y : W64) : W64 := if y = 0 then BitVec.allOnes 64 else BitVec.ofNat 64 (x.toNat / y.toNat)

/-- Signed remainder, with the sign of the dividend (R103). -/
def remS (x y : W64) : W64 := if y = 0 then x else BitVec.ofInt 64 (x.toInt.tmod y.toInt)

/-- Unsigned remainder (R103). -/
def remU (x y : W64) : W64 := if y = 0 then x else BitVec.ofNat 64 (x.toNat % y.toNat)

/-- A shift amount: bits [5:0] (R101). -/
def sh6 (y : W64) : Nat := y.toNat % 64

/-- Count of leading zeros, 64 for zero. -/
def clz64 (x : W64) : W64 :=
  BitVec.ofNat 64 (((List.range 64).find? (fun i => bit x (63 - i))).getD 64)

/-- Count of trailing zeros, 64 for zero. -/
def ctz64 (x : W64) : W64 := BitVec.ofNat 64 (((List.range 64).find? (fun i => bit x i)).getD 64)

/-- Count of ones. -/
def popc64 (x : W64) : W64 := BitVec.ofNat 64 ((List.range 64).filter (fun i => bit x i)).length

/-! ### ALU group (R101) -/

/-- add. -/
def execAdd (a : At) (f : OpRR) (s : State) : Host.Outcome State Fault Refusal := .next (s.aluRR a f (· + ·))
/-- sub. -/
def execSub (a : At) (f : OpRR) (s : State) : Host.Outcome State Fault Refusal := .next (s.aluRR a f (· - ·))
/-- and. -/
def execAnd (a : At) (f : OpRR) (s : State) : Host.Outcome State Fault Refusal := .next (s.aluRR a f (· &&& ·))
/-- or. -/
def execOr (a : At) (f : OpRR) (s : State) : Host.Outcome State Fault Refusal := .next (s.aluRR a f (· ||| ·))
/-- xor. -/
def execXor (a : At) (f : OpRR) (s : State) : Host.Outcome State Fault Refusal := .next (s.aluRR a f (· ^^^ ·))
/-- andn. -/
def execAndn (a : At) (f : OpRR) (s : State) : Host.Outcome State Fault Refusal :=
  .next (s.aluRR a f (fun x y => x &&& ~~~ y))
/-- sll. -/
def execSll (a : At) (f : OpRR) (s : State) : Host.Outcome State Fault Refusal :=
  .next (s.aluRR a f (fun x y => x <<< sh6 y))
/-- srl. -/
def execSrl (a : At) (f : OpRR) (s : State) : Host.Outcome State Fault Refusal :=
  .next (s.aluRR a f (fun x y => x >>> sh6 y))
/-- sra. -/
def execSra (a : At) (f : OpRR) (s : State) : Host.Outcome State Fault Refusal :=
  .next (s.aluRR a f (fun x y => x.sshiftRight (sh6 y)))
/-- addw. -/
def execAddw (a : At) (f : OpRR) (s : State) : Host.Outcome State Fault Refusal :=
  .next (s.aluRR a f (fun x y => sext64 ((x + y).setWidth 32)))
/-- subw. -/
def execSubw (a : At) (f : OpRR) (s : State) : Host.Outcome State Fault Refusal :=
  .next (s.aluRR a f (fun x y => sext64 ((x - y).setWidth 32)))
/-- mul. -/
def execMul (a : At) (f : OpRR) (s : State) : Host.Outcome State Fault Refusal := .next (s.mulRR a f (· * ·))
/-- mulh. -/
def execMulh (a : At) (f : OpRR) (s : State) : Host.Outcome State Fault Refusal := .next (s.mulRR a f mulhS)
/-- mulhu. -/
def execMulhu (a : At) (f : OpRR) (s : State) : Host.Outcome State Fault Refusal := .next (s.mulRR a f mulhU)
/-- div. -/
def execDiv (a : At) (f : OpRR) (s : State) : Host.Outcome State Fault Refusal := .next (s.mulRR a f divS)
/-- divu. -/
def execDivu (a : At) (f : OpRR) (s : State) : Host.Outcome State Fault Refusal := .next (s.mulRR a f divU)
/-- rem. -/
def execRem (a : At) (f : OpRR) (s : State) : Host.Outcome State Fault Refusal := .next (s.mulRR a f remS)
/-- remu. -/
def execRemu (a : At) (f : OpRR) (s : State) : Host.Outcome State Fault Refusal := .next (s.mulRR a f remU)
/-- min, signed. -/
def execMin (a : At) (f : OpRR) (s : State) : Host.Outcome State Fault Refusal :=
  .next (s.aluRR a f (fun x y => if x.slt y then x else y))
/-- max, signed. -/
def execMax (a : At) (f : OpRR) (s : State) : Host.Outcome State Fault Refusal :=
  .next (s.aluRR a f (fun x y => if x.slt y then y else x))
/-- minu. -/
def execMinu (a : At) (f : OpRR) (s : State) : Host.Outcome State Fault Refusal :=
  .next (s.aluRR a f (fun x y => if x.ult y then x else y))
/-- maxu. -/
def execMaxu (a : At) (f : OpRR) (s : State) : Host.Outcome State Fault Refusal :=
  .next (s.aluRR a f (fun x y => if x.ult y then y else x))
/-- clz. -/
def execClz (a : At) (f : OpRR) (s : State) : Host.Outcome State Fault Refusal := .next (s.aluR a f clz64)
/-- ctz. -/
def execCtz (a : At) (f : OpRR) (s : State) : Host.Outcome State Fault Refusal := .next (s.aluR a f ctz64)
/-- popc. -/
def execPopc (a : At) (f : OpRR) (s : State) : Host.Outcome State Fault Refusal := .next (s.aluR a f popc64)

/-- sel: FN[10:8] is the predicate. -/
def execSel (a : At) (f : OpRR) (s : State) : Host.Outcome State Fault Refusal :=
  .next (s.issue a [f.rs1, f.rs2] false
    (fun s => s.setRd a f.rd (if (s.task a).p f.fh then (s.task a).x f.rs1 else (s.task a).x f.rs2)))

/-! ### Immediates and bit fields (R102) -/

/-- addi. -/
def execAddi (a : At) (f : OpRI) (s : State) : Host.Outcome State Fault Refusal :=
  .next (s.aluRI a f (fun x i => x + sext64 i))
/-- andi. -/
def execAndi (a : At) (f : OpRI) (s : State) : Host.Outcome State Fault Refusal :=
  .next (s.aluRI a f (fun x i => x &&& zext64 i))
/-- ori. -/
def execOri (a : At) (f : OpRI) (s : State) : Host.Outcome State Fault Refusal :=
  .next (s.aluRI a f (fun x i => x ||| zext64 i))
/-- xori. -/
def execXori (a : At) (f : OpRI) (s : State) : Host.Outcome State Fault Refusal :=
  .next (s.aluRI a f (fun x i => x ^^^ zext64 i))

/-- The shift that shi's immediate selects: 0 sll, 1 srl, 2 sra. -/
def shiOp (i : BitVec 16) (x : W64) : W64 :=
  let n := fld i 5 0
  if fld i 15 14 = 0 then x <<< n else if fld i 15 14 = 1 then x >>> n else x.sshiftRight n

/-- shi: imm[13:6] must be zero and imm[15:14] is not 3. -/
def execShi (a : At) (f : OpRI) (s : State) : Host.Outcome State Fault Refusal :=
  .next (s.issue a [f.rs1] (decide (fld f.imm 13 6 ≠ 0 ∨ fld f.imm 15 14 = 3))
    (fun s => s.setRd a f.rd (shiOp f.imm ((s.task a).x f.rs1))))

/-- movi. -/
def execMovi (a : At) (f : OpLI) (s : State) : Host.Outcome State Fault Refusal :=
  .next (s.issue a [] false (fun s => s.setRd a f.rd (sext64 f.imm)))

/-- shori. -/
def execShori (a : At) (f : OpRI) (s : State) : Host.Outcome State Fault Refusal :=
  .next (s.aluRI a f (fun x i => (x <<< 16) ||| zext64 i))

/-- Position and length of a bit field (R102). -/
def bfPos (i : BitVec 16) : Nat := fld i 11 6
def bfLen (i : BitVec 16) : Nat := fld i 5 0 + 1

/-- The field of bfx: extracted, and sign- or zero-extended by imm[15]. -/
def bfxVal (i : BitVec 16) (x : W64) : W64 :=
  let f := x.toNat / 2 ^ bfPos i % 2 ^ bfLen i
  if bit i 15 && decide (f ≥ 2 ^ (bfLen i - 1)) then BitVec.ofInt 64 ((f : Int) - 2 ^ bfLen i) else BitVec.ofNat 64 f

/-- bfx: imm[14:12] must be zero, pos + len at most 64. -/
def execBfx (a : At) (f : OpRI) (s : State) : Host.Outcome State Fault Refusal :=
  .next (s.issue a [f.rs1] (decide (fld f.imm 14 12 ≠ 0 ∨ bfPos f.imm + bfLen f.imm > 64))
    (fun s => s.setRd a f.rd (bfxVal f.imm ((s.task a).x f.rs1))))

/-- bfi: imm[15:12] must be zero, pos + len at most 64; rd is read and written. -/
def execBfi (a : At) (f : OpRI) (s : State) : Host.Outcome State Fault Refusal :=
  .next (s.issue a [f.rd, f.rs1] (decide (fld f.imm 15 12 ≠ 0 ∨ bfPos f.imm + bfLen f.imm > 64))
    (fun s => s.setRd a f.rd (setBits ((s.task a).x f.rd) (bfPos f.imm) (bfLen f.imm) ((s.task a).x f.rs1).toNat)))

/-! ### Compares (R104) -/

/-- The condition of cmp: 0 eq, 1 ne, 2 lt, 3 ge, 4 ltu, 5 geu. -/
def cmpCond (c : Nat) (x y : W64) : Bool :=
  if c = 0 then x == y else if c = 1 then x != y else if c = 2 then x.slt y else if c = 3 then !x.slt y
  else if c = 4 then x.ult y else !x.ult y

/-- cmp: bits [25:24] and FN[10:3] must be zero; conditions 6 and 7 are ILLEGAL. -/
def execCmp (a : At) (f : OpPC) (s : State) : Host.Outcome State Fault Refusal :=
  .next (s.issue a [f.rs1, f.rs2] (decide (f.top ≠ 0 ∨ fld f.fn 10 3 ≠ 0 ∨ fld f.fn 2 0 ≥ 6))
    (fun s => s.setPd a f.pd (cmpCond (fld f.fn 2 0) ((s.task a).x f.rs1) ((s.task a).x f.rs2))))

/-- The condition of cmpi: 0 eq, 1 ne, 2 lt, 3 ltu. -/
def cmpiCond (c : Nat) (x y : W64) : Bool :=
  if c = 0 then x == y else if c = 1 then x != y else if c = 2 then x.slt y else x.ult y

/-- cmpi: x[rs1] with the sign-extended immediate. -/
def execCmpi (a : At) (f : OpPI) (s : State) : Host.Outcome State Fault Refusal :=
  .next (s.issue a [f.rs1] false
    (fun s => s.setPd a f.pd (cmpiCond f.cc.toNat ((s.task a).x f.rs1) (sext64 f.imm))))

/-! ### Predicate logic (R105) -/

/-- pand. -/
def execPand (a : At) (f : OpPL) (s : State) : Host.Outcome State Fault Refusal := .next (s.plog2 a f (· && ·))
/-- por. -/
def execPor (a : At) (f : OpPL) (s : State) : Host.Outcome State Fault Refusal := .next (s.plog2 a f (· || ·))
/-- pxor. -/
def execPxor (a : At) (f : OpPL) (s : State) : Host.Outcome State Fault Refusal := .next (s.plog2 a f (· != ·))
/-- pandn. -/
def execPandn (a : At) (f : OpPL) (s : State) : Host.Outcome State Fault Refusal := .next (s.plog2 a f (fun x y => x && !y))
/-- pnot: PB must be zero. -/
def execPnot (a : At) (f : OpPL) (s : State) : Host.Outcome State Fault Refusal :=
  .next (s.issue a [] (f.z != 0 || f.pb != 0) (fun s => s.setPd a f.pd (!(s.task a).p f.pa)))
/-- pset: PA and PB must be zero. -/
def execPset (a : At) (f : OpPL) (s : State) : Host.Outcome State Fault Refusal :=
  .next (s.issue a [] (f.z != 0 || f.pa != 0 || f.pb != 0) (fun s => s.setPd a f.pd true))
/-- pclr: PA and PB must be zero. -/
def execPclr (a : At) (f : OpPL) (s : State) : Host.Outcome State Fault Refusal :=
  .next (s.issue a [] (f.z != 0 || f.pa != 0 || f.pb != 0) (fun s => s.setPd a f.pd false))

/-! ### Results on their way (R95) -/

/-- MULDIV_RESULT: the pending result of a register is in the register; nothing where none is pending. -/
def execMuldivResult (a : At) (rd : Reg) (s : State) : Host.Outcome State Fault Refusal :=
  .next (match (s.task a).pend.find? (fun e => e.1 = rd) with
    | none => s
    | some e => s.modTask a (fun t => t.set rd e.2))

end Sys2Proof.Machine
end

