-- ==== Sys2Proof/Machine/Rank.lean ====
section
/-!
DEFINITION. Rank translation (R201, R202), the colony check (R207), and the classes of a task's outstanding operations (R188, R195).
-/
namespace Sys2Proof.Machine

/-! ### Rank translation (R201–R205) -/

/-- The site code of the comb that carries service port p (R202). -/
def portSite (p : Nat) : Nat :=
  let o := p / 2
  let k := o % 8
  let outer := if k ≤ 3 then 2 * k else 2 * k + 1
  let inner := if k ≤ 3 then 2 * k + 1 else 2 * k
  o / 8 * 16 + (if p % 2 = 0 then outer else inner)

/-- RNK_DIR of a colony (R204). -/
def Ranks.dirOf (k : Ranks) (c : Nat) : W64 := Tbl.get 0 k.dir c

/-- A rank memory entry (R205). -/
def Ranks.entry (k : Ranks) (i : Nat) : W64 := Tbl.get 0 k.mem i

/-- The endpoint of a rank for colony c on a comb; none is NO_ENDPOINT (R201). An unbound cell fails (0xFF has no directory entry). -/
def Ranks.translate (k : Ranks) (ownPanel : Byte) (c rank : Nat) : Option Eid :=
  let d := k.dirOf c
  let seg := rank / 256
  let off := rank % 256
  if c ≥ 64 then none
  else if !bit d 63 then none
  else if bit d 62 && decide (seg = 0xFFF) then
    if off > 223 then none else some (BitVec.ofNat 24 (ownPanel.toNat * 65536 + portSite off * 256 + 0xB4))
  else if seg ≥ fld d 28 16 then none
  else
    let e := k.entry (fld d 12 0 + seg)
    if !bit e 63 || decide (off ≥ fld e 47 40) then none
    else
      let w := fld e 51 48
      some (BitVec.ofNat 24 (fld e 23 16 * 65536 + fld e 15 8 * 256 + (fld e 7 0 + off / w * 11 + off % w)))

/-- The endpoint that a REM operand's TARGET names: a rank on a cell task, an endpoint on a privileged core (R172). -/
def State.remTarget (s : State) (i : CoreId) (w : W64) : Option Eid :=
  match i with
  | .cell si p => (s.comb si).ranks.translate s.swarmPanel ((s.comb si).cell p).colony.toNat (fld w 43 24)
  | _ => some (BitVec.ofNat 24 (fld w 47 24))

/-- The colony check of R207: a packet of a cell task reaches a cell of its own colony or of one that grants it a bridge. -/
def State.colonyOk (s : State) (c : CellAt) (sender : Byte) : Bool :=
  let own := (s.cell c).colony
  sender == own || (decide (own.toNat < 64 ∧ sender.toNat < 64) && bit (Tbl.get 0 (s.comb c.site).ranks.bridge own.toNat) sender.toNat)

/-! ### Classes of operations (R188) -/

/-- The four classes of R188. -/
inductive OpClass where
  | l
  | c
  | p
  | s
  deriving DecidableEq, Repr

/-- Is an endpoint on this panel (R21)? -/
def State.onPanel (s : State) (e : Eid) : Bool := decide (fld e 23 16 = s.swarmPanel.toNat)

/-- The class of an outstanding descriptor of a core at a unit (R188). A rank with no endpoint counts on the own panel (log 8). -/
def State.classOf (s : State) (i : CoreId) (unit : Nat) (q : Queued) : OpClass :=
  let own := if isCell i then OpClass.c else OpClass.p
  let op := q.opcode
  if unit = 0 ∨ unit = 1 then .l
  else if unit = 4 then .c
  else if op = 0x80 then .l
  else if op = 0x8A then .s
  else if op = 0x82 ∨ op = 0x83 ∨ op = 0x86 ∨ op = 0x87 then
    match s.remTarget i q.w2 with
    | some e => if s.onPanel e then own else .s
    | none => own
  else own

/-- The outstanding operations of a task in one class (MOV_PEND, R195). -/
def State.pendCount (s : State) (a : At) (k : OpClass) : Nat :=
  ((List.range 5).map (fun u =>
    ((s.unitAll a.core u).filter (fun q => decide (q.task = a.task) && decide (s.classOf a.core u q = k))).length)).foldl (· + ·) 0

/-- The classes that a fence scope lists: 0 TASK none, 1 CELL L, 2 COLONY L C, 3 PANEL L C P, 4 SWARM all (R189). -/
def fenceClasses (scope : Nat) : List OpClass :=
  if scope = 0 then [] else if scope = 1 then [.l] else if scope = 2 then [.l, .c] else if scope = 3 then [.l, .c, .p]
  else [.l, .c, .p, .s]

/-- The condition of a fence: every listed count is zero (R189, R195). The narrow accesses of the task are performed at issue (log 5). -/
def State.fenceMet (s : State) (a : At) (scope : Nat) : Bool := (fenceClasses scope).all (fun k => s.pendCount a k == 0)

end Sys2Proof.Machine
end

