-- ==== Sys2Proof/Machine/Geometry.lean ====
section
/-!
DEFINITION. The geometry of the panel: rows and columns, edges and express partners, where endpoints and exits attach
(R13–R15, R25–R29, R295, R341, R371).
-/
namespace Sys2Proof.Machine

/-- The row of a site (R14). -/
def rowOf (s : Site) : Nat := s.val / 16
/-- The column of a site (R14). -/
def colOf (s : Site) : Nat := s.val % 16

/-- The site at a row and column, if there is one. -/
def siteAt (r c : Nat) : Option Site := if h : r * 16 + c < 224 then (if c < 16 then some ⟨r * 16 + c, h⟩ else none) else none

/-- The comb at the other end of link i (R14, R26): none at the panel border and for external lanes. -/
def linkPeer (s : Site) (i : Nat) : Option Site :=
  let r := rowOf s
  let c := colOf s
  let west := decide (c < 8)
  if i = 0 then (if r = 0 then none else siteAt (r - 1) c)
  else if i = 1 then (if c = 15 then none else siteAt r (c + 1))
  else if i = 2 then (if r = 13 then none else siteAt (r + 1) c)
  else if i = 3 then (if c = 0 then none else siteAt r (c - 1))
  else if i = 4 then siteAt ((r + 10) % 14) c
  else if i = 5 then siteAt r (if west then c + 4 else c - 4)
  else if i = 6 then siteAt ((r + 4) % 14) c
  else if i = 7 then siteAt r (if west then (c + 12) % 16 else (c + 4) % 16)
  else none

/-- The link number, in the peer, of the same link (R26, R341). -/
def linkBack (s : Site) (i : Nat) : Nat :=
  if i = 0 then 2 else if i = 1 then 3 else if i = 2 then 0 else if i = 3 then 1
  else if i = 4 then 6 else if i = 6 then 4
  else
    match linkPeer s i with
    | some p => if linkPeer p 5 = some s then 5 else 7
    | none => 0

/-- The keeper whose attachment the north edge of a comb is (R29). -/
def keeperEdge (s : Site) : Option Half :=
  if s.val = 0x06 ∨ s.val = 0x07 then some .west else if s.val = 0x08 ∨ s.val = 0x09 then some .east else none

/-- Does link end i of a comb exist (R14, R341)? External lanes and express lanes do; edges except at the border. -/
def linkExists (s : Site) (i : Fin 12) : Bool := decide (i.val ≥ 4) || (linkPeer s i.val).isSome

/-- A physical number from frame and position. -/
def physNo (frame pos : Nat) : Nat := frame * 12 + pos

/-- Where a port router sits (R25). -/
def portPhys (pr : Nat) : Nat :=
  if pr = 0 then physNo 0 5 else if pr = 1 then physNo 7 11 else if pr = 2 then physNo 15 6 else if pr = 3 then physNo 8 0
  else if pr = 4 then physNo 3 3 else if pr = 5 then physNo 3 8 else if pr = 6 then physNo 12 3 else physNo 12 8

/-- The port router of an express link end: XN PR0, XI PR1, XS PR2, XO PR3 (R25, R371). -/
def expressPort (i : Nat) : Nat := i - 4

/-- The position on the east (true) or west side of a comb of a half (R13, R295). -/
def sidePos (h : Half) (east : Bool) : Nat :=
  match h with
  | .west => if east then 11 else 0
  | .east => if east then 0 else 11

/-- The link end of an exit code: 1 N, 2 E, 3 S, 4 W, 5 XN, 6 XS, 7 XI, 8 XO (R308). -/
def exitLink (x : Nat) : Nat := if x ≤ 4 then x - 1 else if x = 5 then 4 else if x = 6 then 6 else if x = 7 then 5 else 7

/-- The router where a packet leaves by link end i, from a router of the comb (R295, R296). -/
def exitPhys (s : Site) (i here : Nat) : Nat :=
  let f := here / 12
  let p := here % 12
  if i = 0 then physNo 0 p else if i = 2 then physNo 15 p
  else if i = 1 then physNo f (sidePos (halfOf s) true) else if i = 3 then physNo f (sidePos (halfOf s) false)
  else portPhys (expressPort i)

/-- The router of the peer where a packet enters that left a comb by link end i from a router (R295). -/
def entryPhys (peer : Site) (i back here : Nat) : Nat :=
  let f := here / 12
  let p := here % 12
  if i = 0 then physNo 15 p else if i = 2 then physNo 0 p
  else if i = 1 then physNo f (sidePos (halfOf peer) false) else if i = 3 then physNo f (sidePos (halfOf peer) true)
  else portPhys (expressPort back)

/-- The attachment of a comb endpoint that is no cell, from a router (R25, R295, R309). -/
def fixedPhys (ep here : Nat) : Nat :=
  if ep < 0xB8 then portPhys (ep - 0xB0)
  else if ep = 0xB8 then physNo (here / 12) (if here % 12 ≤ 5 then 5 else 6)
  else if ep = 0xB9 then physNo 0 6
  else if ep = 0xBA then physNo 7 2 else if ep = 0xBB then physNo 7 9 else if ep = 0xBC then physNo 8 2 else physNo 8 9

/-- The next router on the way: along the frame to the target position, then across frames (R296). -/
def nextRouter (here goal : Nat) : Nat :=
  if here % 12 < goal % 12 then here + 1 else if here % 12 > goal % 12 then here - 1
  else if here / 12 < goal / 12 then here + 12 else if here / 12 > goal / 12 then here - 12 else here

/-- The two combs of an octet: outer first (R15, R27). -/
def octetCombs (o : Nat) : Nat × Nat :=
  let c := 2 * (o % 8)
  let b := o / 8 * 16 + c
  if o % 8 ≤ 3 then (b, b + 1) else (b + 1, b)

/-- The octet of a comb: its pair's store code (R27). -/
def octetOf (s : Site) : Nat := storeOf s

/-- The mode of an octet (R346). -/
def State.octetMode (s : State) (o : Nat) : Nat := s.objNum 0x6010 o 0 0

/-- Is a comb the outer one of its pair (R13, R27)? -/
def isOuter (s : Site) : Bool := decide ((octetCombs (octetOf s)).1 = s.val)

end Sys2Proof.Machine
end

