-- ==== Sys2Proof/Machine/Order.lean ====
section
/-!
DEFINITION. When a queued command may start, and how it completes: WAIT, REL and ACQ (R132, R190), completion records and counters
(R130, R134, R137), the error registers of the units (R168, R194).
-/
namespace Sys2Proof.Machine

/-! ### Starting (R132, R171, R190) -/

/-- The task's earlier descriptors at a unit that are not complete. -/
def State.earlier (s : State) (i : CoreId) (u : Nat) (q : Queued) : List Queued :=
  (s.unitAll i u).filter (fun e => decide (e.task = q.task ∧ e.serial < q.serial))

/-- Is a descriptor held by WAIT: some named unit has an earlier command of the task not complete (R132)? -/
def State.waitHeld (s : State) (i : CoreId) (q : Queued) : Bool :=
  [(0, 0), (1, 1), (2, 2), (3, 3), (4, 4)].any (fun bu => bit q.w0 (8 + bu.1) && !(s.earlier i bu.2 q).isEmpty)

/-- Is a descriptor held by an earlier ACQ descriptor of its task at a mover (R190)? -/
def State.acqHeld (s : State) (i : CoreId) (q : Queued) : Bool :=
  ((s.earlier i 2 q) ++ (s.earlier i 3 q)).any (fun e => e.acq)

/-- Is a mover descriptor held by its own REL: an earlier operation of its task is not complete (R190)? -/
def State.relHeld (s : State) (i : CoreId) (q : Queued) : Bool :=
  q.rel && [0, 1, 2, 3, 4].any (fun u => !(s.earlier i u q).isEmpty)

/-- May a queue head start at a unit? -/
def State.mayStart (s : State) (i : CoreId) (unit : Nat) (q : Queued) : Bool :=
  !s.waitHeld i q && !s.acqHeld i q && !((unit == 2 || unit == 3) && s.relHeld i q)

/-- The head of a queue. -/
def headHeld (f : Queued → Bool) (qs : List Queued) : Bool :=
  match qs with
  | [] => false
  | q :: _ => f q

/-! ### Statuses (R138, R182) -/

def stOk : Nat := 0x00
def stBadOpcode : Nat := 0x01
def stBadField : Nat := 0x02
def stDataUe : Nat := 0x03
def stAccUe : Nat := 0x04
def stTargetNack : Nat := 0x05
def stSmpBusy : Nat := 0x06
def stPartTimeout : Nat := 0x07
def stPartConflict : Nat := 0x08
def stSamplerReset : Nat := 0x09
def stContextInvalid : Nat := 0x0A
def stNoNeighbour : Nat := 0x10
def stTargetInReset : Nat := 0x11
def stOutsideWindow : Nat := 0x12
def stNoEndpoint : Nat := 0x13
def stNotPermitted : Nat := 0x14
def stRemoteUe : Nat := 0x15
def stStoreFenced : Nat := 0x16
def stTimeout : Nat := 0x17
def stSuperError : Nat := 0x18
def stWindow : Nat := 0x19
def stNackOther : Nat := 0x1F

/-! ### Completion (R130, R134, R137) -/

/-- The completion record (R137). FLAGS is zero unless the status is OK. -/
def recordOf (q : Queued) (unit status : Nat) (flags : BitVec 4) (detail : Nat) : W64 :=
  BitVec.ofNat 64 (q.ctag * 2 ^ 56 + q.opcode * 2 ^ 48 + status * 2 ^ 40 + (if status = 0 then flags.toNat else 0) * 2 ^ 36
    + q.task.val * 2 ^ 33 + unit * 2 ^ 30 + detail % 2 ^ 30)

/-- Is CADDR at fault: set with CMODE NONE, or odd with a record (R130)? -/
def Queued.badCaddr (q : Queued) : Bool :=
  (q.cmode == 0 && q.cvirt != 0) || ((q.cmode == 1 || q.cmode == 3) && bit q.w0 24)

/-- Increments a completion counter as an atomic; an uncorrectable word is not written (R134, R48). -/
def State.bumpCounter (s : State) (i : CoreId) (p : Nat) : State :=
  match s.memRead i p 1 with
  | (.error _, s1) => s1
  | (.ok ws, s1) => s1.memWrite i p [nth 0 ws 0 + 1]

/-- Writes the record and then the counter that CMODE asks for (R130, R134 steps 2 and 3). Neither where the status is BAD_OPCODE or
CADDR is itself at fault (R128, R136). -/
def State.signal (s : State) (i : CoreId) (q : Queued) (unit status : Nat) (flags : BitVec 4) (detail : Nat) : State :=
  if status = stBadOpcode ∨ q.badCaddr then s
  else
    let r := recordOf q unit status flags detail
    let s1 := if q.cmode = 1 ∨ q.cmode = 3 then s.memWrite i q.caddr [loW r, hiW r] else s
    if q.cmode = 2 then s1.bumpCounter i q.caddr else if q.cmode = 3 then s1.bumpCounter i (q.caddr + 2) else s1

/-- Sends an error record of corrected severity for a cell's unit registers (R168, R194). -/
def State.unitErr (s : State) (i : CoreId) (code : Nat) (info0 : W64) : State :=
  match i with
  | .cell si p => s.sendErr si.val (mkErr code 0 1 (cellInst ⟨si, p⟩) (s.eidOf i) 0 info0 0)
  | .steward si => s.sendErr si.val (mkErr code 0 3 si.val (s.eidOf i) 0 info0 0)
  | .keeper h _ => s.sendErr (0xF0 + h.code) (mkErr code 0 7 (0xF0 + h.code) (s.eidOf i) 0 info0 0)

/-- MXE_ERR and VXE_ERR as registers (R168). -/
def Engine.errReg (e : Engine) : W64 := BitVec.ofNat 64 (e.lastStatus.toNat * 256 + e.err.toNat)

/-- MOV_ERR as a register (R194). -/
def MovErr.reg (e : MovErr) : W64 :=
  BitVec.ofNat 64 (e.lastReason.toNat * 2 ^ 16 + e.lastStatus.toNat * 256 + e.bits.toNat)

/-- The bit of MXE_ERR or VXE_ERR that a status sets (R168). -/
def engErrBit (status : Nat) : Option Nat :=
  if status = stBadOpcode then some 0 else if status = stBadField then some 1 else if status = stDataUe then some 2
  else if status = stAccUe then some 3 else none

/-- An engine of a cell. -/
def Cell.eng (c : Cell) : Eng → Engine
  | .mxe => c.mxe
  | .vxe => c.vxe

/-- A cell with one engine replaced. -/
def Cell.setEng (c : Cell) : Eng → Engine → Cell
  | .mxe, e => { c with mxe := e }
  | .vxe, e => { c with vxe := e }

/-- The unit code of an engine (R109). -/
def engUnit : Eng → Nat
  | .mxe => 0
  | .vxe => 1

/-- Notes a status in an engine's error register; BAD_OPCODE and BAD_FIELD rising send a record of corrected severity (R168).
Code ENGINE (R476). -/
def State.noteEng (s : State) (c : CellAt) (e : Eng) (status : Nat) : State :=
  match engErrBit status with
  | none => s
  | some b =>
    let x := (s.cell c).eng e
    let x1 := { x with err := setBit x.err b true, lastStatus := BitVec.ofNat 8 status }
    let s1 := s.modCell c (fun k => k.setEng e x1)
    if b < 2 ∧ bit x.err b = false then s1.unitErr (.cell c.site c.phys) 0x0105 x1.errReg else s1

/-- The bit of MOV_ERR that a status sets: NACK for the NACK-derived ones (R182, R194). -/
def movErrBit (status : Nat) (nack : Bool) : Option Nat :=
  if status = stBadOpcode then some 0 else if status = stBadField then some 1
  else if status = stDataUe ∨ status = stRemoteUe then some 2
  else if status = stTimeout then some 4 else if nack then some 3 else none

/-- Notes a mover status in MOV_ERR; a rising bit other than DATA_UE sends a record of corrected severity (R194). -/
def State.noteMov (s : State) (i : CoreId) (status : Nat) (reason : Option Nat) : State :=
  if status = stOk then s
  else
    let x := (s.core i).movErr
    let x0 := { x with lastStatus := BitVec.ofNat 8 status,
                       lastReason := match reason with
                         | some r => BitVec.ofNat 8 r
                         | none => x.lastReason }
    let bits : List Nat := (match movErrBit status reason.isSome with
      | some b => [b]
      | none => []) ++ (if status = stRemoteUe ∧ reason.isSome then [3] else [])
    let x1 := bits.foldl (fun (y : MovErr) b => { y with bits := setBit y.bits b true }) x0
    let s1 := s.modCore i (fun c => { c with movErr := x1 })
    if bits.any (fun b => b ≠ 2 && !bit x.bits b) then s1.unitErr i 0x0106 x1.reg else s1

end Sys2Proof.Machine
end

