-- ==== Sys2Proof/Machine/CellRegs.lean ====
section
/-!
DEFINITION. The registers of a cell and of a privileged core, read and written through the control interface and by the worker
(R43–R45, R53, R56, R59–R63, R115, R116, R121, R167–R169, R193–R195, R454, R455, R565).
-/
namespace Sys2Proof.Machine

/-! ### Task state (R42–R44) -/

/-- TSK_STATE (R44). -/
def State.taskState (s : State) (a : At) : W64 :=
  let t := s.task a
  BitVec.ofNat 64 (t.trapCause.toNat * 2 ^ 16 + min 255 (s.outstanding a) * 2 ^ 8 + t.st.code)

/-- STOP of TSK_CTRL (R43, R120): a task with a load pending stops when its data has returned. -/
def State.taskStop (s : State) (a : At) : State :=
  let t := s.task a
  if t.st = .stopped ∨ t.st = .stopping then s
  else if t.load.isSome then s.modTask a (fun t => { t with stopReq := true })
  else (s.modTask a (fun t => { t with st := .stopping, wait := .none })).settleStop a

/-- CLEAR_TRAP of TSK_CTRL (R43). -/
def State.taskClearTrap (s : State) (a : At) : State :=
  if (s.task a).st = .trapped ∧ s.outstanding a = 0 then s.modTask a (fun t => { t with st := .stopped }) else s

/-- START of TSK_CTRL (R43); it clears TRAP_CAUSE (R44). -/
def State.taskStart (s : State) (a : At) : State :=
  if (s.task a).st = .stopped then s.modTask a (fun t => { t with st := .active, trapCause := 0 }) else s

/-- A write of TSK_CTRL: STOP alone, else CLEAR_TRAP and then START (R43). -/
def State.taskCtrl (s : State) (a : At) (v : W64) : State :=
  if bit v 1 then s.taskStop a
  else
    let s1 := if bit v 2 then s.taskClearTrap a else s
    if bit v 0 then s1.taskStart a else s1

/-! ### Identity and status (R62) -/

/-- TSK_CELL_ID (R62). -/
def cellIdReg (c : CellAt) : W64 := BitVec.ofNat 64 (c.site.val * 256 + frameOf c.phys * 16 + posOf c.phys)

/-- The tasks that are not STOPPED, one bit each. -/
def Core.activeMask (k : Core) : Nat :=
  ((List.finRange 8).map (fun t => if (k.tasks.get t).st = .stopped then 0 else 2 ^ t.val)).foldl (· + ·) 0

/-- TSK_CELL_STATUS (R62). -/
def Cell.statusReg (c : Cell) : W64 :=
  BitVec.ofNat 64 (c.core.activeMask * 256 + b2n c.quiescing * 8 + b2n c.quiesced * 4 + b2n c.inReset * 2 + b2n c.ready)

/-! ### Unit status registers (R168, R169, R194) -/

/-- MXE_STATUS and VXE_STATUS (R168). -/
def State.engStatus (s : State) (c : CellAt) (e : Eng) : W64 :=
  let x := (s.cell c).eng e
  let cur := match x.running with
    | some r => r.q.opcode * 2 ^ 32 + r.q.task.val * 2 ^ 16 + 1
    | none => 0
  BitVec.ofNat 64 (cur + x.queue.length * 2 ^ 24 + b2n (headHeld (s.waitHeld (.cell c.site c.phys)) x.queue) * 4 + b2n x.parked * 2)

/-- MOV0_STATUS and MOV1_STATUS (R194). -/
def State.movStatus (s : State) (i : CoreId) (m : Fin 2) : W64 :=
  let x := (s.core i).mover m
  let cur := match x.started with
    | q :: _ => q.q.opcode * 2 ^ 32 + 1
    | [] => 0
  BitVec.ofNat 64 (cur + x.queue.length * 2 ^ 24 + x.started.length * 2 ^ 16 + b2n (headHeld (s.waitHeld i) x.queue) * 8
    + b2n (headHeld (fun q => s.relHeld i q || s.acqHeld i q) x.queue) * 4 + b2n x.parked * 2)

/-- MOV_PEND (R195). -/
def State.movPend (s : State) (a : At) : W64 :=
  BitVec.ofNat 64 (s.pendCount a .s * 2 ^ 48 + s.pendCount a .p * 2 ^ 32 + s.pendCount a .c * 2 ^ 16 + s.pendCount a .l)

/-- MOV_TIMEOUT (R195). -/
def Core.movTimeout (k : Core) : W64 := BitVec.ofNat 64 (k.movSwarm.toNat * 2 ^ 16 + k.movPanel.toNat)

/-- MXE_ACC_ADDR (R169). -/
def Cell.accAddrReg (c : Cell) : W64 := BitVec.ofNat 64 (b2n c.accInc * 2 ^ 63 + c.accPair.toNat)

/-- CMEM_ARB_STAT (R63). -/
def Cell.arbReg (c : Cell) : W64 := BitVec.ofNat 64 (c.arbWide.toNat * 256 + c.arbNarrow.toNat)

/-- TSK_CLK_STATUS (R455): GATED reads 0, since the access wakes the site. -/
def CellClk.statusReg (k : CellClk) : W64 := BitVec.ofNat 64 (b2n k.locked * 512 + b2n k.changing * 256 + k.code.toNat)

/-- TSK_CLK_MON (R454). -/
def CellClk.monReg (k : CellClk) : W64 :=
  BitVec.ofNat 64 (k.relocks.toNat * 2 ^ 48 + k.longest.toNat * 2 ^ 32 + k.episodes.toNat)

/-! ### Reads (R61) -/

/-- Which task register an offset from 0x1000 names: the task and the offset in it (R61). -/
def taskOff (off : Nat) : Option (TaskId × Nat) :=
  if h : 0x1000 ≤ off ∧ off < 0x2000 then
    some (⟨(off - 0x1000) / 0x200, by omega⟩, (off - 0x1000) % 0x200 / 8 * 8)
  else none

/-- A per-task TSK_ register (R61). The window registers exist in a cell only (R121). -/
def State.taskRegRead (s : State) (a : At) (o : Nat) : W64 :=
  let t := s.task a
  let cell := isCell a.core
  if o = 0x008 then s.taskState a
  else if o = 0x010 then t.pc.setWidth 64
  else if o = 0x048 then zext64 t.preds
  else if o ≥ 0x100 then t.x (BitVec.ofNat 5 ((o - 0x100) / 8))
  else if !cell then 0
  else if o = 0x018 then t.cwin0
  else if o = 0x020 then t.cwin1
  else if o = 0x028 then t.swin0
  else if o = 0x030 then t.swin1
  else if o = 0x038 then t.swin2
  else if o = 0x040 then t.swin3
  else 0

/-- The TSK_ and MOV_ registers that every core has (R61, R121, R193). -/
def State.coreRegRead (s : State) (i : CoreId) (off : Nat) : W64 :=
  match taskOff off with
  | some (t, o) => s.taskRegRead ⟨i, t⟩ o
  | none =>
    let k := s.core i
    if off = 0x3000 then s.movStatus i 0
    else if off = 0x3008 then s.movStatus i 1
    else if off = 0x3010 then k.movErr.reg
    else if off = 0x3018 then k.movDone
    else if off = 0x3020 then k.movTx
    else if off = 0x3028 then k.movRx
    else if off = 0x3030 then k.movTimeout
    else if h : 0x3040 ≤ off ∧ off < 0x3080 then s.movPend ⟨i, ⟨(off - 0x3040) / 8, by omega⟩⟩
    else 0

/-- An offset with its low three bits ignored (R61). -/
def off8 (off : BitVec 16) : Nat := off.toNat / 8 * 8

/-- A read of a cell register by control access, without the effects of RC registers and of the accumulator window (R61). -/
def State.cellRegRead (s : State) (c : CellAt) (off : Nat) : W64 :=
  let x := s.cell c
  if off = 0x0000 then cellIdReg c
  else if off = 0x0008 then s.bindReg c
  else if off = 0x0018 then x.statusReg
  else if off = 0x0020 then x.err.setWidth 64
  else if off = 0x0028 then x.cycles
  else if off = 0x0030 then x.rwin0
  else if off = 0x0038 then x.rwin1
  else if off = 0x0100 then x.clk.target.setWidth 64
  else if off = 0x0108 then x.clk.statusReg
  else if off = 0x0110 then x.clk.stretch
  else if off = 0x0118 then (x.clk.threshLatch.getD x.clk.thresh).setWidth 64
  else if off = 0x0120 then x.clk.monReg
  else if off = 0x2000 then x.cmemErrReg
  else if off = 0x2008 then x.passes.setWidth 64 <<< 32
  else if off = 0x2010 then x.arbReg
  else if off = 0x4000 then s.engStatus c .mxe
  else if off = 0x4008 then x.mxe.errReg
  else if off = 0x4010 then x.mxe.done
  else if off = 0x4018 then x.mxe.busy
  else if off = 0x4020 then (x.mxe.seedLatch.getD x.mxe.seed).setWidth 64
  else if off = 0x4028 then (if x.quiesced then x.accAddrReg else 0)
  else if off = 0x5000 then s.engStatus c .vxe
  else if off = 0x5008 then x.vxe.errReg
  else if off = 0x5010 then x.vxe.done
  else if off = 0x5018 then x.vxe.busy
  else if off = 0x5020 then (x.vxe.seedLatch.getD x.vxe.seed).setWidth 64
  else s.coreRegRead (.cell c.site c.phys) off

/-- Advances PAIR where AUTOINC is set (R169). -/
def Cell.accStep (c : Cell) : Cell := if c.accInc then { c with accPair := c.accPair + 1 } else c

/-- A read of MXE_ACC_DATA: zero while the cell is not quiesced; both halves zero where a word is uncorrectable (R169). -/
def State.accRead (s : State) (c : CellAt) : W64 × State :=
  let x := s.cell c
  if !x.quiesced then (0, s)
  else
    let p := 2 * x.accPair.toNat
    let s1 := s.modCell c Cell.accStep
    if (x.acc.firstUe p 2).isSome then (0, s1.setCellErr c errAccUe)
    else (joinW (x.acc.word p) (x.acc.word (p + 1)), s1)

/-- A write of MXE_ACC_DATA: both words with valid ECC; discarded with STATIC_WR while the cell is not quiesced (R169). -/
def State.accWrite (s : State) (c : CellAt) (v : W64) : State :=
  if !(s.cell c).quiesced then s.setCellErr c errStaticWr
  else s.modCell c (fun x => ({ x with acc := x.acc.write (2 * x.accPair.toNat) [loW v, hiW v] }).accStep)

/-- CMEM_ERR read: the counts clear (R63). -/
def State.cmemErrRead (s : State) (c : CellAt) : W64 × State :=
  ((s.cell c).cmemErrReg, s.modCell c (fun x => { x with ceCount := 0, ueCount := 0 }))

/-- CMEM_ARB_STAT read: the maxima clear (R63). -/
def State.arbRead (s : State) (c : CellAt) : W64 × State :=
  ((s.cell c).arbReg, s.modCell c (fun x => { x with arbWide := 0, arbNarrow := 0 }))

/-- TSK_CLK_MON read: the counts clear (R454). -/
def State.clkMonRead (s : State) (c : CellAt) : W64 × State :=
  ((s.cell c).clk.monReg, s.modCell c (fun x => { x with clk := { x.clk with relocks := 0, longest := 0, episodes := 0 } }))

/-- A control read of a cell register with its effects (R8 RC, R61, R169). Time has passed by an open amount when TSK_CYCLES is read
(log 10). -/
def State.cellRead (s : State) (c : CellAt) (off : Nat) : W64 × State :=
  if off = 0x0028 then
    let d := s.draw
    ((s.cell c).cycles + d.1, d.2.modCell c (fun x => { x with cycles := x.cycles + d.1 }))
  else if off = 0x2000 then s.cmemErrRead c
  else if off = 0x2010 then s.arbRead c
  else if off = 0x0120 then s.clkMonRead c
  else if off = 0x4030 then s.accRead c
  else (s.cellRegRead c off, s)

/-! ### Writes (R45, R53, R56, R59, R62, R565) -/

/-- Is a block that holds static registers of a task stopped: the task STOPPED, or the cell QUIESCED (R59)? -/
def State.taskStopped (s : State) (a : At) : Bool :=
  (s.task a).st = .stopped ||
  match a.core with
  | .cell si p => ((s.comb si).cell p).quiesced
  | _ => false

/-- Is the cell-wide block stopped: QUIESCED, or every task STOPPED with engine queues and movers empty (R59)? -/
def Cell.stopped (c : Cell) : Bool :=
  c.quiesced || (c.core.activeMask == 0 && c.mxe.all.isEmpty && c.vxe.all.isEmpty && c.core.mov0.all.isEmpty && c.core.mov1.all.isEmpty)

/-- The mask of a cell window's fields (R53). -/
def cwinMask : Nat := 0x80070000_1FFF1FFF

/-- Is a cell window value legal (R53)? -/
def cwinLegal (v : W64) : Bool := decide (fld v 12 0 + fld v 28 16 ≤ 7168)

/-- The mask of a store window's fields (R56). -/
def swinMask : Nat := 0xFFFFC0FF_FFFFFFFF

/-- Is a site one of the two combs of a store's pair (R15, R56)? -/
def pairHas (store site : Nat) : Bool := decide (site / 16 * 8 + site % 16 / 2 = store)

/-- Is a store window value legal (R56)? -/
def swinLegal (v : W64) : Bool :=
  decide (fld v 52 46 ≤ 111) && pairHas (fld v 52 46) (fld v 60 53) && decide (fld v 19 0 + fld v 39 20 ≤ 786432)

/-- A discarded write's error bit, in a cell; a privileged core has no error register for it (log 5). -/
def State.discard (s : State) (i : CoreId) (b : Nat) : State :=
  match i with
  | .cell si p => s.setCellErr ⟨si, p⟩ b
  | _ => s

/-- A static per-task write: field values first, then the class (R59, R565). -/
def State.staticTask (s : State) (a : At) (legal : Bool) (f : Task → Task) : State :=
  if !legal then s.discard a.core errBadWr
  else if !s.taskStopped a then s.discard a.core errStaticWr
  else s.modTask a f

/-- A control write of a per-task register (R61). -/
def State.taskRegWrite (s : State) (a : At) (o : Nat) (v : W64) : State :=
  let cell := isCell a.core
  let cw := keep v cwinMask
  let sw := keep v swinMask
  if o = 0x000 then s.taskCtrl a v
  else if o = 0x010 then s.staticTask a true (fun t => { t with pc := pcWrap a.core v.toNat })
  else if o = 0x048 then s.staticTask a true (fun t => { t with preds := v.setWidth 8 })
  else if o = 0x100 then s
  else if o > 0x100 then s.staticTask a true (fun t => t.set (BitVec.ofNat 5 ((o - 0x100) / 8)) v)
  else if !cell then s
  else if o = 0x018 then s.staticTask a (cwinLegal v) (fun t => { t with cwin0 := cw })
  else if o = 0x020 then s.staticTask a (cwinLegal v) (fun t => { t with cwin1 := cw })
  else if o = 0x028 then s.staticTask a (swinLegal v) (fun t => { t with swin0 := sw })
  else if o = 0x030 then s.staticTask a (swinLegal v) (fun t => { t with swin1 := sw })
  else if o = 0x038 then s.staticTask a (swinLegal v) (fun t => { t with swin2 := sw })
  else if o = 0x040 then s.staticTask a (swinLegal v) (fun t => { t with swin3 := sw })
  else s

/-- A control write of MOV_ERR: W1C (R194). -/
def State.movErrWrite (s : State) (i : CoreId) (v : W64) : State :=
  s.modCore i (fun k => { k with movErr := { k.movErr with bits := w1c k.movErr.bits v } })

/-- A control write of MOV_TIMEOUT: zero fields discarded; else it waits for the mover safe point (R59, R195). -/
def State.movTimeoutWrite (s : State) (i : CoreId) (v : W64) : State :=
  if fld v 31 16 = 0 ∨ fld v 15 0 = 0 then s.discard i errBadWr else s.modCore i (fun k => { k with movLatch := some v })

/-- A control write of a TSK_ or MOV_ register of any core (R61, R193). -/
def State.coreRegWrite (s : State) (i : CoreId) (off : Nat) (v : W64) : State :=
  match taskOff off with
  | some (t, o) => s.taskRegWrite ⟨i, t⟩ o v
  | none => if off = 0x3010 then s.movErrWrite i v else if off = 0x3030 then s.movTimeoutWrite i v else s

/-- TSK_CELL_BIND by a control write (R62): COLONY 0–63 or 0xFF, LOGICAL as it is, the cell-wide block stopped. -/
def State.bindWrite (s : State) (c : CellAt) (v : W64) : State :=
  let col := fld v 23 16
  if (col ≥ 64 ∧ col ≠ 0xFF) ∨ fld v 7 0 ≠ (s.comb c.site).logicalOf c.phys then s.setCellErr c errBadWr
  else if !(s.cell c).stopped then s.setCellErr c errStaticWr
  else s.modCell c (fun x => { x with colony := BitVec.ofNat 8 col })

/-- A receive window by a control write (R53, R59). -/
def State.rwinWrite (s : State) (c : CellAt) (v : W64) (f : W64 → Cell → Cell) : State :=
  if !cwinLegal v then s.setCellErr c errBadWr
  else if !(s.cell c).stopped then s.setCellErr c errStaticWr
  else s.modCell c (f (keep v cwinMask))

/-- MXE_ACC_ADDR by a control write (R169). -/
def State.accAddrWrite (s : State) (c : CellAt) (v : W64) : State :=
  if !(s.cell c).quiesced then s.setCellErr c errStaticWr
  else s.modCell c (fun x => { x with accInc := bit v 63, accPair := bits v 0 15 })

/-- A seed written: it waits for the engine's safe point (R59, R167). -/
def State.seedWrite (s : State) (c : CellAt) (e : Eng) (v : W64) : State :=
  s.modCell c (fun x => x.setEng e { x.eng e with seedLatch := some (loW v) })

/-- MXE_ERR or VXE_ERR by a control write: W1C (R168). -/
def State.engErrWrite (s : State) (c : CellAt) (e : Eng) (v : W64) : State :=
  s.modCell c (fun x => x.setEng e { x.eng e with err := w1c (x.eng e).err v })

/-- TSK_CLK_DROOP by a control write: 10–100 mV, applied at the next safe point (R454). -/
def State.droopWrite (s : State) (c : CellAt) (v : W64) : State :=
  if fld v 7 0 < 10 ∨ fld v 7 0 > 100 then s.setCellErr c errBadWr
  else s.modCell c (fun x => { x with clk := { x.clk with threshLatch := some (v.setWidth 8) } })

/-- A control write of a cell register that has no row of its own: every register of R61 but TSK_CTRL's, TSK_CELL_CTRL's,
TSK_CELL_BIND's, TSK_CLK_CTRL's and MXE_ACC_DATA's. -/
def State.cellPlainWrite (s : State) (c : CellAt) (off : Nat) (v : W64) : State :=
  if off = 0x0020 then s.modCell c (fun x => { x with err := w1c x.err v })
  else if off = 0x0030 then s.rwinWrite c v (fun w x => { x with rwin0 := w })
  else if off = 0x0038 then s.rwinWrite c v (fun w x => { x with rwin1 := w })
  else if off = 0x0118 then s.droopWrite c v
  else if off = 0x4008 then s.engErrWrite c .mxe v
  else if off = 0x4020 then s.seedWrite c .mxe v
  else if off = 0x4028 then s.accAddrWrite c v
  else if off = 0x5008 then s.engErrWrite c .vxe v
  else if off = 0x5020 then s.seedWrite c .vxe v
  else s.coreRegWrite (.cell c.site c.phys) off v

/-! ### Worker access (R45, R115, R116) -/

/-- rdreg on a cell: registers whose Worker column is "—", and the accumulator window of a running cell, read zero; RC registers clear
(R8, R115). -/
def State.workerRead (s : State) (i : CoreId) (off : Nat) : W64 × State :=
  match i with
  | .cell si p =>
    if off = 0x0010 then (0, s) else s.cellRead ⟨si, p⟩ off
  | _ => (match taskOff off with
    | some (t, o) => s.taskRegRead ⟨i, t⟩ o
    | none => 0, s)

/-- Does an offset of the cell map hold a register (R61, R167, R193, R454)? -/
def cellRegExists (off : Nat) : Bool :=
  decide (off ≤ 0x0038) || decide (0x0100 ≤ off ∧ off ≤ 0x0120) ||
  (match taskOff off with
    | some (_, o) => decide (o ≤ 0x048 ∨ 0x100 ≤ o)
    | none => false) ||
  decide (off = 0x2000 ∨ off = 0x2008 ∨ off = 0x2010) || decide (0x3000 ≤ off ∧ off ≤ 0x3030) || decide (0x3040 ≤ off ∧ off < 0x3080) ||
  decide (0x4000 ≤ off ∧ off ≤ 0x4030) || decide (0x5000 ≤ off ∧ off ≤ 0x5020)

/-- wrreg (R116). -/
def State.workerWrite (s : State) (a : At) (off : Nat) (v : W64) : State :=
  match taskOff off with
  | some (t, o) =>
    if o = 0x000 ∧ t ≠ a.task then s.taskCtrl ⟨a.core, t⟩ v
    else if o = 0x010 ∧ t ≠ a.task then
      if (s.task ⟨a.core, t⟩).st = .stopped then s.modTask ⟨a.core, t⟩ (fun x => { x with pc := pcWrap a.core v.toNat })
      else s.discard a.core errStaticWr
    else if cellRegExists off then s.discard a.core errBadWr else s
  | none => if cellRegExists off then s.discard a.core errBadWr else s

/-- rdreg: RS1 must be zero. -/
def execRdreg (a : At) (f : OpRI) (s : State) : Host.Outcome State Fault Refusal :=
  .next (s.issue a [] (f.rs1 != 0) (fun s =>
    let r := s.workerRead a.core (off8 f.imm)
    r.2.setRd a f.rd r.1))

/-- wrreg: RD must be zero. -/
def execWrreg (a : At) (f : OpRI) (s : State) : Host.Outcome State Fault Refusal :=
  .next (s.issue a [f.rs1] (f.rd != 0) (fun s =>
    (s.step1 a (fun t => t)).workerWrite a (off8 f.imm) ((s.task a).x f.rs1)))

/-! ### Rows of single registers -/

/-- Is a cell powered, out of reset and its own registers reachable (R57 step 5)? -/
def State.cellUp (s : State) (c : CellAt) : Bool := !(s.cell c).inReset

/-- CELL_BIND_WRITE. -/
def execCellBindWrite (c : CellAt) (v : W64) (s : State) : Host.Outcome State Fault Refusal :=
  .next (if s.cellUp c then s.bindWrite c v else s)

/-- ACC_DATA_ACCESS: a read, or a write of the value carried. -/
def execAccDataAccess (c : CellAt) (w : Option W64) (s : State) : Host.Outcome State Fault Refusal :=
  .next (if s.cellUp c then
    match w with
    | none => (s.accRead c).2
    | some v => s.accWrite c v
  else s)

/-- CMEM_ERR_READ. -/
def execCmemErrRead (c : CellAt) (s : State) : Host.Outcome State Fault Refusal :=
  .next (if s.cellUp c then (s.cmemErrRead c).2 else s)

/-- CMEM_ARB_STAT_READ. -/
def execCmemArbStatRead (c : CellAt) (s : State) : Host.Outcome State Fault Refusal :=
  .next (if s.cellUp c then (s.arbRead c).2 else s)

/-- TSK_CLK_MON_READ. -/
def execTskClkMonRead (c : CellAt) (s : State) : Host.Outcome State Fault Refusal :=
  .next (if s.cellUp c then (s.clkMonRead c).2 else s)

/-- TASK_START: a write of TSK_CTRL whose START bit is set. -/
def execTaskStart (a : At) (v : W64) (s : State) : Host.Outcome State Fault Refusal :=
  .next (if bit v 0 then s.taskCtrl a v else s)

/-- TASK_STOP: a write of TSK_CTRL whose STOP bit is set. -/
def execTaskStop (a : At) (v : W64) (s : State) : Host.Outcome State Fault Refusal :=
  .next (if bit v 1 then s.taskCtrl a v else s)

/-- CLEAR_TRAP: a write of TSK_CTRL whose CLEAR_TRAP bit is set. -/
def execClearTrap (a : At) (v : W64) (s : State) : Host.Outcome State Fault Refusal :=
  .next (if bit v 2 then s.taskCtrl a v else s)

/-- CELL_SCRUB_TICK: one line of each bank is read, single-bit errors are written back corrected; after row 447 a pass is counted
(R48, R49). -/
def execCellScrubTick (c : CellAt) (s : State) : Host.Outcome State Fault Refusal :=
  .next (
    let x := s.cell c
    if x.inReset ∨ x.quiesced ∨ (s.comb c.site).siteSt c.phys ≠ 0 then s
    else
      let base := x.scrubRow * 1024
      let ces := x.cmem.ceIn base 1024
      let s1 := s.noteRead c ces (x.cmem.firstUe base 1024)
      s1.modCell c (fun x =>
        { x with cmem := { x.cmem with ecc := x.cmem.ecc.filter (fun e => e.2 ≠ .single ∨ e.1 < base ∨ base + 1024 ≤ e.1) },
                 scrubRow := (x.scrubRow + 1) % 448, passes := if x.scrubRow = 447 then x.passes + 1 else x.passes }))

end Sys2Proof.Machine
end

