-- ==== Sys2Proof/Machine/Net.lean ====
section
/-!
DEFINITION. Packets at their endpoints: which a unit accepts, holds, refuses or discards (R298–R305, R315), and the comb error
registers that packets touch.
-/
namespace Sys2Proof.Machine

/-! ### Comb errors and counters (R304, R319) -/

/-- Sends an error record of a comb's units to its steward. -/
def State.combErr (s : State) (i : Site) (code sev : Nat) (info0 info1 : W64) : State :=
  s.sendErr i.val (mkErr code sev 3 i.val (s.eid i.val 0xB9) 0 info0 info1)

/-- RTR_COUNTERS (R319). -/
def Router.counters (r : Router) : W64 :=
  BitVec.ofNat 64 (r.crcDiscards.toNat * 2 ^ 32 + r.nacksSent.toNat * 2 ^ 16 + r.unpaired.toNat)

/-- The panel with a comb's router state changed. -/
def State.modRouter (s : State) (i : Site) (f : Router → Router) : State := s.modComb i (fun c => { c with router := f c.router })

/-- A packet that failed its HCRC or CRC6: counted, and recorded as a corrected error against the comb (R304). At a keeper nothing
counts it. -/
def State.crcDiscard (s : State) (site : Nat) : State :=
  if h : site < 224 then
    let s1 := s.modRouter ⟨site, h⟩ (fun r => { r with crcDiscards := satInc r.crcDiscards })
    s1.combErr ⟨site, h⟩ 0x0203 0 (s1.comb ⟨site, h⟩).router.counters 0
  else s

/-- A NACK that a router of a comb sends is counted (R319). -/
def State.countNack (s : State) (i : Site) : State := s.modRouter i (fun r => { r with nacksSent := satInc r.nacksSent })

/-! ### Epochs of endpoints (R305) -/

/-- The endpoint code whose epoch an endpoint runs: cells share their comb's steward's (log 14). -/
def epochKey (ep : Nat) : Nat := if ep < 0xB4 then 0xB9 else ep

/-- The configuration epoch of an endpoint. -/
def State.epochOf (s : State) (site ep : Nat) : Nat :=
  if h : site < 224 then
    let c := s.comb ⟨site, h⟩
    if ep = 0xB8 then (Tbl.get s.storeInit s.stores (storeOf ⟨site, h⟩)).epoch.epoch
    else (Tbl.get c.epochInit c.epochs (epochKey ep)).epoch
  else if site = 0xF0 then s.west.epoch.epoch else s.east.epoch.epoch

/-! ### Admission (R301–R305) -/

/-- What an endpoint does with a packet before its own checks. -/
inductive Admit where
  | drop
  | hold
  | nack (reason : Nat)
  | ok
  deriving DecidableEq, Repr

/-- Payload flits a type may have (R302): whole lines, four flits each, for the line types; the store and link types as their chapters
say; one flit for the others. -/
def lenOk (type flits : Nat) : Bool :=
  if type = 0x01 ∨ type = 0x04 ∨ type = 0x12 then flits % 4 == 0 && decide (1 ≤ flits ∧ flits ≤ 64)
  else if (0x08 ≤ type ∧ type ≤ 0x0F) ∨ (0x15 ≤ type ∧ type ≤ 0x1F) then decide (1 ≤ flits ∧ flits ≤ 64)
  else flits == 1

/-- Types that are defined (R302). -/
def typeDefined (type : Nat) : Bool :=
  decide (1 ≤ type ∧ type ≤ 6) || decide (8 ≤ type ∧ type ≤ 0x15) || decide (0x18 ≤ type ∧ type ≤ 0x1F)

/-- Is a data type of the response class (R302)? -/
def isResponse (type : Nat) : Bool :=
  decide (type = 0x04 ∨ type = 0x06 ∨ type = 0x09 ∨ type = 0x0D ∨ type = 0x12 ∨ type = 0x13 ∨ type = 0x19 ∨ type = 0x1A ∨ type = 0x1C)

/-- The checks of a data packet at an endpoint at epoch e, in the order header code, generation, type and length, epoch, payload. -/
def admitData (e : Nat) (p : DataPkt) : Admit :=
  let t := p.type.toNat
  if p.hcrc ≠ dataHcrc p then .drop
  else if p.gen ≠ 0 then .nack nkBadGen
  else if !typeDefined t || !lenOk t (p.lenM1.toNat + 1) then .nack nkBadPacket
  else if p.ep.toNat = (e + 1) % 4 then .hold
  else if p.ep.toNat = (e + 2) % 4 then .nack nkEpochStale
  else if p.badPayload then .nack nkPayload
  else .ok

/-- The checks of a control packet: CRC6 and generation. -/
def admitCtl (p : CtlPkt) : Admit :=
  if p.crc ≠ ctlCrc6 p then .drop else if p.gen ≠ 0 then .nack nkBadGen else .ok

/-- The work of an arrival of a data packet at an endpoint: held packets stay in flight; discarded, refused and accepted ones leave it.
Nothing is answered for a response-class packet (R303). -/
def State.arriveData (s : State) (site ep : Nat) (p : DataPkt) (body : State → State) : State :=
  match admitData (s.epochOf site ep) p with
  | .drop => (s.takeData p).crcDiscard site
  | .hold => s
  | .nack r => (s.takeData p).nackData (s.eid site ep) p r
  | .ok => body (s.takeData p)

/-- The work of an arrival of a control packet at an endpoint. -/
def State.arriveCtl (s : State) (site ep : Nat) (p : CtlPkt) (body : State → State) : State :=
  match admitCtl p with
  | .drop => (s.takeCtl p).crcDiscard site
  | .hold => s
  | .nack r => (s.takeCtl p).nackCtl (s.eid site ep) p r
  | .ok => body (s.takeCtl p)

/-- A payload word of a data packet. -/
def plWord (p : DataPkt) (i : Nat) : W32 := nth 0 p.payload i

/-- Eight payload bytes of a data packet, from word i. -/
def plW64 (p : DataPkt) (i : Nat) : W64 := joinW (plWord p i) (plWord p (i + 1))

/-- Is a source one that may make control accesses to a comb: its steward, or a keeper core of this panel (R29, R60)? -/
def State.ctlSource (s : State) (i : Site) (src : Eid) : Bool :=
  decide (fld src 23 16 = s.swarmPanel.toNat) &&
  (decide (fld src 15 8 = i.val ∧ fld src 7 0 = 0xB9) || decide (fld src 15 8 ≥ 0xF0 ∧ fld src 15 8 ≤ 0xF1))

/-- Is a source a keeper of this panel? -/
def State.fromKeeper (s : State) (src : Eid) : Bool :=
  decide (fld src 23 16 = s.swarmPanel.toNat) && decide (fld src 15 8 ≥ 0xF0 ∧ fld src 15 8 ≤ 0xF1)

/-! ### Arrival at a cell (R41, R57, R58, R183) -/

/-- Is a cell's site in Small Hours or Dark, where its router answers for it (R425)? -/
def State.cellDark (s : State) (c : CellAt) : Bool := decide ((s.comb c.site).siteSt c.phys ≥ 4)

/-- Is the cell's clock stopped for a change, or its site in Dusk, Night or Midnight, so that nothing can reach it yet (R425, R449)? -/
def State.cellAsleep (s : State) (c : CellAt) : Bool :=
  !s.cellDark c && ((s.cell c).clk.changing || decide ((s.comb c.site).siteSt c.phys ≠ 0))

/-- Does inbound bulk traffic of a cell wait: quiesced, its clock stopped for a change, or its site below Noon (R58, R425, R449)? -/
def State.cellHolds (s : State) (c : CellAt) : Bool :=
  let x := s.cell c
  !x.inReset && !s.cellDark c && (x.quiesced || x.quiescing || s.cellAsleep c)

/-- A cell in reset refuses a packet with TARGET_IN_RESET; a refused response is also counted by the site's router (R57, R303). For a
site in Small Hours or Dark its router answers, and counts what it refuses (R425, log 19). -/
def State.cellRefuse (s : State) (c : CellAt) (l : Nat) (p : DataPkt) : State :=
  if s.cellDark c then (s.countNack c.site).nackData (s.eid c.site.val 0xB9) p nkInReset
  else
    let s1 := s.nackData (s.eid c.site.val l) p nkInReset
    if isResponse p.type.toNat then s1.countNack c.site else s1

/-- Does a cell refuse what reaches it: in reset, or in Small Hours or Dark? -/
def State.cellOff (s : State) (c : CellAt) : Bool := (s.cell c).inReset || s.cellDark c

/-- The arrival of a data packet at a cell's endpoint, unless `holds`. -/
def State.atCellIf (s : State) (c : CellAt) (holds : Bool) (p : DataPkt) (body : State → State) : State :=
  let l := (s.comb c.site).logicalOf c.phys
  if p.dst ≠ s.eid c.site.val l ∨ l = 0xFF ∨ holds then s
  else s.arriveData c.site.val l p (fun s => if s.cellOff c then s.cellRefuse c l p else body s)

/-- A packet addressed to a cell's endpoint arrives: it waits while the cell holds traffic, and is refused while the cell is in reset. -/
def State.atCell (s : State) (c : CellAt) (p : DataPkt) (body : State → State) : State := s.atCellIf c (s.cellHolds c) p body

/-- An answer to a core's mover arrives. A quiesced cell applies it (R183); a sleeping one holds it. -/
def State.atCore (s : State) (i : CoreId) (p : DataPkt) (body : State → State) : State :=
  match i with
  | .cell si ph => s.atCellIf ⟨si, ph⟩ (!(s.cell ⟨si, ph⟩).inReset && s.cellAsleep ⟨si, ph⟩) p body
  | .steward si => if p.dst = s.eidOf i then s.arriveData si.val 0xB9 p body else s
  | .keeper h k => if p.dst = s.eidOf i then s.arriveData (0xF0 + h.code) k.val p body else s

/-- A control packet for a core arrives. A cell in reset refuses it. -/
def State.ctlAtCore (s : State) (i : CoreId) (p : CtlPkt) (body : State → State) : State :=
  if p.dst ≠ s.eidOf i then s
  else
    match i with
    | .cell si ph =>
      let c : CellAt := ⟨si, ph⟩
      if (s.comb si).logicalOf ph = 0xFF ∨ (!(s.cell c).inReset && s.cellAsleep c) then s
      else s.arriveCtl si.val ((s.comb si).logicalOf ph) p
        (fun s => if s.cellOff c then (s.nackCtl (if s.cellDark c then s.eid si.val 0xB9 else s.eidOf i) p nkInReset).countNack si else body s)
    | .steward si => s.arriveCtl si.val 0xB9 p body
    | .keeper h k => s.arriveCtl (0xF0 + h.code) k.val p body

end Sys2Proof.Machine
end

