-- ==== Sys2Proof/Machine/Waggle.lean ====
section
/-!
DEFINITION. The waggle network: member interfaces, combining at comb roots, solicited operations, ABORT, limits, epoch swaps, the
waggle registers (R321–R340). A comb's frame nodes and its root are one node here (log 28).
-/
namespace Sys2Proof.Machine

/-! ### Reaching the parts -/

/-- The panel with a comb's waggle state changed. -/
def State.modWag (s : State) (i : Site) (f : Waggle → Waggle) : State := s.modComb i (fun c => { c with waggle := f c.waggle })

/-- The core that holds a member interface: a keeper is one member, and core 0 holds its interface (R322). -/
def wagCore : CoreId → CoreId
  | .keeper h _ => .keeper h 0
  | i => i

/-- The member interface of a core for a key. -/
def State.wagMember (s : State) (i : CoreId) (key : Nat) : WagMember := Tbl.get WagMember.reset (s.core (wagCore i)).wag key

/-- The panel with a member interface changed. -/
def State.modMember (s : State) (i : CoreId) (key : Nat) (f : WagMember → WagMember) : State :=
  s.modCore (wagCore i) (fun k => { k with wag := Tbl.put WagMember.reset k.wag key (f (Tbl.get WagMember.reset k.wag key)) })

/-- The tasks that share a member interface. -/
def memberTasks : CoreId → List At
  | .keeper h _ => (List.finRange 16).flatMap (fun k => tasksOf (.keeper h k))
  | i => tasksOf i

/-- The key of an operation at an interface or comb root. -/
def wagKey (solicited : Bool) (group : Nat) : Nat := if solicited then 128 + group else group

/-- Is an operation solicited (R325)? -/
def isSolicited (op : Nat) : Bool := decide (9 ≤ op ∧ op ≤ 0xC)

/-! ### Packets (R323) -/

/-- Data tokens by LEN (R323). -/
def wagLen (n : Nat) : Nat := if n = 0 then 0 else if n = 1 then 1 else if n = 2 then 2 else if n = 3 then 4 else 8

/-- LEN by data tokens. -/
def lenCode (n : Nat) : Nat := if n = 0 then 0 else if n = 1 then 1 else if n = 2 then 2 else if n ≤ 4 then 3 else 4

/-- The CRC of a waggle packet: head bits [31:8], then the data tokens (R323). -/
def wagCrc (p : WagPkt) : Byte :=
  let h := ((((p.gen.toNat * 16 + p.op.toNat) * 2 + b2n p.down) * 128 + p.group.toNat) * 16 + p.seq.toNat) * 8 + p.len.toNat
  let r := crcOver 8 7 24 (h * 8 + p.status.toNat) 0xFF
  BitVec.ofNat 8 (p.data.foldl (fun r w => crcOver 8 7 32 w.toNat r) r)

/-- A waggle packet of this generation. -/
def mkWag (op : Nat) (down : Bool) (group seq status : Nat) (data : List W32) : WagPkt :=
  let p : WagPkt := { gen := 0, op := BitVec.ofNat 4 op, down := down, group := BitVec.ofNat 7 group, seq := BitVec.ofNat 4 seq,
                      len := BitVec.ofNat 3 (lenCode data.length), status := BitVec.ofNat 3 status, crc := 0, data := data }
  { p with crc := wagCrc p }

/-- Puts a waggle packet on its way to a comb. -/
def State.sendWag (s : State) (site : Nat) (input : Nat) (p : WagPkt) : State :=
  { s with net := { s.net with wag := s.net.wag ++ [{ site := site, input := BitVec.ofNat 3 input, pkt := p }] } }

/-! ### Errors (R324, R339) -/

/-- WAG_ERR bits (R339). -/
def weBadWr : Nat := 0
def weTimeout : Nat := 1
def weConflict : Nat := 2
def weLen : Nat := 3
def weCrc : Nat := 4
def weGen : Nat := 5
def weStaticWr : Nat := 6

/-- Sets a WAG_ERR bit; its rise sends a record: CRC contained, the others corrected (R324, R339, R476). -/
def State.wagErr (s : State) (i : Site) (b : Nat) : State :=
  if bit (s.comb i).waggle.err b then s
  else
    let s1 := s.modWag i (fun w => { w with err := setBit w.err b true })
    s1.combErr i (if b = weCrc then 0x0204 else 0x0205) (if b = weCrc then 1 else 0) ((s1.comb i).waggle.err.setWidth 64) 0

/-! ### Groups (R322, R340) -/

/-- The cells of a comb that are members of a colony's group. -/
def State.groupCells (s : State) (i : Site) (g : Nat) : List CoreId :=
  if g < 64 then
    ((List.finRange 192).filter (fun p => (s.cell ⟨i, p⟩).colony.toNat = g)).map (fun p => CoreId.cell i p)
  else []

/-- The members of a group in a comb: its cells, or the steward for SYSTEM and SWARM. -/
def State.groupMembers (s : State) (i : Site) (g : Nat) : List CoreId :=
  if g < 64 then s.groupCells i g else if g = 0x40 ∨ g = 0x41 then [.steward i] else []

/-- FRAME_MASK of a group: the frames that hold a member (R340). -/
def State.frameMask (s : State) (i : Site) (g : Nat) : Nat :=
  ((List.range 16).map (fun f =>
    if (s.groupCells i g).any (fun m => match m with
      | .cell _ p => decide (frameOf p = f)
      | _ => false) then 2 ^ f else 0)).foldl (· + ·) 0

/-- The written part of WAG_GROUP. -/
def State.wagGroup (s : State) (i : Site) (g : Nat) : W64 := Tbl.get 0 (s.comb i).waggle.group g

/-- WAG_GROUP as read (R340). -/
def State.wagGroupReg (s : State) (i : Site) (g : Nat) : W64 :=
  s.wagGroup i g + BitVec.ofNat 64 (s.frameMask i g * 2 ^ 16 + (s.groupCells i g).length * 256)

/-- The inputs a comb root awaits for a group, own members apart: N, E, S, W, keeper, and at the panel root the child panels (R340). -/
def State.wagInputs (s : State) (i : Site) (g : Nat) : List Nat :=
  let w := s.wagGroup i g
  (List.range 8).filter (fun d =>
    if d = 0 then false else if d ≤ 5 then bit w (48 + d)
    else decide ((s.comb i).waggle.parent = 0) && decide (d < 6 + fld w 41 40))

/-- Does a group's operation go on to the parent panel: SWARM, and colonies that span panels (R322, R334)? -/
def State.groupGoesUp (s : State) (g : Nat) : Bool :=
  g == 0x41 || (decide (g < 64) && decide (fld (nth 0 (s.layout g) 0) 31 24 > 1))

/-! ### The tree (R330, R339) -/

/-- The link number of a PARENT or input direction: 1 N, 2 E, 3 S, 4 W. -/
def wagDir (d : Nat) : Nat := d - 1

/-- The panel root above a comb: follow the parents, at most once through every comb. -/
def State.wagRoot (s : State) : Nat → Site → Option Site
  | 0, _ => none
  | n + 1, i =>
    let p := (s.comb i).waggle.parent.toNat
    if p = 0 then some i
    else
      match linkPeer i (wagDir p) with
      | some j => State.wagRoot s n j
      | none => none

/-- The comb through which a keeper enters the tree (R321). -/
def keeperComb : Half → Site
  | .west => 0x07
  | .east => 0x08

/-! ### Sending up and down (R328) -/

/-- Sends a token from a comb root to its parent; from the panel root it goes to the parent panel, or comes back down as the result. -/
def State.wagUp (s : State) (i : Site) (op : Nat) (g seq status : Nat) (data : List W32) : State :=
  let w := (s.comb i).waggle
  let p := w.parent.toNat
  if p ≠ 0 then
    match linkPeer i (wagDir p) with
    | some j => s.sendWag j.val (linkBack i (wagDir p) + 1) (mkWag op false g seq status data)
    | none => s
  else if w.upPanel ≠ 0xFF ∧ s.groupGoesUp g then s
  else
    let r : List W32 :=
      if status ≠ 0 then []
      else if op = 0 ∨ op = 0xC then []
      else if op = 0xA then [BitVec.ofNat 32 (b2n (data.take 4 == data.drop 4))]
      else if op = 9 ∨ op = 0xB then [nth 0 data 0 &&& 1]
      else data.take 1
    s.sendWag i.val 0 (mkWag op true g seq status r)

/-! ### Combining (R325, R328) -/

/-- A 128-bit digest from four data tokens, byte 0 most significant (R323). -/
def tok128 (l : List W32) : Nat := (l.take 4).foldl (fun a w => a * 2 ^ 32 + w.toNat) 0

/-- Two contributions combined (R325). -/
def wagCombine (op : Nat) (a b : List W32) : List W32 :=
  let x := nth 0 a 0
  let y := nth 0 b 0
  if op = 0 ∨ op = 0xC then []
  else if op = 1 ∨ op = 9 ∨ op = 0xB then [x &&& y] else if op = 2 then [x ||| y] else if op = 3 then [x ^^^ y]
  else if op = 4 then [x + y]
  else if op = 5 then [if x.ult y then y else x] else if op = 6 then [if x.ult y then x else y]
  else if op = 7 then [if x.slt y then y else x] else if op = 8 then [if x.slt y then x else y]
  else
    (if tok128 a ≤ tok128 b then a.take 4 else b.take 4) ++
      (if tok128 (a.drop 4) ≤ tok128 (b.drop 4) then (b.drop 4).take 4 else (a.drop 4).take 4)

/-- An open entry of a comb root. -/
def State.wagOpen (s : State) (i : Site) (key : Nat) : Option WagOpen := Tbl.get none (s.comb i).waggle.opens key

/-- The panel with an open entry replaced. -/
def State.setOpen (s : State) (i : Site) (key : Nat) (o : Option WagOpen) : State :=
  s.modWag i (fun w => { w with opens := Tbl.put none w.opens key o })

/-- Forwards the combined token once every awaited input has arrived. -/
def State.wagTry (s : State) (i : Site) (g key : Nat) : State :=
  match s.wagOpen i key with
  | none => s
  | some o =>
    if o.sent ∨ o.members ≠ 0 ∨ !o.inputs.isEmpty then s
    else
      (s.setOpen i key (some { o with sent := true })).wagUp i o.op.toNat g o.seq.toNat 0 (o.acc.getD [])

/-- Adds a contribution to an open entry. -/
def WagOpen.add (o : WagOpen) (data : List W32) : WagOpen :=
  { o with acc := some (match o.acc with
      | none => data
      | some a => wagCombine o.op.toNat a data) }

/-- Forwards a status other than OK at once (R328). -/
def State.wagFail (s : State) (i : Site) (g key : Nat) (o : WagOpen) (status : Nat) : State :=
  if o.sent then s else (s.setOpen i key (some { o with sent := true })).wagUp i o.op.toNat g o.seq.toNat status []

/-- The entry of a member operation, opened from WAG_GROUP and the member counts as they stand (R328). -/
def State.wagNew (s : State) (i : Site) (g : Nat) (p : WagPkt) : WagOpen :=
  { op := p.op, seq := p.seq, members := if bit (s.wagGroup i g) 48 then (s.groupMembers i g).length else 0,
    inputs := s.wagInputs i g, acc := none, operand := [], sent := false }

/-- A contribution arrives at a comb root on an input: 0 own member. -/
def State.wagContribute (s : State) (i : Site) (input : Nat) (p : WagPkt) : State :=
  let g := p.group.toNat
  let sol := isSolicited p.op.toNat
  let key := wagKey sol g
  if !bit (s.wagGroup i g) 63 then s
  else
    match (match s.wagOpen i key with
      | some o => some o
      | none => if sol then none else some (s.wagNew i g p)) with
    | none => s
    | some o =>
      if p.status ≠ 0 then s.wagFail i g key o p.status.toNat
      else if o.op ≠ p.op ∨ o.seq ≠ p.seq then (s.wagErr i weConflict).wagFail i g key o 3
      else if input = 0 then
        if o.members = 0 then s
        else (s.setOpen i key (some ({ o with members := o.members - 1 }.add p.data))).wagTry i g key
      else if o.inputs.contains input then
        (s.setOpen i key (some ({ o with inputs := o.inputs.erase input }.add p.data))).wagTry i g key
      else s

/-- Is a waggle packet good (R324)? Otherwise it is discarded, with its error. -/
def State.wagGood (s : State) (i : Site) (p : WagPkt) : Option State :=
  if p.gen ≠ 0 then some (s.wagErr i weGen)
  else if p.len.toNat > 4 ∨ p.op.toNat ≥ 0xE then some (s.wagErr i weLen)
  else if p.crc ≠ wagCrc p then some (s.wagErr i weCrc)
  else none

/-- Takes a waggle packet off the network. -/
def State.takeWag (s : State) (site : Nat) (input : BitVec 3) (p : WagPkt) : State :=
  { s with net := { s.net with wag := s.net.wag.erase { site := site, input := input, pkt := p } } }

/-- WAGGLE_UP_TOKEN. -/
def execWaggleUpToken (i : Site) (input : BitVec 3) (p : WagPkt) (s : State) : Host.Outcome State Fault Refusal :=
  .next (
    let s1 := s.takeWag i.val input p
    match s1.wagGood i p with
    | some e => e
    | none => if p.down then s else s1.wagContribute i input.toNat p)

/-! ### Delivery to members (R326–R329) -/

/-- The value written to rd (R326). -/
def wgoResult (status : Nat) (v : W32) : W64 := BitVec.ofNat 64 (status * 2 ^ 32 + (if status = 0 then v.toNat else 0))

/-- The tasks waiting on a key of an interface, with their rd. -/
def State.wgoWaiters (s : State) (i : CoreId) (key : Nat) : List (At × Reg) :=
  (memberTasks i).filterMap (fun a => match (s.task a).wait with
    | .wgo rd k => if k = key ∧ (s.task a).st = .waiting then some (a, rd) else none
    | _ => none)

/-- The operation word that a member would issue for an operation of a group: GROUP is zero on a cell (R326). -/
def wgoWord (i : CoreId) (op g : Nat) : W32 := BitVec.ofNat 32 (op * 2 ^ 26 + (if isCell i then 0 else g * 2 ^ 18))

/-- Closes an operation at a member: waiting tasks take the result; otherwise it is kept as unclaimed; SEQ advances (R327, R328). -/
def State.wagClose (s : State) (i : CoreId) (op g status : Nat) (v : W32) : State :=
  let ws := s.wgoWaiters i g
  let s1 := ws.foldl (fun s e => s.endWait e.1 e.2 (wgoResult status v)) s
  s1.modMember i g (fun m =>
    { m with seq := m.seq + 1, openOp := none,
             unclaimed := if ws.isEmpty then some (m.openOp.getD (wgoWord i op g), BitVec.ofNat 8 status, v) else none })

/-- The result of a solicited operation reaches a keeper: the issuing task takes it, held ones issue again (R335). -/
def State.wagAnswer (s : State) (h : Half) (g status : Nat) (v : W32) : State :=
  let i := CoreId.keeper h 0
  let key := wagKey true g
  let s1 := (s.wgoWaiters i key).foldl (fun s e => s.endWait e.1 e.2 (wgoResult status v)) s
  let s2 := (memberTasks i).foldl (fun s a =>
    if (s.task a).wait = .wgoHeld key then s.modTask a (fun t => { t with st := .active, wait := .none }) else s) s1
  s2.modMember i key (fun m => { m with seq := m.seq + 1, openOp := none, unclaimed := none })

/-- ABORT at a member: an open operation ends ABORTED, an unclaimed result is discarded, SEQ advances; a keeper's solicited operation of the
group ends with it (R329). -/
def State.wagAbort (s : State) (i : CoreId) (op g : Nat) : State :=
  let s1 := if (s.wagMember i g).openOp.isSome then s.wagClose i op g 4 0
    else s.modMember i g (fun m => { m with seq := m.seq + 1, unclaimed := none })
  match i with
  | .keeper h _ => if (s.wagMember i (wagKey true g)).openOp.isSome then s1.wagAnswer h g 4 0 else s1
  | _ => s1

/-- The members of a comb, and its keeper where the keeper is an input of the group there. -/
def State.wagHere (s : State) (i : Site) (g : Nat) : List CoreId :=
  s.groupMembers i g ++
  (match keeperEdge i with
    | some h => if bit (s.wagGroup i g) 53 ∧ keeperComb h = i then [.keeper h 0] else []
    | none => [])

/-- Has a group an operation open at a comb root? -/
def State.groupOpen (s : State) (g : Nat) : Bool :=
  (List.finRange 224).any (fun i => (s.wagOpen i g).isSome || (s.wagOpen i (wagKey true g)).isSome)

/-- The operations of a group ended by an ABORT of the lead keeper that has reached every comb and member; tokens under way came before it
(R212, R329, R338). -/
def State.abortGroup (s : State) (g : Nat) : State :=
  (List.finRange 224).foldl (fun s i =>
    if bit (s.wagGroup i g) 63 then
      (s.wagHere i g).foldl (fun s m => s.wagAbort m 0xD g) ((s.setOpen i g none).setOpen i (wagKey true g) none)
    else s) { s with net := { s.net with wag := s.net.wag.filter (fun f => decide (f.pkt.group.toNat ≠ g)) } }

/-- Passes a down token on to the children: the combs of the awaited inputs. -/
def State.wagPass (s : State) (i : Site) (p : WagPkt) : State :=
  ((s.wagInputs i p.group.toNat).filter (· ≤ 4)).foldl (fun s d =>
    match linkPeer i (wagDir d) with
    | some j => s.sendWag j.val 0 p
    | none => s) s

/-! ### Solicited answers (R335–R337) -/

/-- The configuration units of a comb, by endpoint code: port routers, store port, steward, samplers (R336). -/
def unitCodes : List Nat := (List.range 14).map (· + 0xB0)

/-- The epoch state of a unit. -/
def State.unitEpoch (s : State) (i : Site) (u : Nat) : UnitEpoch :=
  if u = 0xB8 then (Tbl.get s.storeInit s.stores (storeOf i)).epoch else Tbl.get (s.comb i).epochInit (s.comb i).epochs u

/-- The panel with a unit's epoch state changed. -/
def State.modUnitEpoch (s : State) (i : Site) (u : Nat) (f : UnitEpoch → UnitEpoch) : State :=
  if u = 0xB8 then
    let st := Tbl.get s.storeInit s.stores (storeOf i)
    { s with stores := Tbl.put s.storeInit s.stores (storeOf i) { st with epoch := f st.epoch } }
  else s.modComb i (fun c => { c with epochs := Tbl.put c.epochInit c.epochs u (f (Tbl.get c.epochInit c.epochs u)) })

/-- Bytes of a list of 64-bit words, little-endian. -/
def bytes64 (l : List W64) : List Byte := l.flatMap (fun w => toLe 8 w.toNat)

/-- One record of the PANEL image: INDEX, INSTANCE, SUBINDEX, TYPE, LENGTH and the value (R516). -/
def imageRec (idx inst type : Nat) (v : List Byte) : List Byte := toLe 2 idx ++ toLe 2 inst ++ [0] ++ toLe 1 type ++ toLe 2 v.length ++ v

/-- The default MAC address of a service port: MAC_BASE + 16 + p, its last byte counted (R528). -/
def portMac (base : List Byte) (p : Nat) : List Byte := base.take 5 ++ [nth 0 base 5 + BitVec.ofNat 8 (16 + p)]

/-- The epoch-class objects: index, number of instances, TYPE code, default of an instance (R530–R540). -/
def State.epochObjs (s : State) : List (Nat × Nat × Nat × (Nat → List Byte)) :=
  [(0x2030, 1, 0x02, fun _ => [0]), (0x6010, 112, 0x02, fun _ => [0]),
   (0xB002, 224, 0x0B, portMac s.ident.macBase), (0xB003, 224, 0x04, fun _ => [0, 0, 0, 0]),
   (0xB004, 224, 0x0B, fun _ => List.replicate 16 0), (0xB006, 224, 0x03, fun _ => [0, 0]),
   (0xB030, 1, 0x03, fun _ => toLe 2 29460)]

/-- The PANEL image without its epoch number: every instance of every epoch-class object, in order (R516). -/
def State.panelImage (s : State) : List Byte :=
  s.epochObjs.flatMap (fun o => (List.range o.2.1).flatMap (fun n =>
    imageRec o.1 n o.2.2.1 ((s.objVal o.1 n 0).getD (o.2.2.2 n))))

/-- The SWARM image: epoch, panel count, each panel's number and UID (R516). -/
def State.swarmImage (s : State) : List Byte :=
  toLe 4 s.swarmEpoch.toNat ++ toLe 1 s.swarmMembers.length ++ s.swarmMembers.flatMap (fun m => toLe 1 m.1 ++ m.2)

/-- Does a unit hold a digest domain (R336): PANEL and SWARM everywhere; a colony's on combs that host it? -/
def State.holdsDomain (s : State) (i : Site) (dom : Nat) : Bool :=
  decide (dom = 0x40 ∨ dom = 0x41) || (decide (dom < 64) && bit (Tbl.get (0 : W64) (s.comb i).ranks.dir dom) 63)

/-- The canonical image a unit holds of a domain (R516): a colony's rank entries, bridge grants and sampling configuration; the epoch
number and every epoch-class object; the swarm. -/
def State.domainImage (s : State) (i : Site) (u dom : Nat) : List Byte :=
  if dom < 64 then
    let k := (s.comb i).ranks
    let d := Tbl.get (0 : W64) k.dir dom
    bytes64 (Tbl.getAll 0 k.mem (fld d 12 0) (fld d 28 16) ++ [Tbl.get (0 : W64) k.bridge dom]) ++ (s.objVal 0x5018 dom 0).getD []
  else if dom = 0x41 then s.swarmImage
  else toLe 4 (s.unitEpoch i u).epoch ++ s.panelImage

/-- The digest: SHA-512 truncated to 128 bits (R336). -/
def State.unitDigest (s : State) (i : Site) (u dom : Nat) : BitVec 128 :=
  BitVec.ofNat 128 (leBytes (((Config.sha512 (s.domainImage i u dom)).take 16).reverse))

/-- Four data tokens of a 128-bit digest, byte 0 most significant (R323). -/
def digestTokens (n : Nat) : List W32 :=
  [BitVec.ofNat 32 (n / 2 ^ 96), BitVec.ofNat 32 (n / 2 ^ 64), BitVec.ofNat 32 (n / 2 ^ 32), BitVec.ofNat 32 n]

/-- The minimum and maximum of a non-empty or empty list of digests: all ones and zero when empty (R336). -/
def minMaxTokens (l : List Nat) : List W32 :=
  digestTokens (l.foldl min (2 ^ 128 - 1)) ++ digestTokens (l.foldl max 0)

/-- What a steward answers to QUERY (R335). -/
def State.queryAnswer (s : State) (i : Site) (cond arg : Nat) : Bool :=
  if cond = 0 then true
  else if cond = 1 then decide (arg % 256 ≠ i.val) || decide ((s.comb i).router.drain = 0x1FFFF)
  else if cond = 2 then unitCodes.all (fun u => decide ((s.unitEpoch i u).staged = some arg ∨ (s.unitEpoch i u).epoch = arg))
  else unitCodes.all (fun u => decide ((s.unitEpoch i u).epoch = arg))

/-- Is a comb within [SITE_LO, SITE_HI] of an operand? -/
def inRange (i : Site) (operand : List W32) : Bool :=
  decide (fld (nth 0 operand 0) 15 8 ≤ i.val ∧ i.val ≤ fld (nth 0 operand 0) 23 16)

/-- ARG of an operand. -/
def argOf (operand : List W32) : Nat := fld (nth 0 operand 1) 31 16

/-- The comb's own answer to a solicited request; COMMIT is answered when the units have swapped. -/
def State.wagOwn (s : State) (i : Site) (op : Nat) (operand : List W32) : List W32 :=
  if op = 9 then [BitVec.ofNat 32 (b2n (!inRange i operand || s.queryAnswer i (fld (nth 0 operand 0) 7 0) (argOf operand)))]
  else if op = 0xA then
    let dom := fld (nth 0 operand 0) 7 0
    minMaxTokens (if inRange i operand && s.holdsDomain i dom then unitCodes.map (fun u => (s.unitDigest i u dom).toNat) else [])
  else if op = 0xB then [1]
  else []

/-- A keeper's own image of a domain, and its digest (R336, R516). -/
def State.keeperImage (s : State) (h : Half) (dom : Nat) : List Byte :=
  if dom < 64 then
    bytes64 (Tbl.get Colony.free s.colonies dom).placement ++ fitTo 0 8 ((s.objVal 0x5011 dom 0).getD []) ++ (s.objVal 0x5018 dom 0).getD []
  else if dom = 0x41 then s.swarmImage
  else toLe 4 (s.keeper h).epoch.epoch ++ s.panelImage
def State.keeperDigest (s : State) (h : Half) (dom : Nat) : BitVec 128 :=
  BitVec.ofNat 128 (leBytes (((Config.sha512 (s.keeperImage h dom)).take 16).reverse))

/-- A keeper's answer: its own epoch for STAGED and AT_EPOCH, its own digest, its swap (R335, R336). -/
def State.keeperOwn (s : State) (h : Half) (op : Nat) (operand : List W32) : List W32 :=
  let e := (s.keeper h).epoch
  let cond := fld (nth 0 operand 0) 7 0
  if op = 9 then
    [BitVec.ofNat 32 (b2n (if cond = 2 then decide (e.staged = some (argOf operand) ∨ e.epoch = argOf operand)
      else if cond = 3 then decide (e.epoch = argOf operand) else true))]
  else if op = 0xA then
    minMaxTokens [(s.keeperDigest h cond).toNat]
  else if op = 0xB then [1]
  else []

/-- Which units have still to swap to a committed epoch. -/
def State.unswapped (s : State) (i : Site) : Bool := unitCodes.any (fun u => (s.unitEpoch i u).commit.isSome)

/-- COMMIT reaches a unit: it will swap at its next safe point (R337). -/
def UnitEpoch.commitTo (e : UnitEpoch) (n : Nat) : UnitEpoch := if e.staged = some n then { e with commit := some n } else e

/-- A unit discards its shadows (R337). -/
def UnitEpoch.abort (e : UnitEpoch) : UnitEpoch := { e with staged := none, commit := none }

/-- The request reaches a comb: COMMIT and ABORT_STAGE act on its units; then the comb awaits its own answer and its inputs. -/
def State.wagRequest (s : State) (i : Site) (p : WagPkt) : State :=
  let op := p.op.toNat
  let g := p.group.toNat
  let key := wagKey true g
  let act (f : UnitEpoch → UnitEpoch) : State := unitCodes.foldl (fun s u => s.modUnitEpoch i u f) s
  let s1 := if op = 0xB then act (fun e => e.commitTo (argOf p.data)) else if op = 0xC then act UnitEpoch.abort else s
  let o : WagOpen := { op := p.op, seq := p.seq, members := 1, inputs := s1.wagInputs i g, acc := none, operand := p.data, sent := false }
  let s2 := (s1.setOpen i key (some o)).wagPass i p
  let s3 : State := (match keeperEdge i with
    | some h =>
      if bit (s2.wagGroup i g) 53 ∧ keeperComb h = i then
        let k := s2.keeper h
        let k1 := if op = 0xB then { k with epoch := match (k.epoch.commitTo (argOf p.data)).commit with
              | some n => { epoch := n, staged := none, commit := none }
              | none => k.epoch }
          else if op = 0xC then { k with epoch := k.epoch.abort } else k
        (s2.setKeeper h k1).sendWag i.val 5 (mkWag op false g p.seq.toNat 0 (s2.keeperOwn h op p.data))
      else s2
    | none => s2)
  if op = 0xB ∧ s3.unswapped i then s3
  else s3.wagContribute i 0 (mkWag op false g p.seq.toNat 0 (s3.wagOwn i op p.data))

/-- WAGGLE_DOWN_TOKEN: a solicited request (two data tokens) opens; ABORT clears; any other closes the operation and delivers it. -/
def execWaggleDownToken (i : Site) (p : WagPkt) (s : State) : Host.Outcome State Fault Refusal :=
  .next (
    let s1 := s.takeWag i.val 0 p
    let g := p.group.toNat
    let op := p.op.toNat
    match s1.wagGood i p with
    | some e => e
    | none =>
      if !p.down ∨ !bit (s.wagGroup i g) 63 then s
      else if op = 0xD then
        let s2 := ((s1.setOpen i g none).setOpen i (wagKey true g) none).wagPass i p
        (s2.wagHere i g).foldl (fun s m => s.wagAbort m op g) s2
      else if isSolicited op then
        if p.len = 2 then s1.wagRequest i p
        else
          let s2 := (s1.setOpen i (wagKey true g) none).wagPass i p
          match keeperEdge i with
          | some h => if keeperComb h = i then s2.wagAnswer h g p.status.toNat (nth 0 p.data 0) else s2
          | none => s2
      else
        let s2 := (s1.setOpen i g none).wagPass i p
        (s2.wagHere i g).foldl (fun s m => s.wagClose m op g p.status.toNat (nth 0 p.data 0)) s2)

/-- WAGGLE_LIMIT_EXPIRY: the limit of a comb root runs out on an open operation (R328). A COLONY limit of 0 never does. -/
def execWaggleLimitExpiry (i : Site) (group : BitVec 7) (s : State) : Host.Outcome State Fault Refusal :=
  .next (
    let g := group.toNat
    let w := (s.comb i).waggle
    if g < 64 ∧ w.colonyLimit = 0 then s
    else
      match s.wagOpen i g, s.wagOpen i (wagKey true g) with
      | some o, _ => if o.sent then s else (s.wagErr i weTimeout).wagFail i g g o 5
      | none, some o => if o.sent then s else (s.wagErr i weTimeout).wagFail i g (wagKey true g) o 5
      | none, none => s)

/-! ### wgo (R325–R327) -/

/-- Is a core one of the lead keeper's (R325)? -/
def State.isLead (s : State) : CoreId → Bool
  | .keeper h _ => h == s.lead
  | _ => false

/-- Is an operation word malformed for its issuer (R326): BAD_OP? -/
def State.wgoBad (s : State) (i : CoreId) (w : W32) (x : W64) : Bool :=
  let op := fld w 29 26
  let g := fld w 24 18
  decide (op ≥ 0xE) || decide (fld w 31 30 ≠ 0 ∨ fld w 25 25 ≠ 0 ∨ fld w 17 0 ≠ 0) || (isCell i && decide (g ≠ 0)) ||
  decide (g ≥ 0x42) || (decide (op ≥ 9) && !s.isLead i) ||
  (op == 9 && decide (fld x 7 0 > 3 ∨ fld x 47 24 ≠ 0)) || (op == 0xA && decide (fld x 47 24 ≠ 0 ∨ fld x 7 0 > 0x41))

/-- The group of an operation: a cell's own colony (R326). -/
def State.wgoGroup (s : State) (i : CoreId) (w : W32) : Nat :=
  match i with
  | .cell si p => (s.cell ⟨si, p⟩).colony.toNat
  | _ => fld w 24 18

/-- Is the issuer a member of the group, or, for a solicited operation or ABORT, may it name it? -/
def State.wgoMember (s : State) (i : CoreId) (op g : Nat) : Bool :=
  match i with
  | .cell _ _ => decide (g < 64)
  | _ => decide (g = 0x40 ∨ g = 0x41) || (op == 0xD && s.isLead i)

/-- Sends a member's contribution: to its comb's root, a keeper's through its comb (R321, R327). -/
def State.wgoSend (s : State) (i : CoreId) (g op : Nat) (data : List W32) : State :=
  let p := mkWag op false g (s.wagMember i g).seq.toNat 0 data
  match i with
  | .cell si _ => s.sendWag si.val 0 p
  | .steward si => s.sendWag si.val 0 p
  | .keeper h _ => s.sendWag (keeperComb h).val 5 p

/-- A member operation (R327). -/
def State.wgoMemberOp (s : State) (a : At) (rd : Reg) (g : Nat) (w : W32) (x : W64) : State :=
  let m := s.wagMember a.core g
  let op := fld w 29 26
  match m.unclaimed, m.openOp with
  | some (uw, st, v), _ =>
    if uw = w then (s.modMember a.core g (fun m => { m with unclaimed := none })).setRd a rd (wgoResult st.toNat v)
    else
      ((s.modMember a.core g (fun m => { m with unclaimed := none, openOp := some w })).wgoSend a.core g op
        (if op = 0 then [] else [loW x])).waitFor a (.wgo rd g)
  | none, some _ => s.waitFor a (.wgo rd g)
  | none, none =>
    ((s.modMember a.core g (fun m => { m with openOp := some w })).wgoSend a.core g op
      (if op = 0 then [] else [loW x])).waitFor a (.wgo rd g)

/-- A solicited operation of the lead keeper: the panel root broadcasts the request (R328, R335). -/
def State.wgoSolicit (s : State) (a : At) (h : Half) (rd : Reg) (g op : Nat) (w : W32) (x : W64) : State :=
  let key := wagKey true g
  let m := s.wagMember a.core key
  if m.openOp.isSome then s.waitFor a (.wgoHeld key)
  else
    let s1 := (s.modMember a.core key (fun m => { m with openOp := some w })).waitFor a (.wgo rd key)
    match s.wagRoot 225 (keeperComb h) with
    | some r => s1.sendWag r.val 0 (mkWag op true g m.seq.toNat 0 [loW x, hiW x])
    | none => s1

/-- ABORT: the panel root broadcasts it, and the wgo is over (R329). -/
def State.wgoAbort (s : State) (a : At) (h : Half) (rd : Reg) (g : Nat) : State :=
  let s1 := match s.wagRoot 225 (keeperComb h) with
    | some r => s.sendWag r.val 0 (mkWag 0xD true g 0 0 [])
    | none => s
  s1.setRd a rd (wgoResult 0 0)

/-- wgo with an operation word of one OP; words of a gen-reserved OP are BAD_OP under any row (log 28). -/
def State.wgo (s : State) (a : At) (f : OpRRf) (row : Nat) : State :=
  let op0 := fld (loW ((s.task a).x f.rs1)) 29 26
  if op0 ≠ row ∧ op0 < 0xE then s
  else
    s.issue a [f.rs1, f.rs2] (decide (f.fn ≠ 0)) (fun s =>
      let w := loW ((s.task a).x f.rs1)
      let x := (s.task a).x f.rs2
      let op := fld w 29 26
      let g := s.wgoGroup a.core w
      if s.wgoBad a.core w x then s.setRd a f.rd (wgoResult 1 0)
      else if !s.wgoMember a.core op g then s.setRd a f.rd (wgoResult 2 0)
      else if op < 9 then s.wgoMemberOp a f.rd g w x
      else
        match a.core with
        | .keeper h _ => if op = 0xD then s.wgoAbort a h f.rd g else s.wgoSolicit a h f.rd g op w x
        | _ => s)

/-- wgo BARRIER. -/
def execWgoBarrier (a : At) (f : OpRRf) (s : State) : Host.Outcome State Fault Refusal := .next (s.wgo a f 0)
/-- wgo AND. -/
def execWgoAnd (a : At) (f : OpRRf) (s : State) : Host.Outcome State Fault Refusal := .next (s.wgo a f 1)
/-- wgo OR. -/
def execWgoOr (a : At) (f : OpRRf) (s : State) : Host.Outcome State Fault Refusal := .next (s.wgo a f 2)
/-- wgo XOR. -/
def execWgoXor (a : At) (f : OpRRf) (s : State) : Host.Outcome State Fault Refusal := .next (s.wgo a f 3)
/-- wgo ADD. -/
def execWgoAdd (a : At) (f : OpRRf) (s : State) : Host.Outcome State Fault Refusal := .next (s.wgo a f 4)
/-- wgo MAXU. -/
def execWgoMaxu (a : At) (f : OpRRf) (s : State) : Host.Outcome State Fault Refusal := .next (s.wgo a f 5)
/-- wgo MINU. -/
def execWgoMinu (a : At) (f : OpRRf) (s : State) : Host.Outcome State Fault Refusal := .next (s.wgo a f 6)
/-- wgo MAX. -/
def execWgoMax (a : At) (f : OpRRf) (s : State) : Host.Outcome State Fault Refusal := .next (s.wgo a f 7)
/-- wgo MIN. -/
def execWgoMin (a : At) (f : OpRRf) (s : State) : Host.Outcome State Fault Refusal := .next (s.wgo a f 8)
/-- wgo QUERY. -/
def execWgoQuery (a : At) (f : OpRRf) (s : State) : Host.Outcome State Fault Refusal := .next (s.wgo a f 9)
/-- wgo DIGEST. -/
def execWgoDigest (a : At) (f : OpRRf) (s : State) : Host.Outcome State Fault Refusal := .next (s.wgo a f 0xA)
/-- wgo COMMIT. -/
def execWgoCommit (a : At) (f : OpRRf) (s : State) : Host.Outcome State Fault Refusal := .next (s.wgo a f 0xB)
/-- wgo ABORT_STAGE. -/
def execWgoAbortStage (a : At) (f : OpRRf) (s : State) : Host.Outcome State Fault Refusal := .next (s.wgo a f 0xC)
/-- wgo ABORT. -/
def execWgoAbort (a : At) (f : OpRRf) (s : State) : Host.Outcome State Fault Refusal := .next (s.wgo a f 0xD)

/-! ### Epoch swaps (R337) -/

/-- A committed unit runs its staged epoch. -/
def UnitEpoch.swap (e : UnitEpoch) : UnitEpoch :=
  match e.commit with
  | some n => { epoch := n, staged := none, commit := none }
  | none => e

/-- A unit of a comb has swapped: when it was the last, the comb answers an open COMMIT. -/
def State.swapUnit (s : State) (i : Site) (u : Nat) : State :=
  let s1 := s.modUnitEpoch i u UnitEpoch.swap
  (List.range 2).foldl (fun s k =>
    let g := 0x40 + k
    match s.wagOpen i (wagKey true g) with
    | some o =>
      if o.op = 0xB ∧ o.members = 1 ∧ s.unswapped i = false then s.wagContribute i 0 (mkWag 0xB false g o.seq.toNat 0 [1]) else s
    | none => s) s1

/-- UNIT_EPOCH_SWAP: cells share their steward's epoch (log 14). -/
def execUnitEpochSwap (b : Block) (s : State) : Host.Outcome State Fault Refusal :=
  .next (match b with
    | .combBlk i => s.swapUnit i 0xB9
    | .portBlk i k => s.swapUnit i (0xB0 + k.val)
    | .samplerBlk i k => s.swapUnit i (0xBA + k.val)
    | .storeBlk st =>
      let c := octetCombs st.val
      let one (s : State) (n : Nat) : State := if h : n < 224 then s.swapUnit ⟨n, h⟩ 0xB8 else s
      one (one s c.1) c.2
    | .keeperBlk h => s.setKeeper h { s.keeper h with epoch := (s.keeper h).epoch.swap }
    | _ => s)

/-! ### Registers (R339, R340) -/

/-- Is any group open at a comb root? -/
def Waggle.anyOpen (w : Waggle) : Bool := w.opens.any (fun e => e.2.isSome)

/-- WAG_PARENT written. -/
def State.wagParentWrite (s : State) (i : Site) (v : W64) : State :=
  let p := fld v 2 0
  if p > 4 ∨ (p ≠ 0 ∧ (linkPeer i (wagDir p)).isNone) then s.wagErr i weBadWr
  else if (s.comb i).waggle.anyOpen then s.wagErr i weStaticWr
  else s.modWag i (fun w => { w with parent := bits v 0 3, upPanel := bits v 8 8 })

/-- The writable bits of WAG_GROUP. -/
def wagGroupMask : Nat := 0x803F030000000000

/-- WAG_GROUP written. -/
def State.wagGroupWrite (s : State) (i : Site) (g : Nat) (v : W64) : State :=
  if fld v 55 54 ≠ 0 ∨ fld v 41 40 = 3 then s.wagErr i weBadWr
  else if (s.wagOpen i g).isSome ∨ (s.wagOpen i (wagKey true g)).isSome then s.wagErr i weStaticWr
  else s.modWag i (fun w => { w with group := Tbl.put 0 w.group g (keep v wagGroupMask) })

/-- WAG_PARENT_WRITE. -/
def execWagParentWrite (i : Site) (v : W64) (s : State) : Host.Outcome State Fault Refusal := .next (s.wagParentWrite i v)

/-- WAG_GROUP_WRITE. -/
def execWagGroupWrite (i : Site) (g : Fin 66) (v : W64) (s : State) : Host.Outcome State Fault Refusal :=
  .next (s.wagGroupWrite i g.val v)

/-- WAG_STATUS; HOLD reads 0, since a swap is whole in its step (log 6). -/
def Waggle.statusReg (w : Waggle) : W64 :=
  let n (ok : Nat → Bool) : Nat := (w.opens.filter (fun e => e.2.isSome && ok e.1)).length
  BitVec.ofNat 64 (n (fun k => decide (k < 128)) * 2 ^ 16 + n (fun k => decide (k ≥ 128)) * 256)

/-- A read of a waggle register (R339). -/
def State.wagRegRead (s : State) (i : Site) (off : Nat) : W64 :=
  let w := (s.comb i).waggle
  if off = 0x9000 then BitVec.ofNat 64 (w.upPanel.toNat * 256 + w.parent.toNat)
  else if off = 0x9008 then w.statusReg
  else if off = 0x9010 then w.err.setWidth 64
  else if off = 0x9018 then w.limitLatch.getD (BitVec.ofNat 64 (w.colonyLimit.toNat * 2 ^ 16 + w.sysLimit.toNat))
  else if off = 0x9028 then
    BitVec.ofNat 64 (b2n (s.holdsDomain i w.digDomain.toNat) * 2 ^ 63 + w.digDomain.toNat * 2 ^ 16 + w.digUnit.toNat)
  else if off = 0x9030 then (s.unitDigest i w.digUnit.toNat w.digDomain.toNat).setWidth 64
  else if off = 0x9038 then (s.unitDigest i w.digUnit.toNat w.digDomain.toNat).extractLsb' 64 64
  else if 0x9100 ≤ off ∧ off < 0x9310 then s.wagGroupReg i ((off - 0x9100) / 8)
  else 0

/-- A write of a waggle register (R339). -/
def State.wagRegWrite (s : State) (i : Site) (off : Nat) (v : W64) : State :=
  if off = 0x9000 then s.wagParentWrite i v
  else if off = 0x9010 then s.modWag i (fun w => { w with err := w1c w.err v })
  else if off = 0x9018 then
    if fld v 15 0 = 0 then s.wagErr i weBadWr else s.modWag i (fun w => { w with limitLatch := some (keep v 0xFFFFFFFFFFFF) })
  else if off = 0x9028 then
    if fld v 7 0 < 0xB0 ∨ fld v 7 0 > 0xBD then s.wagErr i weBadWr
    else s.modWag i (fun w => { w with digDomain := bits v 16 8, digUnit := bits v 0 8 })
  else if 0x9100 ≤ off ∧ off < 0x9310 then s.wagGroupWrite i ((off - 0x9100) / 8) v
  else s

/-- WAG_LIMIT takes effect at its safe point (R339). -/
def Waggle.safePoint (w : Waggle) : Waggle :=
  match w.limitLatch with
  | some v => { w with colonyLimit := bits v 16 32, sysLimit := bits v 0 16, limitLatch := none }
  | none => w

end Sys2Proof.Machine
end

