-- ==== Sys2Proof/Machine/ObjMap.lean ====
section
/-!
DEFINITION. The Ciard object map (R524–R540): one row for each object, and the checks that a request makes against it (R510, R527).
-/
namespace Sys2Proof.Machine

/-- Instances by kind (R525). -/
inductive InstKind where
  | single
  | comb
  | cell
  | colony
  | store
  | link
  | octet
  | port
  | converter
  | blade
  | socket
  deriving DecidableEq, Repr

/-- Access codes (R502). -/
inductive Access where
  | ro
  | rw
  | wo
  deriving DecidableEq, Repr

/-- Change classes (R512). -/
inductive Class where
  | immediate
  | live
  | epoch
  | static
  deriving DecidableEq, Repr

/-- A row of the map: index, instances, subindexes, TYPE code (R508) and size, access, role (0 observe, 1 operate, 2 administer, 3 vendor),
class, default of a value that software writes, and whether it is stored. -/
structure ObjRow where
  idx : Nat
  kind : InstKind
  lo : Nat
  hi : Nat
  type : Nat
  size : Nat
  access : Access
  role : Nat
  cls : Class
  dflt : Nat
  stored : Bool
  deriving DecidableEq, Repr

/-- A row from its columns. -/
def orow (idx : Nat) (kind : InstKind) (lo hi type size : Nat) (access : Access) (role : Nat) (cls : Class) (dflt : Nat) (stored : Bool) :
    ObjRow :=
  { idx := idx, kind := kind, lo := lo, hi := hi, type := type, size := size, access := access, role := role, cls := cls, dflt := dflt,
    stored := stored }

/-- 1000h–1FFFh: identity, versions, sessions (R530). -/
def objs1 : List ObjRow :=
  [orow 0x1001 .single 0 0 12 0 .ro 0 .static 0 true,  -- PART_NUMBER
   orow 0x1002 .single 0 0 12 0 .ro 0 .static 0 true,  -- STEPPING
   orow 0x1003 .single 0 0 11 16 .ro 0 .static 0 true,  -- SERIAL
   orow 0x1004 .single 0 0 11 2 .ro 0 .static 0 true,  -- CIARD_VERSIONS
   orow 0x1005 .single 0 0 11 6 .ro 0 .static 0 true,  -- MAC_BASE
   orow 0x1006 .single 0 0 11 2 .ro 0 .static 0 true,  -- MBAUK_VERSIONS
   orow 0x1010 .single 0 0 13 0 .ro 0 .immediate 0 false,  -- CIARD_SESSIONS
   orow 0x1011 .single 0 0 4 4 .rw 2 .live 60 true,  -- CIARD_IDLE_S
   orow 0x1012 .single 0 0 11 32 .ro 0 .immediate 0 false,  -- CIARD_COUNTERS
   orow 0x1013 .single 0 3 11 4 .ro 0 .immediate 0 false,  -- CAN_STATUS
   orow 0x1014 .single 0 0 2 1 .rw 2 .live 2 true,  -- CAN_DATA_RATE
   orow 0x1015 .single 0 0 2 1 .ro 0 .immediate 0 false,  -- CAN_NODE_ID
   orow 0x1016 .single 0 1 4 4 .rw 2 .live 0 true,  -- MGMT_IPV4
   orow 0x1017 .single 0 1 11 16 .rw 2 .live 0 true,  -- MGMT_IPV6
   orow 0x1018 .single 0 1 11 6 .ro 0 .static 0 true,  -- MGMT_MAC
   orow 0x1020 .single 0 3 11 16 .ro 0 .immediate 0 false,  -- IMAGE_INFO
   orow 0x1021 .single 0 1 13 0 .wo 2 .immediate 0 true,  -- IMAGE_SET
   orow 0x1022 .single 0 1 2 1 .ro 0 .immediate 0 false,  -- IMAGE_SET_STATE
   orow 0x1023 .single 0 1 2 1 .wo 2 .immediate 0 false,  -- KEEPER_CTRL
   orow 0x1024 .single 0 0 2 1 .wo 2 .immediate 0 false,  -- STEWARD_ROLL
   orow 0x1025 .single 0 0 11 4 .ro 0 .immediate 0 false]  -- STEWARD_ROLL_STATE

/-- 2000h–2FFFh: panel (R531). -/
def objs2 : List ObjRow :=
  [orow 0x2001 .single 0 0 2 1 .ro 0 .immediate 0 false,  -- PANEL_STATE
   orow 0x2002 .single 0 0 2 1 .ro 0 .immediate 255 false,  -- BOOT_WAVE
   orow 0x2003 .single 0 0 2 1 .wo 2 .immediate 0 false,  -- PANEL_CTRL
   orow 0x2004 .single 0 0 13 0 .ro 0 .immediate 0 false,  -- BOOT_REPORT
   orow 0x2005 .single 0 1 2 1 .rw 2 .live 0 true,  -- BOOT_PREF
   orow 0x2006 .single 0 0 13 0 .ro 0 .immediate 0 false,  -- STORED_LOST
   orow 0x2010 .single 0 0 13 0 .ro 0 .static 0 true,  -- BIRTH_DEFECT_MAP
   orow 0x2020 .single 0 0 2 1 .wo 2 .immediate 0 false,  -- EPOCH_CTRL
   orow 0x2021 .single 0 0 11 8 .ro 0 .immediate 0 false,  -- EPOCH_STATE
   orow 0x2022 .single 0 0 3 2 .rw 2 .live 10 true,  -- EPOCH_STAGE_MS
   orow 0x2023 .single 0 0 2 1 .wo 1 .immediate 0 false,  -- DIGEST_CHECK
   orow 0x2024 .single 0 0 11 8 .ro 0 .immediate 0 false,  -- DIGEST_RESULT
   orow 0x2030 .single 0 0 2 1 .rw 2 .epoch 0 true,  -- SWARM_PANEL
   orow 0x2040 .single 0 1 2 1 .ro 0 .immediate 0 false,  -- STRAPS
   orow 0x2041 .single 0 1 2 1 .ro 0 .immediate 0 false]  -- DISCRETE_STATE

/-- 3000h–3FFFh: combs (R532). -/
def objs3 : List ObjRow :=
  [orow 0x3001 .comb 0 0 2 1 .ro 0 .immediate 0 false,  -- COMB_STATE
   orow 0x3010 .comb 0 15 5 8 .ro 0 .immediate 0 false,  -- SITE_MAP_FRAME
   orow 0x3020 .comb 0 0 5 8 .ro 0 .immediate 0 false]  -- NET_COUNTERS

/-- 4000h–4FFFh: cells (R533). -/
def objs4 : List ObjRow :=
  [orow 0x4001 .cell 0 0 5 8 .ro 0 .immediate 0 false,  -- CELL_ID
   orow 0x4002 .cell 0 0 5 8 .ro 0 .immediate 0 false,  -- CELL_BIND
   orow 0x4003 .cell 0 0 5 8 .ro 0 .immediate 0 false,  -- CELL_STATUS
   orow 0x4004 .cell 0 0 5 8 .ro 0 .immediate 0 false,  -- CELL_ERR
   orow 0x4010 .cell 0 0 5 8 .ro 0 .immediate 0 false,  -- CMEM_ERR_COUNTS
   orow 0x4020 .cell 0 0 5 8 .ro 0 .immediate 0 false,  -- CELL_CLOCK
   orow 0x4021 .cell 0 0 5 8 .ro 0 .immediate 0 false]  -- CELL_STRETCH

/-- 5000h–5FFFh: colonies and sequences (R534). -/
def objs5 : List ObjRow :=
  [orow 0x5001 .colony 0 0 2 1 .ro 0 .immediate 0 false,  -- COLONY_STATE
   orow 0x5002 .colony 0 0 2 1 .wo 1 .immediate 0 false,  -- COLONY_CTRL
   orow 0x5003 .colony 0 0 2 1 .ro 0 .immediate 0 false,  -- COLONY_REASON
   orow 0x5004 .colony 0 0 4 4 .ro 0 .immediate 0 false,  -- COLONY_RESTARTS
   orow 0x5010 .colony 0 0 13 0 .rw 2 .static 0 true,  -- COLONY_LAYOUT
   orow 0x5011 .colony 0 0 5 8 .rw 2 .live 0 true,  -- COLONY_BRIDGES
   orow 0x5012 .colony 0 0 4 4 .rw 1 .live 10000 true,  -- COLONY_DRAIN_MS
   orow 0x5013 .colony 0 0 13 0 .ro 0 .immediate 0 false,  -- COLONY_PLACEMENT
   orow 0x5014 .colony 0 0 4 4 .rw 2 .static 0 true,  -- COLONY_SLOTS
   orow 0x5015 .colony 0 0 4 4 .ro 0 .immediate 4294967295 false,  -- COLONY_SLOT_BASE
   orow 0x5016 .colony 0 0 3 2 .rw 2 .static 0 true,  -- COLONY_CONTEXTS
   orow 0x5017 .colony 0 0 5 8 .ro 0 .immediate 0 false,  -- COLONY_CTRL_REGION
   orow 0x5018 .colony 0 0 13 0 .rw 2 .static 0 true,  -- COLONY_SAMPLING
   orow 0x5019 .colony 0 0 1 1 .rw 2 .live 0 true,  -- COLONY_AUTO_DEPLOY
   orow 0x501A .colony 0 0 2 1 .rw 2 .live 0 true,  -- COLONY_TRAP_POLICY
   orow 0x5020 .colony 0 0 5 8 .ro 0 .immediate 0 false,  -- COLONY_ENERGY
   orow 0x5030 .colony 0 0 4 4 .ro 0 .immediate 0 false,  -- SESSIONS_OPEN
   orow 0x5031 .colony 0 0 4 4 .rw 1 .live 600 true,  -- SESSION_IDLE_S
   orow 0x5032 .colony 0 0 4 4 .rw 1 .live 1000 true,  -- SESSION_END_MS
   orow 0x5033 .colony 0 0 5 8 .ro 0 .immediate 0 false,  -- ADMIT_WORD
   orow 0x5040 .single 0 0 11 24 .wo 1 .immediate 0 false,  -- SESSION_CTRL
   orow 0x5050 .colony 0 0 11 16 .rw 2 .static 0 true,  -- COLONY_IMAGE
   orow 0x5051 .colony 0 0 11 16 .wo 2 .immediate 0 false,  -- IMAGE_UPDATE
   orow 0x5052 .colony 0 0 2 1 .ro 0 .immediate 0 false]  -- COLONY_IMAGE_STATE

/-- 6000h–6FFFh: links, lanes, ports (R535). -/
def objs6 : List ObjRow :=
  [orow 0x6001 .link 0 0 2 1 .ro 0 .immediate 0 false,  -- LINK_STATE
   orow 0x6002 .link 0 0 2 1 .ro 0 .immediate 0 false,  -- LINK_REASON
   orow 0x6003 .link 0 0 2 1 .rw 2 .live 0 true,  -- LINK_POLICY
   orow 0x6004 .link 0 0 11 32 .ro 0 .immediate 0 false,  -- LINK_COUNTERS
   orow 0x6005 .link 0 0 11 35 .ro 0 .immediate 0 false,  -- LINK_PEER
   orow 0x6006 .link 0 0 2 1 .wo 1 .immediate 0 false,  -- LINK_CTRL
   orow 0x6010 .octet 0 0 2 1 .rw 2 .epoch 0 true,  -- OCTET_MODE
   orow 0x6020 .socket 0 0 2 1 .ro 0 .immediate 0 false,  -- LASER_STATE
   orow 0x6021 .socket 0 0 11 16 .ro 0 .immediate 0 false,  -- LASER_TELEMETRY
   orow 0x6030 .single 0 0 4 4 .rw 1 .live 60 true,  -- LINK_RECAL_MIN
   orow 0x6031 .single 0 0 11 4 .wo 1 .immediate 0 false,  -- CENSUS_CTRL
   orow 0x6032 .single 0 0 2 1 .ro 0 .immediate 0 false,  -- CENSUS_STATE
   orow 0x6033 .link 0 0 13 0 .ro 0 .immediate 0 true]  -- CENSUS_RESULT

/-- 7000h–7FFFh: stores and weights (R536). -/
def objs7 : List ObjRow :=
  [orow 0x7001 .store 0 0 2 1 .ro 0 .immediate 0 false,  -- STORE_STATE
   orow 0x7002 .store 0 0 5 8 .ro 0 .immediate 0 false,  -- STORE_ECC_COUNTS
   orow 0x7003 .store 0 0 13 0 .ro 0 .immediate 0 true,  -- STORE_TEST_MAP
   orow 0x7004 .single 0 0 4 4 .rw 1 .live 3600 true,  -- STORE_SCRUB_S
   orow 0x7005 .store 0 0 4 4 .ro 0 .immediate 0 false,  -- STORE_FREE_64K
   orow 0x7006 .store 0 0 13 0 .ro 0 .immediate 0 false,  -- STORE_EXTENTS
   orow 0x7100 .colony 0 0 11 16 .wo 1 .immediate 0 false,  -- WEIGHT_LOAD
   orow 0x7101 .colony 0 0 2 1 .ro 0 .immediate 0 false,  -- WEIGHT_LOAD_STATE
   orow 0x7102 .colony 0 0 2 1 .ro 0 .immediate 0 false,  -- WEIGHT_LOAD_REASON
   orow 0x7103 .colony 0 0 4 4 .ro 0 .immediate 0 false,  -- WEIGHT_LOAD_PROGRESS
   orow 0x7104 .colony 0 0 2 1 .wo 1 .immediate 0 false,  -- WEIGHT_ACTIVATE
   orow 0x7105 .colony 0 0 11 16 .rw 2 .static 0 true,  -- COLONY_WEIGHTS
   orow 0x7106 .colony 0 1 5 8 .ro 0 .immediate 0 false,  -- WEIGHT_SET_ID
   orow 0x7107 .colony 0 0 5 8 .ro 0 .immediate 0 false,  -- WEIGHT_CHECKS
   orow 0x7110 .single 0 15 11 24 .rw 2 .live 0 true,  -- WEIGHT_SOURCES
   orow 0x7120 .colony 0 0 4 4 .rw 2 .static 1 true,  -- COLONY_BANK_64K
   orow 0x7121 .colony 0 0 4 4 .rw 2 .static 0 true,  -- COLONY_STREAM_64K
   orow 0x7130 .single 0 0 4 4 .rw 1 .live 3600 true,  -- WEIGHT_RECHECK_S
   orow 0x7131 .single 0 0 4 4 .rw 1 .live 900 true]  -- WEIGHT_LOAD_TIMEOUT_S

/-- 8000h–8FFFh: power, clock, thermal (R537). -/
def objs8 : List ObjRow :=
  [orow 0x8001 .single 0 1 11 16 .ro 0 .immediate 0 false,  -- HALF_RAIL
   orow 0x8002 .converter 0 0 2 1 .ro 0 .immediate 0 false,  -- CONVERTER_STATE
   orow 0x8003 .converter 0 0 11 20 .ro 0 .immediate 0 false,  -- CONVERTER_TELEMETRY
   orow 0x8004 .blade 0 0 2 1 .ro 0 .immediate 0 false,  -- BLADE_STATE
   orow 0x8005 .blade 0 0 11 16 .ro 0 .immediate 0 false,  -- BLADE_TELEMETRY
   orow 0x8006 .single 0 0 5 8 .ro 0 .immediate 0 false,  -- INPUT_ENERGY
   orow 0x8010 .comb 0 79 2 1 .ro 0 .immediate 0 false,  -- DOMAIN_STATE
   orow 0x8011 .comb 0 48 5 8 .ro 0 .immediate 0 false,  -- REG_STATUS
   orow 0x8012 .comb 0 48 5 8 .ro 0 .immediate 0 false,  -- REG_ENERGY
   orow 0x8013 .store 0 0 10 4 .ro 0 .immediate 0 false,  -- ZONE_CURRENT
   orow 0x8014 .single 0 0 3 2 .rw 1 .live 50 true,  -- INRUSH_WAIT_MS
   orow 0x8015 .single 0 0 10 4 .rw 1 .live 1092616192 true,  -- INRUSH_GUARD
   orow 0x8020 .single 0 0 4 4 .rw 1 .live 30000 true,  -- PANEL_CAP
   orow 0x8021 .single 0 0 10 4 .ro 0 .immediate 0 false,  -- PANEL_POWER
   orow 0x8022 .colony 0 0 10 4 .ro 0 .immediate 0 false,  -- COLONY_POWER
   orow 0x8023 .colony 0 0 2 1 .rw 1 .live 8 true,  -- COLONY_CLOCK
   orow 0x8024 .colony 0 0 2 1 .rw 1 .live 1 true,  -- COLONY_DEEPEST
   orow 0x8025 .comb 0 0 13 0 .ro 0 .immediate 0 true,  -- FMAX_TABLE
   orow 0x8030 .comb 0 21 10 4 .ro 0 .immediate 0 false,  -- SENSOR_TEMP
   orow 0x8031 .single 0 0 2 1 .rw 2 .live 95 true,  -- THROTTLE_C
   orow 0x8032 .comb 0 0 3 2 .ro 0 .immediate 0 false,  -- FRAME_HEAT
   orow 0x8033 .store 0 3 10 4 .ro 0 .immediate 0 false,  -- STORE_TEMP
   orow 0x8040 .single 0 0 11 16 .ro 0 .static 0 true,  -- ENERGY_COEFF
   orow 0x8050 .single 0 1 2 1 .ro 0 .immediate 0 false,  -- REFCLK_STATE
   orow 0x8051 .single 0 1 2 1 .rw 2 .live 0 true,  -- REFCLK_SELECT
   orow 0x8052 .single 0 1 5 8 .rw 2 .immediate 0 false,  -- KEEPER_TIME
   orow 0x8053 .comb 0 0 2 1 .ro 0 .immediate 0 false]  -- TRANSIT_CLK_SRC

/-- 9000h–9FFFh: health, errors, dump (R538). -/
def objs9 : List ObjRow :=
  [orow 0x9001 .single 0 0 11 16 .ro 0 .immediate 0 false,  -- LOG_STATUS
   orow 0x9002 .single 0 0 4 4 .rw 1 .immediate 1 false,  -- LOG_CURSOR
   orow 0x9003 .single 0 0 13 0 .ro 0 .immediate 0 false,  -- ERROR_LOG
   orow 0x9004 .single 0 0 13 0 .ro 0 .immediate 0 true,  -- PERSISTENT_LOG
   orow 0x9010 .single 0 0 13 0 .ro 0 .immediate 0 true,  -- FENCE_MAP
   orow 0x9011 .single 0 0 11 8 .wo 2 .immediate 0 false,  -- FENCE_CTRL
   orow 0x9020 .single 0 0 4 4 .rw 1 .live 600 true,  -- GUARD_PERIOD_S
   orow 0x9022 .comb 0 0 11 128 .ro 0 .immediate 0 false,  -- GUARD_STATUS
   orow 0x9030 .single 0 1 2 1 .ro 0 .immediate 0 false,  -- DUMP_STATE
   orow 0x9031 .single 0 1 13 0 .ro 0 .immediate 0 false,  -- DUMP_DATA
   orow 0x9032 .single 0 1 13 0 .ro 0 .immediate 0 true,  -- DUMP_SUMMARY
   orow 0x9033 .single 0 0 2 1 .wo 2 .immediate 0 false,  -- DUMP_CTRL
   orow 0x9040 .single 0 0 2 1 .ro 0 .immediate 0 false,  -- KEEPER_LEAD
   orow 0x9041 .single 0 0 2 1 .wo 2 .immediate 0 false,  -- LEAD_CTRL
   orow 0x9042 .single 0 1 2 1 .ro 0 .immediate 0 false]  -- KEEPER_HEALTH

/-- A000h–AFFFh: security (R539). -/
def objsA : List ObjRow :=
  [orow 0xA001 .single 0 0 11 32 .ro 0 .static 0 true,  -- DEVICE_PUBKEY
   orow 0xA002 .single 0 0 13 0 .ro 0 .static 0 true,  -- DEVICE_CERT
   orow 0xA003 .single 0 0 11 32 .ro 0 .static 0 true,  -- MFG_PUBKEY
   orow 0xA010 .single 1 2 11 32 .ro 0 .static 0 true,  -- VENDOR_IMAGE_KEY
   orow 0xA011 .single 0 3 11 32 .rw 2 .live 0 true,  -- COLONY_IMAGE_KEY
   orow 0xA012 .single 0 3 11 32 .rw 2 .live 0 true,  -- WEIGHT_KEY
   orow 0xA020 .single 1 3 3 2 .rw 2 .live 0 true,  -- SVN_FLOOR
   orow 0xA030 .single 0 7 11 32 .rw 2 .live 0 true,  -- OPERATE_KEY
   orow 0xA031 .single 0 7 11 32 .rw 2 .live 0 true,  -- ADMIN_KEY
   orow 0xA032 .single 0 0 11 32 .ro 0 .static 0 true,  -- VENDOR_KEY
   orow 0xA040 .single 0 0 11 32 .wo 1 .immediate 0 false,  -- ATTEST_NONCE
   orow 0xA041 .single 0 0 13 0 .ro 0 .immediate 0 false]  -- ATTEST_REPORT

/-- B000h–BFFFh: voice service (R540). -/
def objsB : List ObjRow :=
  [orow 0xB001 .port 0 0 2 1 .ro 0 .immediate 0 false,  -- SVC_PORT_STATE
   orow 0xB002 .port 0 0 11 6 .rw 2 .epoch 0 true,  -- SVC_PORT_MAC
   orow 0xB003 .port 0 0 4 4 .rw 2 .epoch 0 true,  -- SVC_PORT_IPV4
   orow 0xB004 .port 0 0 11 16 .rw 2 .epoch 0 true,  -- SVC_PORT_IPV6
   orow 0xB005 .port 0 0 11 6 .rw 2 .live 0 true,  -- SVC_PORT_GW_MAC
   orow 0xB006 .port 0 0 3 2 .rw 2 .epoch 0 true,  -- SVC_PORT_VLAN
   orow 0xB010 .port 0 0 11 64 .ro 0 .immediate 0 false,  -- SVC_PORT_COUNTERS
   orow 0xB020 .colony 0 0 5 8 .rw 2 .static 0 true,  -- SVC_MEDIA_MAP
   orow 0xB030 .single 0 0 3 2 .rw 2 .epoch 29460 true,  -- SVC_CTRL_PORT
   orow 0xB031 .single 0 7 11 40 .wo 2 .live 0 true]  -- SVC_EXCHANGE

/-- The whole map. -/
def objMap : List ObjRow := objs1 ++ objs2 ++ objs3 ++ objs4 ++ objs5 ++ objs6 ++ objs7 ++ objs8 ++ objs9 ++ objsA ++ objsB
/-! ### Instances (R341, R525) -/

/-- A link end by its number: comb links 0–11 as R371 numbers them, octets, the keeper link. -/
inductive LinkNo where
  | comb (site i : Nat)
  | octet (o : Nat)
  | keeper (half : Half)
  deriving DecidableEq, Repr

/-- The link end that a link number names (R341). -/
def linkOfNo (n : Nat) : Option LinkNo :=
  if n ≤ 0x037F then
    if h : n / 4 < 224 then if (linkPeer ⟨n / 4, h⟩ (n % 4)).isSome then some (.comb (n / 4) (n % 4)) else none else none
  else if 0x0400 ≤ n ∧ n ≤ 0x077F then some (.comb ((n - 0x400) / 4) (4 + (n - 0x400) % 4))
  else if 0x0800 ≤ n ∧ n ≤ 0x0B7F then some (.comb ((n - 0x800) / 4) (8 + (n - 0x800) % 4))
  else if 0x0C00 ≤ n ∧ n ≤ 0x0C6F then some (.octet (n - 0x0C00))
  else if n = 0x0D00 then some (.keeper .west)
  else if n = 0x0D01 then some (.keeper .east)
  else none

/-- The link number of a comb's link (R341). -/
def linkNo (site i : Nat) : Nat := if i < 4 then site * 4 + i else if i < 8 then 0x400 + site * 4 + (i - 4) else 0x800 + site * 4 + (i - 8)

/-- A comb of the panel by its site number. -/
def State.combN (s : State) (n : Nat) : Comb := Tbl.get s.combInit s.combs n

/-- The cell site of a `cell` instance: a mapped logical cell of an enabled comb (R64, R525). -/
def State.cellInstance (s : State) (n : Nat) : Option CellAt :=
  if h : n / 256 < 224 then
    if (s.combN (n / 256)).state = 0 then ((s.combN (n / 256)).physOf (n % 256)).map (fun p => ⟨⟨n / 256, h⟩, p⟩) else none
  else none

/-- Is an instance served (R525)? COLONY_ENERGY has instance 00FF too (R218). -/
def State.instOk (s : State) (r : ObjRow) (n : Nat) : Bool :=
  match r.kind with
  | .single => n == 0
  | .comb => decide (n < 224)
  | .cell => (s.cellInstance n).isSome
  | .colony => decide (n < 64 ∨ (r.idx = 0x5020 ∧ n = 0xFF))
  | .store => decide (n < 112)
  | .link => (linkOfNo n).isSome
  | .octet => decide (n < 112)
  | .port => decide (n < 224)
  | .converter => decide (n < 64)
  | .blade => decide (n < 8)
  | .socket => decide (n < 56)

/-- The row of an object. -/
def objRow (o : ObjRef) : Option ObjRow :=
  objMap.find? (fun r => r.idx == o.idx.toNat && decide (r.lo ≤ o.sub.toNat ∧ o.sub.toNat ≤ r.hi))

/-! ### Values (R526, R527) -/

/-- The limit of a writable DOMAIN (R527). -/
def domainLimit (idx : Nat) : Nat := if idx = 0x5010 then 33280 else if idx = 0x5018 then 2097736 else 34603008

/-- Status codes (R502). -/
def coOk : Nat := 0x00
def coNoObject : Nat := 0x01
def coNoInstance : Nat := 0x02
def coAccess : Nat := 0x03
def coRole : Nat := 0x04
def coType : Nat := 0x05
def coRange : Nat := 0x06
def coBusy : Nat := 0x07
def coNoSession : Nat := 0x08
def coSegment : Nat := 0x09
def coTooLarge : Nat := 0x0A
def coVersion : Nat := 0x0B
def coService : Nat := 0x0C
def coResource : Nat := 0x0D
def coStoreFail : Nat := 0x0E

/-- The type check of a TOTAL (R527). -/
def totalCheck (r : ObjRow) (total : Nat) : Option Nat :=
  if r.type = 13 then if total > domainLimit r.idx then some coTooLarge else none
  else if total ≠ r.size then some coType
  else none

/-- The default of a value that software writes (R526, R528). -/
def State.objDefault (s : State) (r : ObjRow) (inst : Nat) : List Byte :=
  if r.idx = 0xB002 then portMac s.ident.macBase inst else toLe r.size r.dflt

/-- The value of an object that software writes: the last written, or the default. -/
def State.objGet (s : State) (idx inst sub : Nat) : List Byte :=
  match s.objVal idx inst sub with
  | some v => v
  | none =>
    match objMap.find? (fun r => r.idx == idx) with
    | some r => s.objDefault r inst
    | none => []

/-- The same as a number. -/
def State.objU (s : State) (idx inst sub : Nat) : Nat := leBytes (s.objGet idx inst sub)

end Sys2Proof.Machine
end

