-- ==== Sys2Proof/Machine/MemOps.lean ====
section
/-!
DEFINITION. Loads, stores, local atomics and fences (R106, R107, R113, R189, R191), and the return of a load's data (R95, R120).
-/
namespace Sys2Proof.Machine

/-! ### Data accesses (R94, R100, R106) -/

/-- The virtual address of a load or store: x[rs1] + sext(imm, 16), in 64 bits (R106). -/
def dataVa (t : Task) (rs1 : Reg) (imm : BitVec 16) : W64 := t.x rs1 + sext64 imm

/-- data_check of R100: alignment first, then R51; the physical address or the trap cause. -/
def State.dataCheck (s : State) (a : At) (va : W64) (n : Nat) (q : Right) : Except Byte Nat :=
  if n = 2 ∧ bit va 0 then .error cMisaligned
  else
    match s.check a va.toNat n q with
    | .ok p => .ok p
    | .bound => .error cDataBound
    | .perm => .error cDataPerm

/-- rd_mem of R100: the words read, or the trap cause. -/
def State.rdMem (s : State) (a : At) (va : W64) (n : Nat) : Except Byte (List W32) × State :=
  match s.dataCheck a va n rightR with
  | .error c => (.error c, s)
  | .ok p =>
    match s.memRead a.core p n with
    | (.error _, s1) => (.error cDataUe, s1)
    | (.ok ws, s1) => (.ok ws, s1)

/-- The 64-bit value of one or two words read: two joined, one as it is in the low half. -/
def wordsVal (ws : List W32) (n : Nat) : W64 := if n = 2 then joinW (nth 0 ws 0) (nth 0 ws 1) else zext64 (nth 0 ws 0)

/-- A load: the words are read at issue; the task waits, not issuable, for its data (R95). -/
def State.load (s : State) (a : At) (f : OpRI) (n : Nat) (conv : W64 → W64) : State :=
  s.issue a [f.rs1] false (fun s =>
    let va := dataVa (s.task a) f.rs1 f.imm
    match s.rdMem a va n with
    | (.error c, s1) => s1.trap a c va
    | (.ok ws, s1) => s1.step1 a (fun t => { t with load := some (f.rd, conv (wordsVal ws n)) }))

/-- The words of a 64-bit value stored: one or two (R94). -/
def valWords (v : W64) (n : Nat) : List W32 := if n = 2 then [loW v, hiW v] else [loW v]

/-- A posted store (R96, R100, R106). -/
def State.storeOp (s : State) (a : At) (f : OpST) (n : Nat) : State :=
  s.issue a [f.rs1, f.rs2] false (fun s =>
    let va := dataVa (s.task a) f.rs1 f.imm
    match s.dataCheck a va n rightW with
    | .error c => s.trap a c va
    | .ok p => (s.step1 a (fun t => t)).memWrite a.core p (valWords ((s.task a).x f.rs2) n))

/-- lw. -/
def execLw (a : At) (f : OpRI) (s : State) : Host.Outcome State Fault Refusal :=
  .next (s.load a f 1 (fun v => sext64 (v.setWidth 32)))
/-- lwu. -/
def execLwu (a : At) (f : OpRI) (s : State) : Host.Outcome State Fault Refusal := .next (s.load a f 1 (fun v => v))
/-- ld. -/
def execLd (a : At) (f : OpRI) (s : State) : Host.Outcome State Fault Refusal := .next (s.load a f 2 (fun v => v))
/-- sw. -/
def execSw (a : At) (f : OpST) (s : State) : Host.Outcome State Fault Refusal := .next (s.storeOp a f 1)
/-- sd. -/
def execSd (a : At) (f : OpST) (s : State) : Host.Outcome State Fault Refusal := .next (s.storeOp a f 2)

/-- LOAD_DATA_RETURN: a pending load or atomic writes rd; a STOP that came meanwhile takes effect (R95, R120). -/
def execLoadDataReturn (a : At) (s : State) : Host.Outcome State Fault Refusal :=
  .next (match (s.task a).load with
    | none => s
    | some (rd, v) =>
      let s1 := s.modTask a (fun t => { (t.set rd v) with load := none })
      if (s.task a).stopReq then
        (s1.modTask a (fun t => { t with stopReq := false, st := .stopping })).settleStop a
      else s1)

/-! ### Atomics (R107) -/

/-- The operation of an atomic, at a width in bits: code of FN[3:0], old value, operand, compare value (R107). -/
def amoOp (code : Nat) {n : Nat} (old x cmp : BitVec n) : BitVec n :=
  if code = 0 then x else if code = 1 then old + x else if code = 2 then old &&& x else if code = 3 then old ||| x
  else if code = 4 then old ^^^ x
  else if code = 5 then (if old.slt x then old else x) else if code = 6 then (if old.slt x then x else old)
  else if code = 7 then (if old.ult x then old else x) else if code = 8 then (if old.ult x then x else old)
  else if old = cmp then x else old

/-- The new words of an atomic, by its width (R107, R181). -/
def amoWords (code : Nat) (w64 : Bool) (old x cmp : W64) : List W32 :=
  if w64 then let v := amoOp code old x cmp; [loW v, hiW v] else [amoOp code (loW old) (loW x) (loW cmp)]

/-- A local atomic (R107). With REL it is issuable only when every earlier operation of the task has completed (R191). -/
def State.amo (s : State) (a : At) (f : OpAmo) (code : Nat) (reads : List Reg) : State :=
  let w64 := bit f.fh 6
  let rel := bit f.fh 4
  let n := if w64 then 2 else 1
  if rel && decide (s.outstanding a ≠ 0) then s
  else
    s.issue a reads (decide (fld f.fh 3 0 ≠ 0)) (fun s =>
      let t := s.task a
      let va := t.x f.rs1
      match s.dataCheck a va n rightRW with
      | .error c => s.trap a c va
      | .ok p =>
        match s.memRead a.core p n with
        | (.error _, s1) => s1.trap a cDataUe va
        | (.ok ws, s1) =>
          let old := wordsVal ws n
          let rv := if w64 then old else sext64 (loW old)
          (s1.step1 a (fun t => { t with load := some (f.rd, rv) })).memWrite a.core p (amoWords code w64 old (t.x f.rs2) (t.x f.rd)))

/-- amoswap. -/
def execAmoswap (a : At) (f : OpAmo) (s : State) : Host.Outcome State Fault Refusal := .next (s.amo a f 0 [f.rs1, f.rs2])
/-- amoadd. -/
def execAmoadd (a : At) (f : OpAmo) (s : State) : Host.Outcome State Fault Refusal := .next (s.amo a f 1 [f.rs1, f.rs2])
/-- amoand. -/
def execAmoand (a : At) (f : OpAmo) (s : State) : Host.Outcome State Fault Refusal := .next (s.amo a f 2 [f.rs1, f.rs2])
/-- amoor. -/
def execAmoor (a : At) (f : OpAmo) (s : State) : Host.Outcome State Fault Refusal := .next (s.amo a f 3 [f.rs1, f.rs2])
/-- amoxor. -/
def execAmoxor (a : At) (f : OpAmo) (s : State) : Host.Outcome State Fault Refusal := .next (s.amo a f 4 [f.rs1, f.rs2])
/-- amomin. -/
def execAmomin (a : At) (f : OpAmo) (s : State) : Host.Outcome State Fault Refusal := .next (s.amo a f 5 [f.rs1, f.rs2])
/-- amomax. -/
def execAmomax (a : At) (f : OpAmo) (s : State) : Host.Outcome State Fault Refusal := .next (s.amo a f 6 [f.rs1, f.rs2])
/-- amominu. -/
def execAmominu (a : At) (f : OpAmo) (s : State) : Host.Outcome State Fault Refusal := .next (s.amo a f 7 [f.rs1, f.rs2])
/-- amomaxu. -/
def execAmomaxu (a : At) (f : OpAmo) (s : State) : Host.Outcome State Fault Refusal := .next (s.amo a f 8 [f.rs1, f.rs2])
/-- amocas: the compare value is x[rd]. -/
def execAmocas (a : At) (f : OpAmo) (s : State) : Host.Outcome State Fault Refusal :=
  .next (s.amo a f 9 [f.rs1, f.rs2, f.rd])

/-! ### Fences (R113, R189) -/

/-- A fence: over at once where its condition holds, else the task waits (R97, R189). Bits [25:3] must be zero. -/
def State.fence (s : State) (a : At) (z : BitVec 23) (scope : Nat) : State :=
  s.issue a [] (z != 0) (fun s =>
    if s.fenceMet a scope then s.step1 a (fun t => t) else s.waitFor a (.fence (BitVec.ofNat 3 scope)))

/-- FENCE.TASK. -/
def execFenceTask (a : At) (z : BitVec 23) (s : State) : Host.Outcome State Fault Refusal := .next (s.fence a z 0)
/-- FENCE.CELL. -/
def execFenceCell (a : At) (z : BitVec 23) (s : State) : Host.Outcome State Fault Refusal := .next (s.fence a z 1)
/-- FENCE.COLONY. -/
def execFenceColony (a : At) (z : BitVec 23) (s : State) : Host.Outcome State Fault Refusal := .next (s.fence a z 2)
/-- FENCE.PANEL. -/
def execFencePanel (a : At) (z : BitVec 23) (s : State) : Host.Outcome State Fault Refusal := .next (s.fence a z 3)
/-- FENCE.SWARM. -/
def execFenceSwarm (a : At) (z : BitVec 23) (s : State) : Host.Outcome State Fault Refusal := .next (s.fence a z 4)

/-- FENCE_WAIT_END: a waiting fence whose condition holds ends. -/
def execFenceWaitEnd (a : At) (s : State) : Host.Outcome State Fault Refusal :=
  .next (match (s.task a).wait with
    | .fence sc => if (s.task a).st = .waiting ∧ s.coreRuns a.core ∧ s.fenceMet a sc.toNat then s.endWait a 0 0 else s
    | _ => s)

end Sys2Proof.Machine
end

