-- ==== Sys2Proof/Machine/Flags.lean ====
section
/-!
DEFINITION. Number formats, rounding, conversions and the arithmetic flags (R65–R89). Finite values are exact: a sign, a natural
significand and a power of two.
-/
namespace Sys2Proof.Machine

/-! ### Values and formats (R65–R70) -/

/-- A floating value: NaN, an infinity, or (−1)^neg × m × 2^e. -/
inductive FV where
  | nan
  | inf (neg : Bool)
  | fin (neg : Bool) (m : Nat) (e : Int)
  deriving DecidableEq, Repr

/-- A binary format: width, significand bits, exponent of the least quantum, largest finite value, and its special codes. -/
structure FFmt where
  w : Nat
  p : Nat
  qmin : Int
  maxM : Nat
  maxQ : Int
  hasInf : Bool
  nanCode : Option Nat
  deriving DecidableEq, Repr

def fp32 : FFmt := { w := 32, p := 24, qmin := -149, maxM := 2 ^ 24 - 1, maxQ := 104, hasInf := true, nanCode := some 0x7FC00000 }
def bf16 : FFmt := { w := 16, p := 8, qmin := -133, maxM := 255, maxQ := 120, hasInf := true, nanCode := some 0x7FC0 }
def fp16 : FFmt := { w := 16, p := 11, qmin := -24, maxM := 2047, maxQ := 5, hasInf := true, nanCode := some 0x7E00 }
def e5m2 : FFmt := { w := 8, p := 3, qmin := -16, maxM := 7, maxQ := 13, hasInf := true, nanCode := some 0x7E }
def e4m3 : FFmt := { w := 8, p := 4, qmin := -9, maxM := 14, maxQ := 5, hasInf := false, nanCode := some 0x7F }
def e3m2 : FFmt := { w := 6, p := 3, qmin := -4, maxM := 7, maxQ := 2, hasInf := false, nanCode := none }
def e2m3 : FFmt := { w := 6, p := 4, qmin := -3, maxM := 15, maxQ := -1, hasInf := false, nanCode := none }
def e2m1 : FFmt := { w := 4, p := 2, qmin := -1, maxM := 3, maxQ := 1, hasInf := false, nanCode := none }

/-- The element format of a floating format code (R65): MX codes give their element. -/
def ffmt (code : Nat) : FFmt :=
  if code = 1 then bf16 else if code = 2 then fp16 else if code = 5 then e4m3 else if code = 6 then e5m2
  else if code = 7 then e3m2 else if code = 8 then e2m3 else if code = 9 then e2m1 else fp32

/-- Is a format code one of the integer formats (R153)? -/
def isIntFmt (code : Nat) : Bool := code == 3 || code == 4

/-- A two's-complement number of `w` bits. -/
def sInt (w v : Nat) : Int := if v % 2 ^ w ≥ 2 ^ (w - 1) then (v % 2 ^ w : Int) - 2 ^ w else (v % 2 ^ w : Int)

/-- The value of an integer, exactly. -/
def FV.ofInt (i : Int) : FV := .fin (decide (i < 0)) i.natAbs 0

/-- The value a code of a format encodes (R66, R67). -/
def decodeF (f : FFmt) (c : Nat) : FV :=
  let neg := c / 2 ^ (f.w - 1) % 2 == 1
  let ef := c / 2 ^ (f.p - 1) % 2 ^ (f.w - f.p)
  let mf := c % 2 ^ (f.p - 1)
  let efMax := 2 ^ (f.w - f.p) - 1
  if f.hasInf && ef == efMax then (if mf = 0 then .inf neg else .nan)
  else if f.nanCode.isSome && !f.hasInf && ef == efMax && mf == 2 ^ (f.p - 1) - 1 then .nan
  else if ef = 0 then .fin neg mf f.qmin
  else .fin neg (2 ^ (f.p - 1) + mf) (f.qmin + ef - 1)

/-- The code of a finite value n × 2^q of a format, n at most 2^p and q at least the least quantum (R66, R67). -/
def encodeFin (f : FFmt) (neg : Bool) (n : Nat) (q : Int) : Nat :=
  let nq := if n ≥ 2 ^ f.p then (n / 2, q + 1) else (n, q)
  let body := if nq.1 < 2 ^ (f.p - 1) then nq.1 else (nq.2 - f.qmin + 1).toNat * 2 ^ (f.p - 1) + (nq.1 - 2 ^ (f.p - 1))
  b2n neg * 2 ^ (f.w - 1) + body

/-- The code of an infinity (R66). -/
def encodeInf (f : FFmt) (neg : Bool) : Nat := b2n neg * 2 ^ (f.w - 1) + (2 ^ (f.w - f.p) - 1) * 2 ^ (f.p - 1)

/-- Multiplies a value by 2^k exactly. -/
def FV.scale (v : FV) (k : Int) : FV :=
  match v with
  | .fin s m e => .fin s m (e + k)
  | x => x

/-- The value of an E8M0 scale as an exponent; none is the block NaN (R69). -/
def e8m0 (x : Nat) : Option Int := if x = 0xFF then none else some ((x : Int) - 127)

/-! ### Arithmetic context: flags, generators, free draws (R78, R89) -/

/-- What a computing command carries along: the four flags, its lanes' generators, how many free values are drawn. -/
structure Ar where
  sat : Bool
  ovf : Bool
  dz : Bool
  inv : Bool
  lanes : Tbl W32
  free : Nat
  deriving DecidableEq, Repr

/-- No flag yet. -/
def Ar.start (lanes : Tbl W32) (free : Nat) : Ar := { sat := false, ovf := false, dz := false, inv := false, lanes := lanes, free := free }

/-- FLAGS of R89. -/
def Ar.flags (r : Ar) : BitVec 4 := BitVec.ofNat 4 (b2n r.sat * 8 + b2n r.ovf * 4 + b2n r.dz * 2 + b2n r.inv)

/-- What a lane that no seed has loaded holds (R78, R150). -/
def laneReset : W32 := 1

/-- One shift of a generator (R78). -/
def lfsrStep (s : W32) : W32 := if bit s 0 then (s >>> 1) ^^^ 0x80200003 else s >>> 1

/-- `n` shifts of a generator. -/
def lfsrSteps : Nat → W32 → W32
  | 0, s => s
  | n + 1, s => lfsrSteps n (lfsrStep s)

/-- The next stochastic value of a lane (R78). -/
def Ar.sr (r : Ar) (lane : Nat) : Nat × Ar :=
  let s := lfsrSteps 16 (Tbl.get laneReset r.lanes lane)
  (s.toNat % 65536, { r with lanes := Tbl.put laneReset r.lanes lane s })

/-- Seeding: lane i := seed XOR (i × 9E3779B9h mod 2^32), and 1 in place of 0 (R78). -/
def seedLanes (seed : W32) (n : Nat) : Tbl W32 :=
  (List.range n).foldl (fun t i =>
    let v := seed ^^^ BitVec.ofNat 32 (i * 0x9E3779B9)
    Tbl.put laneReset t i (if v = 0 then 1 else v)) []

/-! ### Rounding (R76, R77, R80) -/

/-- Whether a mode rounds a non-zero remainder away from zero, where no generator is needed: mode, sign, n odd, remainder, 2^d. -/
def roundsUp (mode : Nat) (neg odd : Bool) (rem full : Nat) : Bool :=
  if rem = 0 then false
  else if mode = 0 then decide (2 * rem > full) || (decide (2 * rem = full) && odd)
  else if mode = 2 then neg
  else if mode = 3 then !neg
  else false

/-- Rounds m × 2^e to a whole number of quanta 2^q under a mode; SR draws from a lane when a rounding is needed (R76, R77). -/
def Ar.quanta (r : Ar) (mode lane : Nat) (neg : Bool) (m : Nat) (e q : Int) : Nat × Ar :=
  if e ≥ q then (m * 2 ^ (e - q).toNat, r)
  else
    let full := 2 ^ (q - e).toNat
    let n := m / full
    let rem := m % full
    if mode = 4 ∧ rem ≠ 0 then
      let v := r.sr lane
      (if rem * 65536 / full + v.1 ≥ 65536 then n + 1 else n, v.2)
    else (if roundsUp mode neg (n % 2 == 1) rem full then n + 1 else n, r)

/-- The quantum of a value in a format: its last place, or the subnormal one (R77). -/
def FFmt.quantum (f : FFmt) (m : Nat) (e : Int) : Int := max (e + (Nat.log2 m : Int) - (f.p - 1 : Nat)) f.qmin

/-- Is n × 2^q above the largest finite value of a format? -/
def FFmt.above (f : FFmt) (n : Nat) (q : Int) : Bool :=
  if q ≥ f.maxQ then decide (n * 2 ^ (q - f.maxQ).toNat > f.maxM) else decide (n > f.maxM * 2 ^ (f.maxQ - q).toNat)

/-- Narrows a value into a format with infinity: the code, under R80. -/
def Ar.narrow (r : Ar) (f : FFmt) (mode : Nat) (satBit : Bool) (lane : Nat) (v : FV) : Nat × Ar :=
  match v with
  | .nan => (f.nanCode.getD 0, r)
  | .inf s => (encodeInf f s, r)
  | .fin s m e =>
    if m = 0 then (encodeFin f s 0 f.qmin, r)
    else
      let q := f.quantum m e
      let n := r.quanta mode lane s m e q
      if f.above n.1 q then
        if satBit || mode == 1 || (mode == 2 && !s) || (mode == 3 && s) then (encodeFin f s f.maxM f.maxQ, { n.2 with sat := true })
        else (encodeInf f s, { n.2 with ovf := true })
      else (encodeFin f s n.1 q, n.2)

/-- Narrows a value into FP32, BF16 or FP16 and gives the value of the code. -/
def Ar.narrowV (r : Ar) (f : FFmt) (mode : Nat) (satBit : Bool) (lane : Nat) (v : FV) : FV × Ar :=
  let c := r.narrow f mode satBit lane v
  (decodeF f c.1, c.2)

/-- Rounds into FP32 under RNE, without saturation (R82, R153). -/
def Ar.rne32 (r : Ar) (v : FV) : FV × Ar := r.narrowV fp32 0 false 0 v

/-- Converts a value to an integer format: NaN to 0, infinities and overflows clamped (R80). -/
def Ar.toInt (r : Ar) (lo hi : Int) (mode lane : Nat) (v : FV) : Int × Ar :=
  match v with
  | .nan => (0, { r with inv := true })
  | .inf s => (if s then lo else hi, { r with inv := true })
  | .fin s m e =>
    let n := r.quanta mode lane s m e 0
    let i : Int := if s then -(n.1 : Int) else n.1
    if i < lo then (lo, { n.2 with sat := true }) else if i > hi then (hi, { n.2 with sat := true }) else (i, n.2)

/-- The bits of an integer in `w` bits. -/
def intCode (w : Nat) (i : Int) : Nat := (i % (2 ^ w : Int)).toNat

/-! ### Exact operations (R82–R85) -/

/-- The sign of a value; a NaN has none. -/
def FV.neg? : FV → Bool
  | .nan => false
  | .inf s => s
  | .fin s _ _ => s

/-- −a (R155). -/
def FV.flip : FV → FV
  | .nan => .nan
  | .inf s => .inf (!s)
  | .fin s m e => .fin (!s) m e

/-- |a| (R155). -/
def FV.mag : FV → FV
  | .nan => .nan
  | .inf _ => .inf false
  | .fin _ m e => .fin false m e

/-- Is a value zero? -/
def FV.isZero : FV → Bool
  | .fin _ m _ => m == 0
  | _ => false

/-- Is a value NaN? -/
def FV.isNan : FV → Bool
  | .nan => true
  | _ => false

/-- A finite value as a signed multiple of 2^q, q at most its exponent. -/
def signedAt (s : Bool) (m : Nat) (e q : Int) : Int :=
  let n : Int := m * 2 ^ (e - q).toNat
  if s then -n else n

/-- The exact product (R82); ∞ × 0 is NaN and INVALID (R84, R85). -/
def Ar.mul (r : Ar) (a b : FV) : FV × Ar :=
  match a, b with
  | .nan, _ => (.nan, r)
  | _, .nan => (.nan, r)
  | .inf s, .inf t => (.inf (s != t), r)
  | .inf s, .fin t m _ => if m = 0 then (.nan, { r with inv := true }) else (.inf (s != t), r)
  | .fin s m _, .inf t => if m = 0 then (.nan, { r with inv := true }) else (.inf (s != t), r)
  | .fin s m e, .fin t n f => (.fin (s != t) (m * n) (e + f), r)

/-- The exact sum. `zneg` is the sign of an exact zero from terms that are not zeros of one sign: false but for RDN (R84, R85). -/
def Ar.add (r : Ar) (zneg : Bool) (a b : FV) : FV × Ar :=
  match a, b with
  | .nan, _ => (.nan, r)
  | _, .nan => (.nan, r)
  | .inf s, .inf t => if s = t then (.inf s, r) else (.nan, { r with inv := true })
  | .inf s, .fin _ _ _ => (.inf s, r)
  | .fin _ _ _, .inf t => (.inf t, r)
  | .fin s m e, .fin t n f =>
    let q := min e f
    let i := signedAt s m e q + signedAt t n f q
    if i = 0 then (.fin (if s = t then s else zneg) 0 0, r) else (.fin (decide (i < 0)) i.natAbs q, r)

/-- The exact sum of a list of terms, from a first one. -/
def Ar.sumFrom (r : Ar) (zneg : Bool) : FV → List FV → FV × Ar
  | a, [] => (a, r)
  | a, b :: bs =>
    let x := r.add zneg a b
    Ar.sumFrom x.2 zneg x.1 bs

/-- The exact sum of products of two lists (R82): an empty sum is +0. -/
def Ar.dot (r : Ar) : List FV → List FV → Option FV → FV × Ar
  | a :: as_, b :: bs, acc =>
    let p := r.mul a b
    match acc with
    | none => Ar.dot p.2 as_ bs (some p.1)
    | some c =>
      let s := p.2.add false c p.1
      Ar.dot s.2 as_ bs (some s.1)
  | _, _, acc => (acc.getD (.fin false 0 0), r)

/-- Compares two values that are not NaN: a < b. −0 equals +0 here. -/
def FV.lt (a b : FV) : Bool :=
  match a, b with
  | .nan, _ => false
  | _, .nan => false
  | .inf s, .inf t => s && !t
  | .inf s, .fin _ _ _ => s
  | .fin _ _ _, .inf t => !t
  | .fin s m e, .fin t n f => decide (signedAt s m e (min e f) < signedAt t n f (min e f))

/-- Minimum: NaN where either operand is NaN, −0 below +0 (R85). -/
def FV.min (a b : FV) : FV :=
  if a.isNan || b.isNan then .nan
  else if a.isZero && b.isZero then (if a.neg? then a else b) else if b.lt a then b else a

/-- Maximum: NaN where either operand is NaN, −0 below +0 (R85). -/
def FV.max (a b : FV) : FV :=
  if a.isNan || b.isNan then .nan
  else if a.isZero && b.isZero then (if a.neg? then b else a) else if a.lt b then b else a

/-! ### Results within one ulp (R85) -/

/-- One of the results within one ulp of an exact value that lies between n and n + 1 quanta (n itself where `exact`); which one is free. -/
def Ar.pick (r : Ar) (n : Nat) (exact : Bool) : Nat × Ar :=
  let k := Config.ulpPick r.free
  let r1 := { r with free := r.free + 1 }
  (if exact then (if k % 3 = 0 then n else if k % 3 = 1 then n + 1 else n - 1) else n + k % 2, r1)

/-- The quotient of two finite non-zero values in a format, within one ulp: a count of quanta and the quantum. -/
def Ar.quot (r : Ar) (f : FFmt) (m : Nat) (e : Int) (n : Nat) (g : Int) : (Nat × Int) × Ar :=
  let k := f.p + 2 + Nat.log2 n
  let m1 := m * 2 ^ k
  let q := f.quantum (m1 / n) (e - k - g)
  let d := q - (e - k - g)
  let num := if d ≥ 0 then m1 else m1 * 2 ^ (-d).toNat
  let den := if d ≥ 0 then n * 2 ^ d.toNat else n
  let x := r.pick (num / den) (num % den == 0)
  ((x.1, q), x.2)

/-- a / b into a format (R85). -/
def Ar.div (r : Ar) (f : FFmt) (a b : FV) : FV × Ar :=
  match a, b with
  | .nan, _ => (.nan, r)
  | _, .nan => (.nan, r)
  | .inf _, .inf _ => (.nan, { r with inv := true })
  | .inf s, .fin t _ _ => (.inf (s != t), r)
  | .fin s _ _, .inf t => (.fin (s != t) 0 0, r)
  | .fin s m e, .fin t n g =>
    if n = 0 then (if m = 0 then (.nan, { r with inv := true }) else (.inf (s != t), { r with dz := true }))
    else if m = 0 then (.fin (s != t) 0 0, r)
    else
      let x := r.quot f m e n g
      (.fin (s != t) x.1.1 x.1.2, x.2)

/-- Integer square root, by bits from 2^k down. -/
def isqrtFrom : Nat → Nat → Nat → Nat
  | 0, n, x => if (x + 1) * (x + 1) ≤ n then x + 1 else x
  | k + 1, n, x => isqrtFrom k n (if (x + 2 ^ (k + 1)) * (x + 2 ^ (k + 1)) ≤ n then x + 2 ^ (k + 1) else x)

/-- Square root into a format, within one ulp (R85). -/
def Ar.sqrt (r : Ar) (f : FFmt) (a : FV) : FV × Ar :=
  match a with
  | .nan => (.nan, r)
  | .inf s => if s then (.nan, { r with inv := true }) else (.inf false, r)
  | .fin s m e =>
    if m = 0 then (.fin s 0 0, r)
    else if s then (.nan, { r with inv := true })
    else
      let up := 2 * (f.p + 1) + (if e % 2 = 0 then 0 else 1)
      let m1 := m * 2 ^ up
      let e1 := (e - up) / 2
      let root := isqrtFrom (Nat.log2 m1 / 2 + 1) m1 0
      let q := f.quantum root e1
      let d := (q - e1).toNat
      let x := r.pick (root / 2 ^ d) (root * root == m1 && root % 2 ^ d == 0)
      (.fin false x.1 q, x.2)

/-- Special function codes of Config.special: the FN codes of VUN (R155), and 0x20 for the ln of a token. -/
def spExp : Nat := 3
def spExp2 : Nat := 4
def spLn : Nat := 5
def spLog2 : Nat := 6
def spRsqrt : Nat := 8
def spSigmoid : Nat := 10
def spTanh : Nat := 11
def spSilu : Nat := 12
def spGelu : Nat := 13
def spSin : Nat := 14
def spCos : Nat := 15

/-- The constant 1. -/
def FV.one : FV := .fin false 1 0

/-- The open result of a special function on an ordinary operand, with the flags its value has (R85, R89; log 20). -/
def Ar.openFn (r : Ar) (fn : Nat) (a : FV) : FV × Ar :=
  let y := decodeF fp32 (Config.special fn (BitVec.ofNat 32 (r.narrow fp32 0 false 0 a).1)).toNat
  (y, match y with
    | .nan => { r with inv := true }
    | .inf _ => { r with ovf := true }
    | _ => r)

/-- A special function (R85): its special cases by the table, any other operand open. -/
def Ar.fnOf (r : Ar) (fn : Nat) (a : FV) : FV × Ar :=
  let bad : FV × Ar := (.nan, { r with inv := true })
  match a with
  | .nan => (.nan, r)
  | .inf s =>
    if fn = spExp ∨ fn = spExp2 then (if s then .fin false 0 0 else .inf false, r)
    else if fn = spLn ∨ fn = spLog2 then (if s then bad else (.inf false, r))
    else if fn = spRsqrt then (if s then bad else (.fin false 0 0, r))
    else if fn = spSigmoid then (if s then .fin false 0 0 else FV.one, r)
    else if fn = spTanh then (.fin s 1 0, r)
    else if fn = spSilu ∨ fn = spGelu then (if s then .fin true 0 0 else .inf false, r)
    else bad
  | .fin s m _ =>
    if fn = spLn ∨ fn = spLog2 then
      if m = 0 then (.inf true, { r with dz := true }) else if s then bad else r.openFn fn a
    else if fn = spRsqrt then
      if m = 0 then (.inf s, { r with dz := true }) else if s then bad else r.openFn fn a
    else r.openFn fn a

/-- The reciprocal (R85): ±0 gives ±∞ and DIVZERO. -/
def Ar.recip (r : Ar) (f : FFmt) (a : FV) : FV × Ar := r.div f FV.one a

/-! ### Reduction trees and group orders (R82, R87) -/

/-- A node of a reduction tree: its value, and how many roundings lie below it. -/
structure TNode where
  v : FV
  depth : Nat
  deriving DecidableEq, Repr

/-- The list without the element at a place. -/
def dropAt {α : Type} : List α → Nat → List α
  | [], _ => []
  | _ :: xs, 0 => xs
  | x :: xs, n + 1 => x :: dropAt xs n

/-- Adds two nodes; the inner sums of a tree round into FP32 with RNE (log 23). -/
def Ar.joinNodes (r : Ar) (zneg : Bool) (a b : TNode) : TNode × Ar :=
  let s := r.add zneg a.v b.v
  let t := s.2.rne32 s.1
  ({ v := t.1, depth := max a.depth b.depth + 1 }, t.2)

/-- Merges the nodes that a list of positions picks, until two are left or the list ends. -/
def Ar.mergeBy (r : Ar) (zneg : Bool) : List Nat → List TNode → List TNode × Ar
  | [], ns => (ns, r)
  | k :: ks, ns =>
    if ns.length ≤ 2 then (ns, r)
    else
      let i := k % ns.length
      let rest := dropAt ns i
      let j := k / ns.length % rest.length
      let d : TNode := { v := .nan, depth := 0 }
      let x := r.joinNodes zneg (nth d ns i) (nth d rest j)
      Ar.mergeBy x.2 zneg ks (dropAt rest j ++ [x.1])

/-- One level of pairwise merging. -/
def Ar.pairUp (r : Ar) (zneg : Bool) : List TNode → List TNode × Ar
  | a :: b :: t =>
    let x := r.joinNodes zneg a b
    let y := Ar.pairUp x.2 zneg t
    (x.1 :: y.1, y.2)
  | ns => (ns, r)

/-- Pairwise merging, level by level, until two nodes are left. -/
def Ar.balance (zneg : Bool) : Nat → List TNode → Ar → List TNode × Ar
  | 0, ns, r => (ns, r)
  | k + 1, ns, r =>
    if ns.length ≤ 2 then (ns, r)
    else
      let x := r.pairUp zneg ns
      Ar.balance zneg k x.1 x.2

/-- ⌈log2 n⌉. -/
def clog2 (n : Nat) : Nat := if n ≤ 1 then 0 else Nat.log2 (n - 1) + 1

/-- The last addition of a tree, exact. -/
def Ar.root (r : Ar) (zneg : Bool) : List TNode → FV × Nat × Ar
  | [] => (.fin false 0 0, 0, r)
  | [a] => (a.v, a.depth, r)
  | a :: b :: _ => let s := r.add zneg a.v b.v; (s.1, max a.depth b.depth + 1, s.2)

/-- The sum of R87: a tree of a free shape, at most ⌈log2 n⌉ + 1 roundings deep; its root is exact and is rounded by its user. A shape
that is deeper than allowed is replaced by the balanced one. -/
def Ar.treeSum (r : Ar) (zneg : Bool) (xs : List FV) : FV × Ar :=
  let n := xs.length
  let ns := xs.map (fun v => ({ v := v, depth := 0 } : TNode))
  let r0 := { r with free := r.free + 1 }
  let a := r0.mergeBy zneg (Config.sumTree r.free n) ns
  let b := Ar.balance zneg n a.1 a.2
  let x := b.2.root zneg b.1
  if x.2.1 ≤ clog2 n + 1 then (x.1, x.2.2)
  else
    let c := Ar.balance zneg n ns r0
    let y := c.2.root zneg c.1
    (y.1, y.2.2)

/-- A free order of `n` things: a permutation whatever the open value is (R82, log 22). -/
def orderOf (free n : Nat) : List Nat :=
  let picks := (Config.groupOrder free n).filter (fun i => i < n)
  (picks ++ List.range n).eraseDups

/-! ### MX quantisation (R81) -/

/-- emax and maxval of an MX format (R81): maxval as m × 2^e. -/
def mxMax (code : Nat) : Int × Nat × Int :=
  if code = 6 then (15, 7, 13) else if code = 5 then (8, 14, 5) else if code = 7 then (4, 7, 2) else if code = 8 then (2, 15, -1)
  else if code = 9 then (2, 3, 1) else (0, 127, -6)

/-- m × 2^e at most n × 2^f? -/
def magLe (m : Nat) (e : Int) (n : Nat) (f : Int) : Bool :=
  decide (m * 2 ^ (e - min e f).toNat ≤ n * 2 ^ (f - min e f).toNat)

/-- ⌈log2 (amax / maxval)⌉, exactly. -/
def ceilLog2Ratio (m : Nat) (e : Int) (n : Nat) (f : Int) : Int :=
  let t := (Nat.log2 m : Int) + e - (Nat.log2 n + f)
  if magLe m e n (f + t - 1) then t - 1 else if magLe m e n (f + t) then t else t + 1

/-- The largest magnitude of a block of finite values. -/
def FV.larger (a b : FV) : FV := if a.mag.lt b.mag then b.mag else a.mag

/-- The exponent e of a block's scale (R81), clamped to [−127, 127]. -/
def mxExp (code : Nat) (ceilRule : Bool) (amax : FV) : Int :=
  let mv := mxMax code
  let e : Int := match amax with
    | .fin _ m k =>
      if m = 0 then -127 else if ceilRule then ceilLog2Ratio m k mv.2.1 mv.2.2 else (Nat.log2 m : Int) + k - mv.1
    | _ => -127
  min (max e (-127)) 127

/-- One element of a finite block in its format (R81). -/
def Ar.mxElem (r : Ar) (code mode lane : Nat) (x : FV) (e : Int) : Nat × Ar :=
  match x with
  | .fin s m k =>
    if code = 10 then
      let n := r.quanta mode lane s m (k - e) (-6)
      if n.1 > 127 then (intCode 8 (if s then -127 else 127), { n.2 with sat := true })
      else (intCode 8 (if s then -(n.1 : Int) else n.1), n.2)
    else
      let f := ffmt code
      if m = 0 then (encodeFin f s 0 f.qmin, r)
      else
        let q := f.quantum m (k - e)
        let n := r.quanta mode lane s m (k - e) q
        if f.above n.1 q then (encodeFin f s f.maxM f.maxQ, { n.2 with sat := true }) else (encodeFin f s n.1 q, n.2)
  | _ => (0, r)

/-- The elements of a finite block, each with its lane. -/
def Ar.mxElems (code mode : Nat) (e : Int) : List (Nat × FV) → Ar → List Nat × Ar
  | [], r => ([], r)
  | (lane, x) :: t, r =>
    let a := r.mxElem code mode lane x e
    let b := Ar.mxElems code mode e t a.2
    (a.1 :: b.1, b.2)

/-- Quantises a block of 32 values, each with its lane: scale code and elements (R81). -/
def Ar.quantBlock (r : Ar) (code : Nat) (ceilRule : Bool) (mode : Nat) (xs : List (Nat × FV)) : (Nat × List Nat) × Ar :=
  if xs.any (fun x => match x.2 with
      | .fin _ _ _ => false
      | _ => true) then ((0xFF, xs.map (fun _ => 0)), { r with inv := true })
  else
    let amax := (xs.map (·.2)).foldl FV.larger (.fin false 0 0)
    let e := mxExp code ceilRule amax
    let y := Ar.mxElems code mode e xs r
    (((e + 127).toNat, y.1), y.2)

/-! ### Elements in memory (R72–R74) -/

/-- Words as one little-endian number. -/
def wordsNat : List W32 → Nat
  | [] => 0
  | w :: ws => w.toNat + 2 ^ 32 * wordsNat ws

/-- `n` codes of `w` bits from a number, lowest first. -/
def unpack (w : Nat) : Nat → Nat → List Nat
  | 0, _ => []
  | n + 1, v => v % 2 ^ w :: unpack w n (v / 2 ^ w)

/-- Codes of `w` bits as one number. -/
def packNat (w : Nat) : List Nat → Nat
  | [] => 0
  | c :: cs => c % 2 ^ w + 2 ^ w * packNat w cs

/-- `n` words of a number. -/
def natWords : Nat → Nat → List W32
  | 0, _ => []
  | n + 1, v => BitVec.ofNat 32 v :: natWords n (v / 2 ^ 32)

/-- The value of an MX element with its block's scale; a magnitude of 2^128 or more reads as infinity and sets OVERFLOW (R70, R143). -/
def Ar.mxValue (r : Ar) (code scaleByte elem : Nat) : FV × Ar :=
  match e8m0 scaleByte with
  | none => (.nan, r)
  | some k =>
    let v := if code = 10 then (FV.ofInt (sInt 8 elem)).scale (-6) else decodeF (ffmt code) elem
    match v.scale k with
    | .fin s m e => if m ≠ 0 ∧ e + (Nat.log2 m : Int) ≥ 128 then (.inf s, { r with ovf := true }) else (.fin s m e, r)
    | x => (x, r)

/-- The values of a row of MX codes, with the row's scale bytes, from column `c` on. -/
def Ar.mxRow (code : Nat) (scales : List Nat) : Nat → List Nat → Ar → List FV × Ar
  | _, [], r => ([], r)
  | c, x :: xs, r =>
    let a := r.mxValue code (nth 0 scales (c / 32)) x
    let b := Ar.mxRow code scales (c + 1) xs a.2
    (a.1 :: b.1, b.2)

/-- The value of a code of an unblocked format: integers exactly (R72, R79). -/
def plainValue (code c : Nat) : FV :=
  if code = 3 then FV.ofInt (sInt 8 c) else if code = 4 then FV.ofInt (sInt 32 c) else decodeF (ffmt code) c

end Sys2Proof.Machine
end

