-- ==== Sys2Proof/Machine/Tile.lean ====
section
/-!
DEFINITION. What all tile commands share: field checks in the order of R136, reading and writing operands in their layouts (R72–R74,
R140–R143), starting and completing a command (R131, R134, R137).
-/
namespace Sys2Proof.Machine

/-! ### Field checks (R136) -/

/-- One check: the failure, and the lowest descriptor bit of the field at fault (log 13). -/
structure FieldChk where
  bad : Bool
  bit_ : Nat
  deriving DecidableEq, Repr

/-- The lowest bit among the failing checks of one kind. -/
def lowestBad (cs : List FieldChk) : Option Nat :=
  cs.foldl (fun (o : Option Nat) c => if c.bad then some (match o with
    | none => c.bit_
    | some b => min b c.bit_) else o) none

/-- The first failure of R136: the five kinds in order. -/
def firstBad : List (List FieldChk) → Option Nat
  | [] => none
  | k :: ks => match lowestBad k with
    | some b => some b
    | none => firstBad ks

/-- A gen-rsvd or unused field [hi:lo] of word j that must be zero. -/
def mustZero (q : Queued) (j hi lo : Nat) : FieldChk :=
  let w := if j = 0 then q.w0 else if j = 1 then q.w1 else if j = 2 then q.w2 else q.w3
  { bad := decide (fld w hi lo ≠ 0), bit_ := 64 * j + lo }

/-- The checks of word 0 that every descriptor has: bit 15 (kind 1), CADDR with CMODE NONE (kind 2), odd CADDR with a record (kind 5). -/
def hdrRsvd (q : Queued) : FieldChk := mustZero q 0 15 15
def hdrUnused (q : Queued) : FieldChk := { bad := q.cmode == 0 && q.cvirt != 0, bit_ := 24 }
def hdrAlign (q : Queued) : FieldChk := { bad := (q.cmode == 1 || q.cmode == 3) && bit q.w0 24, bit_ := 24 }

/-- An operand of a tile command: its word, where its descriptor word starts, its form, shape, and physical addresses. -/
structure Opnd where
  o : OpWord
  base : Nat
  form : Nat
  rows : Nat
  cols : Nat
  data : Nat
  scale : Nat
  deriving DecidableEq, Repr

/-- Kind 2 of an operand word: SLINE and SPITCH of an unblocked format (R140). `meant` says that the opcode gives SLINE a meaning. -/
def Opnd.unused (x : Opnd) (meant : Bool) : List FieldChk :=
  if isMx x.o.fmt then []
  else [{ bad := !meant && x.o.sline != 0, bit_ := x.base + 31 }, { bad := x.o.spitch != 0, bit_ := x.base + 45 }]

/-- Kind 3 of an operand word: a format outside R65. -/
def Opnd.enum (x : Opnd) : FieldChk := { bad := decide (x.o.fmt > 10), bit_ := x.base + 14 }

/-- Kind 5 of an operand word (R141, R143): pitches, and C divisible by 32 for MX. `cbit` is the descriptor bit of the column count. -/
def Opnd.shape (x : Opnd) (cbit : Nat) : List FieldChk :=
  let mx := isMx x.o.fmt
  [{ bad := x.form ≠ 0 && x.o.pitch != 0, bit_ := x.base + 18 },
   { bad := mx && decide (x.form > 1), bit_ := x.base + 53 },
   { bad := mx && decide (x.form ≤ 1) && x.cols % 32 != 0, bit_ := cbit },
   { bad := x.form == 0 && decide (x.rows > 1) && decide (x.o.pitch < rowLines x.cols x.o.fmt), bit_ := x.base + 18 },
   { bad := x.form == 0 && mx && decide (x.rows > 1) && decide (2 * x.o.spitch < cdiv x.cols 128), bit_ := x.base + 45 }]

/-! ### Where rows lie (R72, R74, R141) -/

/-- The address of a row's data. -/
def Opnd.rowAddr (x : Opnd) (r : Nat) : Nat := if x.form = 0 then x.data + r * x.o.pitch * 64 else x.data

/-- The address of a row's scales. -/
def Opnd.scaleAddr (x : Opnd) (r : Nat) : Nat := if x.form = 0 then x.scale + r * (2 * x.o.spitch) else x.scale

/-- Elements held in one row of memory: a COL array holds one per row of the result, a SCALAR one. -/
def Opnd.perRow (x : Opnd) : Nat := if x.form = 2 then x.rows else if x.form = 3 then 1 else x.cols

/-- How many rows of memory the operand has. -/
def Opnd.memRows (x : Opnd) : Nat := if x.form = 0 then x.rows else 1

/-- The lines and scale words that the operand reads, as (address, words). -/
def Opnd.ranges (x : Opnd) : List (Nat × Nat) :=
  (List.range x.memRows).flatMap (fun r =>
    (x.rowAddr r, cdiv (x.perRow * fmtBits x.o.fmt) 2048 * 64) ::
      (if isMx x.o.fmt then [(x.scaleAddr r, cdiv (cdiv x.cols 32) 4)] else []))

/-- The codes of one row of memory. -/
def Opnd.rowCodes (x : Opnd) (m : Ram) (r : Nat) : List Nat :=
  let w := fmtBits x.o.fmt
  unpack w x.perRow (wordsNat (m.read (x.rowAddr r) (cdiv (x.perRow * w) 32)))

/-- The values of one row of memory. -/
def Opnd.rowVals (x : Opnd) (m : Ram) (r : Nat) (ar : Ar) : List FV × Ar :=
  if isMx x.o.fmt then
    let sc := unpack 8 (x.cols / 32) (wordsNat (m.read (x.scaleAddr r) (cdiv (x.cols / 32) 4)))
    Ar.mxRow x.o.fmt sc 0 (x.rowCodes m r) ar
  else ((x.rowCodes m r).map (plainValue x.o.fmt), ar)

/-- The values of every row of memory. -/
def Opnd.allVals (x : Opnd) (m : Ram) : Nat → Ar → List (List FV) × Ar
  | 0, ar => ([], ar)
  | n + 1, ar =>
    let rest := Opnd.allVals x m n ar
    let row := x.rowVals m n rest.2
    (rest.1 ++ [row.1], row.2)

/-- Element (r, c) of a source under its form (R141). -/
def Opnd.at (x : Opnd) (vals : List (List FV)) (r c : Nat) : FV :=
  let row := nth [] vals (if x.form = 0 then r else 0)
  nth .nan row (if x.form = 2 then r else if x.form = 3 then 0 else c)

/-- Wide reads of cell memory by a command: the first uncorrectable word, and the counts kept (R48, R138). -/
def State.wideRead (s : State) (c : CellAt) : List (Nat × Nat) → Option Nat × State
  | [] => (none, s)
  | (a, n) :: t =>
    let m := (s.cell c).cmem
    let s1 := s.noteRead c (m.ceIn a n) (m.firstUe a n)
    match m.firstUe a n with
    | some u => (some u, s1)
    | none => State.wideRead s1 c t

/-! ### Writing rows (R74, R143) -/

/-- The words of one destination row: whole lines, zeros after the last element. -/
def rowImage (fmt cols : Nat) (codes : List Nat) : List W32 :=
  natWords (rowLines cols fmt * 64) (packNat (fmtBits fmt) codes)

/-- The words that hold a row's scales, zeros after the last. -/
def scaleImage (cols : Nat) (scales : List Nat) : List W32 := natWords (cdiv (cdiv cols 32) 4) (packNat 8 scales)

/-- Writes destination rows: codes, and scales where the format is MX. -/
def State.writeRows (s : State) (i : CoreId) (x : Opnd) : Nat → List (List Nat × List Nat) → State
  | _, [] => s
  | r, (codes, scales) :: t =>
    let s1 := s.memWrite i (x.rowAddr r) (rowImage x.o.fmt x.cols codes)
    let s2 := if isMx x.o.fmt then s1.memWrite i (x.scaleAddr r) (scaleImage x.cols scales) else s1
    State.writeRows s2 i x (r + 1) t

/-- How a value goes into a destination format. -/
structure Conv where
  fmt : Nat
  mode : Nat
  sat : Bool
  srule : Bool
  factor : FV
  deriving DecidableEq, Repr

/-- One value into an unblocked format (R79, R80): INT8 is multiplied by the factor first. -/
def Ar.convOne (r : Ar) (k : Conv) (lane : Nat) (v : FV) : Nat × Ar :=
  if k.fmt = 3 then
    let p := r.mul v k.factor
    let x := p.2.toInt (-127) 127 k.mode lane p.1
    (intCode 8 x.1, x.2)
  else if k.fmt = 4 then
    let x := r.toInt (-(2 ^ 31)) (2 ^ 31 - 1) k.mode lane v
    (intCode 32 x.1, x.2)
  else r.narrow (ffmt k.fmt) k.mode k.sat lane v

/-- A row of values into an unblocked format. -/
def Ar.convList (k : Conv) : List (Nat × FV) → Ar → List Nat × Ar
  | [], r => ([], r)
  | (lane, v) :: t, r =>
    let a := r.convOne k lane v
    let b := Ar.convList k t a.2
    (a.1 :: b.1, b.2)

/-- Rounds a row into FP32 with RNE first, as an MX destination asks (R153). -/
def Ar.toFp32 : List (Nat × FV) → Ar → List (Nat × FV) × Ar
  | [], r => ([], r)
  | (lane, v) :: t, r =>
    let a := r.rne32 v
    let b := Ar.toFp32 t a.2
    ((lane, a.1) :: b.1, b.2)

/-- Quantises a row block by block (R81). -/
def Ar.quantRow (k : Conv) : Nat → List (Nat × FV) → Ar → (List Nat × List Nat) × Ar
  | 0, _, r => (([], []), r)
  | n + 1, xs, r =>
    let a := r.quantBlock k.fmt k.srule k.mode (xs.take 32)
    let b := Ar.quantRow k n (xs.drop 32) a.2
    ((a.1.2 ++ b.1.1, a.1.1 :: b.1.2), b.2)

/-- A row of values, each with its lane, into a destination row: codes and scales. -/
def Ar.convRow (r : Ar) (k : Conv) (xs : List (Nat × FV)) : (List Nat × List Nat) × Ar :=
  if isMx k.fmt then
    let y := Ar.toFp32 xs r
    Ar.quantRow k (xs.length / 32) y.1 y.2
  else
    let y := Ar.convList k xs r
    ((y.1, []), y.2)

/-- Rows of values into destination rows. -/
def Ar.convRows (k : Conv) : List (List (Nat × FV)) → Ar → List (List Nat × List Nat) × Ar
  | [], r => ([], r)
  | x :: t, r =>
    let a := r.convRow k x
    let b := Ar.convRows k t a.2
    (a.1 :: b.1, b.2)

/-! ### Starting and completing (R131, R134, R168) -/

/-- The head of an engine's queue when it may start a command now: the engine idle, the cell running, WAIT and ACQ met. -/
def State.engHead (s : State) (c : CellAt) (e : Eng) : Option Queued :=
  let x := (s.cell c).eng e
  match x.running, x.queue with
  | none, q :: _ =>
    if !x.parked && s.coreRuns (.cell c.site c.phys) && s.mayStart (.cell c.site c.phys) (engUnit e) q then some q else none
  | _, _ => none

/-- The engine takes its head command as the running one, with the outcome its completion will report. -/
def State.engRun (s : State) (c : CellAt) (e : Eng) (q : Queued) (status : Nat) (flags : BitVec 4) (detail : Nat) : State :=
  s.modCell c (fun k =>
    let x := k.eng e
    k.setEng e { x with queue := x.queue.drop 1,
                        running := some { q := q, status := BitVec.ofNat 8 status, flags := flags, detail := detail } })

/-- A row of the table for an engine opcode: runs where the head of the queue is that opcode and may start. A field error ends it
BAD_FIELD before anything is read or written (R136). -/
def State.engineRow (s : State) (c : CellAt) (e : Eng) (op : Nat) (check : Queued → Option Nat) (body : Queued → State → State) : State :=
  match s.engHead c e with
  | none => s
  | some q =>
    if q.opcode ≠ op then s
    else
      match check q with
      | some b => s.engRun c e q stBadField 0 b
      | none => body q s

/-- TILE_COMMAND_COMPLETE: record, counter, then the counts fall (R134). `cycles` is DETAIL of an OK completion, from the engine's clock;
BUSY counts them. -/
def execTileCommandComplete (c : CellAt) (e : Eng) (cycles : BitVec 30) (s : State) : Host.Outcome State Fault Refusal :=
  .next (
    let i := CoreId.cell c.site c.phys
    let x := (s.cell c).eng e
    match x.running with
    | none => s
    | some r =>
      if x.parked ∨ s.coreRuns i = false then s
      else
        let st := r.status.toNat
        let s1 := s.signal i r.q (engUnit e) st r.flags (if st = 0 then cycles.toNat else r.detail)
        let s2 := s1.modCell c (fun k =>
          let y := k.eng e
          k.setEng e { y with running := none, done := y.done + 1,
                              busy := if st = stBadField then y.busy else y.busy + cycles.setWidth 64 })
        (s2.noteEng c e st).countFell ⟨i, r.q.task⟩)

/-- UNDEFINED_DESCRIPTOR: a unit whose head descriptor is undefined completes it BAD_OPCODE: nothing read or written, no record and no
counter (R128). The sampler unit has no error register of its own for it. -/
def execUndefinedDescriptor (i : CoreId) (unit : BitVec 3) (s : State) : Host.Outcome State Fault Refusal :=
  .next (
    let u := unit.toNat
    let undef (q : Queued) : Bool := !opcodeDefined u q.opcode && s.mayStart i u q && s.coreRuns i
    if u = 2 ∨ u = 3 then
      let m : Fin 2 := if u = 2 then 0 else 1
      let x := (s.core i).mover m
      match x.queue with
      | q :: t =>
        if x.started.isEmpty && !x.parked && undef q then
          let s1 := s.modCore i (fun k => { (k.setMover m { x with queue := t }) with movDone := k.movDone + 1 })
          (s1.noteMov i stBadOpcode none).countFell ⟨i, q.task⟩
        else s
      | [] => s
    else
      match i with
      | .cell si p =>
        let c : CellAt := ⟨si, p⟩
        if u = 4 then
          match (s.cell c).smpQ with
          | q :: t => if undef q && (s.cell c).smpOut.isEmpty then (s.modCell c (fun k => { k with smpQ := t })).countFell ⟨i, q.task⟩ else s
          | [] => s
        else if u < 2 then
          let e := if u = 0 then Eng.mxe else Eng.vxe
          let x := (s.cell c).eng e
          match x.running, x.queue with
          | none, q :: t =>
            if !x.parked && undef q then
              let s1 := s.modCell c (fun k => k.setEng e { x with queue := t, done := x.done + 1 })
              (s1.noteEng c e stBadOpcode).countFell ⟨i, q.task⟩
            else s
          | _, _ => s
        else s
      | _ => s)

end Sys2Proof.Machine
end

