-- ==== Sys2Proof/Machine/Mover.lean ====
section
/-!
DEFINITION. The movers: field checks, starting, the work of each opcode, completion, timeouts (R171–R184).
-/
namespace Sys2Proof.Machine

/-! ### Reaching a mover -/

/-- A mover of the panel. -/
def State.mov (s : State) (m : MovAt) : Mover := (s.core m.core).mover m.mov

/-- The panel with one mover changed. -/
def State.modMov (s : State) (m : MovAt) (f : Mover → Mover) : State :=
  s.modCore m.core (fun k => k.setMover m.mov (f (k.mover m.mov)))

/-- The unit code of a mover (R109). -/
def movUnit (m : MovAt) : Nat := 2 + m.mov.val

/-- The colony that a core's packets carry: a cell's own, 0xFF for a privileged core (R301). -/
def State.coreColony (s : State) : CoreId → Byte
  | .cell i p => (s.cell ⟨i, p⟩).colony
  | _ => 0xFF

/-- The epoch of a core's endpoint (R301, R305). -/
def State.coreEpoch (s : State) : CoreId → Nat
  | .cell i _ => s.epochOf i.val 0
  | .steward i => s.epochOf i.val 0xB9
  | .keeper h k => s.epochOf (0xF0 + h.code) k.val

/-! ### Field checks (R136, R172, R174–R176; the order of the checks and the bit reported: log 13) -/

/-- Is a value a defined XFORM (R263)? -/
def xformOk (x : Nat) : Bool :=
  let op := x / 16 % 4
  let f := x % 16
  decide (x < 0x80) &&
  (if op = 0 then f == 0 else if op = 3 then x == 0x30 else decide (f ≤ 2 ∨ (5 ≤ f ∧ f ≤ 10)))

/-- Has an opcode a REM operand (R175)? -/
def hasRem (op : Nat) : Bool := decide (op = 0x82 ∨ op = 0x83 ∨ op = 0x86 ∨ op = 0x87)
/-- Has an opcode a STO operand (R175)? -/
def hasSto (op : Nat) : Bool := decide (op = 0x84 ∨ op = 0x85 ∨ op = 0x88 ∨ op = 0x8A)
/-- Does an opcode use W64 (R174)? -/
def usesW64 (op : Nat) : Bool := decide (op = 0x86 ∨ op = 0x87 ∨ op = 0x88)

/-- A check that applies to some opcodes only. -/
def onlyIf (b : Bool) (c : FieldChk) : FieldChk := { c with bad := b && c.bad }

/-- Do the source and destination of a COPY share a line (R176 item 7)? -/
def Queued.copyOverlap (q : Queued) : Bool := decide (q.a / 64 < q.b / 64 + q.lines ∧ q.b / 64 < q.a / 64 + q.lines)

/-- The field checks of a mover descriptor, kind by kind. -/
def moverChecks (cell : Bool) (q : Queued) : List (List FieldChk) :=
  let op := q.opcode
  let e := fld q.w3 7 0 + 1
  let x := fld q.w3 47 40
  let atom := decide (op = 0x87 ∨ op = 0x88)
  [ [hdrRsvd q, mustZero q 0 48 48, onlyIf (op ≠ 0x86 && op ≠ 0x8A) (mustZero q 1 63 24),
     onlyIf (op == 0x80 || op == 0x89) (mustZero q 2 63 24), onlyIf (hasRem op) (mustZero q 2 63 48),
     onlyIf (hasSto op) (mustZero q 2 63 51)],
    [hdrUnused q, onlyIf (op == 0x81) (mustZero q 2 63 24), onlyIf (decide (op ≤ 0x86)) (mustZero q 3 63 0),
     onlyIf (op == 0x89) (mustZero q 3 63 8), onlyIf (cell && hasSto op) (mustZero q 2 50 38)],
    [hdrAlign q],
    [{ bad := (q.sub != 0 && op != 0x81 && !atom) || (op == 0x81 && decide (q.sub > 3)) || (atom && decide (q.sub > 9)), bit_ := 44 }],
    [{ bad := q.w64 && !usesW64 op, bit_ := 49 }],
    [{ bad := usesW64 op && decide (q.lines ≠ 1), bit_ := 52 }],
    [{ bad := (op == 0x81 || op == 0x82 || op == 0x83) && decide (fld q.w2 5 0 ≠ 0), bit_ := 128 }],
    [{ bad := q.w64 && (op == 0x86 || op == 0x87) && bit q.w2 0, bit_ := 128 }, { bad := q.w64 && atom && bit q.w1 0, bit_ := 64 }],
    [{ bad := cell && hasRem op && decide (fld q.w2 47 44 ≠ 0), bit_ := 152 },
     { bad := cell && (hasRem op || op == 0x81) && decide (fld q.w2 23 20 ≠ 0), bit_ := 128 }],
    [{ bad := op == 0x80 && q.copyOverlap, bit_ := 64 }],
    [{ bad := op == 0x89 && decide (q.lines > 64 ∨ e * q.lines > 4096), bit_ := 52 }],
    [{ bad := op == 0x8A && !xformOk x, bit_ := 232 }, { bad := op == 0x8A && decide (fld q.w3 5 0 ≠ 0), bit_ := 192 },
     { bad := op == 0x8A && ((x == 0x30) != (fld q.w3 63 48 == 0)), bit_ := 232 }] ]

/-! ### Starting (R171, R176, R181) -/

/-- A descriptor as it starts. -/
def Started.new (q : Queued) : Started := { q := q, ran := false, expect := [], status := 0, detail := 0, reason := 0, cmp := 0 }

/-- The first failure of a descriptor: status, DETAIL, NACK reason (R178). Later ones change nothing. -/
def Started.fail (d : Started) (status detail reason : Nat) : Started :=
  if d.status = 0 then { d with status := BitVec.ofNat 8 status, detail := detail, reason := reason } else d

/-- Moves the queue head to the started descriptors. -/
def State.movPush (s : State) (m : MovAt) (d : Started) : State :=
  s.modMov m (fun x => { x with queue := x.queue.drop 1, started := x.started ++ [d] })

/-- May a mover start its head descriptor (R58, R132, R171, R190)? -/
def State.movReady (s : State) (m : MovAt) (q : Queued) : Bool :=
  let x := s.mov m
  opcodeDefined 2 q.opcode && s.mayStart m.core (movUnit m) q && decide (x.started.length < 16) && x.started.all (·.ran) &&
  !x.parked && s.coreRuns m.core

/-- MOVER_DESCRIPTOR_START: the head descriptor is checked and started; amocas reads its compare value now (R181). -/
def execMoverDescriptorStart (m : MovAt) (s : State) : Host.Outcome State Fault Refusal :=
  .next (match (s.mov m).queue with
    | [] => s
    | q :: _ =>
      if s.movReady m q then
        match firstBad (moverChecks (isCell m.core) q) with
        | some b => s.movPush m { ((Started.new q).fail stBadField b 0) with ran := true }
        | none =>
          if (q.opcode = 0x87 ∨ q.opcode = 0x88) ∧ q.sub = 9 then
            match s.memRead m.core q.a q.nWords with
            | (.error u, s1) => s1.movPush m { ((Started.new q).fail stDataUe u 0) with ran := true }
            | (.ok ws, s1) => s1.movPush m { (Started.new q) with cmp := joinW (nth 0 ws 0) (nth 0 ws 1) }
          else s.movPush m (Started.new q)
      else s)

/-! ### Working a started descriptor -/

/-- The started descriptor whose own work has not been done. -/
def Mover.cur (x : Mover) : Option Started := x.started.find? (fun d => !d.ran)

/-- Changes the descriptor whose work is being done. -/
def State.modCur (s : State) (m : MovAt) (f : Started → Started) : State :=
  s.modMov m (fun x => { x with started := x.started.map (fun d => if d.ran then d else f d) })

/-- Its work is done: its last packet is sent. -/
def State.curDone (s : State) (m : MovAt) : State := s.modCur m (fun d => { d with ran := true })

/-- It fails, and sends nothing further. -/
def State.curFail (s : State) (m : MovAt) (status detail reason : Nat) : State :=
  s.modCur m (fun d => { (d.fail status detail reason) with ran := true })

/-- A row of a mover opcode: acts on the started descriptor of that opcode while the mover runs (R58, R171). -/
def State.moverRow (s : State) (m : MovAt) (op : Nat) (body : Started → State → State) : State :=
  if (s.mov m).parked ∨ s.coreRuns m.core = false then s
  else
    match (s.mov m).cur with
    | none => s
    | some d => if d.q.opcode = op then body d s else s

/-- Sends one packet of the descriptor being worked, with the next TAG, and expects its answer (R177, R301). -/
def State.movSend (s : State) (m : MovAt) (type : Nat) (dst : Eid) (addr : Nat) (ws : List W32) (ans : Answer) : State :=
  let k := s.core m.core
  let p := mkData type dst (s.eidOf m.core) (s.coreColony m.core) (s.coreEpoch m.core) addr k.nextTag ws
  let s1 := s.modCore m.core (fun k =>
    { k with nextTag := k.nextTag + 1, movTx := k.movTx + BitVec.ofNat 64 (64 * (p.lenM1.toNat + 1)) })
  (s1.modCur m (fun d => { d with expect := d.expect ++ [{ tag := k.nextTag, answer := ans }] })).sendData p

/-- The packets of L lines: first line and count, at most 16 lines each (R177). -/
def packetsOf (l : Nat) : List (Nat × Nat) := (List.range (cdiv l 16)).map (fun j => (16 * j, min 16 (l - 16 * j)))

/-- Sends lines of local memory as WRITE packets to a target found packet by packet (R172, R177). -/
def State.sendLines (m : MovAt) (src : Nat) (target : State → Option Eid) (addr : Nat → Nat) : List (Nat × Nat) → State → State
  | [], s => s.curDone m
  | (i, n) :: t, s =>
    match target s with
    | none => s.curFail m stNoEndpoint 0 0
    | some e =>
      match s.memRead m.core (src + 64 * i) (64 * n) with
      | (.error u, s1) => s1.curFail m stDataUe u 0
      | (.ok ws, s1) => State.sendLines m src target addr t (s1.movSend m 0x01 e (addr i) ws .ack)

/-- Sends READ_REQ packets for lines that land in local memory (R177). -/
def State.askLines (m : MovAt) (dst : Nat) (target : State → Option Eid) (addr : Nat → Nat) : List (Nat × Nat) → State → State
  | [], s => s.curDone m
  | (i, n) :: t, s =>
    match target s with
    | none => s.curFail m stNoEndpoint 0 0
    | some e =>
      State.askLines m dst target addr t
        (s.movSend m 0x03 e (addr i) [BitVec.ofNat 32 (n - 1)] (.lines (dst + 64 * i) n))

/-- The endpoint of a store operand: the store port of its VIA on the own panel (R55). -/
def State.stoEid (s : State) (x : StoAddr) : Eid := s.eid x.via.toNat 0xB8

/-! ### The opcodes (R175) -/

/-- COPY: its lines are read and written. An uncorrectable word ends it with nothing written (R48). -/
def execCopy (m : MovAt) (s : State) : Host.Outcome State Fault Refusal :=
  .next (s.moverRow m 0x80 (fun d s =>
    match s.memRead m.core d.q.a (64 * d.q.lines) with
    | (.error u, s1) => s1.curFail m stDataUe u 0
    | (.ok ws, s1) => (s1.memWrite m.core d.q.b ws).curDone m))

/-- The neighbour of a cell on a channel (R39, R40): the site that holds the adjacent slot, if mapped; N and S join positions that
differ by at most one. -/
def State.neighbour (s : State) (c : CellAt) (d : Dir) : Option CellAt :=
  let k := s.comb c.site
  let l := k.logicalOf c.phys
  let f := l / 11
  let j := l % 11
  let plus := some (f * 11 + j + 1)
  let minus := some (f * 11 + j - 1)
  let west := halfOf c.site == .west
  let want : Option Nat :=
    if l = 0xFF then none
    else
      match d with
      | .n => if f = 0 then none else some (l - 11)
      | .s => if f = 15 then none else some (l + 11)
      | .e => if west then (if j = 10 then none else plus) else if j = 0 then none else minus
      | .w => if west then (if j = 0 then none else minus) else if j = 10 then none else plus
  match want.bind k.physOf with
  | none => none
  | some p =>
    let far := decide (d = .n ∨ d = .s) && decide (posOf p > posOf c.phys + 1 ∨ posOf c.phys > posOf p + 1)
    if far then none else some ⟨c.site, p⟩

/-- The channel that SUB names (R174). -/
def dirOf (n : Nat) : Dir := if n = 0 then .n else if n = 1 then .e else if n = 2 then .s else .w

/-- Puts lines on a neighbour channel, one by one. -/
def State.nputLines (m : MovAt) (from_ : Phys) (dest : CellAt) (dir : Dir) (q : Queued) : List (Nat × List W32) → State → State
  | [], s => s.curDone m
  | (i, ws) :: t, s =>
    let l : NbrLine := { addr := BitVec.ofNat 24 (fld q.w2 23 0 + 64 * i), words := ws, fromPhys := from_, mover := m.mov,
                         serial := q.serial, line := i }
    let s1 := s.modCur m (fun d => { d with expect := d.expect ++ [{ tag := 0, answer := .nbr i }] })
    let s2 := s1.modCore m.core (fun k => { k with movTx := k.movTx + 256 })
    State.nputLines m from_ dest dir q t
      { s2 with net := { s2.net with nbr := s2.net.nbr ++ [{ site := dest.site, phys := dest.phys, dir := dir, line := l }] } }

/-- Lines of 64 words with their numbers. -/
def numbered : Nat → Nat → List W32 → List (Nat × List W32)
  | 0, _, _ => []
  | n + 1, i, ws => (i, ws.take 64) :: numbered n (i + 1) (ws.drop 64)

/-- NPUT (R39–R41). A neighbour in reset refuses with TARGET_IN_RESET, which counts as its NACK (log 16). -/
def execNput (m : MovAt) (s : State) : Host.Outcome State Fault Refusal :=
  .next (s.moverRow m 0x81 (fun d s =>
    match m.core with
    | .cell si p =>
      match s.neighbour ⟨si, p⟩ (dirOf d.q.sub) with
      | none => s.curFail m stNoNeighbour 0 0
      | some n =>
        if (s.cell n).inReset then s.curFail m stTargetInReset 0 nkInReset
        else
          match s.memRead m.core d.q.a (64 * d.q.lines) with
          | (.error u, s1) => s1.curFail m stDataUe u 0
          | (.ok ws, s1) => State.nputLines m p n (dirOf d.q.sub) d.q (numbered d.q.lines 0 ws) s1
    | _ => s.curFail m stNotPermitted 0 0))

/-- PUT. -/
def execPut (m : MovAt) (s : State) : Host.Outcome State Fault Refusal :=
  .next (s.moverRow m 0x82 (fun d s =>
    State.sendLines m d.q.a (fun s => s.remTarget m.core d.q.w2) (fun i => fld d.q.w2 23 0 + 64 * i) (packetsOf d.q.lines) s))

/-- GET. -/
def execGet (m : MovAt) (s : State) : Host.Outcome State Fault Refusal :=
  .next (s.moverRow m 0x83 (fun d s =>
    State.askLines m d.q.a (fun s => s.remTarget m.core d.q.w2) (fun i => fld d.q.w2 23 0 + 64 * i) (packetsOf d.q.lines) s))

/-- SREAD: ADDR holds store address bits [35:6] (R301). -/
def execSread (m : MovAt) (s : State) : Host.Outcome State Fault Refusal :=
  .next (s.moverRow m 0x84 (fun d s =>
    State.askLines m d.q.a (fun s => some (s.stoEid d.q.sto)) (fun i => (d.q.sto.addr + 256 * i) / 64) (packetsOf d.q.lines) s))

/-- SWRITE. -/
def execSwrite (m : MovAt) (s : State) : Host.Outcome State Fault Refusal :=
  .next (s.moverRow m 0x85 (fun d s =>
    State.sendLines m d.q.a (fun s => some (s.stoEid d.q.sto)) (fun i => (d.q.sto.addr + 256 * i) / 64) (packetsOf d.q.lines) s))

/-- PUTIMM. -/
def execPutimm (m : MovAt) (s : State) : Host.Outcome State Fault Refusal :=
  .next (s.moverRow m 0x86 (fun d s =>
    match s.remTarget m.core d.q.w2 with
    | none => s.curFail m stNoEndpoint 0 0
    | some e =>
      (s.movSend m 0x02 e (fld d.q.w2 23 0) [loW d.q.w1, hiW d.q.w1, BitVec.ofNat 32 (b2n d.q.w64)] .ack).curDone m))

/-- The payload of an ATOMIC (R302): OPERAND, compare value, operation and W64. -/
def atomicWords (d : Started) : List W32 :=
  [loW d.q.w3, hiW d.q.w3, loW d.cmp, hiW d.cmp, BitVec.ofNat 32 (d.q.sub + 16 * b2n d.q.w64)]

/-- RATOM. -/
def execRatom (m : MovAt) (s : State) : Host.Outcome State Fault Refusal :=
  .next (s.moverRow m 0x87 (fun d s =>
    match s.remTarget m.core d.q.w2 with
    | none => s.curFail m stNoEndpoint 0 0
    | some e => (s.movSend m 0x05 e (fld d.q.w2 23 0) (atomicWords d) .old).curDone m))

/-- SATOM. -/
def execSatom (m : MovAt) (s : State) : Host.Outcome State Fault Refusal :=
  .next (s.moverRow m 0x88 (fun d s =>
    (s.movSend m 0x05 (s.stoEid d.q.sto) (d.q.sto.addr / 64) (atomicWords d) .old).curDone m))

/-- Where one SGATHER entry lies, if it passes its check: a virtual store address through the windows captured at issue on a cell task,
a STO word on a privileged core (R179). -/
def gatherEntry (cell : Bool) (q : Queued) (e : W64) : Option StoAddr :=
  if cell then
    if fld e 63 38 ≠ 0 ∨ fld e 5 0 ≠ 0 then none
    else
      match stoCheck q.swin e.toNat (256 * q.lines) true false with
      | .ok x => some x
      | _ => none
  else
    let addr := fld e 35 0
    let store := fld e 42 38 * 4 + fld e 37 36
    if fld e 63 51 ≠ 0 ∨ addr % 64 ≠ 0 ∨ store ≥ 112 ∨ addr + 256 * q.lines > storeBytes then none
    else some { via := BitVec.ofNat 8 (fld e 50 43), store := store, addr := addr }

/-- The entries before the first that fails, and whether one fails. -/
def gatherAll (cell : Bool) (q : Queued) : Nat → List W64 → List (Nat × StoAddr) × Bool
  | _, [] => ([], false)
  | i, e :: t =>
    match gatherEntry cell q e with
    | none => ([], true)
    | some x =>
      let r := gatherAll cell q (i + 1) t
      ((i, x) :: r.1, r.2)

/-- Consecutive entries of one store through one port, at most 64 to a request (R179, R379). -/
def gatherGroups : List (Nat × StoAddr) → List (List (Nat × StoAddr))
  | [] => []
  | e :: t =>
    match gatherGroups t with
    | (f :: g) :: r =>
      if f.2.store = e.2.store ∧ f.2.via = e.2.via ∧ g.length < 63 then (e :: f :: g) :: r else [e] :: (f :: g) :: r
    | r => [e] :: r

/-- The words of one GATHER request (R379). -/
def gatherWords (l : Nat) (g : List (Nat × StoAddr)) : List W32 :=
  fitTo 0 16 [BitVec.ofNat 32 ((l - 1) + 256 * (g.length - 1))] ++
    g.flatMap (fun e => [BitVec.ofNat 32 e.2.addr, BitVec.ofNat 32 (e.2.addr / 2 ^ 32)])

/-- Sends the GATHER requests of an SGATHER. -/
def State.sendGroups (m : MovAt) (l : Nat) : List (List (Nat × StoAddr)) → State → State
  | [], s => s
  | g :: t, s =>
    match g with
    | [] => State.sendGroups m l t s
    | e :: _ =>
      State.sendGroups m l t
        (s.movSend m 0x08 (s.stoEid e.2) 0 (gatherWords l g) (.gather (g.map (·.1)) (g.length * l)))

/-- 64-bit values from words, the low word first. -/
def pairsOf : List W32 → List W64
  | a :: b :: t => joinW a b :: pairsOf t
  | _ => []

/-- SGATHER: the list is read now; the first entry that fails its check ends it WINDOW after the requests of the entries before it. -/
def execSgather (m : MovAt) (s : State) : Host.Outcome State Fault Refusal :=
  .next (s.moverRow m 0x89 (fun d s =>
    match s.memRead m.core d.q.b (2 * (fld d.q.w3 7 0 + 1)) with
    | (.error u, s1) => s1.curFail m stDataUe u 0
    | (.ok ws, s1) =>
      let r := gatherAll (isCell m.core) d.q 0 (pairsOf ws)
      let s2 := State.sendGroups m d.q.lines (gatherGroups r.1) s1
      if r.2 then s2.curFail m stWindow 0 0 else s2.curDone m))

/-- The payload of FETCH_REQ (R357). -/
def fetchWords (s : State) (q : Queued) : List W32 :=
  wordsOfBytes (toLe 5 (fld q.w1 63 24) ++ toLe 1 (fld q.w3 47 40) ++ toLe 2 (q.lines - 1) ++ toLe 5 (fld q.w3 39 0) ++ [0] ++
    toLe 3 (s.stoEid q.sto).toNat ++ toLe 1 q.sto.store ++ toLe 5 q.sto.addr ++ toLe 2 (fld q.w3 63 48))

/-- SFETCH: NOT_PERMITTED on a cell task (R180). -/
def execSfetch (m : MovAt) (s : State) : Host.Outcome State Fault Refusal :=
  .next (s.moverRow m 0x8A (fun d s =>
    if isCell m.core then s.curFail m stNotPermitted 0 0
    else (s.movSend m 0x18 (BitVec.ofNat 24 (fld d.q.w1 23 0)) 0 (fetchWords s d.q) .shard).curDone m))

/-! ### Answers, timeouts, completion (R177, R178, R182, R184) -/

/-- The descriptor of a core that expects an answer, and its mover. -/
def Core.expecting (k : Core) (ok : Started → Expect → Bool) : Option (Fin 2 × Started × Expect) :=
  let look (i : Fin 2) : List (Fin 2 × Started × Expect) :=
    (k.mover i).started.flatMap (fun d => (d.expect.filter (ok d)).map (fun e => (i, d, e)))
  (look 0 ++ look 1).head?

/-- Replaces an expected answer of a started descriptor: by nothing when it has come whole. -/
def State.setExpect (s : State) (m : MovAt) (serial : Nat) (e : Expect) (new : List Expect) : State :=
  s.modMov m (fun x => { x with started := x.started.map (fun d =>
    if d.q.serial = serial then { d with expect := d.expect.flatMap (fun y => if y = e then new else [y]) } else d) })

/-- A started descriptor fails (R178). -/
def State.failDesc (s : State) (m : MovAt) (serial status detail reason : Nat) : State :=
  s.modMov m (fun x => { x with started := x.started.map (fun d =>
    if d.q.serial = serial then d.fail status detail reason else d) })

/-- The status that a NACK reason maps to (R182). -/
def nackStatus (reason : Nat) : Nat :=
  if reason = nkInReset then stTargetInReset else if reason = nkOutside then stOutsideWindow
  else if reason = nkNoEndpoint then stNoEndpoint else if reason = nkNotPermitted then stNotPermitted
  else if reason = nkRemoteUe then stRemoteUe else if reason = nkStoreFenced then stStoreFenced else stNackOther

/-- Does an expectation wait for the answer to a packet's TAG? Neighbour lines carry none. -/
def Expect.has (e : Expect) (tag : BitVec 16) : Bool :=
  match e.answer with
  | .nbr _ => false
  | _ => decide (e.tag = tag)

/-- MOVER_TIMEOUT: the answer to a TAG is given up (R184). Timeouts do not count while the cell is quiesced (R183). -/
def execMoverTimeout (m : MovAt) (tag : BitVec 16) (s : State) : Host.Outcome State Fault Refusal :=
  .next (
    if s.coreRuns m.core = false then s
    else
      match (s.core m.core).expecting (fun _ e => e.has tag) with
      | some (mv, d, e) =>
        if mv = m.mov then (s.setExpect m d.q.serial e []).failDesc m d.q.serial stTimeout 0 0 else s
      | none => s)

/-- MOVER_DESCRIPTOR_COMPLETE: the oldest started descriptor, its work done and its answers in, completes (R134, R171, R177).
The DETAIL of an OK completion is the cycles it took, which are open (log 10). -/
def execMoverDescriptorComplete (m : MovAt) (s : State) : Host.Outcome State Fault Refusal :=
  .next (match (s.mov m).started with
    | [] => s
    | d :: _ =>
      if d.ran = false ∨ !d.expect.isEmpty ∨ (s.mov m).parked ∨ s.coreRuns m.core = false then s
      else
        let st := d.status.toNat
        let w := s.draw
        let s1 := if st = stOk then w.2 else s
        let s2 := s1.signal m.core d.q (movUnit m) st 0 (if st = stOk then w.1.toNat else d.detail)
        let s3 := (s2.modMov m (fun x => { x with started := x.started.drop 1 })).modCore m.core (fun k => { k with movDone := k.movDone + 1 })
        (s3.noteMov m.core st (if d.reason = 0 then none else some d.reason)).countFell ⟨m.core, d.q.task⟩)

end Sys2Proof.Machine
end

