-- ==== Sys2Proof/Machine/Privileged.lean ====
section
/-!
DEFINITION. The privileged extension of a steward or keeper core: control-network instructions, the receive queue, privileged
registers, return from a trap, interrupts (R121–R127, R298–R300).
-/
namespace Sys2Proof.Machine

/-! ### Issue of a privileged instruction -/

/-- Issues one of the opcodes 0x30–0x36: on a cell it traps PRIVILEGED (R117); a field error traps ILLEGAL. -/
def State.issuePrv (s : State) (a : At) (reads : List Reg) (illegal : Bool) (body : State → State) : State :=
  s.issue a reads false (fun s =>
    if isCell a.core then s.trap a cPrivileged 0 else if illegal then s.trap a cIllegal 0 else body s)

/-! ### Time (log 10) -/

/-- Time passes by an open amount before a core looks at its cycle counter (R125; log 10). -/
def State.passTime (s : State) (i : CoreId) : State :=
  let d := s.draw
  d.2.modCore i (fun k => { k with cycles := k.cycles + d.1 })

/-! ### Control accesses (R122, R298–R300) -/

/-- The payload of a control request: TASK and OFFSET (R299). -/
def reqPayload (t : TaskId) (off : W64) : W64 := BitVec.ofNat 64 (t.val * 2 ^ 16 + fld off 15 0)

/-- The endpoint in bits [23:0] of a register. -/
def eidIn (v : W64) : Eid := v.setWidth 24

/-- cread: sends REG_RD and waits for the answer. -/
def execCread (a : At) (f : OpRRf) (s : State) : Host.Outcome State Fault Refusal :=
  .next (s.issuePrv a [f.rs1, f.rs2] (decide (fld f.fn 10 3 ≠ 0)) (fun s =>
    let t := s.task a
    (s.sendCtl (mkCtl 0x01 (eidIn (t.x f.rs1)) (s.eidOf a.core) (reqPayload a.task (t.x f.rs2)))).waitFor a
      (.cread f.rd (bits f.fn 0 3))))

/-- cwrite: sends the linked pair REG_WR_HEAD and REG_WR_BODY and waits for the answer. RV stands in RD's place. -/
def execCwrite (a : At) (f : OpRRf) (s : State) : Host.Outcome State Fault Refusal :=
  .next (s.issuePrv a [f.rd, f.rs1, f.rs2] (decide (fld f.fn 10 3 ≠ 0)) (fun s =>
    let t := s.task a
    let dst := eidIn (t.x f.rs1)
    ((s.sendCtl (mkCtl 0x02 dst (s.eidOf a.core) (reqPayload a.task (t.x f.rs2)))).sendCtl
      (mkCtl 0x03 dst (s.eidOf a.core) (t.x f.rd))).waitFor a (.cwrite (bits f.fn 0 3))))

/-- csend: message classes only (R299). -/
def execCsend (a : At) (f : OpRRf) (s : State) : Host.Outcome State Fault Refusal :=
  .next (s.issuePrv a [f.rs1, f.rs2] (decide (fld f.fn 10 3 ≠ 0 ∨ f.rd ≠ 0)) (fun s =>
    let t := s.task a
    let v := t.x f.rs1
    let cls := fld v 31 24
    if fld v 63 32 ≠ 0 ∨ cls < 0x40 ∨ cls ≥ 0x80 then s.trap a cIllegal 0
    else (s.sendCtl (mkCtl cls (eidIn v) (s.eidOf a.core) (t.x f.rs2))).step1 a (fun t => t)))

/-- Takes the oldest entry of the receive queue into rd and rd + 1 (R122); the wait ends. -/
def State.takeRx (s : State) (a : At) (rd : Reg) (p : CtlPkt) : State :=
  (s.modCore a.core (fun k => { k with rx := k.rx.drop 1 })).modTask a (fun t =>
    { ((t.set rd p.payload).set (rd + 1) (BitVec.ofNat 64 (p.cls.toNat * 2 ^ 24 + p.src.toNat))) with
      st := .active, wait := .none, pc := nextPc a.core t.pc })

/-- The order number of a task waiting in crecv, if it waits (R123). -/
def Task.rxOrder (t : Task) : Option (Reg × Nat) :=
  match t.wait with
  | .crecv rd n => if t.st = .waiting then some (rd, n) else none
  | _ => none

/-- The order number that the next crecv to wait gets. -/
def State.nextRxOrder (s : State) (i : CoreId) : Nat :=
  ((tasksOf i).filterMap (fun a => (s.task a).rxOrder)).foldl (fun m e => max m (e.2 + 1)) 0

/-- The task that has waited longest in crecv, with its rd (R123). -/
def State.rxWaiter (s : State) (i : CoreId) : Option (At × Reg) :=
  ((tasksOf i).filterMap (fun a => (s.task a).rxOrder.map (fun e => (a, e.1, e.2)))).foldl
    (fun (b : Option (At × Reg × Nat)) e => match b with
      | none => some e
      | some x => if e.2.2 < x.2.2 then some e else b) none |>.map (fun e => (e.1, e.2.1))

/-- crecv: RD even, 2–30. -/
def execCrecv (a : At) (f : OpRRf) (s : State) : Host.Outcome State Fault Refusal :=
  .next (s.issuePrv a [] (decide (fld f.fn 10 3 ≠ 0 ∨ f.rd = 0) || bit f.rd 0) (fun s =>
    match (s.core a.core).rx with
    | p :: _ => s.takeRx a f.rd p
    | [] => s.waitFor a (.crecv f.rd (s.nextRxOrder a.core))))

/-- A message enters a receive queue of 64; a full queue refuses it with QUEUE_FULL (R123). A waiting crecv takes it at once. -/
def State.rxPush (s : State) (i : CoreId) (p : CtlPkt) : State :=
  let q := (s.core i).rx
  if q.length ≥ 64 then s.nackCtl (s.eidOf i) p nkQueueFull
  else
    let s1 := s.modCore i (fun k => { k with rx := k.rx ++ [p] })
    match s.rxWaiter i, q with
    | some (a, rd), [] => s1.takeRx a rd p
    | _, _ => s1

/-- The end of a cread or cwrite of a task: p[PD], and rd where the access sets it (R122). -/
def State.endAccess (s : State) (a : At) (pd : PReg) (ok : Bool) (rd : Reg) (v : W64) : State :=
  (s.modTask a (fun t => t.setP pd ok)).endWait a rd v

/-- CONTROL_ACCESS_TIMEOUT: p[PD] := 0; rd := all ones for cread. A cwrite has no rd (R122). -/
def execControlAccessTimeout (a : At) (s : State) : Host.Outcome State Fault Refusal :=
  .next (if (s.task a).st ≠ .waiting then s else match (s.task a).wait with
    | .cread rd pd => s.endAccess a pd false rd (BitVec.allOnes 64)
    | .cwrite pd => s.endAccess a pd false 0 0
    | _ => s)

/-- The end of a control access by an answer that names the task (R122, R299). -/
def State.accessAnswer (s : State) (a : At) (write ok : Bool) (v : W64) : State :=
  if (s.task a).st ≠ .waiting then s
  else
    match (s.task a).wait with
    | .cread rd pd => if write then s else s.endAccess a pd ok rd v
    | .cwrite pd => if write then s.endAccess a pd ok 0 0 else s
    | _ => s

/-! ### Privileged registers (R124, R125) -/

/-- PRV_IP: receive queue, comb error queue (stewards only), timer (R125). -/
def State.prvIp (s : State) (i : CoreId) : BitVec 3 :=
  let k := s.core i
  let erq := match i with
    | .steward si => !(s.comb si).erq.isEmpty
    | _ => false
  BitVec.ofNat 3 (b2n (!k.rx.isEmpty) + 2 * b2n erq + 4 * b2n (decide (k.tcmp.toNat ≤ k.cycles.toNat)))

/-- The value of a privileged register (R125). Numbers 0x00C–0x7FF read zero (R124). -/
def State.prvRead (s : State) (a : At) (n : Nat) : W64 :=
  let k := s.core a.core
  let p := (s.task a).prv
  if n = 0 then zext64 (s.eidOf a.core)
  else if n = 1 then zext64 p.tstatus
  else if n = 2 then zext64 p.tvec
  else if n = 3 then zext64 p.tpc
  else if n = 4 then zext64 p.tcause
  else if n = 5 then p.tval
  else if n = 6 then zext64 (s.prvIp a.core)
  else if n = 7 then zext64 k.ie
  else if n = 8 then zext64 k.itask
  else if n = 9 then k.cycles
  else if n = 10 then k.tcmp
  else if n = 11 then p.scratch
  else 0

/-- A write of a privileged register; RO and undefined numbers are ignored (R124, R125). -/
def State.prvWrite (s : State) (a : At) (n : Nat) (v : W64) : State :=
  let prv (f : PrvTask → PrvTask) : State := s.modTask a (fun t => { t with prv := f t.prv })
  if n = 1 then prv (fun p => { p with tstatus := v.setWidth 2 })
  else if n = 2 then prv (fun p => { p with tvec := v.setWidth 24 })
  else if n = 3 then prv (fun p => { p with tpc := v.setWidth 24 })
  else if n = 4 then prv (fun p => { p with tcause := v.setWidth 8 })
  else if n = 5 then prv (fun p => { p with tval := v })
  else if n = 7 then s.modCore a.core (fun k => { k with ie := v.setWidth 3 })
  else if n = 8 then s.modCore a.core (fun k => { k with itask := v.setWidth 3 })
  else if n = 10 then s.modCore a.core (fun k => { k with tcmp := v })
  else if n = 11 then prv (fun p => { p with scratch := v })
  else s

/-- Does an instruction of a privileged core reach a peripheral register (R124)? -/
def State.reachesPeripheral (s : State) (a : At) (reads : List Reg) (illegal : Bool) (n : Nat) : Bool :=
  s.canIssue a reads && !isCell a.core && !illegal && (s.fetch a).1.isNone && decide (0x800 ≤ n)

/-- prd: RS1 and imm[15:12] must be zero. -/
def execPrd (a : At) (f : OpRI) (s : State) : Host.Outcome State Fault Refusal :=
  let illegal := decide (f.rs1 ≠ 0 ∨ fld f.imm 15 12 ≠ 0)
  if s.reachesPeripheral a [] illegal (fld f.imm 11 0) then .refused .peripheral
  else .next (s.issuePrv a [] illegal (fun s =>
    let s1 := if fld f.imm 11 0 = 6 ∨ fld f.imm 11 0 = 9 then s.passTime a.core else s
    s1.setRd a f.rd (s1.prvRead a (fld f.imm 11 0))))

/-- pwr: RD and imm[15:12] must be zero. -/
def execPwr (a : At) (f : OpRI) (s : State) : Host.Outcome State Fault Refusal :=
  let illegal := decide (f.rd ≠ 0 ∨ fld f.imm 15 12 ≠ 0)
  if s.reachesPeripheral a [f.rs1] illegal (fld f.imm 11 0) then .refused .peripheral
  else .next (s.issuePrv a [f.rs1] illegal (fun s =>
    (s.prvWrite a (fld f.imm 11 0) ((s.task a).x f.rs1)).step1 a (fun t => t)))

/-- tret: bits [25:0] must be zero. -/
def execTret (a : At) (z : BitVec 26) (s : State) : Host.Outcome State Fault Refusal :=
  .next (s.issuePrv a [] (z != 0) (fun s => s.modTask a Task.tret))

/-! ### Interrupts (R127) -/

/-- The number of the lowest set bit of three. -/
def lowBit (v : BitVec 3) : Nat := if bit v 0 then 0 else if bit v 1 then 1 else 2

/-- The task that takes a core's interrupts (R125). -/
def State.itaskOf (s : State) (i : CoreId) : At := ⟨i, (s.core i).itask.toFin⟩

/-- May the interrupt be taken now: PRV_ITASK at an instruction boundary, IN_TRAP 0, IE 1, an enabled bit pending (R127)? -/
def State.intReady (s : State) (i : CoreId) : Bool :=
  let t := s.task (s.itaskOf i)
  !isCell i && decide (t.st = .active ∨ t.st = .waiting) && t.load.isNone && !bit t.prv.tstatus 0 && bit t.prv.tstatus 1 &&
  decide (s.prvIp i &&& (s.core i).ie ≠ 0)

/-- INTERRUPT: the core looks at its timer, and takes the interrupt where its conditions hold. PRV_TPC holds the next instruction:
the task's pc, where a waiting task re-executes its wait after tret. -/
def execInterrupt (i : CoreId) (s : State) : Host.Outcome State Fault Refusal :=
  .next (
    let s1 := if isCell i then s else s.passTime i
    if s1.intReady i then
      let a := s1.itaskOf i
      let cause := BitVec.ofNat 8 (0x40 + lowBit (s1.prvIp i &&& (s1.core i).ie))
      s1.modTask a (fun t => t.enterTrap cause t.pc 0)
    else s1)

end Sys2Proof.Machine
end

