-- ==== Sys2Proof/Machine/Matrix.lean ====
section
/-!
DEFINITION. The matrix engine's commands (R144–R150).
-/
namespace Sys2Proof.Machine

/-! ### Fields (R145–R149) -/

/-- M, N of word 0: bits [54:49] and [60:55], plus one. -/
def Queued.mRows (q : Queued) : Nat := fld q.w0 54 49 + 1
def Queued.nCols (q : Queued) : Nat := fld q.w0 60 55 + 1
def Queued.tile (q : Queued) : Nat := fld q.w0 47 44
def Queued.bit48 (q : Queued) : Bool := bit q.w0 48
/-- K of an MMA (R145). -/
def Queued.kLen (q : Queued) : Nat := (fld q.w1 60 53 + 1) * 32

/-- A matrix operand word: its low 53 bits (R140). -/
def mOpWord (w : W64) : OpWord := opWord (keep w 0x001FFFFFFFFFFFFF)

/-- The operands of MMA: A is M rows of K, B is N rows of K (R145). -/
def mmaA (q : Queued) : Opnd :=
  { o := mOpWord q.w1, base := 64, form := 0, rows := q.mRows, cols := q.kLen, data := q.a, scale := q.aS }
def mmaB (q : Queued) : Opnd :=
  { o := mOpWord q.w2, base := 128, form := 0, rows := q.nCols, cols := q.kLen, data := q.b, scale := q.bS }
/-- The source of ACC_LOAD and the factors' word of ACC_SCALE. -/
def accSrc (q : Queued) : Opnd :=
  { o := mOpWord q.w1, base := 64, form := 0, rows := q.mRows, cols := q.nCols, data := q.a, scale := q.aS }
/-- The destination of ACC_STORE. -/
def accDst (q : Queued) : Opnd :=
  { o := mOpWord q.w1, base := 64, form := 0, rows := q.mRows, cols := q.nCols, data := q.d, scale := q.dS }
/-- The destination of PACK: transposed where TRANS is set (R149). -/
def packDst (q : Queued) : Opnd :=
  { o := mOpWord q.w2, base := 128, form := 0, rows := if q.bit48 then q.nCols else q.mRows,
    cols := if q.bit48 then q.mRows else q.nCols, data := q.d, scale := q.dS }

/-- Checks of kinds 1–5 with the header's added (R136). -/
def withHdr (q : Queued) (k1 k2 k3 k4 k5 : List FieldChk) : Option Nat :=
  firstBad [hdrRsvd q :: k1, hdrUnused q :: k2, k3, k4, k5 ++ [hdrAlign q]]

/-- Is a pairing of A and B allowed (R71)? -/
def pairingOk (a b : Nat) : Bool := (isMx a && isMx b) || (a == b && (a == 1 || a == 2 || a == 3))

/-- The field checks of MMA. -/
def mmaCheck (q : Queued) : Option Nat :=
  let a := mmaA q
  let b := mmaB q
  withHdr q [mustZero q 0 63 61, mustZero q 1 63 61, mustZero q 2 63 53, mustZero q 3 63 0] (a.unused false ++ b.unused false)
    [a.enum, b.enum] [{ bad := !pairingOk a.o.fmt b.o.fmt, bit_ := 78 }] (a.shape 117 ++ b.shape 117)

/-- The field checks of ACC_LOAD. -/
def accLoadCheck (q : Queued) : Option Nat :=
  let a := accSrc q
  withHdr q [mustZero q 0 48 48, mustZero q 0 63 61, mustZero q 1 63 53, mustZero q 2 63 0, mustZero q 3 63 0] (a.unused false)
    [a.enum] [] (a.shape 55)

/-- The value of an FP32 factor field. -/
def factorOf (w : W64) : FV := decodeF fp32 (fld w 31 0)

/-- A factor that is not finite (R80, R147). -/
def notFinite (v : FV) : Bool :=
  match v with
  | .fin _ _ _ => false
  | _ => true

/-- The checks of a destination's conversion: RMODE in word j at bits [55:53], FACTOR in word 3 (R147, R149). -/
def convChecks (q : Queued) (d : Opnd) (j : Nat) (cbit : Nat) : FieldChk × FieldChk × List FieldChk :=
  let w := if j = 1 then q.w1 else q.w2
  ({ bad := decide (fld w 55 53 > 4), bit_ := 64 * j + 53 },
   { bad := d.o.fmt != 3 && decide (fld q.w3 31 0 ≠ 0), bit_ := 192 },
   [{ bad := d.o.fmt == 3 && notFinite (factorOf q.w3), bit_ := 192 },
    { bad := isMx d.o.fmt && d.cols != 32 && d.cols != 64, bit_ := cbit }])

/-- The field checks of ACC_STORE. -/
def accStoreCheck (q : Queued) : Option Nat :=
  let d := accDst q
  let k := convChecks q d 1 55
  withHdr q [mustZero q 0 63 61, mustZero q 1 63 59, mustZero q 2 63 0, mustZero q 3 63 32] (d.unused false ++ [k.2.1])
    [d.enum, k.1] [] (d.shape 55 ++ k.2.2)

/-- The field checks of ACC_ZERO. -/
def accZeroCheck (q : Queued) : Option Nat :=
  withHdr q [mustZero q 0 63 60, mustZero q 1 63 0, mustZero q 2 63 0, mustZero q 3 63 0] [] [] [] []

/-- The field checks of ACC_SCALE. -/
def accScaleCheck (q : Queued) : Option Nat :=
  let a := accSrc q
  withHdr q [mustZero q 0 48 48, mustZero q 0 63 61, mustZero q 1 63 53, mustZero q 2 63 0, mustZero q 3 63 0]
    [mustZero q 1 30 18, mustZero q 1 44 31, mustZero q 1 52 45] [a.enum] [{ bad := a.o.fmt != 0, bit_ := 78 }] []

/-- Do two operands share a line (R149)? -/
def shareLine (x y : Opnd) : Bool :=
  x.ranges.any (fun a => y.ranges.any (fun b =>
    decide (a.1 / 64 ≤ (b.1 + b.2 - 1) / 64) && decide (b.1 / 64 ≤ (a.1 + a.2 - 1) / 64)))

/-- The field checks of PACK. -/
def packCheck (q : Queued) : Option Nat :=
  let a := accSrc q
  let d := packDst q
  let cb := if q.bit48 then 49 else 55
  let k := convChecks q d 2 cb
  withHdr q [mustZero q 0 47 44, mustZero q 0 63 61, mustZero q 1 63 53, mustZero q 2 63 58, mustZero q 3 63 32]
    (a.unused false ++ d.unused false ++ [k.2.1]) [a.enum, d.enum, k.1] []
    (a.shape 55 ++ d.shape cb ++ k.2.2 ++ [{ bad := shareLine a d, bit_ := 64 }])

/-! ### Accumulator memory (R144, R50) -/

/-- The accumulator index of word (m, n) of a tile. -/
def accIdx (t m n : Nat) : Nat := t * 4096 + m * 64 + n

/-- The first uncorrectable word of an M × N region. -/
def accUe (r : Ram) (t m n : Nat) : Option Nat := (List.range m).findSome? (fun i => r.firstUe (accIdx t i 0) n)

/-- Writes a region row by row. -/
def accWriteRows (r : Ram) (t : Nat) : Nat → List (List W32) → Ram
  | _, [] => r
  | m, ws :: rest => accWriteRows (r.write (accIdx t m 0) ws) t (m + 1) rest

/-- The rows of a region. -/
def accRows (r : Ram) (t m n : Nat) : List (List W32) := (List.range m).map (fun i => r.read (accIdx t i 0) n)

/-- A command that met an uncorrectable accumulator word: ACC_UE, contained error (R50). -/
def State.accFail (s : State) (c : CellAt) (q : Queued) (idx : Nat) : State :=
  (s.setCellErr c errAccUe).engRun c .mxe q stAccUe 0 idx

/-- A command done: its accumulator content, generators and flags, and the free values it drew. -/
def State.mxeDone (s : State) (c : CellAt) (q : Queued) (acc : Ram) (ar : Ar) : State :=
  let s1 := { s with free := ar.free }
  let s2 := s1.modCell c (fun k => { k with acc := acc, mxe := { k.mxe with lanes := ar.lanes } })
  s2.engRun c .mxe q stOk ar.flags 0

/-- The arithmetic context of a cell's engine. -/
def State.arOf (s : State) (c : CellAt) (e : Eng) : Ar := Ar.start ((s.cell c).eng e).lanes s.free

/-! ### MMA (R82–R84, R145) -/

/-- The contributions of the groups of one dot product, exactly (R82). -/
def Ar.groups (g : Nat) : Nat → List FV → List FV → Ar → List FV × Ar
  | 0, _, _, r => ([], r)
  | n + 1, a, b, r =>
    let x := r.dot (a.take g) (b.take g) none
    let y := Ar.groups g n (a.drop g) (b.drop g) x.2
    (x.1 :: y.1, y.2)

/-- Adds group contributions to an accumulator in an order, each sum rounded once with RNE (R82). -/
def Ar.accumulate (gs : List FV) : List Nat → FV → Ar → FV × Ar
  | [], c, r => (c, r)
  | i :: is, c, r =>
    let s := r.add false c (nth .nan gs i)
    let t := s.2.rne32 s.1
    Ar.accumulate gs is t.1 t.2

/-- One floating accumulator word (R82, R84): the order of the groups is free. -/
def Ar.dotAcc (r : Ar) (g k : Nat) (a b : List FV) (c : W32) : W32 × Ar :=
  let gs := Ar.groups g (k / g) a b r
  let r1 := { gs.2 with free := gs.2.free + 1 }
  let x := Ar.accumulate gs.1 (orderOf gs.2.free (k / g)) (decodeF fp32 c.toNat) r1
  let y := x.2.narrow fp32 0 false 0 x.1
  (BitVec.ofNat 32 y.1, y.2)

/-- One row of floating accumulator words. -/
def Ar.dotRow (g k : Nat) (a : List FV) : List (List FV × W32) → Ar → List W32 × Ar
  | [], r => ([], r)
  | (b, c) :: t, r =>
    let x := r.dotAcc g k a b c
    let y := Ar.dotRow g k a t x.2
    (x.1 :: y.1, y.2)

/-- Every row of floating accumulator words. -/
def Ar.dotRows (g k : Nat) (bs : List (List FV)) : List (List FV × List W32) → Ar → List (List W32) × Ar
  | [], r => ([], r)
  | (a, cs) :: t, r =>
    let x := Ar.dotRow g k a (bs.zip cs) r
    let y := Ar.dotRows g k bs t x.2
    (x.1 :: y.1, y.2)

/-- An INT32 value clamped once, SATURATED where that changes it (R83). -/
def Ar.clamp32 (r : Ar) (i : Int) : W32 × Ar :=
  if i > 2 ^ 31 - 1 then (0x7FFFFFFF, { r with sat := true })
  else if i < -(2 ^ 31) then (0x80000000, { r with sat := true })
  else (BitVec.ofInt 32 i, r)

/-- One row of integer accumulator words (R83). -/
def Ar.idotRow (a : List Int) : List (List Int × W32) → Ar → List W32 × Ar
  | [], r => ([], r)
  | (b, c) :: t, r =>
    let x := r.clamp32 (c.toInt + ((a.zip b).map (fun p => p.1 * p.2)).foldl (· + ·) 0)
    let y := Ar.idotRow a t x.2
    (x.1 :: y.1, y.2)

/-- Every row of integer accumulator words. -/
def Ar.idotRows (bs : List (List Int)) : List (List Int × List W32) → Ar → List (List W32) × Ar
  | [], r => ([], r)
  | (a, cs) :: t, r =>
    let x := Ar.idotRow a (bs.zip cs) r
    let y := Ar.idotRows bs t x.2
    (x.1 :: y.1, y.2)

/-- The rows that an MMA leaves in its tile. -/
def mmaRows (q : Queued) (m : Ram) (old : List (List W32)) (r : Ar) : List (List W32) × Ar :=
  let a := mmaA q
  let b := mmaB q
  if a.o.fmt = 3 then
    let ints (x : Opnd) : List (List Int) := (List.range x.rows).map (fun i => (x.rowCodes m i).map (sInt 8))
    Ar.idotRows (ints b) ((ints a).zip old) r
  else
    let av := a.allVals m a.rows r
    let bv := b.allVals m b.rows av.2
    Ar.dotRows (if isMx a.o.fmt then 32 else 16) q.kLen bv.1 (av.1.zip old) bv.2

/-- The work of an MMA whose fields are good (R145). -/
def State.mmaBody (s : State) (c : CellAt) (q : Queued) : State :=
  let t := q.tile
  let acc := (s.cell c).acc
  match s.wideRead c ((mmaA q).ranges ++ (mmaB q).ranges) with
  | (some u, s1) => s1.engRun c .mxe q stDataUe 0 u
  | (none, s1) =>
    match (if q.bit48 then none else accUe acc t q.mRows q.nCols) with
    | some i => s1.accFail c q i
    | none =>
      let old := if q.bit48 then List.replicate q.mRows (List.replicate q.nCols (0 : W32)) else accRows acc t q.mRows q.nCols
      let x := mmaRows q (s.cell c).cmem old (s1.arOf c .mxe)
      s1.mxeDone c q (accWriteRows acc t 0 x.1) x.2

/-- MMA. -/
def execMma (c : CellAt) (s : State) : Host.Outcome State Fault Refusal :=
  .next (s.engineRow c .mxe 1 mmaCheck (fun q s => s.mmaBody c q))

/-! ### ACC_LOAD, ACC_STORE, ACC_ZERO, ACC_SCALE (R146–R148) -/

/-- A row of values as FP32 words, widened exactly. -/
def Ar.wordsOf : List FV → Ar → List W32 × Ar
  | [], r => ([], r)
  | v :: t, r =>
    let a := r.narrow fp32 0 false 0 v
    let b := Ar.wordsOf t a.2
    (BitVec.ofNat 32 a.1 :: b.1, b.2)

/-- Rows of values as FP32 words. -/
def Ar.wordRows : List (List FV) → Ar → List (List W32) × Ar
  | [], r => ([], r)
  | x :: t, r =>
    let a := Ar.wordsOf x r
    let b := Ar.wordRows t a.2
    (a.1 :: b.1, b.2)

/-- The rows ACC_LOAD brings (R146). -/
def loadRows (x : Opnd) (m : Ram) (r : Ar) : List (List W32) × Ar :=
  if isIntFmt x.o.fmt then
    ((List.range x.rows).map (fun i => (x.rowCodes m i).map (fun k =>
      if x.o.fmt = 3 then BitVec.ofInt 32 (sInt 8 k) else BitVec.ofNat 32 k)), r)
  else
    let v := x.allVals m x.rows r
    Ar.wordRows v.1 v.2

/-- The work of ACC_LOAD. -/
def State.accLoadBody (s : State) (c : CellAt) (q : Queued) : State :=
  match s.wideRead c (accSrc q).ranges with
  | (some u, s1) => s1.engRun c .mxe q stDataUe 0 u
  | (none, s1) =>
    let x := loadRows (accSrc q) (s.cell c).cmem (s1.arOf c .mxe)
    s1.mxeDone c q (accWriteRows (s.cell c).acc q.tile 0 x.1) x.2

/-- ACC_LOAD. -/
def execAccLoad (c : CellAt) (s : State) : Host.Outcome State Fault Refusal :=
  .next (s.engineRow c .mxe 2 accLoadCheck (fun q s => s.accLoadBody c q))

/-- The conversion that a destination word asks for: word j holds SRULE [57], SAT [56], RMODE [55:53] (R147, R149). -/
def convOf (w : W64) (w3 : W64) : Conv :=
  { fmt := (mOpWord w).fmt, mode := fld w 55 53, sat := bit w 56, srule := bit w 57, factor := factorOf w3 }

/-- An INT32 value on its way to a format: through FP32 under the mode where the target is MX, else as it is (R147, R149). -/
def Ar.intVia (r : Ar) (k : Conv) (lane : Nat) (v : FV) : FV × Ar :=
  if isMx k.fmt then r.narrowV fp32 k.mode k.sat lane v else (v, r)

/-- Values with the lane of their destination column, integers passed on as they go to the format. -/
def Ar.prepare (int : Bool) (k : Conv) : Nat → List FV → Ar → List (Nat × FV) × Ar
  | _, [], r => ([], r)
  | lane, v :: t, r =>
    let a := if int then r.intVia k lane v else (v, r)
    let b := Ar.prepare int k (lane + 1) t a.2
    ((lane, a.1) :: b.1, b.2)

/-- Rows prepared one by one. -/
def Ar.prepareRows (int : Bool) (k : Conv) : List (List FV) → Ar → List (List (Nat × FV)) × Ar
  | [], r => ([], r)
  | x :: t, r =>
    let a := Ar.prepare int k 0 x r
    let b := Ar.prepareRows int k t a.2
    (a.1 :: b.1, b.2)

/-- Values converted into destination rows. -/
def Ar.convAll (r : Ar) (int : Bool) (k : Conv) (rows : List (List FV)) : List (List Nat × List Nat) × Ar :=
  let p := Ar.prepareRows int k rows r
  Ar.convRows k p.1 p.2

/-- The value of an accumulator word by AINT (R144). -/
def accVal (int : Bool) (w : W32) : FV := if int then FV.ofInt w.toInt else decodeF fp32 w.toNat

/-- The work of ACC_STORE (R147). -/
def State.accStoreBody (s : State) (c : CellAt) (q : Queued) : State :=
  let acc := (s.cell c).acc
  let t := q.tile
  match accUe acc t q.mRows q.nCols with
  | some i => s.accFail c q i
  | none =>
    let int := bit q.w1 58
    let rows := (accRows acc t q.mRows q.nCols).map (fun ws => ws.map (accVal int))
    let x := (s.arOf c .mxe).convAll int (convOf q.w1 q.w3) rows
    let s1 := s.writeRows (.cell c.site c.phys) (accDst q) 0 x.1
    let acc1 := if q.bit48 then accWriteRows acc t 0 (List.replicate q.mRows (List.replicate q.nCols (0 : W32))) else acc
    s1.mxeDone c q acc1 x.2

/-- ACC_STORE. -/
def execAccStore (c : CellAt) (s : State) : Host.Outcome State Fault Refusal :=
  .next (s.engineRow c .mxe 3 accStoreCheck (fun q s => s.accStoreBody c q))

/-- Tiles set to +0 by a mask (R148). -/
def accZeroTiles (r : Ram) (mask : Nat) : Ram :=
  (List.range 16).foldl (fun r t =>
    if mask / 2 ^ t % 2 = 1 then { words := Tbl.clear r.words (t * 4096) 4096, ecc := Tbl.clear r.ecc (t * 4096) 4096 } else r) r

/-- ACC_ZERO. -/
def execAccZero (c : CellAt) (s : State) : Host.Outcome State Fault Refusal :=
  .next (s.engineRow c .mxe 4 accZeroCheck (fun q s =>
    s.mxeDone c q (accZeroTiles (s.cell c).acc (fld q.w0 59 44)) (s.arOf c .mxe)))

/-- A row of FP32 words times a factor, each rounded once with RNE (R148). -/
def Ar.scaleRow (f : FV) : List W32 → Ar → List W32 × Ar
  | [], r => ([], r)
  | w :: t, r =>
    let p := r.mul (decodeF fp32 w.toNat) f
    let a := p.2.narrow fp32 0 false 0 p.1
    let b := Ar.scaleRow f t a.2
    (BitVec.ofNat 32 a.1 :: b.1, b.2)

/-- Rows, each times its factor. -/
def Ar.scaleRows : List (FV × List W32) → Ar → List (List W32) × Ar
  | [], r => ([], r)
  | (f, ws) :: t, r =>
    let a := Ar.scaleRow f ws r
    let b := Ar.scaleRows t a.2
    (a.1 :: b.1, b.2)

/-- The work of ACC_SCALE. -/
def State.accScaleBody (s : State) (c : CellAt) (q : Queued) : State :=
  let acc := (s.cell c).acc
  let m := q.mRows
  match s.wideRead c [(q.a, cdiv (m * 32) 2048 * 64)] with
  | (some u, s1) => s1.engRun c .mxe q stDataUe 0 u
  | (none, s1) =>
    match accUe acc q.tile m q.nCols with
    | some i => s1.accFail c q i
    | none =>
      let fs := ((s.cell c).cmem.read q.a m).map (fun w => decodeF fp32 w.toNat)
      let x := Ar.scaleRows (fs.zip (accRows acc q.tile m q.nCols)) (s1.arOf c .mxe)
      s1.mxeDone c q (accWriteRows acc q.tile 0 x.1) x.2

/-- ACC_SCALE. -/
def execAccScale (c : CellAt) (s : State) : Host.Outcome State Fault Refusal :=
  .next (s.engineRow c .mxe 5 accScaleCheck (fun q s => s.accScaleBody c q))

/-! ### PACK (R149) -/

/-- The transpose of rows of `n` columns. -/
def transposeRows (n : Nat) (rows : List (List FV)) : List (List FV) :=
  (List.range n).map (fun j => rows.map (fun row => nth .nan row j))

/-- The work of PACK: INT32 sources that go to a floating or MX destination go through FP32 under RMODE. -/
def State.packBody (s : State) (c : CellAt) (q : Queued) : State :=
  let a := accSrc q
  match s.wideRead c a.ranges with
  | (some u, s1) => s1.engRun c .mxe q stDataUe 0 u
  | (none, s1) =>
    let v := a.allVals (s.cell c).cmem a.rows (s1.arOf c .mxe)
    let rows := if q.bit48 then transposeRows a.cols v.1 else v.1
    let x := v.2.convAll (a.o.fmt == 4) (convOf q.w2 q.w3) rows
    (s1.writeRows (.cell c.site c.phys) (packDst q) 0 x.1).mxeDone c q (s.cell c).acc x.2

/-- PACK. -/
def execPack (c : CellAt) (s : State) : Host.Outcome State Fault Refusal :=
  .next (s.engineRow c .mxe 6 packCheck (fun q s => s.packBody c q))

end Sys2Proof.Machine
end

