-- ==== Sys2Proof/Machine/Vector.lean ====
section
/-!
DEFINITION. The vector engine's commands (R152–R159).
-/
namespace Sys2Proof.Machine

/-! ### Fields (R152) -/

def Queued.vRows (q : Queued) : Nat := fld q.w0 63 56 + 1
def Queued.vCols (q : Queued) : Nat := fld q.w0 55 44 + 1
def Queued.fn (q : Queued) : Nat := fld q.w1 58 53
def Queued.vMode (q : Queued) : Nat := fld q.w1 61 59

/-- The operands D, A and B of a vector command. -/
def vecD (q : Queued) : Opnd :=
  { o := mOpWord q.w1, base := 64, form := 0, rows := q.vRows, cols := q.vCols, data := q.d, scale := q.dS }
def vecA (q : Queued) : Opnd :=
  { o := opWord q.w2, base := 128, form := (opWord q.w2).form, rows := q.vRows, cols := q.vCols, data := q.a, scale := q.aS }
def vecB (q : Queued) : Opnd :=
  { o := opWord q.w3, base := 192, form := (opWord q.w3).form, rows := q.vRows, cols := q.vCols, data := q.b, scale := q.bS }
/-- The packed result of VRED: ROWS values from D.LINE (R156). -/
def redD (q : Queued) : Opnd := { vecD q with rows := 1, cols := q.vRows }

/-- The conversion into D (R153). -/
def vecConv (q : Queued) (factor : FV) : Conv :=
  { fmt := (vecD q).o.fmt, mode := q.vMode, sat := bit q.w1 62, srule := bit q.w1 63, factor := factor }

/-- Does the zero of a cancelling sum carry a minus sign (R85)? -/
def Queued.rdn (q : Queued) : Bool := q.vMode == 2

/-! ### Field checks (R136, R140, R141, R143, R153–R159) -/

/-- Is a format floating: FP32, BF16, FP16 or MX (R153)? -/
def isFloat (f : Nat) : Bool := !isIntFmt f && decide (f ≤ 10)

/-- The checks that every vector command shares. `bUsed`: B is an operand. `aMeant`, `bMeant`, `bAux`: the opcode gives A.SLINE, B.SLINE,
B.AUX[5:0] a meaning. `fnOk`: FN is in the opcode's table. `classes` and `own` are the opcode's own checks of kinds 4 and 5. -/
def vecCheck (q : Queued) (bUsed aMeant bMeant bAux fnOk : Bool) (classes own : List FieldChk) : Option Nat :=
  let d := vecD q
  let a := vecA q
  let b := vecB q
  withHdr q []
    (d.unused false ++ a.unused aMeant ++ [{ bad := a.o.aux != 0, bit_ := 183 }] ++
      (if bUsed then b.unused bMeant ++ [if bAux then { bad := decide (b.o.aux / 64 ≠ 0), bit_ := 253 } else { bad := b.o.aux != 0, bit_ := 247 }]
        else [mustZero q 3 63 0]))
    ([d.enum, a.enum, { bad := decide (q.vMode > 4), bit_ := 123 }, { bad := !fnOk, bit_ := 117 }] ++ (if bUsed then [b.enum] else []))
    classes own

/-- A source's shape checks, with the form its opcode asks for. -/
def srcShape (x : Opnd) (want : Option Nat) : List FieldChk :=
  (match want with
    | some f => [{ bad := x.form != f, bit_ := x.base + 53 }]
    | none => []) ++ x.shape 44

/-- VBIN (R154): formats by class. -/
def vbinCheck (q : Queued) : Option Nat :=
  let fa := (vecA q).o.fmt
  let fb := (vecB q).o.fmt
  let fd := (vecD q).o.fmt
  let fn := q.fn
  let fl := isFloat fa && isFloat fb && isFloat fd && (decide (fn ≤ 8) || fn == 12) && !(fn == 6 && isMx fd)
  let it := isIntFmt fa && isIntFmt fb && fd == 4 && (decide (fn ≤ 2) || decide (fn = 4 ∨ fn = 5) || decide (9 ≤ fn ∧ fn ≤ 12))
  vecCheck q true false false false (decide (fn ≤ 12)) [{ bad := !(fl || it), bit_ := 78 }]
    ((vecD q).shape 44 ++ srcShape (vecA q) none ++ srcShape (vecB q) none)

/-- Is B an operand of VUN: copy to INT8 (R155)? -/
def vunUsesB (q : Queued) : Bool := q.fn == 0 && (vecD q).o.fmt == 3

/-- VUN (R155). -/
def vunCheck (q : Queued) : Option Nat :=
  let fa := (vecA q).o.fmt
  let fd := (vecD q).o.fmt
  let fn := q.fn
  let ok := fn == 0 || (isFloat fa && isFloat fd) || (decide (fn ≤ 2) && fa == 4 && fd == 4)
  vecCheck q (vunUsesB q) false false false (decide (fn ≤ 15))
    [{ bad := !ok, bit_ := 78 }, { bad := vunUsesB q && (vecB q).o.fmt != 0, bit_ := 206 }]
    ((vecD q).shape 44 ++ srcShape (vecA q) none ++ (if vunUsesB q then srcShape (vecB q) (some 3) else []))

/-- VRED (R156). -/
def vredCheck (q : Queued) : Option Nat :=
  let fd := (vecD q).o.fmt
  let dOk := if q.fn ≤ 3 then isFloat fd && !isMx fd else fd == 4
  vecCheck q false false false false (decide (q.fn ≤ 5))
    [{ bad := !isFloat (vecA q).o.fmt, bit_ := 142 }, { bad := !dOk, bit_ := 78 }]
    (srcShape (vecA q) (some 0) ++ [{ bad := (vecD q).o.pitch != 0, bit_ := 82 }])

/-- VNORM (R157). -/
def vnormCheck (q : Queued) : Option Nat :=
  let fa := isFloat (vecA q).o.fmt
  let fb := isFloat (vecB q).o.fmt
  let fd := isFloat (vecD q).o.fmt
  vecCheck q true false (q.fn == 1) true (decide (q.fn ≤ 1))
    [{ bad := !(fa == fb && fb == fd), bit_ := 78 }, { bad := !fa, bit_ := 142 }, { bad := !fb || isMx (vecB q).o.fmt, bit_ := 206 },
     { bad := !fd, bit_ := 78 }]
    ((vecD q).shape 44 ++ srcShape (vecA q) (some 0) ++ srcShape (vecB q) (some 1))

/-- B of VROPE: a row of COLS/2 frequencies (R158). -/
def ropeB (q : Queued) : Opnd := { vecB q with cols := q.vCols / 2 }

/-- VROPE (R158). -/
def vropeCheck (q : Queued) : Option Nat :=
  let fa := isFloat (vecA q).o.fmt
  let fd := isFloat (vecD q).o.fmt
  vecCheck q true false true false (decide (q.fn ≤ 1))
    [{ bad := fa != fd, bit_ := 78 }, { bad := !fa, bit_ := 142 }, { bad := !fd, bit_ := 78 }, { bad := (vecB q).o.fmt != 0, bit_ := 206 }]
    ((vecD q).shape 44 ++ srcShape (vecA q) (some 0) ++ srcShape (ropeB q) (some 1) ++ [{ bad := q.vCols % 2 != 0, bit_ := 44 }])

/-- VSMXU (R159). -/
def vsmxuCheck (q : Queued) : Option Nat :=
  let fa := (vecA q).o.fmt
  vecCheck q true true true false (q.fn == 0)
    [{ bad := !(fa == 0 || fa == 1), bit_ := 142 }, { bad := (vecB q).o.fmt != 0, bit_ := 206 },
     { bad := !isFloat (vecD q).o.fmt, bit_ := 78 }]
    ((vecD q).shape 44 ++ srcShape (vecA q) (some 0) ++
      [{ bad := (vecB q).form != 2, bit_ := 245 }, { bad := (vecB q).o.pitch != 0, bit_ := 210 }])

/-! ### Rows of results -/

/-- A row of `n` results from column c on. -/
def Ar.genRow (f : Nat → Ar → FV × Ar) : Nat → Nat → Ar → List FV × Ar
  | 0, _, r => ([], r)
  | n + 1, c, r =>
    let a := f c r
    let b := Ar.genRow f n (c + 1) a.2
    (a.1 :: b.1, b.2)

/-- `n` rows of results from row i on. -/
def Ar.genRows (f : Nat → Nat → Ar → FV × Ar) (cols : Nat) : Nat → Nat → Ar → List (List FV) × Ar
  | 0, _, r => ([], r)
  | n + 1, i, r =>
    let a := Ar.genRow (f i) cols 0 r
    let b := Ar.genRows f cols n (i + 1) a.2
    (a.1 :: b.1, b.2)

/-- The generator lane of a result element: one of 256, which one is open (R78, log 24). -/
def vLane (r c : Nat) : Nat := Config.vectorLane r c % 256

/-- Values with the lanes of a result row. -/
def withLanes (r : Nat) : Nat → List FV → List (Nat × FV)
  | _, [] => []
  | c, v :: t => (vLane r c, v) :: withLanes r (c + 1) t

/-- Rows with their lanes. -/
def rowsWithLanes : Nat → List (List FV) → List (List (Nat × FV))
  | _, [] => []
  | r, x :: t => withLanes r 0 x :: rowsWithLanes (r + 1) t

/-- A vector command done: generators, flags and free draws kept. -/
def State.vxeDone (s : State) (c : CellAt) (q : Queued) (ar : Ar) : State :=
  let s1 := { s with free := ar.free }
  let s2 := s1.modCell c (fun k => { k with vxe := { k.vxe with lanes := ar.lanes } })
  s2.engRun c .vxe q stOk ar.flags 0

/-- Results converted into D and written, and the command done. -/
def State.vecFinish (s : State) (c : CellAt) (q : Queued) (d : Opnd) (k : Conv) (rows : List (List FV)) (ar : Ar) : State :=
  let x := Ar.convRows k (rowsWithLanes 0 rows) ar
  (s.writeRows (.cell c.site c.phys) d 0 x.1).vxeDone c q x.2

/-- The sources of a vector command are read; an uncorrectable word ends it DATA_UE with nothing written. -/
def State.vecRead (s : State) (c : CellAt) (q : Queued) (ranges : List (Nat × Nat)) (body : State → State) : State :=
  match s.wideRead c ranges with
  | (some u, s1) => s1.engRun c .vxe q stDataUe 0 u
  | (none, s1) => body s1

/-! ### VBIN (R154) -/

/-- An integer operation on 32-bit words (R85, R154). -/
def intBin (fn : Nat) (a b : W32) : W32 :=
  if fn = 0 then a + b else if fn = 1 then a - b else if fn = 2 then a * b
  else if fn = 4 then (if a.slt b then a else b) else if fn = 5 then (if a.slt b then b else a)
  else if fn = 9 then a &&& b else if fn = 10 then a ||| b else if fn = 11 then a ^^^ b
  else if b.slt a then 1 else 0

/-- The INT32 word of an integer value. -/
def FV.word32 (v : FV) : W32 :=
  match v with
  | .fin s m _ => BitVec.ofInt 32 (if s then -(m : Int) else m)
  | _ => 0

/-- A floating operation: the exact result, rounded later into D; `f` is the format divide is within one ulp of (R85, R154). -/
def Ar.floatBin (r : Ar) (f : FFmt) (zneg : Bool) (fn : Nat) (a b d : FV) : FV × Ar :=
  if fn = 0 then r.add zneg a b
  else if fn = 1 then r.add zneg a b.flip
  else if fn = 2 then r.mul a b
  else if fn = 3 then r.div f a b
  else if fn = 4 then (a.min b, r)
  else if fn = 5 then (a.max b, r)
  else if fn = 6 then let p := r.mul a b; p.2.add zneg p.1 d
  else if fn = 7 then let y := r.fnOf spSilu a; y.2.mul y.1 b
  else if fn = 8 then let y := r.fnOf spGelu a; y.2.mul y.1 b
  else (if b.lt a then FV.one else .fin false 0 0, r)

/-- The format a result is within one ulp of: FP32 where D is MX (R153). -/
def resFmt (fmt : Nat) : FFmt := if isMx fmt then fp32 else ffmt fmt

/-- The work of VBIN. -/
def State.vbinBody (s : State) (c : CellAt) (q : Queued) : State :=
  let d := vecD q
  let a := vecA q
  let b := vecB q
  let dr := if q.fn = 6 then d.ranges else []
  s.vecRead c q (a.ranges ++ b.ranges ++ dr) (fun s =>
    let m := (s.cell c).cmem
    let av := a.allVals m a.memRows (s.arOf c .vxe)
    let bv := b.allVals m b.memRows av.2
    let dv := if q.fn = 6 then d.allVals m d.memRows bv.2 else ([], bv.2)
    let op (i j : Nat) (r : Ar) : FV × Ar :=
      let x := a.at av.1 i j
      let y := b.at bv.1 i j
      if isIntFmt a.o.fmt then (FV.ofInt (intBin q.fn x.word32 y.word32).toInt, r)
      else r.floatBin (resFmt d.o.fmt) q.rdn q.fn x y (d.at dv.1 i j)
    let rows := Ar.genRows op q.vCols q.vRows 0 dv.2
    s.vecFinish c q d (vecConv q FV.one) rows.1 rows.2)

/-- VBIN. -/
def execVbin (c : CellAt) (s : State) : Host.Outcome State Fault Refusal :=
  .next (s.engineRow c .vxe 0x40 vbinCheck (fun q s => s.vbinBody c q))

/-! ### VUN (R155) -/

/-- neg and abs of an INT32 value; the result for −2^31 is stated nowhere and is open (log 26). -/
def Ar.intNeg (r : Ar) (abs_ : Bool) (a : FV) : FV × Ar :=
  let w := a.word32
  if w = 0x80000000 then
    (FV.ofInt ((loW (Config.freeValue r.free)).toInt), { r with free := r.free + 1 })
  else if abs_ && decide (0 ≤ w.toInt) then (a, r) else (FV.ofInt (-w.toInt), r)

/-- A floating unary function before rounding into D. -/
def Ar.floatUn (r : Ar) (f : FFmt) (fn : Nat) (a : FV) : FV × Ar :=
  if fn = 0 then (a, r) else if fn = 1 then (a.flip, r) else if fn = 2 then (a.mag, r)
  else if fn = 7 then r.recip fp32 a
  else if fn = 9 then r.sqrt f a
  else r.fnOf fn a

/-- The work of VUN. An INT32 value that goes to an MX format is rounded into FP32 under RMODE (R79, log 13). -/
def State.vunBody (s : State) (c : CellAt) (q : Queued) : State :=
  let d := vecD q
  let a := vecA q
  let b := vecB q
  s.vecRead c q (a.ranges ++ (if vunUsesB q then b.ranges else [])) (fun s =>
    let m := (s.cell c).cmem
    let av := a.allVals m a.memRows (s.arOf c .vxe)
    let factor := if vunUsesB q then decodeF fp32 (m.word b.data).toNat else FV.one
    let k := vecConv q factor
    let op (i j : Nat) (r : Ar) : FV × Ar :=
      let x := a.at av.1 i j
      if q.fn = 0 then (if a.o.fmt = 4 then r.intVia k (vLane i j) x else (x, r))
      else if isIntFmt a.o.fmt then r.intNeg (q.fn == 2) x
      else r.floatUn (resFmt d.o.fmt) q.fn x
    let rows := Ar.genRows op q.vCols q.vRows 0 av.2
    s.vecFinish c q d k rows.1 rows.2)

/-- VUN. -/
def execVun (c : CellAt) (s : State) : Host.Outcome State Fault Refusal :=
  .next (s.engineRow c .vxe 0x41 vunCheck (fun q s => s.vunBody c q))

/-! ### VRED (R87, R156) -/

/-- The first column of the extreme element, NaNs ignored; −1 for a row all NaN (R156). −0 orders below +0 (log 13). -/
def argExt (pick : FV → FV → FV) (xs : List FV) : Int :=
  match xs.filter (fun v => !v.isNan) with
  | [] => -1
  | v :: vs =>
    let e := vs.foldl pick v
    match xs.findIdx? (fun x => !x.isNan && !x.lt e && !e.lt x && (!x.isZero || x.neg? == e.neg?)) with
    | some i => i
    | none => -1

/-- Squares of a row, exactly. -/
def Ar.squares : List FV → Ar → List FV × Ar
  | [], r => ([], r)
  | v :: t, r =>
    let a := r.mul v v
    let b := Ar.squares t a.2
    (a.1 :: b.1, b.2)

/-- The value one row reduces to, before rounding into D. -/
def Ar.reduce (r : Ar) (zneg : Bool) (fn : Nat) (xs : List FV) : FV × Ar :=
  if fn = 0 then r.treeSum zneg xs
  else if fn = 1 then let y := Ar.squares xs r; y.2.treeSum zneg y.1
  else if fn = 2 then ((xs.drop 1).foldl FV.max (nth .nan xs 0), r)
  else if fn = 3 then ((xs.drop 1).foldl FV.min (nth .nan xs 0), r)
  else if fn = 4 then (FV.ofInt (argExt FV.max xs), r)
  else (FV.ofInt (argExt FV.min xs), r)

/-- The work of VRED. -/
def State.vredBody (s : State) (c : CellAt) (q : Queued) : State :=
  let a := vecA q
  s.vecRead c q a.ranges (fun s =>
    let av := a.allVals (s.cell c).cmem a.memRows (s.arOf c .vxe)
    let row := Ar.genRow (fun i r => r.reduce q.rdn q.fn (nth [] av.1 i)) q.vRows 0 av.2
    s.vecFinish c q (redD q) (vecConv q FV.one) [row.1] row.2)

/-- VRED. -/
def execVred (c : CellAt) (s : State) : Host.Outcome State Fault Refusal :=
  .next (s.engineRow c .vxe 0x42 vredCheck (fun q s => s.vredBody c q))

/-! ### VNORM (R157) -/

/-- A value divided by a count, kept exact enough for one rounding: a sticky bit below 30 bits of quotient. -/
def FV.overNat (v : FV) (n : Nat) : FV :=
  match v with
  | .fin s m e =>
    let k := 30 + Nat.log2 n
    let x := m * 2 ^ k
    .fin s (2 * (x / n) + (if x % n = 0 then 0 else 1)) (e - k - 1)
  | x => x

/-- The mean of R157: the tree's root in FP32, divided by COLS with a second rounding, both RNE. -/
def Ar.mean (r : Ar) (xs : List FV) : FV × Ar :=
  let t := r.treeSum false xs
  let a := t.2.rne32 t.1
  a.2.rne32 (a.1.overNat xs.length)

/-- Exact differences from a value. -/
def Ar.minus (mu : FV) : List FV → Ar → List FV × Ar
  | [], r => ([], r)
  | v :: t, r =>
    let a := r.add false v mu.flip
    let b := Ar.minus mu t a.2
    (a.1 :: b.1, b.2)

/-- rsqrt(mean + eps): the sum rounded to FP32 with RNE (R157). -/
def Ar.normScale (r : Ar) (mean : FV) (eps : Nat) : FV × Ar :=
  let a := r.add false mean (.fin false 1 (-(eps : Int)))
  let b := a.2.rne32 a.1
  b.2.fnOf spRsqrt b.1

/-- One normalised row, before rounding into D. -/
def Ar.normRow (r : Ar) (zneg : Bool) (fn eps : Nat) (xs gs bs : List FV) : List FV × Ar :=
  let mu := if fn = 1 then r.mean xs else (.fin false 0 0, r)
  let ds := if fn = 1 then Ar.minus mu.1 xs mu.2 else (xs, mu.2)
  let sq := Ar.squares ds.1 ds.2
  let mn := sq.2.mean sq.1
  let sc := mn.2.normScale mn.1 eps
  Ar.genRow (fun j r =>
    let p := r.mul (nth .nan ds.1 j) sc.1
    let g := p.2.mul p.1 (nth .nan gs j)
    if fn = 1 then g.2.add zneg g.1 (nth .nan bs j) else g) xs.length 0 sc.2

/-- The work of VNORM: gains at B.LINE, and for FN 1 the bias row at B.SLINE. -/
def State.vnormBody (s : State) (c : CellAt) (q : Queued) : State :=
  let a := vecA q
  let b := vecB q
  let bias : Opnd := { b with data := q.bS }
  s.vecRead c q (a.ranges ++ b.ranges ++ (if q.fn = 1 then bias.ranges else [])) (fun s =>
    let m := (s.cell c).cmem
    let av := a.allVals m a.memRows (s.arOf c .vxe)
    let gs := (b.rowCodes m 0).map (plainValue b.o.fmt)
    let bs := if q.fn = 1 then (bias.rowCodes m 0).map (plainValue b.o.fmt) else []
    let step (acc : List (List FV) × Ar) (xs : List FV) : List (List FV) × Ar :=
      let y := acc.2.normRow q.rdn q.fn (b.o.aux % 64) xs gs bs
      (acc.1 ++ [y.1], y.2)
    let rows := av.1.foldl step ([], av.2)
    s.vecFinish c q (vecD q) (vecConv q FV.one) rows.1 rows.2)

/-- VNORM. -/
def execVnorm (c : CellAt) (s : State) : Host.Outcome State Fault Refusal :=
  .next (s.engineRow c .vxe 0x43 vnormCheck (fun q s => s.vnormBody c q))

/-! ### VROPE (R86, R158) -/

/-- cos and sin of p × θ: open for a finite θ, NaN and INVALID for an infinite one (R85, R86; log 20). -/
def Ar.rope (r : Ar) (p : Nat) (theta : W32) : (FV × FV) × Ar :=
  match decodeF fp32 theta.toNat with
  | .nan => ((.nan, .nan), r)
  | .inf _ => ((.nan, .nan), { r with inv := true })
  | .fin _ _ _ => ((decodeF fp32 (Config.ropeCos p theta).toNat, decodeF fp32 (Config.ropeSin p theta).toNat), r)

/-- One element of a rotated row: which pair it belongs to by FN, and which half of it. -/
def ropePair (fn cols j : Nat) : Nat × Nat × Nat × Bool :=
  if fn = 0 then (j / 2, j / 2 * 2, j / 2 * 2 + 1, j % 2 == 1)
  else (j % (cols / 2), j % (cols / 2), j % (cols / 2) + cols / 2, decide (j ≥ cols / 2))

/-- One rotated element: x0 cos − x1 sin, or x0 sin + x1 cos. -/
def Ar.ropeElem (r : Ar) (zneg : Bool) (fn p : Nat) (xs : List FV) (thetas : List W32) (j : Nat) : FV × Ar :=
  let k := ropePair fn xs.length j
  let t := r.rope p (nth 0 thetas k.1)
  let x0 := nth .nan xs k.2.1
  let x1 := nth .nan xs k.2.2.1
  let u := t.2.mul x0 (if k.2.2.2 then t.1.2 else t.1.1)
  let v := u.2.mul x1 (if k.2.2.2 then t.1.1 else t.1.2)
  v.2.add zneg u.1 (if k.2.2.2 then v.1 else v.1.flip)

/-- The work of VROPE. -/
def State.vropeBody (s : State) (c : CellAt) (q : Queued) : State :=
  let a := vecA q
  s.vecRead c q (a.ranges ++ (ropeB q).ranges ++ [(q.bS, cdiv (q.vRows * 32) 2048 * 64)]) (fun s =>
    let m := (s.cell c).cmem
    let av := a.allVals m a.memRows (s.arOf c .vxe)
    let thetas := m.read q.b (q.vCols / 2)
    let rows := Ar.genRows (fun i j r =>
      r.ropeElem q.rdn q.fn ((m.word (q.bS + i)).toNat % 2 ^ 24) (nth [] av.1 i) thetas j) q.vCols q.vRows 0 av.2
    s.vecFinish c q (vecD q) (vecConv q FV.one) rows.1 rows.2)

/-- VROPE. -/
def execVrope (c : CellAt) (s : State) : Host.Outcome State Fault Refusal :=
  .next (s.engineRow c .vxe 0x44 vropeCheck (fun q s => s.vropeBody c q))

/-! ### VSMXU (R159) -/

/-- What one row of VSMXU leaves: the P codes and scales, m, l and α. -/
structure SmxRow where
  codes : List Nat
  scales : List Nat
  m : W32
  l : W32
  alpha : W32
  deriving DecidableEq, Repr

/-- The FP32 word of a value. -/
def Ar.word (r : Ar) (v : FV) : W32 × Ar :=
  let x := r.narrow fp32 0 false 0 v
  (BitVec.ofNat 32 x.1, x.2)

/-- exp of the difference of two values. -/
def Ar.expDiff (r : Ar) (a b : FV) : FV × Ar :=
  let d := r.add false a b.flip
  d.2.fnOf spExp d.1

/-- The values of a written row of P. -/
def Ar.written (r : Ar) (fmt : Nat) (codes scales : List Nat) : List FV × Ar :=
  if isMx fmt then Ar.mxRow fmt scales 0 codes r else (codes.map (plainValue fmt), r)

/-- One row of VSMXU. -/
def Ar.smxRow (r : Ar) (k : Conv) (row : Nat) (xs : List FV) (m l : W32) : SmxRow × Ar :=
  let mv := decodeF fp32 m.toNat
  let mNew := xs.foldl FV.max mv
  let mw := r.word mNew
  if mNew = .inf true then
    let z := mw.2.convRow k (withLanes row 0 (xs.map (fun _ => FV.fin false 0 0)))
    ({ codes := z.1.1, scales := z.1.2, m := mw.1, l := l, alpha := 0x3F800000 }, z.2)
  else
    let es := Ar.genRow (fun j r => r.expDiff (nth .nan xs j) mNew) xs.length 0 mw.2
    let p := es.2.convRow k (withLanes row 0 es.1)
    let al := p.2.expDiff mv mNew
    let aw := al.2.word al.1
    let vals := aw.2.written k.fmt p.1.1 p.1.2
    let sum := vals.2.treeSum false vals.1
    let s32 := sum.2.rne32 sum.1
    let la := s32.2.mul (decodeF fp32 l.toNat) (decodeF fp32 aw.1.toNat)
    let ls := la.2.add false la.1 s32.1
    let lw := ls.2.word ls.1
    ({ codes := p.1.1, scales := p.1.2, m := mw.1, l := lw.1, alpha := aw.1 }, lw.2)

/-- Every row of VSMXU. -/
def Ar.smxRows (k : Conv) : Nat → List (List FV × W32 × W32) → Ar → List SmxRow × Ar
  | _, [], r => ([], r)
  | i, (xs, m, l) :: t, r =>
    let a := r.smxRow k i xs m l
    let b := Ar.smxRows k (i + 1) t a.2
    (a.1 :: b.1, b.2)

/-- The work of VSMXU: P, then the packed arrays m, l and α, in whole lines (R143). -/
def State.vsmxuBody (s : State) (c : CellAt) (q : Queued) : State :=
  let a := vecA q
  let n := q.vRows
  let lines := cdiv (n * 32) 2048 * 64
  s.vecRead c q (a.ranges ++ [(q.b, lines), (q.bS, lines)]) (fun s =>
    let m := (s.cell c).cmem
    let av := a.allVals m a.memRows (s.arOf c .vxe)
    let rows := Ar.smxRows (vecConv q FV.one) 0 (av.1.zip ((m.read q.b n).zip (m.read q.bS n))) av.2
    let i := CoreId.cell c.site c.phys
    let s1 := s.writeRows i (vecD q) 0 (rows.1.map (fun x => (x.codes, x.scales)))
    let s2 := s1.memWrite i q.b (fitTo 0 lines (rows.1.map (·.m)))
    let s3 := s2.memWrite i q.bS (fitTo 0 lines (rows.1.map (·.l)))
    (s3.memWrite i q.aS (fitTo 0 lines (rows.1.map (·.alpha)))).vxeDone c q rows.2)

/-- VSMXU. -/
def execVsmxu (c : CellAt) (s : State) : Host.Outcome State Fault Refusal :=
  .next (s.engineRow c .vxe 0x45 vsmxuCheck (fun q s => s.vsmxuBody c q))

end Sys2Proof.Machine
end

