-- ==== Sys2Proof/Machine/Sampler.lean ====
section
/-!
DEFINITION. Sampler commands at the cell and the samplers of a comb (R161–R170, R244–R254).
-/
namespace Sys2Proof.Machine

/-! ### Reaching a sampler -/

/-- A sampler of a comb. -/
def State.smp (s : State) (a : SmpAt) : Sampler := Tbl.get (s.comb a.site).smpInit (s.comb a.site).samplers a.smp.val

/-- The panel with one sampler changed by a function. -/
def State.modSmp (s : State) (a : SmpAt) (f : Sampler → Sampler) : State :=
  s.modComb a.site (fun c => { c with samplers := Tbl.put c.smpInit c.samplers a.smp.val (f (Tbl.get c.smpInit c.samplers a.smp.val)) })

/-- The endpoint code of a sampler (R23). -/
def smpEp (a : SmpAt) : Nat := 0xBA + a.smp.val

/-- A context of a sampler. -/
def Sampler.ctx (x : Sampler) (c : Nat) : SmpCtx := Tbl.get SmpCtx.reset x.ctxs c

/-- A sampler with one context changed. -/
def Sampler.modCtx (x : Sampler) (c : Nat) (f : SmpCtx → SmpCtx) : Sampler :=
  { x with ctxs := Tbl.put SmpCtx.reset x.ctxs c (f (x.ctx c)) }

/-- SMP_ERR bits (R170). -/
def smpErrBusy : Nat := 0
def smpErrConflict : Nat := 1
def smpErrTimeout : Nat := 2
def smpErrDropped : Nat := 3

/-- Sets a bit of SMP_ERR; a rising bit sends a record of corrected severity (R170, R476). -/
def State.setSmpErr (s : State) (a : SmpAt) (b : Nat) : State :=
  if bit (s.smp a).err b then s
  else
    let s1 := s.modSmp a (fun x => { x with err := setBit x.err b true })
    s1.sendErr a.site.val (mkErr 0x0206 0 3 a.site.val (s.eid a.site.val (smpEp a)) 0 ((s1.smp a).err.setWidth 64) 0)

/-- Sets a bit of SMP_CFG_ERR (0 BAD_WR, 1 STATIC_WR, 2 GRAMMAR_FAULT); a rising bit sends a record (R244). -/
def State.setCfgErr (s : State) (a : SmpAt) (b : Nat) : State :=
  if bit (s.smp a).cfgErr b then s
  else
    let s1 := s.modSmp a (fun x => { x with cfgErr := setBit x.cfgErr b true })
    s1.sendErr a.site.val (mkErr 0x0206 0 3 a.site.val (s.eid a.site.val (smpEp a)) 0 ((s1.smp a).cfgErr.setWidth 64) 0)

/-! ### Commands at the cell (R136, R161, R162) -/

def Queued.sLines (q : Queued) : Nat := cdiv ((fld q.w1 35 18 + 1) * fmtBits (fld q.w1 17 14)) 2048

/-- The field checks of a sampler command (R136, R161). -/
def smpCheck (q : Queued) : Option Nat :=
  let w3 := if q.opcode = 0xA0 then mustZero q 3 63 1 else mustZero q 3 63 22
  let fmt := fld q.w1 17 14
  firstBad [[hdrRsvd q, mustZero q 0 63 60, mustZero q 1 63 57, mustZero q 2 63 52, w3], [hdrUnused q],
    [{ bad := decide (fmt > 10), bit_ := 78 }], [{ bad := fmt != 0 && fmt != 1, bit_ := 78 }],
    [hdrAlign q, { bad := decide (fld q.w0 56 54 > fld q.w0 59 57), bit_ := 54 },
     { bad := decide (fld q.w1 56 36 + (fld q.w1 35 18 + 1) > 2 ^ 21), bit_ := 82 }, { bad := bit q.w2 0, bit_ := 128 }]]

/-- Sampler commands whose end may be counted: done, with no earlier one of the same task still open (R111, R162). -/
def smpCountable (outs : List SmpOut) (o : SmpOut) : Bool :=
  o.done.isSome && !outs.any (fun e => decide (e.q.task = o.q.task ∧ e.q.serial < o.q.serial) && e.done.isNone)

/-- Counts the sampler commands that may be counted, and looks again at their tasks. -/
def State.settleSmp (s : State) (c : CellAt) : State :=
  let outs := (s.cell c).smpOut
  let gone := outs.filter (smpCountable outs)
  let s1 := s.modCell c (fun k => { k with smpOut := outs.filter (fun o => !smpCountable outs o) })
  gone.foldl (fun s o => s.countFell ⟨.cell c.site c.phys, o.q.task⟩) s1

/-- A sampler command ends at the cell: record, counter, then it is counted when its turn comes (R134, R162). -/
def State.smpEnd (s : State) (c : CellAt) (o : SmpOut) (status : Nat) (flags : BitVec 4) (detail : Nat) : State :=
  let s1 := s.signal (.cell c.site c.phys) o.q 4 status flags detail
  let s2 := s1.modCell c (fun k =>
    { k with smpOut := k.smpOut.map (fun x => if x.tag = o.tag ∧ x.q.serial = o.q.serial then { x with done := some (BitVec.ofNat 8 status) } else x) })
  s2.settleSmp c

/-- The words of an SMP_CMD packet: the checked descriptor. -/
def Queued.words (q : Queued) : List W32 := [loW q.w0, hiW q.w0, loW q.w1, hiW q.w1, loW q.w2, hiW q.w2, loW q.w3, hiW q.w3]

/-- SAMPLER_COMMAND_START: the head of the cell's sampler queue starts: its fields are checked, and it is sent to its sampler (R162). -/
def execSamplerCommandStart (c : CellAt) (s : State) : Host.Outcome State Fault Refusal :=
  .next (
    let i := CoreId.cell c.site c.phys
    match (s.cell c).smpQ with
    | [] => s
    | q :: t =>
      if !opcodeDefined 4 q.opcode || !s.mayStart i 4 q || !s.coreRuns i then s
      else
        let o : SmpOut := { q := q, tag := (s.core i).nextTag, done := none }
        let s1 := s.modCell c (fun k => { k with smpQ := t, smpOut := k.smpOut ++ [o], core := { k.core with nextTag := k.core.nextTag + 1 } })
        match smpCheck q with
        | some b => s1.smpEnd c o stBadField 0 b
        | none =>
          let dst := s.eid c.site.val (0xBA + fld q.w0 45 44)
          s1.sendData (mkData 0x10 dst (s.eidOf i) (s.cell c).colony (s.epochOf c.site.val 0) 0 o.tag q.words))

/-! ### Results (R164, R166; the status travels in byte 8 of the flit, the flags in byte 9: log 15) -/

/-- An SMP_RESULT packet to the cell of a part. -/
def State.smpAnswer (s : State) (a : SmpAt) (dst : Eid) (tag : BitVec 16) (status : Nat) (flags : Nat) (w0 w1 : W32) : State :=
  s.sendData (mkData 0x13 dst (s.eid a.site.val (smpEp a)) 0xFF (s.epochOf a.site.val (smpEp a)) 0 tag
    [w0, w1, BitVec.ofNat 32 (status + 256 * flags)])

/-- Ends a selection for every part it holds with one status, and takes it off the open list. -/
def State.smpFinish (s : State) (a : SmpAt) (sel : Selection) (status flags : Nat) (w0 w1 : W32) : State :=
  let s1 := s.modSmp a (fun x => { x with open_ := x.open_.filter (fun y => y.serial ≠ sel.serial ∨ y.ctx ≠ sel.ctx) })
  sel.parts.foldl (fun s p => s.smpAnswer a p.src p.tag status flags w0 w1) s1

/-- After a selection ends, a sampler asked to stop is STOPPED when none is open (R170). -/
def State.smpSettle (s : State) (a : SmpAt) : State :=
  if (s.smp a).stopReq && (s.smp a).open_.isEmpty then s.modSmp a (fun x => { x with stopped := true, stopReq := false }) else s

/-! ### Parts arriving (R161, R163) -/

/-- The part that an SMP_CMD packet carries. -/
def partOf (p : DataPkt) : SmpPart :=
  let w0 := plW64 p 0
  let w1 := plW64 p 2
  { src := p.src, tag := p.tag, score := decide (fld w0 7 0 = 0xA1), part := fld w0 56 54, parts := fld w0 59 57 + 1,
    tbase := fld w1 56 36, count := fld w1 35 18 + 1, fmt := fld w1 17 14, line := fld w1 13 0, word3 := plW64 p 6, lines := [] }

/-- Lines of logits of a part. -/
def SmpPart.nLines (p : SmpPart) : Nat := cdiv (p.count * fmtBits p.fmt) 2048

/-- Do two parts' token ranges overlap? -/
def SmpPart.overlaps (a b : SmpPart) : Bool := decide (a.tbase < b.tbase + b.count ∧ b.tbase < a.tbase + a.count)

/-- Does a new part conflict with the parts received (R163)? -/
def partConflict (ps : List SmpPart) (n : SmpPart) : Bool :=
  ps.any (fun p => p.parts != n.parts || p.part == n.part || p.overlaps n) ||
  decide ((ps.map (·.count)).foldl (· + ·) n.count > 524288)

/-- The fetches of a part: up to 16 lines each (R162; the first line counts from the part's own first line). -/
def State.smpFetches (s : State) (a : SmpAt) (p : SmpPart) : State :=
  (List.range (cdiv p.nLines 16)).foldl (fun s k =>
    s.sendData (mkData 0x11 p.src (s.eid a.site.val (smpEp a)) 0xFF (s.epochOf a.site.val (smpEp a)) 0 p.tag
      [BitVec.ofNat 32 (16 * k), BitVec.ofNat 32 (min 16 (p.nLines - 16 * k))])) s

/-- A part that opens a selection or is refused (R163, R170). -/
def State.smpOpen (s : State) (a : SmpAt) (ctx : Ctx) (serial : W32) (n : SmpPart) : State :=
  let x := s.smp a
  if x.stopped || decide (x.open_.length ≥ 4) then
    ((s.modSmp a (fun x => { x with busyRefused := satInc x.busyRefused })).setSmpErr a smpErrBusy).smpAnswer a n.src n.tag stSmpBusy 0 0 0
  else if !bit (x.ctx ctx.val).mode 63 then s.smpAnswer a n.src n.tag stContextInvalid 0 0 0
  else (s.modSmp a (fun x => { x with open_ := x.open_ ++ [{ ctx := ctx, serial := serial, parts := [n] }] })).smpFetches a n

/-- A part that joins an open selection: a conflict ends it for every part received (R163). -/
def State.smpJoin (s : State) (a : SmpAt) (sel : Selection) (n : SmpPart) : State :=
  if partConflict sel.parts n then
    ((s.smpFinish a { sel with parts := sel.parts ++ [n] } stPartConflict 0 0 0).setSmpErr a smpErrConflict).smpSettle a
  else
    (s.modSmp a (fun x => { x with open_ := x.open_.map (fun y =>
      if y.ctx = sel.ctx ∧ y.serial = sel.serial then { y with parts := y.parts ++ [n] } else y) })).smpFetches a n

/-- An SMP_CMD packet of one opcode arrives at a sampler. -/
def State.smpPart (s : State) (a : SmpAt) (p : DataPkt) (op : Nat) : State :=
  if p.type ≠ 0x10 ∨ p.dst ≠ s.eid a.site.val (smpEp a) ∨ fld (plW64 p 0) 7 0 ≠ op then s
  else
    s.arriveData a.site.val (smpEp a) p (fun s =>
      if !(s.smp a).ready then s.nackData (s.eid a.site.val (smpEp a)) p nkInReset
      else
        let n := partOf p
        let ctx : Ctx := ⟨fld (plW64 p 0) 53 46 % 256, Nat.mod_lt _ (by decide)⟩
        let serial := BitVec.ofNat 32 (fld (plW64 p 4) 51 20)
        match (s.smp a).open_.find? (fun y => decide (y.ctx = ctx ∧ y.serial = serial)) with
        | some sel => s.smpJoin a sel n
        | none => s.smpOpen a ctx serial n)

/-- SELECT. -/
def execSelect (a : SmpAt) (p : DataPkt) (s : State) : Host.Outcome State Fault Refusal := .next (s.smpPart a p 0xA0)
/-- SCORE. -/
def execScore (a : SmpAt) (p : DataPkt) (s : State) : Host.Outcome State Fault Refusal := .next (s.smpPart a p 0xA1)

/-! ### Fetches (R162) -/

/-- SMP_FETCH: the interface serves lines of the command the TAG names from the physical range fixed at issue. An uncorrectable word
ends the command DATA_UE and answers the sampler REMOTE_UE (R48). A fetch that names no command is refused NOT_PERMITTED (log 15). -/
def execSmpFetch (c : CellAt) (p : DataPkt) (s : State) : Host.Outcome State Fault Refusal :=
  .next (if p.type ≠ 0x11 then s else s.atCell c p (fun s =>
    let i := CoreId.cell c.site c.phys
    match (s.cell c).smpOut.find? (fun o => o.tag = p.tag && o.done.isNone) with
    | none => s.nackData (s.eidOf i) p nkNotPermitted
    | some o =>
      let first := (plWord p 0).toNat
      let n := fld (plWord p 1) 15 0
      if first + n > o.q.sLines then s.nackData (s.eidOf i) p nkNotPermitted
      else
        match s.wideRead c [(o.q.a + first * 64, n * 64)] with
        | (some u, s1) => (s1.smpEnd c o stDataUe 0 u).nackData (s.eidOf i) p nkRemoteUe
        | (none, s1) =>
          s1.sendData (mkData 0x12 p.src (s.eidOf i) (s.cell c).colony (s.epochOf c.site.val 0) first p.tag
            ((s.cell c).cmem.read (o.q.a + first * 64) (n * 64)))))

/-- Cuts words into lines of 64. -/
def linesOf : Nat → List W32 → List (List W32)
  | 0, _ => []
  | n + 1, ws => ws.take 64 :: linesOf n (ws.drop 64)

/-- Lines stored at a part from a line up. -/
def SmpPart.addLines (p : SmpPart) (first : Nat) (ls : List (List W32)) : SmpPart :=
  { p with lines := Tbl.putAll [] p.lines first ls }

/-- SMP_DATA: fetched lines arrive at the sampler. ADDR names the first line. -/
def execSmpData (a : SmpAt) (p : DataPkt) (s : State) : Host.Outcome State Fault Refusal :=
  .next (if p.type ≠ 0x12 ∨ p.dst ≠ s.eid a.site.val (smpEp a) then s
    else s.arriveData a.site.val (smpEp a) p (fun s =>
      let ls := linesOf (p.payload.length / 64) p.payload
      s.modSmp a (fun x => { x with open_ := x.open_.map (fun y => { y with parts := y.parts.map (fun q =>
        if q.src = p.src ∧ q.tag = p.tag then q.addLines p.addr.toNat ls else q) }) })))

/-! ### Configuration (R244, R245, R254) -/

/-- Is a grammar named by a configured, constrained context (R254)? -/
def Sampler.grammarRuns (x : Sampler) (g : Nat) : Bool :=
  x.ctxs.any (fun e => bit e.2.mode 63 && bit e.2.mode 56 && decide (fld e.2.mode 55 52 = g))

/-- The memory range of a grammar descriptor. -/
def grmBase (d : W64) : Nat := fld d 17 0
def grmSize (d : W64) : Nat := fld d 35 18 + 1

/-- Is a context stopped: no selection open or queued (R244)? -/
def Sampler.ctxStopped (x : Sampler) (c : Nat) : Bool := !x.open_.any (fun y => decide (y.ctx.val = c))

/-- Is an FP32 code finite? -/
def finite32 (v : Nat) : Bool := !notFin (decodeF fp32 v)
where notFin : FV → Bool
  | .fin _ _ _ => false
  | _ => true

/-- Is a configuration word legal (R245)? -/
def Sampler.cfgLegal (x : Sampler) (word : Nat) (v : W64) : Bool :=
  let hi := decodeF fp32 (fld v 63 32)
  let lo := decodeF fp32 (fld v 31 0)
  if word = 0 then
    decide (fld v 30 20 ≤ 1024) && (!(bit v 63 && bit v 56) || bit (Tbl.get 0 x.grmDesc (fld v 55 52)) 63)
  else if word = 1 then
    finite32 (fld v 63 32) && (!hi.neg? || hi.isZero) && finite32 (fld v 31 0) && (FV.fin false 0 0).lt lo && !FV.one.lt lo
  else if word = 2 then finite32 (fld v 63 32) && !hi.lt FV.one && finite32 (fld v 31 0)
  else finite32 (fld v 63 32)

/-- The fields of SMP_CFG_MODE (R245). -/
def cfgModeMask : Nat := 0x81FFFFFFFFFFFC00

/-- A write of a configuration word: a legal one waits for the sampler's safe point; another is discarded with BAD_WR. -/
def State.smpCfgWrite (s : State) (a : SmpAt) (c word : Nat) (v : W64) : State :=
  if (s.smp a).cfgLegal word v then
    s.modSmp a (fun x => x.modCtx c (fun k => { k with staged := k.staged ++ [(word, if word = 0 then keep v cfgModeMask else v)] }))
  else s.setCfgErr a 0

/-- SMP_CFG_WRITE. -/
def execSmpCfgWrite (a : SmpAt) (c : Ctx) (word : Fin 4) (v : W64) (s : State) : Host.Outcome State Fault Refusal :=
  .next (if (s.smp a).ready then s.smpCfgWrite a c.val word.val v else s)

/-- One staged write applied. -/
def SmpCtx.apply (k : SmpCtx) (w : Nat × W64) : SmpCtx :=
  if w.1 = 0 then { k with mode := w.2 } else if w.1 = 1 then { k with temp := w.2 }
  else if w.1 = 2 then { k with pen := w.2 } else { k with pres := w.2 }

/-- Staged writes of a context applied together, in the order written (R245). -/
def SmpCtx.applyStaged (k : SmpCtx) : SmpCtx := { (k.staged.foldl SmpCtx.apply k) with staged := [] }

/-- The sampler's safe point: every staged configuration word takes effect (R165, R245). -/
def Sampler.safePoint (x : Sampler) : Sampler := { x with ctxs := Tbl.mapVal SmpCtx.reset (fun _ k => k.applyStaged) x.ctxs }

/-- The fields of SMP_GRM_DESC (R254). -/
def grmMask : Nat := 0x803FFFFFFFFFFFFF

/-- Is a grammar descriptor legal (R254)? -/
def grmLegal (v : W64) : Bool :=
  decide (grmBase v + grmSize v ≤ 262144) && decide (grmBase v ≤ fld v 53 36 ∧ fld v 53 36 < grmBase v + grmSize v)

/-- A write of a grammar descriptor. -/
def State.smpGrmWrite (s : State) (a : SmpAt) (g : Nat) (v : W64) : State :=
  if !grmLegal v then s.setCfgErr a 0
  else if (s.smp a).grammarRuns g then s.setCfgErr a 1
  else s.modSmp a (fun x => { x with grmDesc := Tbl.put 0 x.grmDesc g (keep v grmMask) })

/-- SMP_GRM_DESC_WRITE. -/
def execSmpGrmDescWrite (a : SmpAt) (g : Fin 16) (v : W64) (s : State) : Host.Outcome State Fault Refusal :=
  .next (if (s.smp a).ready then s.smpGrmWrite a g.val v else s)

/-- Does a word of grammar memory lie inside a running grammar (R254)? -/
def Sampler.gWordRuns (x : Sampler) (i : Nat) : Bool :=
  (List.range 16).any (fun g =>
    let d := Tbl.get 0 x.grmDesc g
    x.grammarRuns g && bit d 63 && decide (grmBase d ≤ i ∧ i < grmBase d + grmSize d))

/-- SMP_GADDR or SMP_HADDR advances after an access of its data register, where AUTOINC is set (R244). -/
def Sampler.gStep (x : Sampler) : Sampler := if x.gAuto then { x with gIndex := x.gIndex + 1 } else x
def Sampler.hStep (x : Sampler) : Sampler := if x.hAuto then { x with hIndex := x.hIndex + 1 } else x

/-- SMP_GDATA read: the word INDEX. -/
def State.gdataRead (s : State) (a : SmpAt) : W64 × State :=
  (Tbl.get 0 (s.smp a).grammar (s.smp a).gIndex.toNat, s.modSmp a Sampler.gStep)

/-- SMP_GDATA write: discarded inside a running grammar. -/
def State.gdataWrite (s : State) (a : SmpAt) (v : W64) : State :=
  let i := (s.smp a).gIndex.toNat
  let s1 := if (s.smp a).gWordRuns i then s.setCfgErr a 1 else s.modSmp a (fun x => { x with grammar := Tbl.put 0 x.grammar i v })
  s1.modSmp a Sampler.gStep

/-- SMP_HDATA read and write: static of the context the index names. -/
def State.hdataRead (s : State) (a : SmpAt) : W64 × State :=
  ((Tbl.get 0 (s.smp a).history (s.smp a).hIndex.toNat).setWidth 64, s.modSmp a Sampler.hStep)
def State.hdataWrite (s : State) (a : SmpAt) (v : W64) : State :=
  let i := (s.smp a).hIndex.toNat
  let s1 := if (s.smp a).ctxStopped (i / 1024) then s.modSmp a (fun x => { x with history := Tbl.put 0 x.history i (v.setWidth 21) })
    else s.setCfgErr a 1
  s1.modSmp a Sampler.hStep

/-- SMP_GDATA_ACCESS. -/
def execSmpGdataAccess (a : SmpAt) (w : Option W64) (s : State) : Host.Outcome State Fault Refusal :=
  .next (if !(s.smp a).ready then s else match w with
    | none => (s.gdataRead a).2
    | some v => s.gdataWrite a v)

/-- SMP_HDATA_ACCESS. -/
def execSmpHdataAccess (a : SmpAt) (w : Option W64) (s : State) : Host.Outcome State Fault Refusal :=
  .next (if !(s.smp a).ready then s else match w with
    | none => (s.hdataRead a).2
    | some v => s.hdataWrite a v)

/-- SMP_COUNTS (R170), read and cleared. -/
def Sampler.countsReg (x : Sampler) : W64 :=
  BitVec.ofNat 64 (x.completed.toNat * 2 ^ 32 + x.busyRefused.toNat * 2 ^ 16 + x.dropped.toNat)
def State.smpCountsRead (s : State) (a : SmpAt) : W64 × State :=
  ((s.smp a).countsReg, s.modSmp a (fun x => { x with completed := 0, busyRefused := 0, dropped := 0 }))

/-- SMP_ST_COUNT (R244), read and cleared. -/
def SmpCtx.countReg (k : SmpCtx) : W64 :=
  BitVec.ofNat 64 (k.selections.toNat * 2 ^ 32 + k.empties.toNat * 2 ^ 16 + k.refused.toNat)
def State.smpStCountRead (s : State) (a : SmpAt) (c : Nat) : W64 × State :=
  (((s.smp a).ctx c).countReg, s.modSmp a (fun x => x.modCtx c (fun k => { k with selections := 0, empties := 0, refused := 0 })))

/-- SMP_COUNTS_READ. -/
def execSmpCountsRead (a : SmpAt) (s : State) : Host.Outcome State Fault Refusal :=
  .next (if (s.smp a).ready then (s.smpCountsRead a).2 else s)
/-- SMP_ST_COUNT_READ. -/
def execSmpStCountRead (a : SmpAt) (c : Ctx) (s : State) : Host.Outcome State Fault Refusal :=
  .next (if (s.smp a).ready then (s.smpStCountRead a c.val).2 else s)

/-! ### SMP_CTRL and SMP_CTX_RESET (R166, R170, R247, R251) -/

/-- The generator state that a seed gives (R251). -/
def rngSeed (seed : W32) : W64 :=
  let v := seed.setWidth 64 * 0x9E3779B97F4A7C15#64
  if v = 0 then 1 else v

/-- A context's state reset, its configuration kept (R247). -/
def Sampler.ctxReset (x : Sampler) (c : Nat) : Sampler :=
  let k := x.ctx c
  let start := if bit k.mode 56 then bits (Tbl.get 0 x.grmDesc (fld k.mode 55 52)) 36 18 else 0
  { (x.modCtx c (fun k => { k with gram := start, rng := rngSeed (loW k.pres), head := 0, total := 0 })) with
      history := Tbl.clear x.history (c * 1024) 1024 }

/-- Ends selections with SAMPLER_RESET. -/
def State.smpAbandon (s : State) (a : SmpAt) (sels : List Selection) : State :=
  sels.foldl (fun s sel => s.smpFinish a sel stSamplerReset 0 0 0) s

/-- A write of SMP_CTX_RESET (R247). -/
def State.ctxResetWrite (s : State) (a : SmpAt) (v : W64) : State :=
  let c := fld v 7 0
  let s1 := s.smpAbandon a ((s.smp a).open_.filter (fun y => decide (y.ctx.val = c)))
  (s1.modSmp a (fun x => x.ctxReset c)).smpSettle a

/-- A write of SMP_CTRL: RESET alone, else STOP and START (R170). With STOP and START together, STOP acts after START (log 15). -/
def State.smpCtrl (s : State) (a : SmpAt) (v : W64) : State :=
  if bit v 0 then
    (s.smpAbandon a (s.smp a).open_).modSmp a (fun x => { x with ready := true, stopped := false, stopReq := false })
  else
    let s1 := if bit v 2 then s.modSmp a (fun x => { x with stopped := false, stopReq := false }) else s
    if bit v 1 then (s1.modSmp a (fun x => { x with stopReq := !x.stopped })).smpSettle a else s1

/-- SMP_START: a write of SMP_CTRL with START. -/
def execSmpStart (a : SmpAt) (v : W64) (s : State) : Host.Outcome State Fault Refusal :=
  .next (if bit v 2 && (s.smp a).ready then s.smpCtrl a v else s)
/-- SMP_STOP: a write of SMP_CTRL with STOP. -/
def execSmpStop (a : SmpAt) (v : W64) (s : State) : Host.Outcome State Fault Refusal :=
  .next (if bit v 1 && (s.smp a).ready then s.smpCtrl a v else s)
/-- SMP_RESET: a write of SMP_CTRL with RESET. -/
def execSmpReset (a : SmpAt) (v : W64) (s : State) : Host.Outcome State Fault Refusal :=
  .next (if bit v 0 && (s.smp a).ready then s.smpCtrl a v else s)
/-- SMP_CTX_RESET. -/
def execSmpCtxReset (a : SmpAt) (v : W64) (s : State) : Host.Outcome State Fault Refusal :=
  .next (if (s.smp a).ready then s.ctxResetWrite a v else s)

/-! ### Grammar automata (R252, R253) -/

/-- A state record: header and ranges. -/
structure GrmState where
  accept : Bool
  dflt : Bool
  next : Nat
  ranges : List (Nat × Nat × Nat)
  deriving DecidableEq, Repr

/-- Ranges sorted by ascending FIRST, not overlapping, each FIRST ≤ LAST. -/
def rangesOk : List (Nat × Nat × Nat) → Bool
  | [] => true
  | [r] => decide (r.1 ≤ r.2.1)
  | r :: r2 :: t => decide (r.1 ≤ r.2.1) && decide (r.2.1 < r2.1) && rangesOk (r2 :: t)

/-- The state record at a word of a grammar; none where it breaks a rule of R252 or R253. -/
def Sampler.grmState (x : Sampler) (d : W64) (st : Nat) : Option GrmState :=
  let lo := grmBase d
  let hi := grmBase d + grmSize d
  let h := Tbl.get 0 x.grammar st
  let n := fld h 61 50
  if st < lo ∨ st + n ≥ hi ∨ n > 2048 then none
  else
    let rs := (Tbl.getAll 0 x.grammar (st + 1) n).map (fun w => (fld w 63 43, fld w 42 22, fld w 17 0))
    let dflt := bit h 62
    let inside (k : Nat) : Bool := decide (lo ≤ k ∧ k < hi)
    if rangesOk rs && rs.all (fun r => inside r.2.2) && (if dflt then inside (fld h 17 0) else fld h 17 0 == 0) then
      some { accept := bit h 63, dflt := dflt, next := fld h 17 0, ranges := rs }
    else none

/-- The next state for a token; none where it is not allowed (R253). -/
def GrmState.step (g : GrmState) (t : Nat) : Option Nat :=
  match g.ranges.find? (fun r => decide (r.1 ≤ t ∧ t ≤ r.2.1)) with
  | some r => some r.2.2
  | none => if g.dflt then some g.next else none

/-! ### Token selection (R248–R251) -/

/-- One token with its logit as a value. -/
structure Logit where
  tok : Nat
  v : FV
  deriving DecidableEq, Repr

/-- The logits of a part (R161, R248): BF16 widens exactly. -/
def SmpPart.logits (p : SmpPart) : List Logit :=
  let ws := (List.range p.nLines).flatMap (fun k => fitTo 0 64 (Tbl.get [] p.lines k))
  let codes := unpack (fmtBits p.fmt) p.count (wordsNat ws)
  (codes.zip (List.range p.count)).map (fun e => { tok := p.tbase + e.2, v := plainValue p.fmt e.1 })

/-- Inserts by ascending token. -/
def insTok (x : Logit) : List Logit → List Logit
  | [] => [x]
  | y :: t => if x.tok < y.tok then x :: y :: t else y :: insTok x t

/-- Has every part's every line arrived, and every part of the selection (R163)? -/
def Selection.complete (y : Selection) : Bool :=
  match y.parts with
  | [] => false
  | p :: _ => decide (y.parts.length = p.parts) && y.parts.all (fun q => (List.range q.nLines).all (fun k => Tbl.get [] q.lines k != []))

/-- All the logits of a selection by ascending token. -/
def Selection.logits (y : Selection) : List Logit := (y.parts.flatMap (·.logits)).foldr insTok []

/-- The last n history tokens of a context (R248, R249). -/
def Sampler.lastHist (x : Sampler) (c : Nat) (n : Nat) : List Nat :=
  let k := x.ctx c
  (List.range (min n (min 1024 k.total.toNat))).map (fun i =>
    (Tbl.get 0 x.history (c * 1024 + (k.head.toNat + 1023 - i) % 1024)).toNat)

/-- The penalties on one logit that occurs n times in the history (R248); each operation rounded into FP32 with RNE, the quotient within
one ulp (log 25). -/
def Ar.penal (r : Ar) (l rep freq pres : FV) (n : Nat) : FV × Ar :=
  let a := if (FV.fin false 0 0).lt l then r.div fp32 l rep else r.mul l rep
  let b := a.2.rne32 a.1
  let f := b.2.mul freq (.fin false n 0)
  let g := f.2.add false b.1 f.1.flip
  let h := g.2.rne32 g.1
  let i := h.2.add false h.1 pres.flip
  i.2.rne32 i.1

/-- Adjusted logits: grammar, then penalties (R248). -/
def Ar.adjust (g : Option GrmState) (hist : List Nat) (rep freq pres : FV) : List Logit → Ar → List Logit × Ar
  | [], r => ([], r)
  | x :: t, r =>
    let v0 := match g with
      | some st => if (st.step x.tok).isNone then FV.inf true else x.v
      | none => x.v
    let n := hist.count x.tok
    let a := if n = 0 then (v0, r) else r.penal v0 rep freq pres n
    let b := Ar.adjust g hist rep freq pres t a.2
    ({ tok := x.tok, v := a.1 } :: b.1, b.2)

/-- Inserts by descending value, ties to the lower token. -/
def insDesc (x : Logit) : List Logit → List Logit
  | [] => [x]
  | y :: t => if y.v.lt x.v || (!x.v.lt y.v && x.tok < y.tok) then x :: y :: t else y :: insDesc x t

/-- Sorted by descending value, ties to the lower token. -/
def sortDesc (xs : List Logit) : List Logit := xs.foldr insDesc []

/-- z = l / tt for every logit, within one ulp of FP32 (log 25). -/
def Ar.temper (tt : FV) : List Logit → Ar → List Logit × Ar
  | [], r => ([], r)
  | x :: t, r =>
    let a := if tt = FV.one then (x.v, r) else r.div fp32 x.v tt
    let b := Ar.temper tt t a.2
    ({ tok := x.tok, v := a.1 } :: b.1, b.2)

/-- The probabilities of kept logits (R88): open but for the rule on +∞; the quotient 1 / n within one ulp. -/
def Ar.probs (r : Ar) (zs : List Logit) : List Logit × Ar :=
  let infs := (zs.filter (fun z => z.v == .inf false)).length
  if infs > 0 then
    let q := r.div fp32 FV.one (.fin false infs 0)
    (zs.map (fun z => { tok := z.tok, v := if z.v == .inf false then q.1 else .fin false 0 0 }), q.2)
  else
    let codes := zs.map (fun z => BitVec.ofNat 32 (r.narrow fp32 0 false 0 z.v).1)
    ((zs.zip (List.range zs.length)).map (fun e => { tok := e.1.tok, v := (decodeF fp32 (Config.softmax codes e.2).toNat).mag }), r)

/-- The shortest prefix whose probabilities sum to at least a bound, with its sum. -/
def Ar.prefixTo (bound : FV) : List Logit → FV → List Logit → Ar → (List Logit × FV) × Ar
  | [], acc, done, r => ((done, acc), r)
  | x :: t, acc, done, r =>
    let s := r.add false acc x.v
    if s.1.lt bound then Ar.prefixTo bound t s.1 (done ++ [x]) s.2 else ((done ++ [x], s.1), s.2)

/-- Probabilities divided by their sum, within one ulp. -/
def Ar.renorm (sum : FV) : List Logit → Ar → List Logit × Ar
  | [], r => ([], r)
  | x :: t, r =>
    let a := r.div fp32 x.v sum
    let b := Ar.renorm sum t a.2
    ({ tok := x.tok, v := a.1 } :: b.1, b.2)

/-- The first token in ascending order whose cumulative probability exceeds u × 2^−24. -/
def Ar.choose (u : FV) : List Logit → FV → Ar → Option Nat
  | [], _, _ => none
  | x :: t, acc, r =>
    let s := r.add false acc x.v
    if u.lt s.1 then some x.tok else Ar.choose u t s.1 s.2

/-- One step of the generator of a context (R251). -/
def rngNext (s : W64) : W64 :=
  let a := s ^^^ (s <<< 13)
  let b := a ^^^ (a >>> 7)
  b ^^^ (b <<< 17)

/-- What a selection comes to. -/
structure SelOut where
  empty : Bool
  fault : Bool
  tok : Nat
  lp : W32
  rng : W64
  inv : Bool
  free : Nat
  deriving DecidableEq, Repr

/-- −∞ in FP32. -/
def negInf32 : W32 := 0xFF800000

/-- A selection computed (R248): the kept tokens with their probabilities, then the token by opcode and temperature. -/
def Sampler.compute (x : Sampler) (y : Selection) (free : Nat) : SelOut :=
  let c := y.ctx.val
  let k := x.ctx c
  let score := y.parts.any (·.score)
  let gen := bit k.mode 56
  let d := Tbl.get 0 x.grmDesc (fld k.mode 55 52)
  let g := if gen then x.grmState d k.gram.toNat else none
  let temp := decodeF fp32 (fld k.temp 63 32)
  let topP := decodeF fp32 (fld k.temp 31 0)
  let ex := score || temp.isZero
  let r0 := Ar.start [] free
  let raw := y.logits
  let emptyOut (fault : Bool) (r : Ar) : SelOut :=
    { empty := true, fault := fault, tok := fld k.mode 51 31, lp := negInf32, rng := k.rng, inv := raw.any (fun l => l.v.isNan), free := r.free }
  if gen && g.isNone then emptyOut true r0
  else
    let hist := x.lastHist c (fld k.mode 19 10)
    let adj := Ar.adjust g hist (decodeF fp32 (fld k.pen 63 32)) (decodeF fp32 (fld k.pen 31 0)) (decodeF fp32 (fld k.pres 63 32)) raw r0
    let kept0 := adj.1.filter (fun l => !l.v.isNan && l.v != .inf true)
    let z := Ar.temper (if ex then FV.one else temp) kept0 adj.2
    let topK := fld k.mode 30 20
    let kept := if !ex && decide (topK > 0) then ((sortDesc z.1).take topK).foldr insTok [] else z.1
    let p := z.2.probs kept
    let q := if !ex && topP.lt FV.one then
        let pre := Ar.prefixTo topP (sortDesc p.1) (.fin false 0 0) [] p.2
        let n := Ar.renorm pre.1.2 pre.1.1 pre.2
        (n.1.foldr insTok [], n.2)
      else p
    let lpOf (t : Nat) (r : Ar) : W32 × Ar :=
      match q.1.find? (fun l => l.tok == t) with
      | none => (negInf32, r)
      | some l => let y := r.fnOf spLn l.v; y.2.word y.1
    let inv := raw.any (fun l => l.v.isNan)
    match q.1 with
    | [] => emptyOut false q.2
    | first :: rest =>
      if score then
        let t := fld ((y.parts.map (·.word3)).headD 0) 20 0
        let l := lpOf t q.2
        { empty := false, fault := false, tok := t, lp := l.1, rng := k.rng, inv := inv, free := l.2.free }
      else if temp.isZero then
        let t := ((sortDesc (adj.1.filter (fun l => !l.v.isNan && l.v != .inf true))).map (·.tok)).headD first.tok
        let l := lpOf t q.2
        { empty := false, fault := false, tok := t, lp := l.1, rng := k.rng, inv := inv, free := l.2.free }
      else
        let rng := rngNext k.rng
        let u : FV := .fin false (fld rng 63 40) (-24)
        let all := first :: rest
        -- no cumulative sum reaches u where the probabilities round short: which token then is open (log 25)
        let t := (Ar.choose u all (.fin false 0 0) q.2).getD ((nth first all ((Config.freeValue q.2.free).toNat % all.length)).tok)
        let l := lpOf t { q.2 with free := q.2.free + 1 }
        { empty := false, fault := false, tok := t, lp := l.1, rng := rng, inv := inv, free := l.2.free }

/-! ### Completing a selection (R164, R248–R250) -/

/-- A token appended to a context's history, with its grammar state moved (R249). -/
def Sampler.commit (x : Sampler) (c : Nat) (tok : Nat) (next : Option Nat) : Sampler :=
  let k := x.ctx c
  let k1 := { k with head := k.head + 1, total := satInc k.total,
                     gram := match next with
                       | some n => BitVec.ofNat 18 n
                       | none => k.gram }
  { (x.modCtx c (fun _ => k1)) with history := Tbl.put 0 x.history (c * 1024 + k.head.toNat) (BitVec.ofNat 21 tok) }

/-- Does some part's token range hold a token (R249)? -/
def Selection.inRange (y : Selection) (t : Nat) : Bool := y.parts.any (fun p => decide (p.tbase ≤ t ∧ t < p.tbase + p.count))

/-- The sampler after a selection, with its result: token, log-probability, whether a COMMIT was refused. -/
def Sampler.conclude (x : Sampler) (y : Selection) (o : SelOut) : Sampler × W32 × Bool :=
  let c := y.ctx.val
  let k := x.ctx c
  let w3 := (y.parts.map (·.word3)).headD 0
  let score := y.parts.any (·.score)
  let gen := bit k.mode 56
  let g := if gen then x.grmState (Tbl.get 0 x.grmDesc (fld k.mode 55 52)) k.gram.toNat else none
  let next := g.bind (fun st => st.step o.tok)
  let x1 := { (x.modCtx c (fun k => { k with selections := satInc k.selections, rng := o.rng })) with completed := satInc x.completed }
  if o.empty then (x1.modCtx c (fun k => { k with empties := satInc k.empties }), o.lp, false)
  else if score then
    if !bit w3 21 then (x1, o.lp, false)
    else if (gen && next.isNone) || !y.inRange o.tok then (x1.modCtx c (fun k => { k with refused := satInc k.refused }), negInf32, true)
    else (x1.commit c o.tok next, o.lp, false)
  else if bit w3 0 then (x1, o.lp, false)
  else (x1.commit c o.tok next, o.lp, false)

/-- ACCEPT of the state a context's grammar is in; 1 where no grammar constrains it (R249). -/
def Sampler.accepts (x : Sampler) (c : Nat) : Bool :=
  let k := x.ctx c
  !bit k.mode 56 || bit (Tbl.get 0 x.grammar k.gram.toNat) 63

/-- The first result word (R164). -/
def resultWord (accept : Bool) (tok : Nat) : W32 := BitVec.ofNat 32 (b2n accept * 2 ^ 31 + tok % 2 ^ 21)

/-- SELECTION_COMPLETE: a complete selection, the first of its context, is computed, committed and answered to every part. -/
def execSelectionComplete (a : SmpAt) (ctx : Ctx) (serial : W32) (s : State) : Host.Outcome State Fault Refusal :=
  .next (
    match (s.smp a).open_.find? (fun y => decide (y.ctx = ctx)) with
    | none => s
    | some y =>
      if y.serial ≠ serial ∨ !y.complete ∨ !(s.smp a).ready then s
      else
        let o := (s.smp a).compute y s.free
        let r := (s.smp a).conclude y o
        let s1 := { s with free := o.free }.modSmp a (fun _ => r.1)
        let s2 := if o.fault then s1.setCfgErr a 2 else s1
        ((s2.smpFinish a y stOk (b2n o.inv) (resultWord (r.1.accepts ctx.val) o.tok) r.2.1)).smpSettle a)

/-- PART_TIMEOUT: 32 µs after its first part, a selection with a part missing is discarded; every part received completes PART_TIMEOUT
(R163). -/
def execPartTimeout (a : SmpAt) (ctx : Ctx) (serial : W32) (s : State) : Host.Outcome State Fault Refusal :=
  .next (
    match (s.smp a).open_.find? (fun y => decide (y.ctx = ctx ∧ y.serial = serial)) with
    | none => s
    | some y =>
      if y.parts.length ≥ ((y.parts.map (·.parts)).headD 0) then s
      else ((s.smpFinish a y stPartTimeout 0 0 0).setSmpErr a smpErrTimeout).smpSettle a)

/-! ### The result at the cell (R162, R164, R166) -/

/-- A result that its cell refused: the sampler counts it (R166). -/
def State.smpDropped (s : State) (p : DataPkt) : State :=
  let site := fld p.src 15 8
  let ep := fld p.src 7 0
  if h : site < 224 ∧ 0xBA ≤ ep ∧ ep < 0xBE then
    let a : SmpAt := ⟨⟨site, h.1⟩, ⟨ep - 0xBA, by omega⟩⟩
    (s.modSmp a (fun x => { x with dropped := satInc x.dropped })).setSmpErr a smpErrDropped
  else s

/-- SMP_RESULT: the result is written to RADDR, and the command completes; DETAIL of an OK record, the cycles it took, is open. A result
for no command of the cell, or that meets it in reset, is refused, and the sampler counts it dropped. -/
def execSmpResult (c : CellAt) (p : DataPkt) (s : State) : Host.Outcome State Fault Refusal :=
  .next (if p.type ≠ 0x13 then s
    else if (s.cell c).inReset ∧ p.dst = s.eid c.site.val ((s.comb c.site).logicalOf c.phys) then (s.takeData p).smpDropped p
    else s.atCell c p (fun s =>
      match (s.cell c).smpOut.find? (fun o => o.tag = p.tag && o.done.isNone) with
      | none => s.smpDropped p
      | some o =>
        let st := fld (plWord p 2) 7 0
        let s1 := if st = stOk then s.memWrite (.cell c.site c.phys) o.q.d [plWord p 0, plWord p 1] else s
        let d := s1.draw
        d.2.smpEnd c o st (bits (plWord p 2) 8 4) (if st = stOk then d.1.toNat else 0)))

end Sys2Proof.Machine
end

