-- ==== Sys2Proof/Machine/Packets.lean ====
section
/-!
DEFINITION. Packets at cells, keepers and cores: inbound writes, reads and atomics through the receive windows, neighbour lines,
answers to movers and to control accesses, messages (R41, R54, R122, R123, R173, R177–R183, R207, R299, R302, R303).
-/
namespace Sys2Proof.Machine

/-! ### Inbound accesses (R54, R173, R207) -/

/-- The check of an inbound bulk access of n words at a cell. -/
inductive RxChk where
  | ok (phys : Nat)
  | refuse (reason : Nat) (rxWin : Bool)
  deriving DecidableEq, Repr

/-- A privileged core's packet carries COLONY 0xFF: physical, from the comb's steward or a keeper, within the memory (R173). A cell
task's or a port's passes the colony check of R207 and then the receive windows of R54. Lines must be aligned (R51). -/
def State.rxCheck (s : State) (c : CellAt) (p : DataPkt) (n : Nat) (q : Right) (wide : Bool) : RxChk :=
  let va := p.addr.toNat
  if p.colony = 0xFF then
    if !s.ctlSource c.site p.src then .refuse nkNotPermitted false
    else if va + n > memWordsOf (.cell c.site c.phys) then .refuse nkOutside false
    else .ok va
  else if !s.colonyOk c p.colony then .refuse nkNotPermitted false
  else if wide && decide (va % 64 ≠ 0) then .refuse nkOutside true
  else
    match winCheck (s.cell c).rwin0 (s.cell c).rwin1 va n q with
    | .ok a => .ok a
    | _ => .refuse nkOutside true

/-- Refuses an inbound access; RX_WIN is set where a receive window refused it. -/
def State.rxRefuse (s : State) (c : CellAt) (p : DataPkt) (reason : Nat) (rxWin : Bool) : State :=
  (if rxWin then s.setCellErr c errRxWin else s).nackData (s.eidOf (.cell c.site c.phys)) p reason

/-- An inbound access at a cell: refused, or done at its physical address. -/
def State.rxCell (s : State) (c : CellAt) (p : DataPkt) (n : Nat) (q : Right) (wide : Bool) (body : Nat → State → State) : State :=
  s.atCell c p (fun s =>
    match s.rxCheck c p n q wide with
    | .refuse r w => s.rxRefuse c p r w
    | .ok a => body a s)

/-- An inbound access to keeper memory, endpoint 0x10: from a privileged core of this panel, within the memory (R172, R173). -/
def State.rxKeeper (s : State) (h : Half) (p : DataPkt) (n : Nat) (body : Nat → State → State) : State :=
  let ep := s.eid (0xF0 + h.code) 0x10
  if p.dst ≠ ep then s
  else
    s.arriveData (0xF0 + h.code) 0x10 p (fun s =>
      if p.colony ≠ 0xFF ∨ s.onPanel p.src = false then s.nackData ep p nkNotPermitted
      else if p.addr.toNat + n > memWordsOf (.keeper h 0) then s.nackData ep p nkOutside
      else body p.addr.toNat s)

/-- The endpoint code of a block that is neither a cell nor a keeper: it serves no word access, and refuses it with BAD_PACKET
(log 17). -/
def State.rxOther (s : State) (site ep : Nat) (p : DataPkt) : State :=
  if p.dst = s.eid site ep then s.arriveData site ep p (fun s => s.nackData (s.eid site ep) p nkBadPacket) else s

/-- The steward of the site, or nothing where the number is no site: which comb's port a packet reaches a store through. -/
def storeVia (p : DataPkt) : Nat := fld p.dst 15 8

/-- An inbound access of a kind that cells and keepers serve, at any block. -/
def State.rxUnit (s : State) (u : RegUnit) (p : DataPkt) (n : Nat) (q : Right) (wide : Bool)
    (body : CoreId → Nat → State → State) : State :=
  match u with
  | .core (.cell i ph) => s.rxCell ⟨i, ph⟩ p n q wide (body (.cell i ph))
  | .core (.keeper h k) => s.rxKeeper h p n (body (.keeper h k))
  | .core (.steward i) => s.rxOther i.val 0xB9 p
  | .sampler i k => s.rxOther i.val (0xBA + k.val) p
  | .port i k => s.rxOther i.val (0xB0 + k.val) p
  | .store st => if pairHas st.val (storeVia p) then s.rxOther (storeVia p) 0xB8 p else s

/-- The endpoint that answers for the memory of a core. -/
def State.memEid (s : State) : CoreId → Eid
  | .keeper h _ => s.eid (0xF0 + h.code) 0x10
  | i => s.eidOf i

/-- Is a block a service port: PR4 of a comb whose octet is in service mode (R277)? Egress records and the answers to its ring writes have
commands of their own. -/
def State.voicePort (s : State) : RegUnit → Bool
  | .port i k => decide (k.val = 4 ∧ s.octetMode (octetOf i) = 3)
  | _ => false

/-- CELL_WRITE_PACKET: whole lines, each one wide write, then ACK (R178). -/
def execCellWritePacket (u : RegUnit) (p : DataPkt) (s : State) : Host.Outcome State Fault Refusal :=
  .next (if p.type ≠ 0x01 || s.voicePort u then s
    else s.rxUnit u p p.payload.length rightW true (fun i a s => (s.memWrite i a p.payload).ackData (s.memEid i) p))

/-- WRITE_WORD_PACKET: one or two words as a narrow write, then ACK (R302). -/
def execWriteWordPacket (u : RegUnit) (p : DataPkt) (s : State) : Host.Outcome State Fault Refusal :=
  let n := if bit (plWord p 2) 0 then 2 else 1
  .next (if p.type ≠ 0x02 then s
    else s.rxUnit u p n rightW false (fun i a s => (s.memWrite i a (p.payload.take n)).ackData (s.memEid i) p))

/-- READ_REQ_PACKET: 1–16 lines, answered with READ_RSP; an uncorrectable word is answered REMOTE_UE (R177, R182). -/
def execReadReqPacket (u : RegUnit) (p : DataPkt) (s : State) : Host.Outcome State Fault Refusal :=
  let n := (fld (plWord p 0) 3 0 + 1) * 64
  .next (if p.type ≠ 0x03 then s
    else s.rxUnit u p n rightR true (fun i a s =>
      match s.memRead i a n with
      | (.error _, s1) => s1.nackData (s.memEid i) p nkRemoteUe
      | (.ok ws, s1) =>
        s1.sendData (mkData 0x04 p.src (s.memEid i) (s.coreColony i) (s.coreEpoch i) p.addr.toNat p.tag ws)))

/-- ATOMIC_PACKET: indivisible, with the R and W rights; answered with the old value (R181). An operation code above 9 is a malformed
packet (log 17). -/
def execAtomicPacket (c : CellAt) (p : DataPkt) (s : State) : Host.Outcome State Fault Refusal :=
  let w64 := bit (plWord p 4) 4
  let n := if w64 then 2 else 1
  let op := fld (plWord p 4) 3 0
  let i := CoreId.cell c.site c.phys
  .next (if p.type ≠ 0x05 then s
    else if op > 9 then s.atCell c p (fun s => s.nackData (s.eidOf i) p nkBadPacket)
    else s.rxCell c p n rightRW false (fun a s =>
      match s.memRead i a n with
      | (.error _, s1) => s1.nackData (s.eidOf i) p nkRemoteUe
      | (.ok ws, s1) =>
        let old := wordsVal ws n
        (s1.memWrite i a (amoWords op w64 old (plW64 p 0) (plW64 p 2))).sendData
          (mkData 0x06 p.src (s.eidOf i) (s.coreColony i) (s.coreEpoch i) p.addr.toNat p.tag [loW old, hiW old])))

/-! ### Neighbour lines (R39–R41, R54) -/

/-- The sender's descriptor learns what became of a line: accepted, or refused for a reason. -/
def State.nbrAnswer (s : State) (site : Site) (l : NbrLine) (reason : Nat) : State :=
  let m : MovAt := ⟨.cell site l.fromPhys, l.mover⟩
  let e : Expect := { tag := 0, answer := .nbr l.line }
  let s1 := s.setExpect m l.serial e []
  if reason = 0 then s1
  else if (s.mov m).started.any (fun d => decide (d.q.serial = l.serial) && d.expect.contains e) then
    s1.failDesc m l.serial (nackStatus reason) 0 reason
  else s1

/-- A line is delivered to a running cell through its receive windows (R54). -/
def State.nbrDeliver (s : State) (c : CellAt) (l : NbrLine) : State :=
  match winCheck (s.cell c).rwin0 (s.cell c).rwin1 l.addr.toNat 64 rightW with
  | .ok a => (s.memWrite (.cell c.site c.phys) a l.words).nbrAnswer c.site l 0
  | _ => (s.setCellErr c errRxWin).nbrAnswer c.site l nkOutside

/-- NEIGHBOUR_LINE: a line in flight reaches its cell. A quiesced cell's elastic buffer holds it until RESUME; a cell in reset refuses
it; a sleeping cell leaves it in flight. -/
def execNeighbourLine (c : CellAt) (d : Dir) (l : NbrLine) (s : State) : Host.Outcome State Fault Refusal :=
  .next (
    let f : NbrFlight := { site := c.site, phys := c.phys, dir := d, line := l }
    let s1 := { s with net := { s.net with nbr := s.net.nbr.erase f } }
    let x := s.cell c
    if s.cellOff c then s1.nbrAnswer c.site l nkInReset
    else if s.cellAsleep c then s
    else if x.quiesced ∨ x.quiescing then s1.modCell c (fun k => { k with elastic := k.elastic ++ [(d, l)] })
    else s1.nbrDeliver c l)

/-! ### Answers to movers (R177, R181, R303) -/

/-- Payload bytes received for a core's movers (R193). -/
def State.addRx (s : State) (i : CoreId) (p : DataPkt) : State :=
  s.modCore i (fun k => { k with movRx := k.movRx + BitVec.ofNat 64 (64 * (p.lenM1.toNat + 1)) })

/-- READ_RSP_PACKET: the lines land where the descriptor asked for them. An answer that no descriptor expects changes nothing
(log 18). -/
def execReadRspPacket (i : CoreId) (p : DataPkt) (s : State) : Host.Outcome State Fault Refusal :=
  .next (if p.type ≠ 0x04 then s else s.atCore i p (fun s =>
    match (s.core i).expecting (fun _ e => e.has p.tag) with
    | some (mv, d, e) =>
      match e.answer with
      | .lines phys n => ((s.memWrite i phys (p.payload.take (64 * n))).addRx i p).setExpect ⟨i, mv⟩ d.q.serial e []
      | _ => s
    | none => s))

/-- ATOMIC_RSP_PACKET: the old value is written to the result address as a narrow write. -/
def execAtomicRspPacket (i : CoreId) (p : DataPkt) (s : State) : Host.Outcome State Fault Refusal :=
  .next (if p.type ≠ 0x06 then s else s.atCore i p (fun s =>
    match (s.core i).expecting (fun _ e => e.has p.tag && decide (e.answer = .old)) with
    | some (mv, d, e) =>
      ((s.memWrite i d.q.a (p.payload.take d.q.nWords)).addRx i p).setExpect ⟨i, mv⟩ d.q.serial e []
    | none => s))

/-- A write of a core's mover is acknowledged. -/
def State.coreAck (s : State) (i : CoreId) (p : CtlPkt) : State :=
  s.ctlAtCore i p (fun s =>
    match (s.core i).expecting (fun _ e => e.has (bits p.payload 0 16) && decide (e.answer = .ack)) with
    | some (mv, d, e) => s.setExpect ⟨i, mv⟩ d.q.serial e []
    | none => s)

/-- A NACK of a data packet at a core: its mover's descriptor fails, or its sampler command ends TARGET_NACK (R166, R182). -/
def State.dataNack (s : State) (i : CoreId) (tag : BitVec 16) (reason : Nat) : State :=
  match (s.core i).expecting (fun _ e => e.has tag) with
  | some (mv, d, e) => (s.setExpect ⟨i, mv⟩ d.q.serial e []).failDesc ⟨i, mv⟩ d.q.serial (nackStatus reason) 0 reason
  | none =>
    match i with
    | .cell si p =>
      match (s.cell ⟨si, p⟩).smpOut.find? (fun o => o.tag = tag && o.done.isNone) with
      | some o => s.smpEnd ⟨si, p⟩ o stTargetNack 0 reason
      | none => s
    | _ => s

/-- A NACK arrives at a core (R122, R182, R314): of a control access, or of a data packet. -/
def State.coreNack (s : State) (i : CoreId) (p : CtlPkt) : State :=
  s.ctlAtCore i p (fun s =>
    let reason := fld p.payload 7 0
    if bit p.payload 16 then
      if fld p.payload 15 8 = 0x01 then s.accessAnswer ⟨i, (bits p.payload 32 3).toFin⟩ false false (BitVec.ofNat 64 reason)
      else if fld p.payload 15 8 = 0x02 ∨ fld p.payload 15 8 = 0x03 then s.accessAnswer ⟨i, (bits p.payload 32 3).toFin⟩ true false 0
      else s
    else s.dataNack i (bits p.payload 32 16) reason)

/-! ### Control answers and messages (R122, R123, R299) -/

/-- REG_RD_RSP: ends the cread of the task its class names. -/
def execRegRdRsp (i : CoreId) (p : CtlPkt) (s : State) : Host.Outcome State Fault Refusal :=
  .next (if fld p.cls 7 3 ≠ 1 then s
    else s.ctlAtCore i p (fun s => s.accessAnswer ⟨i, (bits p.cls 0 3).toFin⟩ false true p.payload))

/-- REG_WR_ACK: ends the cwrite of the task its class names. -/
def execRegWrAck (i : CoreId) (p : CtlPkt) (s : State) : Host.Outcome State Fault Refusal :=
  .next (if fld p.cls 7 3 ≠ 2 then s
    else s.ctlAtCore i p (fun s => s.accessAnswer ⟨i, (bits p.cls 0 3).toFin⟩ true true 0))

/-- Is a control class defined (R299)? -/
def clsDefined (c : Nat) : Bool := decide (1 ≤ c ∧ c ≤ 5) || decide (8 ≤ c ∧ c < 0x18) || decide (0x40 ≤ c ∧ c < 0x80)

/-- CONTROL_MESSAGE: into the receive queue of a privileged core; NO_RECEIVER at a cell. A packet of an undefined class is refused with
BAD_PACKET. -/
def execControlMessage (i : CoreId) (p : CtlPkt) (s : State) : Host.Outcome State Fault Refusal :=
  .next (
    let c := p.cls.toNat
    if clsDefined c && decide (c < 0x40) then s
    else s.ctlAtCore i p (fun s =>
      if !clsDefined c then s.nackCtl (s.eidOf i) p nkBadPacket
      else if isCell i then s.nackCtl (s.eidOf i) p nkNoReceiver
      else s.rxPush i p))

end Sys2Proof.Machine
end

