-- ==== Sys2Proof/Machine/StoreOps.lean ====
section
/-!
DEFINITION. A store and its store base: memory by granules, error correction and repair, extents, error bits, fencing
(R374–R385, R392, R394).
-/
namespace Sys2Proof.Machine

/-! ### Access -/

/-- A store, by its code. -/
def State.store (s : State) (n : Nat) : Store := Tbl.get s.storeInit s.stores n

/-- The panel with a store replaced. -/
def State.setStore (s : State) (n : Nat) (x : Store) : State := { s with stores := Tbl.put s.storeInit s.stores n x }

/-- The panel with a store changed. -/
def State.modStore (s : State) (n : Nat) (f : Store → Store) : State := s.setStore n (f (s.store n))

/-- The outer and the inner comb of a store's pair (R15). -/
def storeCombs (n : Nat) : Nat × Nat := octetCombs n

/-- Is a comb out of service, or under whole-comb reset (R317, R475)? -/
def Comb.away (c : Comb) : Bool := decide (c.state ≠ 0) || c.resetRun.isSome

/-- The site whose steward takes a store base's records: the outer comb's, or the inner's while the outer is away (R475). -/
def State.storeSteward (s : State) (n : Nat) : Nat :=
  if (s.combN (storeCombs n).1).away then (storeCombs n).2 else (storeCombs n).1

/-- The store port a store base's own packets name as their source. -/
def State.storeEid (s : State) (n : Nat) : Eid := s.eid (s.storeSteward n) 0xB8

/-! ### Registers that answers show -/

/-- STB_STATUS (R394). -/
def Store.statusReg (x : Store) : W64 :=
  BitVec.ofNat 64 (x.unreadable.length * 2 ^ 32 + x.kv.length * 2 ^ 16 + x.chunks.length * 2 ^ 8 + x.stb)

/-- STB_ERR (R394). -/
def Store.errReg (x : Store) : W64 := x.err.setWidth 64

/-- STB_ECC (R394). -/
def Store.eccReg (x : Store) : W64 :=
  BitVec.ofNat 64 (x.corrected.toNat * 2 ^ 32 + x.uncorrectable.toNat * 2 ^ 16 + x.repaired.toNat)

/-- STB_ERR bits (R394). -/
def sbBadWr : Nat := 0
def sbStaticWr : Nat := 1
def sbKv : Nat := 2
def sbXf : Nat := 3
def sbRepair : Nat := 4
def sbUe : Nat := 5
def sbFenced : Nat := 6

/-- Sends a record of a store base against the store (R475, R476). -/
def State.storeRec (s : State) (n : Nat) (code sev : Nat) (addr info0 info1 : W64) : State :=
  s.sendErr (s.storeSteward n) (mkErr code sev 4 n (s.storeEid n) addr info0 info1)

/-- Sets an STB_ERR bit; its 0-to-1 transition sends a record: FENCED contained, UE by R384 and not here, the others corrected. -/
def State.setStbErr (s : State) (n b : Nat) : State :=
  if bit (s.store n).err b then s
  else
    let s1 := s.modStore n (fun x => { x with err := setBit x.err b true })
    if b = sbUe then s1
    else if b = sbFenced then s1.storeRec n 0x0402 1 0 (s1.store n).errReg 0
    else s1.storeRec n 0x0403 0 0 (s1.store n).errReg 0

/-! ### Fencing (R392, R393) -/

/-- SHARD_DONE of a chunk (R386). -/
def State.shardDone (s : State) (n : Nat) (c : Chunk) (status : Nat) : State :=
  s.sendData (mkData 0x0D c.src (s.storeEid n) 0xFF (s.store n).epoch.epoch 0 c.tag [BitVec.ofNat 32 status])

/-- The store base fences its store: open chunks end FENCED, KV entries are abandoned, FENCED is set (R392, R393). -/
def State.fenceStore (s : State) (n : Nat) : State :=
  if (s.store n).stb = 3 then s
  else
    let chunks := (s.store n).chunks
    let s1 := s.modStore n (fun x => { x with stb := 3, chunks := [], kv := [] })
    (chunks.foldl (fun s c => s.shardDone n c 3) s1).setStbErr n sbFenced

/-! ### Extents (R380, R395) -/

/-- STB_EXT of a colony. -/
def Store.extent (x : Store) (c : Nat) : W64 := Tbl.get 0 x.ext c

/-- Does an enabled extent of a colony hold a byte range? -/
def Store.owns (x : Store) (c a n : Nat) : Bool :=
  let e := x.extent c
  decide (c < 64) && bit e 63 && decide (fld e 19 0 * 65536 ≤ a ∧ a + n ≤ (fld e 19 0 + fld e 39 20) * 65536)

/-- The colony whose extent holds a granule; 0xFF for none. -/
def Store.ownerOf (x : Store) (g : Nat) : Nat := ((List.range 64).find? (fun c => x.owns c (g * 64) 64)).getD 0xFF

/-! ### Granules (R383–R385) -/

/-- Is a granule unreadable: on the list, or with more errors than the code corrects? -/
def Store.badGranule (x : Store) (g : Nat) : Bool := x.unreadable.contains g || x.ecc.get Ecc.good g == .double

/-- The granules of a byte range. -/
def granules (a n : Nat) : List Nat := (List.range ((a + n - 1) / 64 + 1 - a / 64)).map (a / 64 + ·)

/-- Bytes of a store. -/
def Store.bytes (x : Store) (a n : Nat) : List Byte := Tbl.getAll 0 x.mem a n

/-- Repairs a granule's row onto a spare of its bank; a bank with no spare left fences the store (R385, R392). -/
def State.repairRow (s : State) (n g : Nat) : State :=
  let b := Config.storeBank g
  let x := s.store n
  if x.spares.get 0 b ≥ 8 then s.fenceStore n
  else
    (s.modStore n (fun x => { x with spares := x.spares.put 0 b (x.spares.get 0 b + 1), repaired := satInc x.repaired,
                                     rowCounts := x.rowCounts.put 0 (Config.storeRow g) 0 })).setStbErr n sbRepair

/-- An uncorrectable granule is found (R384): counted, listed, recorded against the colony whose extent holds it, and its row repaired. A
list of 1,024 that would overflow fences the store (R392). -/
def State.storeUe (s : State) (n g : Nat) : State :=
  let x := s.store n
  let own := x.ownerOf g
  let s1 := s.modStore n (fun x =>
    { x with uncorrectable := satInc x.uncorrectable, ueAddr := BitVec.ofNat 64 (own * 2 ^ 56 + g * 64) })
  if x.unreadable.contains g then s1
  else
    let full := decide (x.unreadable.length ≥ 1024)
    let s2 := (if full then s1 else s1.modStore n (fun x => { x with unreadable := x.unreadable ++ [g] })).setStbErr n sbUe
    let r := if own = 0xFF then mkErr 0x0401 0 4 n (s2.storeEid n) (BitVec.ofNat 64 (g * 64)) (s2.store n).errReg (s2.store n).eccReg
      else mkErr 0x0401 1 6 own (s2.storeEid n) (BitVec.ofNat 64 (g * 64)) (s2.store n).errReg (s2.store n).eccReg
    let s3 := s2.sendErr (s2.storeSteward n) r
    if full then s3.fenceStore n else s3.repairRow n g

/-- A corrected read: counted and written back; a row with 16 corrected reads is repaired (R383, R385). -/
def State.storeCe (s : State) (n g : Nat) : State :=
  let row := Config.storeRow g
  let s1 := s.modStore n (fun x =>
    { x with corrected := satInc x.corrected, ecc := x.ecc.put Ecc.good g Ecc.good,
             rowCounts := x.rowCounts.put 0 row (x.rowCounts.get 0 row + 1) })
  if (s1.store n).rowCounts.get 0 row ≥ 16 then s1.repairRow n g else s1

/-- What reading a byte range does to the granules it meets, in order: corrected ones are written back, unreadable ones are noted.
Answers whether every granule can be read. -/
def State.storeTouch (s : State) (n a len : Nat) : Bool × State :=
  let gs := granules a len
  let x := s.store n
  (!gs.any x.badGranule, gs.foldl (fun s g =>
    if x.badGranule g then s.storeUe n g else if x.ecc.get Ecc.good g == .single then s.storeCe n g else s) s)

/-- Reads a byte range: none where it meets an unreadable granule (R384). -/
def State.storeRead (s : State) (n a len : Nat) : Option (List Byte) × State :=
  let r := s.storeTouch n a len
  (if r.1 then some ((r.2.store n).bytes a len) else none, r.2)

/-- Writes bytes; a granule that the write covers whole leaves the unreadable list and has good check bytes (R384). -/
def Store.write (x : Store) (a : Nat) (bs : List Byte) : Store :=
  let whole (g : Nat) : Bool := decide (a ≤ g * 64 ∧ g * 64 + 64 ≤ a + bs.length)
  { x with mem := Tbl.putAll 0 x.mem a bs, unreadable := x.unreadable.filter (fun g => !whole g), ecc := x.ecc.filter (fun e => !whole e.1) }

/-- A range of whole units set to zero (R382). -/
def Store.zeroRange (x : Store) (a n : Nat) : Store :=
  let whole (g : Nat) : Bool := decide (a ≤ g * 64 ∧ g * 64 + 64 ≤ a + n)
  { x with mem := Tbl.clear x.mem a n, unreadable := x.unreadable.filter (fun g => !whole g), ecc := x.ecc.filter (fun e => !whole e.1) }

/-! ### Admission at the store port (R374, R377, R378, R380) -/

/-- Does a store base refuse every packet: fenced, or under test (R378)? -/
def Store.closed (x : Store) : Option Nat := if x.stb = 3 then some nkStoreFenced else if x.stb = 1 then some nkTesting else none

/-- The checks of an access of n bytes by a packet of a colony: range first, then ownership. -/
def Store.access (x : Store) (colony : Byte) (a n : Nat) : Option Nat :=
  if a + n > storeBytes then some nkAddrRange
  else if colony ≠ 0xFF ∧ !x.owns colony.toNat a n then some nkNotOwned
  else none

/-- A packet of a type that the store port serves arrives at the port of a comb of the pair. A store base that is not powered, or has
not begun its first test, leaves it waiting. -/
def State.atStore (s : State) (n : Nat) (p : DataPkt) (body : Eid → State → State) : State :=
  let site := fld p.dst 15 8
  let ep := s.eid site 0xB8
  if p.dst ≠ ep ∨ pairHas n site = false ∨ (s.store n).stb = 0 then s
  else
    s.arriveData site 0xB8 p (fun s =>
      match (s.store n).closed with
      | some r => s.nackData ep p r
      | none => body ep s)

/-- Store address bits [35:6] of a packet (R301). -/
def stoAddr (p : DataPkt) : Nat := p.addr.toNat * 64

/-- STORE_WRITE_PACKET: whole lines from a granule; answered with ACK (R377). -/
def execStoreWritePacket (st : StoreId) (p : DataPkt) (s : State) : Host.Outcome State Fault Refusal :=
  .next (if p.type ≠ 0x01 then s else s.atStore st.val p (fun ep s =>
    match (s.store st.val).access p.colony (stoAddr p) (4 * p.payload.length) with
    | some r => s.nackData ep p r
    | none => (s.modStore st.val (fun x => x.write (stoAddr p) (p.payload.flatMap wordBytes))).ackData ep p))

/-- STORE_READ_REQ: 1–16 lines, answered with READ_RSP; an unreadable granule is answered REMOTE_UE (R384). -/
def execStoreReadReq (st : StoreId) (p : DataPkt) (s : State) : Host.Outcome State Fault Refusal :=
  let n := (fld (plWord p 0) 3 0 + 1) * 256
  .next (if p.type ≠ 0x03 then s else s.atStore st.val p (fun ep s =>
    match (s.store st.val).access p.colony (stoAddr p) n with
    | some r => s.nackData ep p r
    | none =>
      match s.storeRead st.val (stoAddr p) n with
      | (none, s1) => s1.nackData ep p nkRemoteUe
      | (some bs, s1) =>
        s1.sendData (mkData 0x04 p.src ep p.colony (s1.store st.val).epoch.epoch p.addr.toNat p.tag (wordsOfBytes bs))))

/-- STORE_ATOMIC: on the first 4 or 8 bytes of the granule, indivisibly; answered with the old value (R181, R377). Operation codes above
9 are malformed (log 17). -/
def execStoreAtomic (st : StoreId) (p : DataPkt) (s : State) : Host.Outcome State Fault Refusal :=
  let w64 := bit (plWord p 4) 4
  let op := fld (plWord p 4) 3 0
  .next (if p.type ≠ 0x05 then s else s.atStore st.val p (fun ep s =>
    if op > 9 then s.nackData ep p nkBadPacket
    else
      match (s.store st.val).access p.colony (stoAddr p) 64 with
      | some r => s.nackData ep p r
      | none =>
        match s.storeRead st.val (stoAddr p) 64 with
        | (none, s1) => s1.nackData ep p nkRemoteUe
        | (some bs, s1) =>
          let n := if w64 then 2 else 1
          let old := wordsVal (wordsOfBytes (bs.take (4 * n))) n
          let new := (amoWords op w64 old (plW64 p 0) (plW64 p 2)).flatMap wordBytes
          (s1.modStore st.val (fun x => x.write (stoAddr p) new)).sendData
            (mkData 0x06 p.src ep p.colony (s1.store st.val).epoch.epoch p.addr.toNat p.tag [loW old, hiW old])))

/-! ### Gathers (R379) -/

/-- Is a GATHER's flit 0 and list well formed, with as many flits as E entries need? -/
def gatherOk (p : DataPkt) : Bool :=
  let e := fld (plWord p 0) 13 8 + 1
  decide (keep (plWord p 0) 0xFFFFC0C0 = 0) && decide (p.lenM1.toNat + 1 = 1 + cdiv e 8) &&
  ((List.range 15).all (fun i => plWord p (i + 1) == 0)) &&
  ((List.range e).all (fun i => decide (fld (plW64 p (16 + 2 * i)) 63 36 = 0 ∧ fld (plW64 p (16 + 2 * i)) 5 0 = 0))) &&
  ((List.range (8 * cdiv e 8 - e)).all (fun i => plW64 p (16 + 2 * (e + i)) == 0))

/-- The entries' addresses. -/
def gatherAddrs (p : DataPkt) : List Nat :=
  (List.range (fld (plWord p 0) 13 8 + 1)).map (fun i => (plW64 p (16 + 2 * i)).toNat)

/-- The bytes of every entry; none where an entry meets an unreadable granule. -/
def State.gatherRead (n l : Nat) : List Nat → State → Option (List Byte) × State
  | [], s => (some [], s)
  | a :: t, s =>
    match s.storeRead n a (256 * l) with
    | (none, s1) => (none, s1)
    | (some bs, s1) =>
      match State.gatherRead n l t s1 with
      | (none, s2) => (none, s2)
      | (some rest, s2) => (some (bs ++ rest), s2)

/-- Sends bytes as response packets of up to 16 lines, ADDR the index of their first line. -/
def State.sendLinesOf (n : Nat) (ep : Eid) (p : DataPkt) : Nat → Nat → List Byte → State → State
  | 0, _, _, s => s
  | k + 1, i, bs, s =>
    if bs.isEmpty then s
    else
      State.sendLinesOf n ep p k (i + 16) (bs.drop 4096)
        (s.sendData (mkData 0x09 p.src ep p.colony (s.store n).epoch.epoch i p.tag (wordsOfBytes (bs.take 4096))))

/-- GATHER: every entry is checked before any line is sent. -/
def execGather (st : StoreId) (p : DataPkt) (s : State) : Host.Outcome State Fault Refusal :=
  let l := fld (plWord p 0) 5 0 + 1
  .next (if p.type ≠ 0x08 then s else s.atStore st.val p (fun ep s =>
    if !gatherOk p then s.nackData ep p nkBadList
    else
      match (gatherAddrs p).findSome? (fun a => (s.store st.val).access p.colony a (256 * l)) with
      | some r => s.nackData ep p r
      | none =>
        match State.gatherRead st.val l (gatherAddrs p) s with
        | (none, s1) => s1.nackData ep p nkRemoteUe
        | (some bs, s1) => State.sendLinesOf st.val ep p 256 0 bs s1))

/-- Writes the lines of a GATHER_RSP where their entries land: entry i at destination + i × L lines (R179). -/
def State.landGather (i : CoreId) (a l : Nat) (entries : List Nat) : Nat → List W32 → Nat → State → State
  | 0, _, _, s => s
  | k + 1, ws, idx, s =>
    if ws.isEmpty then s
    else
      State.landGather i a l entries k (ws.drop 64) (idx + 1)
        (s.memWrite i (a + 64 * (nth 0 entries (idx / l) * l + idx % l)) (ws.take 64))

/-- GATHER_RSP: lines of a gather arrive at the mover that asked. -/
def execGatherRsp (i : CoreId) (p : DataPkt) (s : State) : Host.Outcome State Fault Refusal :=
  .next (if p.type ≠ 0x09 then s else s.atCore i p (fun s =>
    match (s.core i).expecting (fun _ e => e.has p.tag) with
    | some (mv, d, e) =>
      match e.answer with
      | .gather entries left =>
        let n := p.payload.length / 64
        let s1 := (State.landGather i d.q.a d.q.lines entries 16 p.payload (fld p.addr 17 0) s).addRx i p
        s1.setExpect ⟨i, mv⟩ d.q.serial e (if left ≤ n then [] else [{ e with answer := .gather entries (left - n) }])
      | _ => s
    | none => s))

/-- SHARD_DONE: the SFETCH it answers is OK, or fails SUPER_ERROR (R180, R386). -/
def execShardDone (i : CoreId) (p : DataPkt) (s : State) : Host.Outcome State Fault Refusal :=
  .next (if p.type ≠ 0x0D then s else s.atCore i p (fun s =>
    match (s.core i).expecting (fun _ e => e.has p.tag && decide (e.answer = .shard)) with
    | some (mv, d, e) =>
      let s1 := s.setExpect ⟨i, mv⟩ d.q.serial e []
      if fld (plWord p 0) 7 0 = 0 then s1 else s1.failDesc ⟨i, mv⟩ d.q.serial stSuperError 0 0
    | none => s))

end Sys2Proof.Machine
end

