-- ==== Sys2Proof/Machine/KvGather.lean ====
section
/-!
DEFINITION. The KV gather of a store base (R388–R390): queue, entries, page lookup (R239), delivered layout (R237, R238).
-/
namespace Sys2Proof.Machine

/-! ### The queue (R388) -/

/-- Byte address of a colony's KV queue in a store. -/
def Store.kq (x : Store) (c : Nat) : Nat := fld (Tbl.get 0 x.kvq c) 19 0 * 65536

/-- Is a colony's KV queue enabled? -/
def Store.kqOn (x : Store) (c : Nat) : Bool := bit (Tbl.get 0 x.kvq c) 63

/-- A 64-bit little-endian value of a store. -/
def Store.u64 (x : Store) (a : Nat) : Nat := leBytes (x.bytes a 8)

/-- The address of ring entry n. -/
def kqEntry (q n : Nat) : Nat := q + 0x1000 + n % 128 * 256

/-! ### Pages (R227, R239) -/

/-- A page of the panel's stores: store code and byte address. -/
structure Page where
  store : Nat
  addr : Nat
  deriving DecidableEq, Repr

/-- The page a page reference names; none where VALID is 0. -/
def pageOf (r : Nat) : Option Page :=
  let w := BitVec.ofNat 64 r
  if bit w 63 then some { store := fld w 48 42, addr := fld w 41 22 * 65536 } else none

/-- A 64-bit word of a page, as a privileged requester reads it: none where the store does not serve it, or the granule is unreadable. -/
def State.pageWord (s : State) (p : Page) (off : Nat) : Option Nat :=
  let x := s.store p.store
  if p.store ≥ 112 ∨ x.stb ≠ 2 ∨ x.badGranule ((p.addr + off) / 64) then none else some (x.u64 (p.addr + off))

/-- What a lookup answers (R239). -/
inductive PageLook where
  | page (p : Page) (fill : Nat)
  | noPage
  | ue (p : Page) (off : Nat)
  deriving DecidableEq, Repr

/-- One word of a page in a lookup. -/
def State.lookWord (s : State) (p : Page) (off : Nat) (k : Nat → PageLook) : PageLook :=
  match s.pageWord p off with
  | some v => k v
  | none => if (s.store p.store).stb = 2 ∧ p.store < 112 then .ue p off else .noPage

/-- Page lookup for page j of block b of layer-group pair lg (R239). -/
def State.pageLookup (s : State) (dir lg npp b j : Nat) : PageLook :=
  let i := b * npp + j
  match pageOf dir with
  | none => .noPage
  | some d =>
    if b ≥ 65536 then .noPage
    else
      s.lookWord d (8 * (lg * 8 * npp + i / 8192)) (fun de =>
        match pageOf de with
        | none => .noPage
        | some t =>
          s.lookWord t (8 * (i % 8192)) (fun pte =>
            match pageOf pte with
            | none => .noPage
            | some p => .page p (pte % 512)))

/-! ### Blocks (R237, R238) -/

/-- The format of a sequence, from word 2 of its descriptor (R226). -/
structure KvFmt where
  fmt : Nat
  npp : Nat
  hd : Nat
  lg : Nat
  deriving DecidableEq, Repr

/-- Word 2 of a sequence descriptor. -/
def kvFmt (w : W64) : KvFmt := { fmt := fld w 63 60, npp := 2 ^ fld w 59 58, hd := 32 * (fld w 57 53 + 1), lg := fld w 52 43 + 1 }

/-- Bytes of a stored row of elements, and of a stored row of scales. -/
def KvFmt.row (f : KvFmt) : Nat := f.hd * fmtBits f.fmt / 8
def KvFmt.scale (f : KvFmt) : Nat := if isMx f.fmt then f.hd / 32 else 0

/-- Bytes of a block's stored image (R237). -/
def KvFmt.image (f : KvFmt) : Nat := 512 * (f.row + f.scale)

/-- Lines of a delivered row, scale pitch in units of two words, lines of a delivered block (R238). -/
def KvFmt.rowLines (f : KvFmt) : Nat := cdiv (f.hd * fmtBits f.fmt) 2048
def KvFmt.spitch (f : KvFmt) : Nat := if isMx f.fmt then cdiv f.hd 256 else 0
def KvFmt.dl (f : KvFmt) : Nat := 512 * f.rowLines + 16 * f.spitch

/-- The pages that hold an image: the smallest of 1, 2, 4; none above four pages. -/
def nppFor (image : Nat) : Nat :=
  if image ≤ 65536 then 1 else if image ≤ 2 * 65536 then 2 else if image ≤ 4 * 65536 then 4 else 0

/-- Does word 2 keep R226 and R237? -/
def kvFmtOk (w : W64) : Bool :=
  let f := kvFmt w
  (f.fmt == 1 || f.fmt == 2 || isMx f.fmt) && decide (fld w 59 58 ≤ 2) && decide (nppFor f.image = f.npp) &&
  decide (f.lg * 8 * f.npp ≤ 8192) && decide (fld w 42 25 = 0) && decide (1 ≤ fld w 24 0 ∧ fld w 24 0 ≤ 16777216)

/-- Rows of a stored part spread to the delivered pitch; rows at or beyond FILL are zero (R238). -/
def spreadRows (img : List Byte) (off n pitch fill : Nat) : List Byte :=
  (List.range 256).flatMap (fun t => if t < fill then fitTo 0 pitch ((img.drop (off + t * n)).take n) else List.replicate pitch 0)

/-- A block in the delivered layout (R238). -/
def deliver (f : KvFmt) (img : List Byte) (fill : Nat) : List Byte :=
  let half := 256 * (f.row + f.scale)
  let part (o : Nat) : List Byte :=
    spreadRows img o f.row (256 * f.rowLines) fill ++ spreadRows img (o + 256 * f.row) f.scale (8 * f.spitch) fill
  part 0 ++ part half

/-! ### Entries (R389, R390) -/

/-- Word i of a ring entry. -/
def Store.kvWord (x : Store) (a i : Nat) : W64 := BitVec.ofNat 64 (x.u64 (a + 8 * i))

/-- Does an entry keep its field rules (R389)? -/
def Store.kvOk (x : Store) (a : Nat) : Bool :=
  let w (i : Nat) : W64 := x.kvWord a i
  decide (fld (w 0) 63 60 = 0 ∧ fld (w 0) 39 20 = 0 ∧ fld (w 0) 5 0 = 0) && kvFmtOk (w 2) &&
  decide (fld (w 3) 63 58 = 0 ∧ fld (w 3) 47 40 = 0 ∧ fld (w 3) 15 0 = 0 ∧ fld (w 3) 57 48 < (kvFmt (w 2)).lg) &&
  decide (fld (w 4) 30 20 = 0 ∧ fld (w 5) 55 0 = 0) && w 6 == 0 && w 7 == 0 && (List.range 16).all (fun i => w (16 + i) == 0)

/-- The comb whose rank table translates a colony's targets: the pair's outer comb where it hosts the colony, else the inner (R390). -/
def State.kvComb (s : State) (n c : Nat) : Nat :=
  let o := storeCombs n
  if bit ((s.combN o.1).ranks.dirOf c) 63 then o.1 else o.2

/-- The endpoint of a store base's data: the port of the comb that holds the target where it is of the pair, else the two ports in turn
(R390). -/
def State.kvPort (s : State) (n : Nat) (target : Eid) : Eid × State :=
  let o := storeCombs n
  let site := fld target 15 8
  if site = o.1 ∨ site = o.2 then (s.eid site 0xB8, s)
  else (s.eid (if (s.store n).viaInner then o.2 else o.1) 0xB8, s.modStore n (fun x => { x with viaInner := !x.viaInner }))

/-- Sends one WRITE or WRITE_WORD of an entry, and expects its answer. -/
def State.kvSend (s : State) (n c entry type : Nat) (target : Eid) (addr : Nat) (ws : List W32) : State :=
  let tag := (s.store n).nextTag
  let r := s.kvPort n target
  (r.2.modStore n (fun x =>
    { x with nextTag := x.nextTag + 1,
             kv := x.kv.map (fun k => if k.colony = c ∧ k.entry = entry then { k with expect := k.expect ++ [tag] } else k) })).sendData
    (mkData type target r.1 (BitVec.ofNat 8 c) (s.store n).epoch.epoch addr tag ws)

/-- Sends words as WRITE packets of up to 16 lines. -/
def State.kvLines (n c entry : Nat) (target : Eid) : Nat → Nat → List W32 → State → State
  | 0, _, _, s => s
  | k + 1, addr, ws, s =>
    if ws.isEmpty then s
    else State.kvLines n c entry target k (addr + 1024) (ws.drop 1024) (s.kvSend n c entry 0x01 target addr (ws.take 1024))

/-- The panel with an open entry changed. -/
def State.modKv (s : State) (n c entry : Nat) (f : KvOpen → KvOpen) : State :=
  s.modStore n (fun x => { x with kv := x.kv.map (fun k => if k.colony = c ∧ k.entry = entry then f k else k) })

/-- Reads the pages of a block in order; none where a granule is unreadable. -/
def State.readPages (n : Nat) : List Nat → State → Option (List Byte) × State
  | [], s => (some [], s)
  | a :: t, s =>
    match s.storeRead n a 65536 with
    | (none, s1) => (none, s1)
    | (some bs, s1) =>
      match State.readPages n t s1 with
      | (none, s2) => (none, s2)
      | (some rest, s2) => (some (bs ++ rest), s2)

/-- The MAP code of a block whose lookups are known: 2 NO_PAGE, 1 FOREIGN, 3 REFUSED, 0 delivered. -/
def mapCode (x : Store) (n c : Nat) (ps : List PageLook) : Nat :=
  if ps.any (fun l => match l with | .page _ _ => false | _ => true) then 2
  else if ps.any (fun l => match l with | .page p _ => decide (p.store ≠ n) | _ => false) then 1
  else if ps.any (fun l => match l with | .page p _ => !x.owns c p.addr 65536 | _ => false) then 3
  else 0

/-- The unreadable granule a block's lookups met, if any: store and granule. -/
def lookUe (ps : List PageLook) : Option (Nat × Nat) :=
  ps.findSome? (fun l => match l with | .ue p off => some (p.store, (p.addr + off) / 64) | _ => none)

/-- The FILL of a block: in the entry of its page 0. -/
def lookFill (ps : List PageLook) : Nat :=
  match ps with
  | .page _ f :: _ => f
  | _ => 0

/-- The addresses of a block's pages. -/
def lookAddrs (ps : List PageLook) : List Nat :=
  ps.filterMap (fun l => match l with | .page p _ => some p.addr | _ => none)

/-- The blocks of an entry from block i on: each resolved, and delivered where every page lies here (R390). An uncorrectable granule
ends the entry UE. -/
def State.kvBlocks (n c entry : Nat) (target : Eid) (f : KvFmt) (dir lg first raddr : Nat) : Nat → Nat → State → State
  | 0, _, s => s
  | k + 1, i, s =>
    let ps := (List.range f.npp).map (fun j => s.pageLookup dir lg f.npp (first + i) j)
    match lookUe ps with
    | some (st, g) => (s.storeUe st g).modKv n c entry (fun x => { x with failed := 5 })
    | none =>
      let m := mapCode (s.store n) n c ps
      let s1 := s.modKv n c entry (fun x => { x with map := x.map ++ [m] })
      if m ≠ 0 then State.kvBlocks n c entry target f dir lg first raddr k (i + 1) s1
      else
        match State.readPages n (lookAddrs ps) s1 with
        | (none, s2) => s2.modKv n c entry (fun x => { x with failed := 5 })
        | (some img, s2) =>
          let ws := wordsOfBytes (deliver f (img.take f.image) (lookFill ps))
          State.kvBlocks n c entry target f dir lg first raddr k (i + 1)
            (State.kvLines n c entry target (cdiv f.dl 16) (raddr + i * 64 * f.dl) ws s2)

/-- Starts the entry at ring count e (R389, R390). A target that does not translate ends it NACK (log 34). -/
def State.kvStart (s : State) (n c e : Nat) : State :=
  let x := s.store n
  let a := kqEntry (x.kq c) e
  let w (i : Nat) : W64 := x.kvWord a i
  let target := (s.combN (s.kvComb n c)).ranks.translate s.swarmPanel c (fld (w 0) 59 40)
  let k : KvOpen := { colony := c, entry := e, target := target.getD 0, w4 := w 4, expect := [], failed := 0, map := [] }
  let add (k : KvOpen) : State := s.modStore n (fun x => { x with kv := x.kv ++ [k] })
  if !x.kvOk a then add { k with failed := 3 }
  else
    match target with
    | none => add { k with failed := 4 }
    | some t =>
      State.kvBlocks n c e t (kvFmt (w 2)) (w 1).toNat (fld (w 3) 57 48) (fld (w 3) 39 24) (fld (w 0) 19 0) (fld (w 3) 23 16 + 1) 0 (add k)

/-- Writes a 64-bit value in a store. -/
def Store.put64 (x : Store) (a v : Nat) : Store := x.write a (toLe 8 v)

/-- Takes new entries of a colony in ring order while fewer than 8 are open (R388). -/
def State.kvTake (n c : Nat) : Nat → State → State
  | 0, s => s
  | k + 1, s =>
    let x := s.store n
    let t := Tbl.get 0 x.kvTaken c
    if (2 ^ 64 + x.u64 (x.kq c) - t) % 2 ^ 64 = 0 ∨ x.kv.length ≥ 8 then s
    else
      let t1 := (t + 1) % 2 ^ 64
      State.kvTake n c k ((s.modStore n (fun x =>
        { (x.put64 (x.kq c + 0x40) t1) with kvTaken := Tbl.put 0 x.kvTaken c t1 })).kvStart n c t)

/-- The store base looks at a colony's queue. -/
def State.kvPoll (s : State) (n c : Nat) : State :=
  if (s.store n).stb = 2 ∧ (s.store n).kqOn c then State.kvTake n c 8 s else s

/-- KV_DOORBELL: a SATOM to KQ_HEAD has rung it. -/
def execKvDoorbell (st : StoreId) (c : ColonyId) (s : State) : Host.Outcome State Fault Refusal := .next (s.kvPoll st.val c.val)

/-- KV_QUEUE_POLL: without a doorbell. -/
def execKvQueuePoll (st : StoreId) (c : ColonyId) (s : State) : Host.Outcome State Fault Refusal := .next (s.kvPoll st.val c.val)

/-- A data write of an open entry is acknowledged. -/
def State.kvAck (s : State) (n : Nat) (tag : BitVec 16) : State :=
  s.modStore n (fun x => { x with kv := x.kv.map (fun k => { k with expect := k.expect.erase tag }) })

/-- A data write of an open entry is refused: the entry ends NACK. -/
def State.kvNack (s : State) (n : Nat) (tag : BitVec 16) : State :=
  s.modStore n (fun x => { x with kv := x.kv.map (fun k =>
    if k.expect.contains tag then { k with expect := k.expect.erase tag, failed := if k.failed = 0 then 4 else k.failed } else k) })

/-- STATUS of an entry that has no answer outstanding: its failure, OK where every block was delivered, else PARTIAL (R390). -/
def KvOpen.status (k : KvOpen) : Nat := if k.failed ≠ 0 then k.failed else if k.map.all (· == 0) then 1 else 2

/-- MAP, words 8–15: two bits a block. -/
def KvOpen.mapBytes (k : KvOpen) : List Byte := toLe 64 (packNat 2 k.map)

/-- KV_ENTRY_COMPLETE: words 5 and 8–15 are written, KQ_DONE counts, and NOTIFY sends SERIAL to TARGET at NADDR (R390). -/
def execKvEntryComplete (st : StoreId) (c : ColonyId) (entry : W64) (s : State) : Host.Outcome State Fault Refusal :=
  .next (match (s.store st.val).kv.find? (fun k => k.colony = c.val ∧ k.entry = entry.toNat) with
    | none => s
    | some k =>
      if !k.expect.isEmpty ∨ (s.store st.val).stb ≠ 2 then s
      else
        let d := (Tbl.get 0 (s.store st.val).kvDone c.val + 1) % 2 ^ 64
        let s1 := s.modStore st.val (fun x =>
          let a := kqEntry (x.kq c.val) k.entry
          let y := ((x.put64 (a + 40) (k.status * 2 ^ 56)).write (a + 64) k.mapBytes).put64 (x.kq c.val + 0x80) d
          { y with kvDone := Tbl.put 0 y.kvDone c.val d, kv := y.kv.erase k })
        if bit k.w4 31 then
          let r := s1.kvPort st.val k.target
          (r.2.modStore st.val (fun x => { x with nextTag := x.nextTag + 1 })).sendData
            (mkData 0x02 k.target r.1 (BitVec.ofNat 8 c.val) (s1.store st.val).epoch.epoch (fld k.w4 19 0) (s1.store st.val).nextTag
              [hiW k.w4, 0, 0])
        else s1)

end Sys2Proof.Machine
end

