-- ==== Sys2Proof/Machine/Router.lean ====
section
/-!
DEFINITION. The routers: the three tables, the lookup at every hop, holds and refusals, the router registers, the whole-comb reset
(R294–R319).
-/
namespace Sys2Proof.Machine

/-! ### The tables as a router holds them (R306–R309) -/

/-- The panel table entry of a panel number: once the keeper has written the tables, the own panel is VALID and SELF (R307). -/
def State.panelEntry (s : State) (i : Site) (n : Nat) : W64 :=
  let r := (s.comb i).router
  match Tbl.get none r.panelTbl n with
  | some w => w
  | none => if r.tablesUp && decide (n = s.swarmPanel.toNat) then 0xC000000000000000 else 0

/-- Is a site byte a comb's or a keeper's (R22)? -/
def siteByteOk (n : Nat) : Bool := decide (n < 0xE0 ∨ n = 0xF0 ∨ n = 0xF1)

/-- Does an exit code name something that exists at a comb (R308)? -/
def exitExists (i : Site) (x : Nat) : Bool :=
  decide (x ≤ 8) && (decide (x = 0 ∨ x ≥ 5) || (linkPeer i (exitLink x)).isSome || (decide (x = 1) && (keeperEdge i).isSome))

/-- An exit the keeper has chosen, made one that exists: express XN exists everywhere (log 12). -/
def safeExit (i : Site) (x : Nat) : Nat := if exitExists i (1 + x % 8) then 1 + x % 8 else 5

/-- The site table entry the keeper writes at start: LOCAL for the own site, a route for every other comb and keeper (R308, R310,
log 12). -/
def defaultSite (i : Site) (n : Nat) : W64 :=
  if !siteByteOk n then 0
  else if n = i.val then 0x4000000000000000
  else BitVec.ofNat 64 (2 ^ 62 + b2n (Config.dateline i.val n) * 2 ^ 60 + b2n (Config.altDateline i.val n) * 2 ^ 59
    + safeExit i (Config.altExit i.val n) * 16 + safeExit i (Config.exit_ i.val n))

/-- The site table entry of a site byte (R308). -/
def State.siteEntry (s : State) (i : Site) (n : Nat) : W64 :=
  let r := (s.comb i).router
  match Tbl.get none r.siteTbl n with
  | some w => w
  | none => if r.tablesUp then defaultSite i n else 0

/-- The local table entry of a fixed attachment, as RTR_DATA reads it (R309). -/
def fixedEntry (n : Nat) : W64 := BitVec.ofNat 64 (2 ^ 62 + fixedPhys n 0 / 12 * 16 + fixedPhys n 0 % 12)

/-- The local table entry of an endpoint: fixed attachments; cells as the site map places them, unless an entry was written; the rest
INVALID (R20, R309). Cells and samplers of a comb fenced at birth have none (R24). -/
def State.localEntry (s : State) (i : Site) (n : Nat) : W64 :=
  let c := s.comb i
  if n ≥ 0xBE then 0
  else if n ≥ 0xB0 then (if decide (n ≥ 0xBA) && decide (c.state ≠ 0) then 0 else fixedEntry n)
  else
    match Tbl.get none c.router.localTbl n with
    | some w => w
    | none =>
      if !c.router.tablesUp ∨ c.state = 1 then 0
      else
        match c.physOf n with
        | some p => BitVec.ofNat 64 (2 ^ 62 + frameOf p * 16 + posOf p)
        | none => 0

/-! ### The lookup (R306, R311) -/

/-- What a lookup says: refuse, hold (with the reason that ends the hold), go to a local attachment, leave by a link end (with the
dateline bit), leave the panel by an external lane. -/
inductive Look where
  | nack (reason : Nat)
  | hold (reason : Nat)
  | go (phys : Nat)
  | exit (link : Nat) (dl : Bool)
  | off (lane : Nat)
  deriving DecidableEq, Repr

/-- The lookup of a site byte at a router (R306). -/
def State.lookSite (s : State) (i : Site) (here : Nat) (n : Nat) (d : Eid) : Look :=
  let se := s.siteEntry i n
  let act := fld se 63 62
  if act = 0 ∨ act = 3 then .nack nkNoEndpoint
  else if act = 2 then .nack (fld se 15 8)
  else
    let alt := bit se 61
    let x := if alt then fld se 7 4 else fld se 3 0
    if x ≠ 0 then .exit (exitLink x) (bit se (if alt then 59 else 60))
    else
      let ep := fld d 7 0
      let le := s.localEntry i ep
      let a := fld le 63 62
      if a = 0 then .nack nkNoEndpoint
      else if a = 1 then .go (if ep ≥ 0xB0 then fixedPhys ep here else physNo (fld le 7 4) (fld le 3 0))
      else if a = 2 then .hold nkInReset
      else .nack (fld le 15 8)

/-- The lookup of a destination at a router of a comb (R306). -/
def State.look (s : State) (i : Site) (here : Nat) (d : Eid) : Look :=
  let pe := s.panelEntry i (fld d 23 16)
  if !bit pe 63 then .nack nkNoEndpoint
  else if bit pe 62 then s.lookSite i here (fld d 15 8) d
  else
    let site := if bit pe 61 then fld pe 23 16 else fld pe 7 0
    let lane := if bit pe 61 then fld pe 25 24 else fld pe 9 8
    if site = i.val then .off lane else s.lookSite i here site d

/-- Is a link end running: UP or DEGRADED (R362)? -/
def Link.isUp (l : Link) : Bool := decide (l.state = 3 ∨ l.state = 4)

/-- A link end of a comb. -/
def Comb.link (c : Comb) (i : Nat) : Link := Tbl.get c.linkInit c.links i

/-- What the router does with a header it has looked up: refuse, hold, move on die, cross a link by a channel, leave the panel. -/
inductive Hop where
  | nack (reason : Nat)
  | hold (reason : Nat)
  | move (site phys : Nat) (dl : Bool)
  | cross (link chan site phys : Nat) (dl : Bool)
  | leave (lane : Nat)
  deriving DecidableEq, Repr

/-- The channel of a link end by which a packet crosses from a router: the frame on an east or west edge; on a north or south edge the position,
with two channels at positions 4–7 chosen by destination bit 0 (R295); the one channel of a lane. -/
def crossChan (i ph : Nat) (d : Eid) : Nat :=
  let p := ph % 12
  if i = 1 ∨ i = 3 then ph / 12
  else if i = 0 ∨ i = 2 then (if p ≤ 3 then p else if p ≤ 7 then 4 + 2 * (p - 4) + fld d 0 0 else p + 4)
  else 0

/-- One hop: toward the attachment or the exit; across a running link; held while the exit's link is not UP, to be refused with LINK_DOWN
in the end (R296, R363); off the panel by a lane in swarm mode, LINK_DOWN where it is not or its link is down (R307); held while that lane retrains (R363). -/
def State.hopOf (s : State) (i : Site) (ph : Phys) (d : Eid) : Hop :=
  let c := s.comb i
  match s.look i ph.val d with
  | .nack r => .nack r
  | .hold r => .hold r
  | .go goal => .move i.val (nextRouter ph.val goal) false
  | .off lane =>
    let goal := portPhys (4 + lane)
    if ph.val ≠ goal then .move i.val (nextRouter ph.val goal) false
    else if s.octetMode (octetOf i) = 1 ∧ (c.link (8 + lane)).isUp then .leave lane
    else if s.octetMode (octetOf i) = 1 ∧ (c.link (8 + lane)).state = 2 then .hold nkLinkDown
    else .nack nkLinkDown
  | .exit l dl =>
    let goal := exitPhys i l ph.val
    if ph.val ≠ goal then .move i.val (nextRouter ph.val goal) false
    else
      match linkPeer i l with
      | some p =>
        if (c.link l).isUp then .cross l (crossChan l ph.val d) p.val (entryPhys p l (linkBack i l) ph.val) dl else .hold nkLinkDown
      | none =>
        match keeperEdge i with
        | some h => .move (0xF0 + h.code) 0 dl
        | none => .hold nkLinkDown

/-! ### Hops of packets in flight (R306, R311, R314) -/

/-- The first element of a list that passes a test, changed. -/
def modFirst {α : Type} (ok : α → Bool) (f : α → α) : List α → List α
  | [] => []
  | x :: t => if ok x then f x :: t else x :: modFirst ok f t

/-- Is a data packet in flight at a router, or about to be injected there? -/
def Flight.atRouter (i : Site) (ph : Phys) (p : DataPkt) (f : Flight) : Bool :=
  decide (f.pkt = p) && (f.at_.isNone || decide (f.at_ = some (i.val, ph.val)))

/-- The same of a control packet. -/
def CtlFlight.atRouter (i : Site) (ph : Phys) (p : CtlPkt) (f : CtlFlight) : Bool :=
  decide (f.pkt = p) && (f.at_.isNone || decide (f.at_ = some (i.val, ph.val)))

/-- The routers' own refusals carry the steward's endpoint as SRC (log 19). -/
def State.routerNackData (s : State) (i : Site) (p : DataPkt) (reason : Nat) : State :=
  ((s.takeData p).countNack i).nackData (s.eid i.val 0xB9) p reason

/-- A refused control packet; a NACK that cannot be delivered is discarded and counted (R314, R319). -/
def State.routerNackCtl (s : State) (i : Site) (p : CtlPkt) (reason : Nat) : State :=
  if p.cls = 0x05 then (s.takeCtl p).modRouter i (fun r => { r with unpaired := satInc r.unpaired })
  else ((s.takeCtl p).countNack i).nackCtl (s.eid i.val 0xB9) p reason

/-- The virtual channel of a packet (R312). -/
def vcOf (response high : Bool) : Nat := 2 * b2n response + b2n high

/-- Is a control class of the response class (R299)? -/
def ctlResponse (cls : Nat) : Bool := decide (cls = 4 ∨ cls = 5 ∨ (8 ≤ cls ∧ cls ≤ 0x17))

/-- May a header be sent by a channel: a credit is free, and fewer than 128 frames are unacknowledged (R313, R350)? -/
def Link.canSend (l : Link) (ch key : Nat) : Bool :=
  let c := Tbl.get Chan.reset l.chans ch
  decide (0 < Tbl.get 0 c.credits key) && decide (c.unacked.length < 128)

/-- Frames carry the flits or packets: credits are taken, and the replay buffer holds the frames (R313, R350, log 46). -/
def Link.send (l : Link) (ch key n : Nat) (flits : Nat) : Link :=
  let c := Tbl.get Chan.reset l.chans ch
  { l with chans := Tbl.put Chan.reset l.chans ch
            { c with
              credits := Tbl.put 0 c.credits key (Tbl.get 0 c.credits key - Int.ofNat flits),
              unacked := c.unacked ++ (List.range n).map (fun k => (c.txSeq + BitVec.ofNat 12 k, 1)),
              txSeq := c.txSeq + BitVec.ofNat 12 n } }

/-- The panel with a link end of a comb changed. -/
def State.modLink (s : State) (i : Site) (k : Nat) (f : Link → Link) : State :=
  s.modComb i (fun c => { c with links := Tbl.put c.linkInit c.links k (f (c.link k)) })

/-- A hop of a data packet that has arrived at a router. -/
def State.hopData (s : State) (i : Site) (ph : Phys) (p : DataPkt) : State :=
  let upd (s : State) (f : Flight → Flight) : State := { s with net := { s.net with bulk := modFirst (Flight.atRouter i ph p) f s.net.bulk } }
  match s.net.bulk.find? (Flight.atRouter i ph p) with
  | none => s
  | some fl =>
    if p.hcrc ≠ dataHcrc p then (s.takeData p).crcDiscard i.val
    else if p.gen ≠ 0 then s.routerNackData i p nkBadGen
    else
      let flits := p.lenM1.toNat + 2
      match s.hopOf i ph p.dst with
      | .nack r => s.routerNackData i p r
      | .hold _ => upd s (fun f => { f with at_ := some (i.val, ph.val), held := true })
      | .leave lane =>
        let key := vcOf (isResponse p.type.toNat) fl.high
        if !((s.comb i).link (8 + lane)).canSend 0 key then s
        else
          let s1 := (s.takeData p).modLink i (8 + lane) (fun l => l.send 0 key (cdiv flits 4) flits)
          { s1 with net := { s1.net with lane := s1.net.lane ++ [{ site := i.val, port := 4 + lane, pkt := .bulk p }] } }
      | .move si p2 dl => upd s (fun f => { f with at_ := some (si, p2), held := false, high := f.high || dl })
      | .cross l ch si p2 dl =>
        let key := vcOf (isResponse p.type.toNat) (fl.high || dl)
        if !((s.comb i).link l).canSend ch key then s
        else
          upd (s.modLink i l (fun x => x.send ch key (cdiv flits 4) flits))
            (fun f => { f with at_ := some (si, p2), held := false, high := f.high || dl })

/-- A hop of a control packet. -/
def State.hopCtl (s : State) (i : Site) (ph : Phys) (p : CtlPkt) : State :=
  let upd (s : State) (f : CtlFlight → CtlFlight) : State := { s with net := { s.net with ctl := modFirst (CtlFlight.atRouter i ph p) f s.net.ctl } }
  match s.net.ctl.find? (CtlFlight.atRouter i ph p) with
  | none => s
  | some fl =>
    if p.crc ≠ ctlCrc6 p then (s.takeCtl p).crcDiscard i.val
    else if p.gen ≠ 0 then s.routerNackCtl i p nkBadGen
    else
      match s.hopOf i ph p.dst with
      | .nack r => s.routerNackCtl i p r
      | .hold _ => upd s (fun f => { f with at_ := some (i.val, ph.val), held := true })
      | .leave lane =>
        let key := 4 + vcOf (ctlResponse p.cls.toNat) fl.high
        if !((s.comb i).link (8 + lane)).canSend 0 key then s
        else
          let s1 := (s.takeCtl p).modLink i (8 + lane) (fun l => l.send 0 key 1 1)
          { s1 with net := { s1.net with lane := s1.net.lane ++ [{ site := i.val, port := 4 + lane, pkt := .ctl p }] } }
      | .move si p2 dl => upd s (fun f => { f with at_ := some (si, p2), held := false, high := f.high || dl })
      | .cross l ch si p2 dl =>
        let key := 4 + vcOf (ctlResponse p.cls.toNat) (fl.high || dl)
        if !((s.comb i).link l).canSend ch key then s
        else
          upd (s.modLink i l (fun x => x.send ch key 1 1)) (fun f => { f with at_ := some (si, p2), held := false, high := f.high || dl })

/-- PACKET_HOP. -/
def execPacketHop (i : Site) (ph : Phys) (p : NetPkt) (s : State) : Host.Outcome State Fault Refusal :=
  .next (match p with
    | .bulk d => s.hopData i ph d
    | .ctl c => s.hopCtl i ph c)

/-- HOLD_EXPIRY: a packet held at a router whose hold has not ended is refused: TARGET_IN_RESET for a HOLD entry, LINK_DOWN for an exit
that is not UP (R311, R363). -/
def execHoldExpiry (i : Site) (ph : Phys) (p : NetPkt) (s : State) : Host.Outcome State Fault Refusal :=
  .next (match p with
    | .bulk d =>
      if s.net.bulk.any (fun f => f.atRouter i ph d && f.held) then
        match s.hopOf i ph d.dst with
        | .hold r => s.routerNackData i d r
        | _ => s.hopData i ph d
      else s
    | .ctl c =>
      if s.net.ctl.any (fun f => f.atRouter i ph c && f.held) then
        match s.hopOf i ph c.dst with
        | .hold r => s.routerNackCtl i c r
        | _ => s.hopCtl i ph c
      else s)

/-! ### Router registers (R308, R309, R319) -/

/-- RTR_STATUS; PENDING reads 0, since a broadcast is whole in its step (log 6). -/
def Router.statusReg (r : Router) : W64 := BitVec.ofNat 64 (b2n r.badWr)

/-- RTR_ADDR. -/
def Router.addrReg (r : Router) : W64 := BitVec.ofNat 64 (b2n r.autoInc * 2 ^ 63 + r.table.toNat * 256 + r.index.toNat)

/-- Sets RTR_STATUS.BAD_WR; its rise sends a record of corrected severity (R319). -/
def State.routerBadWr (s : State) (i : Site) : State :=
  if (s.comb i).router.badWr then s
  else
    let s1 := s.modRouter i (fun r => { r with badWr := true })
    s1.combErr i 0x0203 0 (s1.comb i).router.statusReg 0

/-- RTR_ADDR written: TABLE 3 is discarded. -/
def State.rtrAddrWrite (s : State) (i : Site) (v : W64) : State :=
  if fld v 9 8 = 3 then s.routerBadWr i
  else s.modRouter i (fun r => { r with autoInc := bit v 63, table := bits v 8 2, index := v.setWidth 8 })

/-- Advances INDEX where AUTOINC is set. -/
def Router.step (r : Router) : Router := if r.autoInc then { r with index := r.index + 1 } else r

/-- May a panel table entry be written: legal lanes and gateway sites (R307)? -/
def panelLegal (v : W64) : Bool := decide (fld v 7 0 < 0xE0 ∧ fld v 23 16 < 0xE0)

/-- May a site table entry be written at an index (R308)? -/
def siteLegal (i : Site) (n : Nat) (v : W64) : Bool :=
  decide (fld v 63 62 ≠ 3) && exitExists i (fld v 3 0) && exitExists i (fld v 7 4) &&
  (decide (n = i.val) || decide (fld v 63 62 ≠ 1 ∨ (fld v 3 0 ≠ 0 ∧ (fld v 7 4 ≠ 0 ∨ !bit v 61))))

/-- The masks of the fields of the three tables (R307–R309). -/
def panelMask : Nat := 0xE000000003FF03FF
def siteMask : Nat := 0xF80000000000FFFF
def localMask : Nat := 0xC00000000000FFFF

/-- RTR_DATA written: to every router of the comb (R319). -/
def State.rtrDataWrite (s : State) (i : Site) (v : W64) (keeper : Bool) : State :=
  let r := (s.comb i).router
  let n := r.index.toNat
  let s1 := s.modRouter i Router.step
  if r.table = 0 then
    if panelLegal v then s1.modRouter i (fun r => { r with panelTbl := Tbl.put none r.panelTbl n (some (keep v panelMask)) }) else s1.routerBadWr i
  else if r.table = 1 then
    if siteLegal i n v then s1.modRouter i (fun r => { r with siteTbl := Tbl.put none r.siteTbl n (some (keep v siteMask)) })
    else s1.routerBadWr i
  else if n ≥ 0xBE ∨ (0xB0 ≤ n ∧ n < 0xBE) then s1
  else if keeper then s1.routerBadWr i
  else s1.modRouter i (fun r => { r with localTbl := Tbl.put none r.localTbl n (some (keep v localMask)) })

/-- RTR_DATA read: the steward's copy (R319). -/
def State.rtrDataRead (s : State) (i : Site) : W64 × State :=
  let r := (s.comb i).router
  let n := r.index.toNat
  let v := if r.table = 0 then s.panelEntry i n else if r.table = 1 then s.siteEntry i n else s.localEntry i n
  (v, s.modRouter i Router.step)

/-- RTR_COUNTERS read: the counts clear. -/
def State.rtrCountersRead (s : State) (i : Site) : W64 × State :=
  ((s.comb i).router.counters, s.modRouter i (fun r => { r with crcDiscards := 0, nacksSent := 0, unpaired := 0 }))

/-- RTR_HOLD_LIMIT written. -/
def State.rtrHoldWrite (s : State) (i : Site) (v : W64) : State :=
  if fld v 15 0 = 0 then s.routerBadWr i else s.modRouter i (fun r => { r with holdLimit := v.setWidth 16 })

/-- A write of a router register (R319). -/
def State.routerRegWrite (s : State) (i : Site) (off : Nat) (v : W64) (keeper : Bool) : State :=
  if off = 0x8000 then s.rtrAddrWrite i v
  else if off = 0x8008 then s.rtrDataWrite i v keeper
  else if off = 0x8010 then s.modRouter i (fun r => { r with badWr := r.badWr && !bit v 0 })
  else if off = 0x8028 then s.rtrHoldWrite i v
  else s

/-- A read of a router register (R319). -/
def State.routerRegRead (s : State) (i : Site) (off : Nat) : W64 × State :=
  let r := (s.comb i).router
  if off = 0x8000 then (r.addrReg, s)
  else if off = 0x8008 then s.rtrDataRead i
  else if off = 0x8010 then (r.statusReg, s)
  else if off = 0x8018 then (r.drain.setWidth 64, s)
  else if off = 0x8020 then s.rtrCountersRead i
  else if off = 0x8028 then (r.holdLimit.setWidth 64, s)
  else (0, s)

/-- RTR_DATA_WRITE. -/
def execRtrDataWrite (i : Site) (v : W64) (keeper : Bool) (s : State) : Host.Outcome State Fault Refusal :=
  .next (s.rtrDataWrite i v keeper)

/-- RTR_COUNTERS_READ. -/
def execRtrCountersRead (i : Site) (s : State) : Host.Outcome State Fault Refusal := .next (s.rtrCountersRead i).2

end Sys2Proof.Machine
end

