-- ==== Sys2Proof/Machine/Shard.lean ====
section
/-!
DEFINITION. Shards on their way from a super: port-router fetches (R357–R359), chunk landing (R386) and the store-base transforms
(R262–R266).
-/
namespace Sys2Proof.Machine

/-! ### Transforms (R262–R265) -/

/-- A chunk header (R262). -/
structure ChunkHdr where
  raw : Nat
  rows : Nat
  sfmt : Nat
  flags : Nat
  cols : Nat
  spitch : Nat
  dpitch : Nat
  scaleOff : Nat
  scpitch : Nat
  outLines : Nat
  rsvd : Bool
  deriving DecidableEq, Repr

/-- A little-endian field of a byte string. -/
def leAt (bs : List Byte) (off n : Nat) : Nat := leBytes ((bs.drop off).take n)

/-- The header of a chunk. -/
def chunkHdr (b : List Byte) : ChunkHdr :=
  { raw := leAt b 0 4, rows := leAt b 4 2, sfmt := leAt b 6 1, flags := leAt b 7 1, cols := leAt b 8 4, spitch := leAt b 12 4,
    dpitch := leAt b 16 4, scaleOff := leAt b 20 4, scpitch := leAt b 24 4, outLines := leAt b 28 4,
    rsvd := ((b.drop 32).take 224).all (· == 0) }

/-- The operation of an XFORM: 0 COPY, 1 CONVERT, 2 CONVERT_T, 3 RAW (R263). -/
def xfOp (x : Byte) : Nat := fld x 5 4

/-- Elements of an output row, and output rows. -/
def outCols (x : Byte) (h : ChunkHdr) : Nat := if xfOp x = 2 then h.rows else h.cols
def outRows (x : Byte) (h : ChunkHdr) : Nat := if xfOp x = 2 then h.cols else h.rows

/-- Does a header keep R262 for its XFORM? -/
def hdrOk (x : Byte) (h : ChunkHdr) : Bool :=
  let f := fld x 3 0
  decide (1 ≤ h.raw ∧ h.raw ≤ 4194304) && decide (h.flags < 4) && h.rsvd &&
  (if xfOp x = 0 then decide (h.rows = 0 ∧ h.sfmt = 0 ∧ h.cols = 0 ∧ h.spitch = 0 ∧ h.dpitch = 0 ∧ h.scaleOff = 0 ∧ h.scpitch = 0)
   else
     decide (1 ≤ h.rows ∧ h.sfmt ≤ 2 ∧ h.cols * fmtBits h.sfmt ≤ 8 * h.spitch) &&
     (if isMx f then decide (h.scaleOff % 256 = 0 ∧ h.scpitch % 8 = 0) else decide (h.scaleOff = 0 ∧ h.scpitch = 0)))

/-- Do footprint and pitches keep R264? -/
def shapeOk (x : Byte) (h : ChunkHdr) : Bool :=
  let f := fld x 3 0
  let n := outCols x h
  let r := outRows x h
  let data := (r - 1) * h.dpitch + rowLines n f
  let scale := 4 * cdiv (cdiv n 32) 4
  decide (1 ≤ n ∧ 1 ≤ r) && decide ((h.rows - 1) * h.spitch + cdiv (h.cols * fmtBits h.sfmt) 8 ≤ h.raw) &&
  decide (rowLines n f ≤ h.dpitch ∧ data ≤ h.outLines) &&
  (!isMx f ||
    decide (n % 32 = 0 ∧ scale ≤ h.scpitch ∧ h.scaleOff + (r - 1) * h.scpitch + scale ≤ h.outLines * 256 ∧ data * 256 ≤ h.scaleOff))

/-- The source values of a conversion, row by row. -/
def sourceRows (h : ChunkHdr) (pay : List Byte) : List (List FV) :=
  (List.range h.rows).map (fun r =>
    (unpack (fmtBits h.sfmt) h.cols (leAt pay (r * h.spitch) (cdiv (h.cols * fmtBits h.sfmt) 8))).map (plainValue h.sfmt))

/-- Transposed rows. -/
def transposeVals (cols : Nat) (rows : List (List FV)) : List (List FV) :=
  (List.range cols).map (fun c => rows.map (fun r => nth FV.nan r c))

/-- A byte image of n bytes with pieces laid over it. -/
def layBytes (img : List Byte) (off : Nat) (bs : List Byte) : List Byte := img.take off ++ bs ++ img.drop (off + bs.length)

/-- Lays converted rows into an output image: codes at r × DPITCH lines, scales at SCALE_OFF + r × SCPITCH. -/
def layRows (f : Nat) (h : ChunkHdr) : Nat → List (List Nat × List Nat) → List Byte → List Byte
  | _, [], img => img
  | r, (codes, scales) :: t, img =>
    let w := fmtBits f
    let i1 := layBytes img (r * h.dpitch * 256) (toLe (cdiv (codes.length * w) 8) (packNat w codes))
    let i2 := if isMx f then layBytes i1 (h.scaleOff + r * h.scpitch) (scales.map (fun x => BitVec.ofNat 8 x)) else i1
    layRows f h (r + 1) t i2

/-- The output of a conversion: RNE, the SAT flag for unblocked formats, SRULE for MX (R264). -/
def convertOut (x : Byte) (h : ChunkHdr) (pay : List Byte) : List Byte :=
  let f := fld x 3 0
  let src := sourceRows h pay
  let rows := if xfOp x = 2 then transposeVals h.cols src else src
  let k : Conv := { fmt := f, mode := 0, sat := h.flags / 2 % 2 == 1, srule := h.flags % 2 == 1, factor := FV.one }
  let out := (Ar.convRows k (rows.map (fun r => r.map (fun v => (0, v)))) (Ar.start [] 0)).1
  layRows f h 0 out (List.replicate (h.outLines * 256) 0)

/-- The payload of a chunk after decompression, or the cause it fails with (R262, R264, R265): 2 FRAME, 3 SIZE, 5 CHECKSUM. -/
def chunkPayload (x : Byte) (h : ChunkHdr) (b : List Byte) : Except Nat (List Byte) :=
  let body := b.drop 256
  if fld x 7 6 = 0 then
    if h.raw > body.length then .error 3
    else if !(body.drop h.raw).all (· == 0) then .error 3
    else .ok (body.take h.raw)
  else
    match Config.zstd body with
    | none => .error 2
    | some (n, c) =>
      if !(body.drop n).all (· == 0) then .error 2
      else if c.length ≠ h.raw then .error 3
      else if !Config.zstdChecksum body then .error 5
      else .ok c

/-- A chunk's output bytes, or the cause of R386 it fails with: 1 HEADER, 2 FRAME, 3 SIZE, 4 SHAPE, 5 CHECKSUM, 6 DEST_RANGE, 8 OUT_LINES.
`inRange` says whether the output range lies inside one extent. -/
def transform (x : Byte) (outLines : Nat) (inRange : Bool) (b : List Byte) : Except Nat (List Byte) :=
  let h := chunkHdr b
  if !hdrOk x h then .error 1
  else if h.outLines ≠ outLines then .error 8
  else if !inRange then .error 6
  else
    match chunkPayload x h b with
    | .error e => .error e
    | .ok pay =>
      if xfOp x = 0 then if h.raw ≠ h.outLines * 256 then .error 3 else .ok pay
      else if !shapeOk x h then .error 4
      else .ok (convertOut x h pay)

/-! ### Landing (R386) -/

/-- Does one enabled extent of a store hold a byte range? -/
def Store.inExtent (x : Store) (a n : Nat) : Bool := (List.range 64).any (fun c => x.owns c a n)

/-- Is a chunk RAW (R264)? -/
def Chunk.raw (c : Chunk) : Bool := xfOp c.xform == 3

/-- Bytes that a chunk writes from SADDR. -/
def Chunk.outBytes (c : Chunk) : Nat := if c.raw then c.lines * 256 else c.outLines * 256

/-- A chunk fails: STB_XF_ERR, XF, SHARD_DONE TRANSFORM. -/
def State.chunkFail (s : State) (n : Nat) (c : Chunk) (cause : Nat) : State :=
  ((s.modStore n (fun x => { x with xfErr := BitVec.ofNat 64 (cause * 2 ^ 56 + c.saddr / 256 * 256) })).setStbErr n sbXf).shardDone n c 1

/-- The chunk of a packet: by its sender and RID. -/
def Store.chunk (x : Store) (src : Eid) (rid : Nat) : Option Chunk := x.chunks.find? (fun c => c.router = src ∧ c.rid = rid)

/-- Is an endpoint a port router of external lanes, 0xB4–0xB7? -/
def isLanePort (e : Eid) : Bool := decide (0xB4 ≤ fld e 7 0 ∧ fld e 7 0 ≤ 0xB7)

/-- SHARD_OPEN: from a port router only; while 8 chunks are open it waits (R266, R386). -/
def execShardOpen (st : StoreId) (p : DataPkt) (s : State) : Host.Outcome State Fault Refusal :=
  let b := (p.payload.flatMap wordBytes)
  .next (if p.type ≠ 0x0A ∨ (s.store st.val).chunks.length ≥ 8 then s
    else s.atStore st.val p (fun ep s =>
      if !isLanePort p.src then s.nackData ep p nkNotPermitted
      else
        let c : Chunk :=
          { rid := leAt b 6 1 % 64, router := p.src, saddr := leAt b 0 5, xform := BitVec.ofNat 8 (leAt b 5 1), lines := leAt b 7 2 + 1,
            src := BitVec.ofNat 24 (leAt b 9 3), tag := BitVec.ofNat 16 (leAt b 12 2), outLines := leAt b 14 2, got := [], dup := false }
        (s.modStore st.val (fun x => { x with chunks := x.chunks ++ [c] })).ackData ep p))

/-- The lines of a packet, numbered from an index. -/
def linesFrom (i : Nat) : Nat → List W32 → List (Nat × List W32)
  | 0, _ => []
  | k + 1, ws => if ws.isEmpty then [] else (i, ws.take 64) :: linesFrom (i + 1) k (ws.drop 64)

/-- One line of a chunk: noted, and for RAW written unchanged where its output range is the extent's. -/
def State.shardLine (s : State) (n : Nat) (src : Eid) (rid : Nat) (l : Nat × List W32) : State :=
  match (s.store n).chunk src rid with
  | none => s
  | some c =>
    let had := (c.got.get [] l.1) ≠ []
    let c1 : Chunk := { c with got := c.got.put [] l.1 (if c.raw then [0] else l.2), dup := c.dup || decide had || decide (l.1 ≥ c.lines) }
    let s1 := s.modStore n (fun x => { x with chunks := x.chunks.map (fun y => if y = c then c1 else y) })
    if c.raw ∧ l.1 < c.lines ∧ (s.store n).inExtent c.saddr c.outBytes then
      s1.modStore n (fun x => x.write (c.saddr + 256 * l.1) (l.2.flatMap wordBytes))
    else s1

/-- SHARD_DATA: RID in ADDR [17:12], first line in [11:0]. A packet of no open chunk changes nothing (log 18). -/
def execShardData (st : StoreId) (p : DataPkt) (s : State) : Host.Outcome State Fault Refusal :=
  .next (if p.type ≠ 0x0B then s else s.atStore st.val p (fun _ s =>
    (linesFrom (fld p.addr 11 0) 16 p.payload).foldl (fun s l => s.shardLine st.val p.src (fld p.addr 17 12) l) s))

/-- The end of a chunk whose lines are all there. -/
def State.landChunk (s : State) (n : Nat) (c : Chunk) : State :=
  let x := s.store n
  let inR := x.inExtent c.saddr c.outBytes
  if c.raw then if inR then s.shardDone n c 0 else s.chunkFail n c 6
  else
    match transform c.xform c.outLines inR ((List.range c.lines).flatMap (fun i => (c.got.get [] i).flatMap wordBytes)) with
    | .error e => s.chunkFail n c e
    | .ok out => (s.modStore n (fun x => x.write c.saddr out)).shardDone n c 0

/-- SHARD_END: RID in byte 0 and the FETCH_END status in byte 1. -/
def execShardEnd (st : StoreId) (p : DataPkt) (s : State) : Host.Outcome State Fault Refusal :=
  .next (if p.type ≠ 0x0C then s else s.atStore st.val p (fun _ s =>
    match (s.store st.val).chunk p.src (fld (plWord p 0) 5 0) with
    | none => s
    | some c =>
      let s1 := s.modStore st.val (fun x => { x with chunks := x.chunks.erase c })
      if fld (plWord p 0) 15 8 ≠ 0 then s1.shardDone st.val c 2
      else if c.dup ∨ c.got.length ≠ c.lines then s1.chunkFail st.val c 7
      else s1.landChunk st.val c))

/-! ### Port routers (R356–R359) -/

/-- A port router of a comb. -/
def Comb.port (c : Comb) (pr : Nat) : PortRouter := Tbl.get PortRouter.reset c.ports pr

/-- The panel with a port router changed. -/
def State.modPort (s : State) (i : Site) (pr : Nat) (f : PortRouter → PortRouter) : State :=
  s.modComb i (fun c => { c with ports := Tbl.put PortRouter.reset c.ports pr (f (c.port pr)) })

/-- The endpoint of a port router. -/
def State.portEid (s : State) (i : Site) (pr : Nat) : Eid := s.eid i.val (0xB0 + pr)

/-- The epoch of a port router. -/
def State.portEpoch (s : State) (i : Site) (pr : Nat) : Nat := s.epochOf i.val (0xB0 + pr)

/-- Does a port router carry super lanes: PR4–PR7 of an octet in super mode (R27, R346)? -/
def State.superPort (s : State) (i : Site) (pr : Nat) : Bool := decide (pr ≥ 4) && decide (s.octetMode (octetOf i) = 2)

/-- The link of an external lane's port router: links 8–11 (R371). -/
def laneLink (pr : Nat) : Nat := pr + 4

/-- A request id for a new fetch: the lowest that is neither open nor kept back; with none, the one kept back longest (R358, log 33). -/
def PortRouter.newRid (p : PortRouter) : Option Nat :=
  match (List.range 64).find? (fun r => !(p.fetches.any (fun f => f.rid = r)) && !p.quarantined.contains r) with
  | some r => some r
  | none => p.quarantined.head?

/-- Puts a packet on an external lane. -/
def State.sendLane (s : State) (i : Site) (pr : Nat) (p : DataPkt) : State :=
  let s1 := s.modLink i (laneLink pr) (fun l => l.send 0 (vcOf (isResponse p.type.toNat) false) (cdiv (p.lenM1.toNat + 2) 4) (p.lenM1.toNat + 2))
  { s1 with net := { s1.net with lane := s1.net.lane ++ [{ site := i.val, port := pr, pkt := .bulk p }] } }

/-- Does a FETCH_REQ keep its zero fields (R357)? -/
def fetchReqOk (b : List Byte) : Bool :=
  decide (leAt b 6 2 < 4096) && decide (leAt b 13 1 = 0) && ((b.drop 25).take 39).all (· == 0) && xformOk (leAt b 5 1)

/-- FETCH_REQ: a requester's packet reaches a port router, which opens the landing at the store base and asks the super (R357, R358). A
port that is not in super mode refuses it with MODE_MISMATCH, one whose lane is down with LINK_DOWN. With no request id free it waits. -/
def execFetchReq (i : Site) (pr : Fin 8) (p : DataPkt) (s : State) : Host.Outcome State Fault Refusal :=
  let b := p.payload.flatMap wordBytes
  let ep := s.portEid i pr.val
  .next (if p.type ≠ 0x18 ∨ p.dst ≠ ep ∨ ((s.comb i).port pr.val).newRid = none then s
    else s.arriveData i.val (0xB0 + pr.val) p (fun s =>
      if !s.superPort i pr.val then s.nackData ep p nkMode
      else if !((s.comb i).link (laneLink pr.val)).isUp then s.nackData ep p nkLinkDown
      else if !fetchReqOk b then s.nackData ep p nkBadPacket
      else
        match ((s.comb i).port pr.val).newRid with
        | none => s
        | some rid =>
          let f : Fetch :=
            { rid := rid, src := p.src, tag := p.tag, object := leAt b 0 5, xform := BitVec.ofNat 8 (leAt b 5 1), lines := leAt b 6 2 + 1,
              offset := leAt b 8 5, dest := BitVec.ofNat 24 (leAt b 14 3), store := leAt b 17 1, saddr := leAt b 18 5,
              outLines := leAt b 23 2, opened := false, seen := [], waiting := [], dup := false, ended := none }
          let s1 := s.modPort i pr.val (fun x => { x with fetches := x.fetches ++ [f], quarantined := x.quarantined.erase rid })
          let s2 := s1.sendLane i pr.val
            (mkData 0x18 0 ep 0xFF (s1.portEpoch i pr.val) 0 (BitVec.ofNat 16 rid) (wordsOfBytes (b.take 14)))
          let words := wordsOfBytes (toLe 5 f.saddr ++ [f.xform] ++ toLe 1 rid ++ toLe 2 (f.lines - 1) ++ toLe 3 f.src.toNat ++
            toLe 2 f.tag.toNat ++ toLe 2 f.outLines)
          s2.sendData (mkData 0x0A f.dest ep 0xFF (s2.portEpoch i pr.val) 0 (BitVec.ofNat 16 rid) words)))

/-- Forwards a run of lines to the store base as SHARD_DATA (R358). -/
def State.forward (s : State) (i : Site) (pr : Nat) (f : Fetch) (d : Nat × List W32) : State :=
  s.sendData (mkData 0x0B f.dest (s.portEid i pr) 0xFF (s.portEpoch i pr) (f.rid * 4096 + d.1) (BitVec.ofNat 16 f.rid) d.2)

/-- Ends a fetch at the store base with a status. -/
def State.endFetch (s : State) (i : Site) (pr : Nat) (f : Fetch) (status : Nat) : State :=
  (s.modPort i pr (fun x => { x with fetches := x.fetches.erase f })).sendData
    (mkData 0x0C f.dest (s.portEid i pr) 0xFF (s.portEpoch i pr) 0 (BitVec.ofNat 16 f.rid) [BitVec.ofNat 32 (f.rid + 256 * status)])

/-- What a fetch that has its FETCH_END and its landing opened ends with: a missing or doubled line fails it with status 4 (R358). -/
def Fetch.finish (f : Fetch) (status : Nat) : Nat := if status ≠ 0 then status else if f.dup ∨ f.seen.length ≠ f.lines then 4 else 0

/-- The fetch of a port router with a request id. -/
def PortRouter.fetch (p : PortRouter) (rid : Nat) : Option Fetch := p.fetches.find? (fun f => f.rid = rid)

/-- The panel with a fetch replaced. -/
def State.setFetch (s : State) (i : Site) (pr : Nat) (f g : Fetch) : State :=
  s.modPort i pr (fun x => { x with fetches := x.fetches.map (fun y => if y = f then g else y) })

/-- The store base has acknowledged SHARD_OPEN: what waited is forwarded, and a fetch that has ended ends there. -/
def State.portAck (s : State) (i : Site) (pr rid : Nat) : State :=
  match ((s.comb i).port pr).fetch rid with
  | none => s
  | some f =>
    let g : Fetch := { f with opened := true, waiting := [] }
    let s1 := f.waiting.foldl (fun s d => s.forward i pr f d) (s.setFetch i pr f g)
    match f.ended with
    | some st => s1.endFetch i pr g (g.finish st)
    | none => s1

/-- The store base has refused SHARD_OPEN: the fetch is dropped, and the requester's FETCH_REQ is answered with the reason (log 33). -/
def State.portNack (s : State) (i : Site) (pr rid reason : Nat) : State :=
  match ((s.comb i).port pr).fetch rid with
  | none => s
  | some f =>
    (s.modPort i pr (fun x => { x with fetches := x.fetches.erase f, quarantined := x.quarantined ++ [f.rid] })).sendCtl
      (mkCtl 0x05 f.src (s.portEid i pr) (BitVec.ofNat 64 (f.tag.toNat * 2 ^ 32 + 0x18 * 256 + reason)))

/-- Is a packet from a super good: its header code, generation, type and shape (R304, R359)? -/
def superOk (p : DataPkt) : Bool :=
  decide (p.hcrc = dataHcrc p ∧ p.gen = 0) && !p.badPayload &&
  (if p.type = 0x19 then decide (p.addr.toNat < 4096 ∧ (p.lenM1.toNat + 1) % 4 = 0) else decide (p.lenM1 = 0))

/-- FETCH_DATA: lines arrive from the super and go on to the store base, once it has acknowledged SHARD_OPEN. A packet that fails a check
is counted and discarded; one of no open fetch is discarded. -/
def execFetchData (i : Site) (pr : Fin 8) (p : DataPkt) (s : State) : Host.Outcome State Fault Refusal :=
  .next (if p.type ≠ 0x19 ∨ !s.superPort i pr.val ∨ !((s.comb i).link (laneLink pr.val)).isUp then s
    else if !superOk p then s.crcDiscard i.val
    else
      match ((s.comb i).port pr.val).fetch p.tag.toNat with
      | none => s
      | some f =>
        let idx := (List.range (p.payload.length / 64)).map (p.addr.toNat + ·)
        let g : Fetch :=
          { f with seen := f.seen ++ idx, dup := f.dup || idx.any (fun k => f.seen.contains k || decide (k ≥ f.lines)),
                   waiting := if f.opened then f.waiting else f.waiting ++ [(p.addr.toNat, p.payload)] }
        let s1 := s.setFetch i pr.val f g
        if f.opened then s1.forward i pr.val g (p.addr.toNat, p.payload) else s1)

/-- FETCH_END: the super's status; the end goes to the store base (R358). -/
def execFetchEnd (i : Site) (pr : Fin 8) (p : DataPkt) (s : State) : Host.Outcome State Fault Refusal :=
  .next (if p.type ≠ 0x1A ∨ !s.superPort i pr.val ∨ !((s.comb i).link (laneLink pr.val)).isUp then s
    else if !superOk p then s.crcDiscard i.val
    else
      match ((s.comb i).port pr.val).fetch p.tag.toNat with
      | none => s
      | some f =>
        let st := fld (plWord p 0) 7 0
        if f.opened then s.endFetch i pr.val f (f.finish st) else s.setFetch i pr.val f { f with ended := some st })

/-- FETCH_NO_PROGRESS: 2 ms without progress end the fetch, and its request id is kept back (R358). -/
def execFetchNoProgress (i : Site) (pr : Fin 8) (rid : Fin 64) (s : State) : Host.Outcome State Fault Refusal :=
  .next (match ((s.comb i).port pr.val).fetch rid.val with
    | none => s
    | some f => (s.endFetch i pr.val f 4).modPort i pr.val (fun x => { x with quarantined := x.quarantined ++ [rid.val] }))

end Sys2Proof.Machine
end

