-- ==== Sys2Proof/Machine/Answers.lean ====
section
/-!
DEFINITION. ACK and NACK at whatever asked: a core, a store base, a port router (R302, R314).
-/
namespace Sys2Proof.Machine

/-- A control packet arrives at a store port of the pair. -/
def State.ctlAtStore (s : State) (n : Nat) (p : CtlPkt) (body : State → State) : State :=
  let site := fld p.dst 15 8
  if p.dst ≠ s.eid site 0xB8 ∨ pairHas n site = false ∨ (s.store n).stb = 0 then s else s.arriveCtl site 0xB8 p body

/-- A control packet arrives at a port router. -/
def State.ctlAtPort (s : State) (i : Site) (pr : Nat) (p : CtlPkt) (body : State → State) : State :=
  if p.dst ≠ s.eid i.val (0xB0 + pr) then s else s.arriveCtl i.val (0xB0 + pr) p body

/-- ACK_PACKET: a write is acknowledged. Nothing waits for one at a sampler. -/
def execAckPacket (u : RegUnit) (p : CtlPkt) (s : State) : Host.Outcome State Fault Refusal :=
  .next (if p.cls ≠ 0x04 || s.voicePort u then s
    else
      match u with
      | .core i => s.coreAck i p
      | .store st => s.ctlAtStore st.val p (fun s => s.kvAck st.val (bits p.payload 0 16))
      | .port i pr => s.ctlAtPort i pr.val p (fun s => s.portAck i pr.val (fld p.payload 15 0))
      | .sampler _ _ => s)

/-- NACK_PACKET: a request is refused. -/
def execNackPacket (u : RegUnit) (p : CtlPkt) (s : State) : Host.Outcome State Fault Refusal :=
  .next (if p.cls ≠ 0x05 || s.voicePort u then s
    else
      match u with
      | .core i => s.coreNack i p
      | .store st => s.ctlAtStore st.val p (fun s => s.kvNack st.val (bits p.payload 32 16))
      | .port i pr => s.ctlAtPort i pr.val p (fun s => s.portNack i pr.val (fld p.payload 47 32) (fld p.payload 7 0))
      | .sampler _ _ => s)

end Sys2Proof.Machine
end

