-- ==== Sys2Proof/Machine/CellCtl.lean ====
section
/-!
DEFINITION. Waking a site (R422, R425), and the reset, quiesce and resume of a cell: TSK_CELL_CTRL (R57, R58, R62, R453).
-/
namespace Sys2Proof.Machine

/-- PST_SITE.STATE of a site, set. -/
def State.setSite (s : State) (c : CellAt) (n : Nat) : State :=
  s.modComb c.site (fun k => { k with pw := { k.pw with siteState := Tbl.put 5 k.pw.siteState c.phys.val n } })

/-- What a cell reset leaves (R57): the colony, the clock generator's settings and lock; READY is 1. Counters of the generator return to
zero, and the TAG counter of the network interface runs on (log 5). -/
def Cell.afterReset (x : Cell) : Cell :=
  { Cell.powerUp with
    colony := x.colony, inReset := false, ready := true,
    core := { Core.reset with nextTag := x.core.nextTag },
    clk := { CellClk.reset with target := x.clk.target, code := x.clk.code, locked := x.clk.locked, changing := x.clk.changing,
                                goal := x.clk.goal, second := x.clk.second, thresh := x.clk.thresh } }

/-- The waits of a cell's tasks are looked at again, once its clock runs (R58, R112). -/
def State.recheckWaits (s : State) (c : CellAt) : State :=
  (tasksOf (.cell c.site c.phys)).foldl (fun s a => (s.evalWaitw a).evalTwait a) s

/-- Dawn (R422): the site comes to Noon; from Small Hours or Dark its cell comes up as after a reset, with its generator locked. -/
def State.dawn (s : State) (c : CellAt) : State :=
  let st := (s.comb c.site).siteSt c.phys
  let s1 := s.setSite c 0
  if st = 0 then s
  else if st ≥ 4 then
    s1.modCell c (fun x => let y := x.afterReset; { y with clk := { y.clk with locked := true, changing := false } })
  else (s1.modCell c (fun x => { x with clk := { x.clk with locked := true } })).recheckWaits c

/-- A control access wakes a site in Dusk, Night or Midnight (R425). -/
def State.accessWake (s : State) (c : CellAt) : State :=
  if (s.comb c.site).siteSt c.phys ≤ 3 then s.dawn c else s

/-- Does a control access reach the registers of the site's cell: powered and not in Small Hours or Dark (R425)? -/
def State.cellReach (s : State) (c : CellAt) : Bool := decide ((s.comb c.site).siteSt c.phys ≤ 3)

/-- R57 as a whole: the lines in the elastic buffers are refused, then the cell stands as after a reset. While the clock is stopped for a
change, the reset waits for the clock (R453). -/
def State.cellReset (s : State) (c : CellAt) : State :=
  if (s.cell c).clk.changing then s.modCell c (fun x => { x with clk := { x.clk with resetAfter := true } })
  else
    let lines := (s.cell c).elastic
    (lines.foldl (fun s l => s.nbrAnswer c.site l.2 nkInReset) s).modCell c Cell.afterReset

/-- A pending narrow access completes: the load's register is written, and a STOP that waited for it acts (R95, R120). -/
def State.landLoad (s : State) (a : At) : State :=
  match (s.task a).load with
  | none => s
  | some (rd, v) =>
    let s1 := s.modTask a (fun t => { (t.set rd v) with load := none })
    if (s.task a).stopReq then (s1.modTask a (fun t => { t with stopReq := false, st := .stopping })).settleStop a else s1

/-- R58 as a whole: pending narrow accesses complete, the units stop where they are, QUIESCED is set. -/
def State.quiesce (s : State) (c : CellAt) : State :=
  if (s.cell c).quiesced then s
  else
    ((tasksOf (.cell c.site c.phys)).foldl State.landLoad s).modCell c (fun x =>
      { x with quiesced := true, quiescing := false, mxe := { x.mxe with parked := true }, vxe := { x.vxe with parked := true },
               core := { x.core with mov0 := { x.core.mov0 with parked := true }, mov1 := { x.core.mov1 with parked := true } } })

/-- RESUME (R58): everything continues where it stopped, and the elastic buffers' lines are delivered in order. While the clock is stopped
for a change, the resume waits for the clock (R453). -/
def State.resume (s : State) (c : CellAt) : State :=
  let x := s.cell c
  if !x.quiesced then s
  else if x.clk.changing then s.modCell c (fun x => { x with clk := { x.clk with resumeAfter := true } })
  else
    let s1 := s.modCell c (fun x =>
      { x with quiesced := false, elastic := [], mxe := { x.mxe with parked := false }, vxe := { x.vxe with parked := false },
               core := { x.core with mov0 := { x.core.mov0 with parked := false }, mov1 := { x.core.mov1 with parked := false } } })
    (x.elastic.foldl (fun s l => s.nbrDeliver c l.2) s1).recheckWaits c

/-- A control write of TSK_CELL_CTRL (R62): RESET wins; QUIESCE with RESUME is discarded with BAD_WR. -/
def State.cellCtrl (s : State) (c : CellAt) (v : W64) : State :=
  if bit v 0 then s.cellReset c
  else if bit v 1 && bit v 2 then s.setCellErr c errBadWr
  else if bit v 1 then s.quiesce c
  else if bit v 2 then s.resume c
  else s

/-- A write of TSK_CELL_CTRL arrives: it wakes a sleeping site; one in Small Hours or Dark refuses it (R425). A cell in reset takes RESET
alone. -/
def State.cellCtrlAccess (s : State) (c : CellAt) (v : W64) : State :=
  if !s.cellReach c then s
  else if (s.cell c).inReset && !bit v 0 then s
  else (s.accessWake c).cellCtrl c v

/-- CELL_RESET: a write of TSK_CELL_CTRL whose RESET bit is set. -/
def execCellReset (c : CellAt) (v : W64) (s : State) : Host.Outcome State Fault Refusal :=
  .next (if bit v 0 then s.cellCtrlAccess c v else s)

/-- QUIESCE: a write of TSK_CELL_CTRL whose QUIESCE bit is set. -/
def execQuiesce (c : CellAt) (v : W64) (s : State) : Host.Outcome State Fault Refusal :=
  .next (if bit v 1 then s.cellCtrlAccess c v else s)

/-- RESUME: a write of TSK_CELL_CTRL whose RESUME bit is set. -/
def execResume (c : CellAt) (v : W64) (s : State) : Host.Outcome State Fault Refusal :=
  .next (if bit v 2 then s.cellCtrlAccess c v else s)

end Sys2Proof.Machine
end

