-- ==== Sys2Proof/Machine/Freq.lean ====
section
/-!
DEFINITION. Frequency codes: CAP, FMAX, RUN, the voltage of a frame, and the change of RUN (R427, R428, R440, R448, R449, R453, R455).
-/
namespace Sys2Proof.Machine

/-- The panel with a comb's power and clock registers changed. -/
def State.modPw (s : State) (i : Site) (f : CombPower → CombPower) : State := s.modComb i (fun c => { c with pw := f c.pw })

/-- The codes of a site (R440). FMAX of an uncharacterised site is 8, the least an enabled site has (R428, log 4). -/
def CombPower.runOf (w : CombPower) (p : Nat) : Nat := Tbl.get 8 w.run p
def CombPower.capOf (w : CombPower) (p : Nat) : Nat := Tbl.get 8 w.cap p
def CombPower.fmaxOf (w : CombPower) (p : Nat) : Nat := Tbl.get 8 w.fmax p

/-- Is a site overdue for characterisation: CHAR_AGE above 4 hours (R428)? -/
def CombPower.overdue (w : CombPower) (p : Nat) : Bool := decide (Tbl.get 0 w.charAge p > 14400)

/-- The highest code a site may run at: min(CAP, FMAX), what a derated REG_L allows, and 8 while overdue (R409, R427, R428). -/
def CombPower.topOf (w : CombPower) (p : Nat) : Nat :=
  let t := min (min (w.capOf p) (w.fmaxOf p)) (Tbl.get 16 w.fit (p / 12))
  if w.overdue p then min t 8 else t

/-- The code asked for of a site: that of a change in progress, else RUN. -/
def CombPower.wanted (w : CombPower) (p : Nat) : Nat := (Tbl.get none w.runChange p).getD (w.runOf p)

/-- V(n) in millivolts (R448). -/
def voltOf (n : Nat) : Nat := 600 + cdiv (75 * n) 4

/-- A regulator of a comb: 3f REG_T, 3f + 1 REG_L, 3f + 2 REG_A of frame f, 48 REG_C (R406). -/
def CombPower.reg (w : CombPower) (r : Nat) : Regul := Tbl.get Regul.reset w.regs r

/-- The panel with a regulator changed. -/
def State.modReg (s : State) (i : Site) (r : Nat) (f : Regul → Regul) : State :=
  s.modPw i (fun w => { w with regs := Tbl.put Regul.reset w.regs r (f (w.reg r)) })

/-- The physical sites of a frame. -/
def frameSites (f : Nat) : List Phys := (List.finRange 192).filter (fun p => frameOf p = f)

/-- Does a site count for its frame's voltage: it holds a logical cell, or is under guard patrol test (R448)? -/
def Comb.counts (k : Comb) (p : Phys) : Bool :=
  k.logicalOf p != 0xFF || decide ((Tbl.get Guard.reset k.guards (frameOf p)).testPos.toNat = posOf p)

/-- VSET_f with some sites at other codes than RUN (R448). -/
def Comb.frameVolt (k : Comb) (f : Nat) (code : Phys → Nat) : Nat :=
  ((frameSites f).filter k.counts).foldl (fun a p => max a (voltOf (code p))) 600

/-- Step 3 of R449, and a write of TSK_CLK_CTRL with GO: the clock stops and the generator locks anew; in Night and deeper the code is
stored; while CHANGING the new TARGET waits (R453). -/
def State.clockGo (s : State) (c : CellAt) (b : Nat) : State :=
  let t := BitVec.ofNat 5 b
  if (s.comb c.site).siteSt c.phys ≥ 2 then
    (s.modCell c (fun x => { x with clk := { x.clk with target := t, code := t } })).modPw c.site (fun w =>
      { w with run := Tbl.put 8 w.run c.phys.val b, runChange := Tbl.put none w.runChange c.phys.val none })
  else
    s.modCell c (fun x =>
      if x.clk.changing then { x with clk := { x.clk with target := t, second := some t } }
      else { x with clk := { x.clk with target := t, goal := t, changing := true, locked := false } })

/-- The next change of a frame, when none has stopped a clock: step 1 writes a higher VSET, step 2 waits for VOUT, step 3 stops the
clock. -/
def State.advanceFrame (i : Site) (f : Nat) : Nat → State → State
  | 0, s => s
  | k + 1, s =>
    if (frameSites f).any (fun p => (s.cell ⟨i, p⟩).clk.changing) then s
    else
      match (frameSites f).find? (fun p => (Tbl.get none (s.comb i).pw.runChange p.val).isSome) with
      | none => s
      | some p =>
        let w := (s.comb i).pw
        let b := w.wanted p.val
        let need := (s.comb i).frameVolt f (fun q => if q = p then b else w.runOf q.val)
        let r := w.reg (3 * f + 1)
        if b > w.runOf p.val ∧ need > r.vset.toNat then s.modReg i (3 * f + 1) (fun r => { r with vset := BitVec.ofNat 16 need })
        else if b > w.runOf p.val ∧ need > r.vout.toNat + 5 then s
        else State.advanceFrame i f k (s.clockGo ⟨i, p⟩ b)

/-- The steward decides to change RUN of a site (R449); the changes of one frame follow one another. -/
def State.askRun (s : State) (c : CellAt) (b : Nat) : State :=
  let w := (s.comb c.site).pw
  if b = w.wanted c.phys.val then s
  else
    State.advanceFrame c.site (frameOf c.phys) 13
      (s.modPw c.site (fun w => { w with runChange := Tbl.put none w.runChange c.phys.val (if b = w.runOf c.phys.val then none else some b) }))

/-- RUN follows min(CAP, FMAX) (R427). -/
def State.retune (s : State) (c : CellAt) : State := s.askRun c ((s.comb c.site).pw.topOf c.phys.val)

/-- CAP of a site is set, and RUN follows. -/
def State.setCap (s : State) (c : CellAt) (n : Nat) : State :=
  (s.modPw c.site (fun w => { w with cap := Tbl.put 8 w.cap c.phys.val n })).retune c

/-- Step 4 of R449: the generator has locked; the clock resumes, RUN is the new code, and what waited for the clock happens (R453). -/
def State.clockLocked (s : State) (c : CellAt) : State :=
  let x := s.cell c
  let k := x.clk
  let s1 := s.modCell c (fun x => { x with clk :=
    { k with code := k.goal, locked := true, changing := false, relocks := satInc k.relocks, second := none,
             resetAfter := false, resumeAfter := false } })
  let s2 := s1.modPw c.site (fun w =>
    { w with run := Tbl.put 8 w.run c.phys.val k.goal.toNat,
             runChange := if w.wanted c.phys.val = k.goal.toNat then Tbl.put none w.runChange c.phys.val none else w.runChange })
  match k.second with
  | some b =>
    (s2.clockGo c b.toNat).modCell c (fun x => { x with clk := { x.clk with resetAfter := k.resetAfter, resumeAfter := k.resumeAfter } })
  | none =>
    let s3 := if k.resetAfter then s2.cellReset c else s2
    let s4 := if k.resumeAfter then s3.resume c else s3
    s4.recheckWaits c

/-- Step 5 of R449: a VSET above what the frame's codes need is lowered. -/
def State.lowerVset (s : State) (i : Site) (f : Nat) : State :=
  let w := (s.comb i).pw
  let need := (s.comb i).frameVolt f (fun q => max (w.runOf q.val) (w.wanted q.val))
  if need < (w.reg (3 * f + 1)).vset.toNat then s.modReg i (3 * f + 1) (fun r => { r with vset := BitVec.ofNat 16 need }) else s

/-- CLOCK_RELOCK. -/
def execClockRelock (c : CellAt) (s : State) : Host.Outcome State Fault Refusal :=
  .next (if !(s.cell c).clk.changing then s
    else State.advanceFrame c.site (frameOf c.phys) 13 ((s.clockLocked c).lowerVset c.site (frameOf c.phys)))

/-- VOLTAGE_SETTLED: VOUT of a frame's REG_L has reached VSET; a change that waited for it proceeds. -/
def execVoltageSettled (i : Site) (f : Frame) (s : State) : Host.Outcome State Fault Refusal :=
  .next (State.advanceFrame i f.val 13 (s.modReg i (3 * f.val + 1) (fun r => { r with vout := r.vset })))

/-- A control write of TSK_CLK_CTRL (R455). -/
def State.clkCtrlWrite (s : State) (c : CellAt) (v : W64) : State :=
  if fld v 4 0 > 16 then s.setCellErr c errBadWr
  else if bit v 8 then s.clockGo c (fld v 4 0)
  else s.modCell c (fun x => { x with clk := { x.clk with target := bits v 0 5 } })

/-- CLOCK_GO: a write of TSK_CLK_CTRL whose GO bit is set. It wakes a site in Dusk, Night or Midnight (R425). -/
def execClockGo (c : CellAt) (v : W64) (s : State) : Host.Outcome State Fault Refusal :=
  .next (if !bit v 8 ∨ !s.cellReach c ∨ (s.cell c).inReset then s else (s.accessWake c).clkCtrlWrite c v)

end Sys2Proof.Machine
end

