-- ==== Sys2Proof/Machine/Frames.lean ====
section
/-!
DEFINITION. Ethernet frames without their FCS, at the management ports and the service ports: what a frame is (R278, R495), and the frames
that answer it.
-/
namespace Sys2Proof.Machine

/-! ### Bytes in network order -/

/-- `n` big-endian bytes of a number (R288). -/
def toBe (n v : Nat) : List Byte := (toLe n v).reverse

/-- A big-endian number from bytes. -/
def beBytes (bs : List Byte) : Nat := leBytes bs.reverse

/-- A big-endian field. -/
def beAt (bs : List Byte) (off n : Nat) : Nat := beBytes ((bs.drop off).take n)

/-- A part of a byte string. -/
def part (bs : List Byte) (off n : Nat) : List Byte := (bs.drop off).take n

/-- The sum of 16-bit words, an odd byte as the high half of a last one (RFC 1071). -/
def sum16 : List Byte → Nat
  | [] => 0
  | [a] => a.toNat * 256
  | a :: b :: t => a.toNat * 256 + b.toNat + sum16 t

/-- The ones' complement sum in 16 bits, and the checksum. -/
def fold16 (n : Nat) : Nat :=
  let m := n % 65536 + n / 65536
  m % 65536 + m / 65536
def inetSum (bs : List Byte) : Nat := 65535 - fold16 (sum16 bs)

/-- Does the checksum in a byte string hold? -/
def sumOk (bs : List Byte) : Bool := decide (fold16 (sum16 bs) = 65535)

/-- The pseudo header of UDP and ICMPv6: addresses, length, protocol. -/
def pseudo (src dst : List Byte) (n proto : Nat) : List Byte := src ++ dst ++ toBe 4 n ++ toBe 4 proto

/-! ### What a frame is -/

/-- An address of IPv6 that names nothing. -/
def noAddr6 : List Byte := List.replicate 16 0

/-- The link-local address of a MAC: modified EUI-64 (RFC 4291). -/
def linkLocal (mac : List Byte) : List Byte :=
  [0xFE, 0x80, 0, 0, 0, 0, 0, 0] ++ [nth 0 mac 0 ^^^ 2] ++ part mac 1 2 ++ [0xFF, 0xFE] ++ part mac 3 3

/-- A port's own side: MAC, VLAN tag on its own frames (0 none), IPv4 address (none without one), IPv6 addresses that it receives at and
those that it resolves. -/
structure Station where
  mac : List Byte
  vlan : Nat
  ip4 : Option (List Byte)
  ip6 : List (List Byte)
  resolve6 : List (List Byte)

/-- A frame as a port reads it. `smac` is the sender's MAC. -/
inductive FrameIn where
  | arp (smac sip tip : List Byte)
  | solicit (smac src target : List Byte)
  | echo (v6 : Bool) (smac src dst rest : List Byte)
  | udp (smac : List Byte) (d : Datagram)
  | other

/-- An ICMP echo request of IPv4 or IPv6, or a Neighbor Solicitation. -/
def readIcmp (w : Station) (v6 : Bool) (hop : Nat) (smac src dst m : List Byte) : FrameIn :=
  let type := beAt m 0 1
  let ok := sumOk (if v6 then pseudo src dst m.length 58 ++ m else m)
  if !ok ∨ m.length < 8 ∨ beAt m 1 1 ≠ 0 then .other
  else if type = (if v6 then 128 else 8) then .echo v6 smac src dst (m.drop 4)
  else if v6 ∧ type = 135 ∧ hop = 255 ∧ m.length ≥ 24 ∧ w.resolve6.contains (part m 8 16) then .solicit smac src (part m 8 16)
  else .other

/-- A UDP datagram: length and checksum; a zero checksum on IPv4 alone. -/
def readUdp (v6 : Bool) (smac src dst m : List Byte) : FrameIn :=
  let n := beAt m 4 2
  let u := m.take n
  let ok := if beAt m 6 2 = 0 then !v6 else sumOk (pseudo src dst n 17 ++ u)
  if m.length < 8 ∨ n < 8 ∨ n > m.length ∨ !ok then .other
  else .udp smac { src := { v6 := v6, addr := src, udp := beAt m 0 2 }, dst := { v6 := v6, addr := dst, udp := beAt m 2 2 }, payload := u.drop 8 }

/-- IPv4: a header of 20 bytes, whole and unfragmented, to the port's own address. -/
def read4 (w : Station) (smac m : List Byte) : FrameIn :=
  let n := beAt m 2 2
  let src := part m 12 4
  let dst := part m 16 4
  if m.length < 20 ∨ beAt m 0 1 ≠ 0x45 ∨ n < 20 ∨ n > m.length ∨ beAt m 6 2 % 0x4000 ≠ 0 ∨ !sumOk (m.take 20) ∨ w.ip4 ≠ some dst then .other
  else
    let body := (m.take n).drop 20
    if beAt m 9 1 = 1 then readIcmp w false 0 smac src dst body
    else if beAt m 9 1 = 17 then readUdp false smac src dst body else .other

/-- IPv6 without extension headers, to one of the port's addresses; a Neighbor Solicitation may come to any. -/
def read6 (w : Station) (smac m : List Byte) : FrameIn :=
  let n := beAt m 4 2
  let src := part m 8 16
  let dst := part m 24 16
  if m.length < 40 ∨ beAt m 0 1 / 16 ≠ 6 ∨ n + 40 > m.length then .other
  else
    let body := part m 40 n
    let own := w.ip6.contains dst
    if beAt m 6 1 = 58 then
      match readIcmp w true (beAt m 7 1) smac src dst body with
      | .echo v a b c r => if own then .echo v a b c r else .other
      | x => x
    else if beAt m 6 1 = 17 ∧ own then readUdp true smac src dst body else .other

/-- A frame of 64–1,522 bytes with its FCS: Ethernet II, untagged or tagged with the port's VLAN (R278; untagged alone where it has none,
R495). -/
def readFrame (w : Station) (bs : List Byte) : FrameIn :=
  let smac := part bs 6 6
  let tagged := beAt bs 12 2 = 0x8100
  let type := if tagged then beAt bs 16 2 else beAt bs 12 2
  let m := bs.drop (if tagged then 18 else 14)
  if bs.length < 60 ∨ bs.length > 1518 ∨ (tagged ∧ (w.vlan = 0 ∨ beAt bs 14 2 % 4096 ≠ w.vlan)) then .other
  else if type = 0x0806 then
    if beAt m 0 2 = 1 ∧ beAt m 2 2 = 0x0800 ∧ beAt m 4 2 = 0x0604 ∧ beAt m 6 2 = 1 ∧ w.ip4 = some (part m 24 4) then
      .arp smac (part m 14 4) (part m 24 4)
    else .other
  else if type = 0x0800 then read4 w smac m
  else if type = 0x86DD then read6 w smac m
  else .other

/-! ### Frames that a port sends -/

/-- A frame from a port: padded to 60 bytes. -/
def etherFrame (w : Station) (dmac : List Byte) (type : Nat) (m : List Byte) : List Byte :=
  let tag := if w.vlan = 0 then [] else toBe 2 0x8100 ++ toBe 2 w.vlan
  let f := fitTo 0 6 dmac ++ fitTo 0 6 w.mac ++ tag ++ toBe 2 type ++ m
  f ++ List.replicate (60 - f.length) 0

/-- An IP packet. `ttl` and `id`: fields that the spec does not give (log 63). -/
def ipFrame (w : Station) (dmac : List Byte) (v6 : Bool) (src dst : List Byte) (proto ttl id : Nat) (body : List Byte) : List Byte :=
  if v6 then etherFrame w dmac 0x86DD (toBe 4 0x60000000 ++ toBe 2 body.length ++ toBe 1 proto ++ toBe 1 ttl ++ src ++ dst ++ body)
  else
    let h (c : Nat) : List Byte :=
      toBe 2 0x4500 ++ toBe 2 (20 + body.length) ++ toBe 2 id ++ toBe 2 0 ++ toBe 1 ttl ++ toBe 1 proto ++ toBe 2 c ++ src ++ dst
    etherFrame w dmac 0x0800 (h (inetSum (h 0)) ++ body)

/-- A UDP datagram with its checksum; a computed zero goes out as all ones. -/
def udpFrame (w : Station) (dmac : List Byte) (d : Datagram) (ttl id : Nat) : List Byte :=
  let n := 8 + d.payload.length
  let h (c : Nat) : List Byte := toBe 2 d.src.udp ++ toBe 2 d.dst.udp ++ toBe 2 n ++ toBe 2 c
  let c := inetSum (pseudo d.src.addr d.dst.addr n 17 ++ h 0 ++ d.payload)
  ipFrame w dmac d.src.v6 d.src.addr d.dst.addr 17 ttl id (h (if c = 0 then 65535 else c) ++ d.payload)

/-- An ARP reply. -/
def arpReply (w : Station) (dmac smac sip tip : List Byte) : List Byte :=
  etherFrame w dmac 0x0806 (toBe 2 1 ++ toBe 2 0x0800 ++ toBe 2 0x0604 ++ toBe 2 2 ++ fitTo 0 6 w.mac ++ tip ++ smac ++ sip)

/-- An ICMP message with its checksum. -/
def icmpFrame (w : Station) (dmac : List Byte) (v6 : Bool) (src dst : List Byte) (type ttl id : Nat) (rest : List Byte) : List Byte :=
  let m (c : Nat) : List Byte := toBe 1 type ++ toBe 1 0 ++ toBe 2 c ++ rest
  let c := inetSum ((if v6 then pseudo src dst (4 + rest.length) 58 else []) ++ m 0)
  ipFrame w dmac v6 src dst (if v6 then 58 else 1) ttl id (m c)

/-- A Neighbor Advertisement (RFC 4861): solicited where the sender has an address, override, with the port's MAC. -/
def advertise (w : Station) (dmac src target : List Byte) : List Byte :=
  let all := src = noAddr6
  icmpFrame w dmac true target (if all then [0xFF, 0x02] ++ List.replicate 13 0 ++ [1] else src) 136 255 0
    (toBe 4 (if all then 0x20000000 else 0x60000000) ++ target ++ [2, 1] ++ fitTo 0 6 w.mac)

/-- An echo reply. -/
def echoReply (w : Station) (dmac : List Byte) (v6 : Bool) (src dst rest : List Byte) (ttl id : Nat) : List Byte :=
  icmpFrame w dmac v6 dst src (if v6 then 129 else 0) ttl id rest

end Sys2Proof.Machine
end

