-- ==== Sys2Proof/Machine/Mgmt.lean ====
section
/-!
DEFINITION. Management requests: sessions, roles, counters, cached responses, the order of checks, stored values (R499–R513).
-/
namespace Sys2Proof.Machine

/-! ### Stored values (R513) -/

/-- Are both keepers able to write their flash? -/
def State.bothUp (s : State) : Bool := decide (s.west.health = 0 ∧ s.east.health = 0)

/-- The panel with its management plane changed. -/
def State.modMgmt (s : State) (f : Mgmt → Mgmt) : State := { s with mgmt := f s.mgmt }

/-- The panel with an object's current value set. -/
def State.setObj (s : State) (key : Nat) (v : List Byte) : State := s.modMgmt (fun m => { m with objs := Tbl.put none m.objs key (some v) })

/-- A keeper's flash with a stored value written. -/
def Keeper.burn (k : Keeper) (key : Nat) (v : List Byte) : Keeper := { k with flash := Tbl.put none k.flash key (some v) }

/-- A stored value placed in the flash of both keepers. -/
def State.burn (s : State) (key : Nat) (v : List Byte) : State := { s with west := s.west.burn key v, east := s.east.burn key v }

/-- A write of a stored object: STORE_FAIL, with the value unchanged, while a keeper cannot write its flash (R513, log 37). -/
def State.putStored (s : State) (key : Nat) (v : List Byte) (after : State → State) : Nat × State :=
  if s.bothUp then (coOk, after ((s.setObj key v).burn key v)) else (coStoreFail, s)

/-! ### Sessions (R503–R506) -/

/-- The session with an id. -/
def State.mgmtSession (s : State) (id : W32) : Option MgmtSession := s.mgmt.sessions.find? (fun m => m.id = id)

/-- The panel with one session changed. -/
def State.modSession (s : State) (id : W32) (f : MgmtSession → MgmtSession) : State :=
  s.modMgmt (fun m => { m with sessions := m.sessions.map (fun x => if x.id = id then f x else x) })

/-- A session closes: what it holds is discarded (R522). -/
def State.closeSession (s : State) (id : W32) : State :=
  s.modMgmt (fun m => { m with sessions := m.sessions.filter (fun x => !decide (x.id = id)) })

/-- Does the keeper that leads serve requests: UP, or in rescue (R467)? -/
def State.serves (s : State) : Bool := decide ((s.keeper s.lead).health = 0 ∨ (s.keeper s.lead).health = 3)

/-- Sends a response, counts it, and keeps it among the session's last 16 (R505, R506, R523). -/
def State.answer (s : State) (session : W32) (txn : BitVec 16) (status : Nat) (data : List Byte) : State :=
  let p : Reply := { session := session, txn := txn, status := status, data := data }
  (s.modMgmt (fun m => { m with reply := some p, requests := m.requests + 1, failures := if status = 0 then m.failures else m.failures + 1 })).modSession
    session (fun x => { x with ctrOut := x.ctrOut + 1, cache := (p :: x.cache).take 16 })

/-- A PDU dropped for its TAG or COUNTER (R505). -/
def State.dropTag (s : State) : State := s.modMgmt (fun m => { m with tagDrops := m.tagDrops + 1 })

/-- Any other PDU or frame dropped. -/
def State.dropOther (s : State) : State := s.modMgmt (fun m => { m with otherDrops := m.otherDrops + 1 })

/-- A PDU with a bad TAG: dropped, and the 16th closes the session (R504, R505). -/
def State.badTag (s : State) (m : MgmtSession) : State :=
  let s1 := s.dropTag.modSession m.id (fun x => { x with badTags := x.badTags + 1 })
  if m.badTags + 1 ≥ 16 then s1.closeSession m.id else s1

/-- A request with its service (R510 checks 1–3), its repeat answered from the cache, and otherwise performed: `body` answers a status,
response data and the new state. SESSION 0 may only read. -/
def State.request (s : State) (r : Req) (write : Bool) (body : Nat → State → Nat × List Byte × State) : State :=
  if !s.serves then s
  else if r.version ≠ 1 then s.answer r.session r.txn coVersion [1, 1]
  else if r.session = 0 then
    if write then s.answer 0 r.txn coNoSession []
    else let e := body 0 s; e.2.2.answer 0 r.txn e.1 e.2.1
  else
    match s.mgmtSession r.session with
    | none => s.answer r.session r.txn coNoSession []
    | some m =>
      if m.provisional then s.answer r.session r.txn coNoSession []
      else if !r.tagOk then s.badTag m
      else if r.counter ≤ m.ctrIn then s.dropTag
      else
        let s1 := s.modSession m.id (fun x => { x with ctrIn := r.counter, last := s.leadTime })
        match m.cache.find? (fun p => p.txn = r.txn) with
        | some p => (s1.modMgmt (fun g => { g with reply := some p, requests := g.requests + 1 })).modSession m.id
            (fun x => { x with ctrOut := x.ctrOut + 1 })
        | none => let e := body m.role s1; e.2.2.answer r.session r.txn e.1 e.2.1

/-! ### Checks against the map (R510, R524) -/

/-- Checks 4–6 of a request: object, instance, role. Vendor objects are not listed (log 38). In rescue only 1000h objects are served
(R467). -/
def State.objCheck (s : State) (role : Nat) (write : Bool) (o : ObjRef) : Except Nat ObjRow :=
  if o.idx.toNat ≥ 0xF000 then .error (if role < 3 then coRole else coNoObject)
  else if (s.keeper s.lead).health = 3 ∧ (o.idx.toNat < 0x1000 ∨ o.idx.toNat ≥ 0x2000) then .error coNoObject
  else
    match objRow o with
    | none => .error coNoObject
    | some r =>
      if !s.instOk r o.inst.toNat then .error coNoInstance
      else if write && decide (role < r.role) then .error coRole
      else if !write && decide (r.role = 3 ∧ role < 3) then .error coRole
      else .ok r

/-- Checks 4–8 of a write. A segmented write open in another session on the object makes it BUSY (R509). -/
def State.writeCheck (s : State) (role : Nat) (session : W32) (o : ObjRef) (total : Nat) : Except Nat ObjRow :=
  match s.objCheck role true o with
  | .error e => .error e
  | .ok r =>
    if r.access = .ro then .error coAccess
    else
      match totalCheck r total with
      | some e => .error e
      | none =>
        if s.mgmt.sessions.any (fun m => !decide (m.id = session) && (match m.seg with | some g => decide (g.obj = o) | none => false)) then
          .error coBusy
        else .ok r

/-- A write in one PDU: checks 1–8, then `eff`, which makes checks 9 and 10 and has the effect. A BOOL byte above 1 is out of range
(R527). -/
def State.writeReq (s : State) (r : Req) (o : ObjRef) (data : List Byte) (eff : State → Nat × State) : State :=
  s.request r true (fun role s =>
    match s.writeCheck role r.session o data.length with
    | .error e => (e, [], s)
    | .ok row =>
      if row.type = 1 ∧ leBytes data > 1 then (coRange, [], s)
      else let e := eff s; (e.1, [], e.2))

/-- An object reference. -/
def oref (idx inst sub : Nat) : ObjRef := { idx := BitVec.ofNat 16 idx, inst := BitVec.ofNat 16 inst, sub := BitVec.ofNat 8 sub }

end Sys2Proof.Machine
end

