-- ==== Sys2Proof/Machine/RankRegs.lean ====
section
/-!
DEFINITION. The rank directory, rank memory and bridge registers of a comb (R203–R206).
-/
namespace Sys2Proof.Machine

/-- The panel with a comb's rank registers changed. -/
def State.modRanks (s : State) (i : Site) (f : Ranks → Ranks) : State := s.modComb i (fun c => { c with ranks := f c.ranks })

/-- RNK_STATUS (R203). -/
def Ranks.statusReg (k : Ranks) : W64 := BitVec.ofNat 64 (b2n k.staticWr * 2 + b2n k.badWr)

/-- Sets a bit of RNK_STATUS; its 0-to-1 transition sends a record (R203). -/
def State.rnkBad (s : State) (i : Site) (static : Bool) : State :=
  let old := if static then (s.comb i).ranks.staticWr else (s.comb i).ranks.badWr
  let s1 := s.modRanks i (fun k => if static then { k with staticWr := true } else { k with badWr := true })
  if old then s1 else s1.combErr i 0x0203 0 (s1.comb i).ranks.statusReg 0

/-- Has a core no work: every task STOPPED, engine and mover queues empty? -/
def Cell.idle (x : Cell) : Bool :=
  x.core.activeMask == 0 && x.mxe.all.isEmpty && x.vxe.all.isEmpty && x.core.mov0.all.isEmpty && x.core.mov1.all.isEmpty

/-- Is colony c stopped on a comb: every cell bound to it in reset or without work (R206)? -/
def State.colonyStoppedAt (s : State) (i : Site) (c : Nat) : Bool :=
  (List.finRange 192).all (fun p =>
    let x := s.cell ⟨i, p⟩
    !decide (x.colony.toNat = c) || x.inReset || x.idle)

/-- The mask of RNK_DIR's fields (R204). -/
def rnkDirMask : Nat := 0xC00000001FFF1FFF

/-- May RNK_DIR take a value (R204)? -/
def rnkDirLegal (v : W64) : Bool :=
  !(decide (fld v 28 16 > 4096) || decide (fld v 12 0 + fld v 28 16 > 8192) || (bit v 62 && decide (fld v 28 16 = 4096)))

/-- RNK_DIR of colony c by a control write. -/
def State.rnkDirWrite (s : State) (i : Site) (c : Nat) (v : W64) : State :=
  if !rnkDirLegal v then s.rnkBad i false
  else if !s.colonyStoppedAt i c then s.rnkBad i true
  else s.modRanks i (fun k => { k with dir := Tbl.put 0 k.dir c (keep v rnkDirMask) })

/-- RNK_DIR_WRITE. -/
def execRnkDirWrite (i : Site) (c : ColonyId) (v : W64) (s : State) : Host.Outcome State Fault Refusal := .next (s.rnkDirWrite i c.val v)

/-- The mask of a rank memory entry's fields (R205). -/
def rnkMask : Nat := 0xC00FFF0000FFFFFF

/-- May rank memory take an entry (R205)? -/
def rnkLegal (v : W64) : Bool :=
  let w := fld v 51 48
  let n := fld v 47 40
  let first := fld v 7 0
  !bit v 63 ||
    (decide (1 ≤ w ∧ w ≤ 11 ∧ 1 ≤ n ∧ n ≤ 176 ∧ fld v 15 8 ≤ 0xDF ∧ first % 11 + w ≤ 11) &&
     decide (first + (n - 1) / w * 11 + (n - 1) % w ≤ 0xAF))

/-- The colony whose table holds a rank memory entry (R206). -/
def Ranks.ownerOf (k : Ranks) (n : Nat) : Option Nat :=
  (List.range 64).find? (fun c => bit (k.dirOf c) 63 && decide (fld (k.dirOf c) 12 0 ≤ n ∧ n < fld (k.dirOf c) 12 0 + fld (k.dirOf c) 28 16))

/-- May an entry be changed now: in no table, a bridge entry that stays one, or a stopped block's (R206)? -/
def State.rnkFree (s : State) (i : Site) (n : Nat) (v : W64) : Bool :=
  let k := (s.comb i).ranks
  match k.ownerOf n with
  | none => true
  | some c => (bit (k.entry n) 62 && bit v 62) || s.colonyStoppedAt i c

/-- RNK_ADDR advances after an access of RNK_DATA, where AUTOINC is set. -/
def Ranks.step (k : Ranks) : Ranks := if k.autoInc then { k with index := k.index + 1 } else k

/-- RNK_DATA by a control write. -/
def State.rnkDataWrite (s : State) (i : Site) (v : W64) : State :=
  let n := (s.comb i).ranks.index.toNat
  let s1 := if !rnkLegal v then s.rnkBad i false
    else if !s.rnkFree i n v then s.rnkBad i true
    else s.modRanks i (fun k => { k with mem := Tbl.put 0 k.mem n (keep v rnkMask) })
  s1.modRanks i Ranks.step

/-- RNK_DATA by a control read. -/
def State.rnkDataRead (s : State) (i : Site) : W64 × State :=
  ((s.comb i).ranks.entry (s.comb i).ranks.index.toNat, s.modRanks i Ranks.step)

/-- RNK_DATA_ACCESS. -/
def execRnkDataAccess (i : Site) (w : Option W64) (s : State) : Host.Outcome State Fault Refusal :=
  .next (match w with
    | none => (s.rnkDataRead i).2
    | some v => s.rnkDataWrite i v)

/-- A control read of the range 0x6000–0x7FFF. -/
def State.rnkRead (s : State) (i : Site) (off : Nat) : W64 × State :=
  let k := (s.comb i).ranks
  if off < 0x6200 then (k.dirOf ((off - 0x6000) / 8), s)
  else if off = 0x6200 then (BitVec.ofNat 64 (b2n k.autoInc * 2 ^ 63 + k.index.toNat), s)
  else if off = 0x6208 then s.rnkDataRead i
  else if off = 0x6210 then (k.statusReg, s)
  else if 0x6400 ≤ off ∧ off < 0x6600 then (Tbl.get 0 k.bridge ((off - 0x6400) / 8), s)
  else (0, s)

/-- A control write of the range 0x6000–0x7FFF. -/
def State.rnkWrite (s : State) (i : Site) (off : Nat) (v : W64) : State :=
  if off < 0x6200 then s.rnkDirWrite i ((off - 0x6000) / 8) v
  else if off = 0x6200 then s.modRanks i (fun k => { k with autoInc := bit v 63, index := bits v 0 13 })
  else if off = 0x6208 then s.rnkDataWrite i v
  else if off = 0x6210 then s.modRanks i (fun k => { k with badWr := k.badWr && !bit v 0, staticWr := k.staticWr && !bit v 1 })
  else if 0x6400 ≤ off ∧ off < 0x6600 then s.modRanks i (fun k => { k with bridge := Tbl.put 0 k.bridge ((off - 0x6400) / 8) v })
  else s

end Sys2Proof.Machine
end

