-- ==== Sys2Proof/Machine/StoreRegs.lean ====
section
/-!
DEFINITION. Store-base registers (R382, R387, R391–R395): scrub, test, zeroing, digests, extents.
-/
namespace Sys2Proof.Machine

/-! ### Scrub (R385) -/

/-- Granules of a store. -/
def storeGranules : Nat := 805306368

/-- STORE_SCRUB_TICK: the next granule is read; a corrected one is written back, an uncorrectable one handled (R384, R385). After the last
granule a pass is counted. -/
def execStoreScrubTick (st : StoreId) (s : State) : Host.Outcome State Fault Refusal :=
  .next (if (s.store st.val).stb ≠ 2 then s
    else
      let g := (s.store st.val).scrubAt
      ((s.storeTouch st.val (g * 64) 64).2).modStore st.val (fun x =>
        { x with scrubAt := (g + 1) % storeGranules, passes := if g + 1 = storeGranules then x.passes + 1 else x.passes }))

/-! ### STB_CTRL (R391, R392, R394) -/

/-- Is an extent of the store enabled? -/
def Store.anyExtent (x : Store) : Bool := (List.range 64).any (fun c => bit (x.extent c) 63)

/-- A store test begins: every packet is refused, and the content is lost (R391). -/
def State.storeTest (s : State) (n : Nat) : State :=
  s.modStore n (fun x => { x with stb := 1, mem := [], ecc := [], unreadable := [], scrubAt := 0 })

/-- STB_CTRL by a control write: FENCE takes effect alone; TEST with an extent enabled is discarded with STATIC_WR (R393, R394). -/
def State.stbCtrl (s : State) (n : Nat) (v : W64) : State :=
  if bit v 2 then s.fenceStore n
  else
    let s1 := if bit v 0 && decide ((s.store n).stb = 2) then s.modStore n (fun x => { x with scrubAt := 0 }) else s
    if bit v 1 then
      if (s1.store n).anyExtent then s1.setStbErr n sbStaticWr
      else if (s1.store n).stb = 3 then s1
      else s1.storeTest n
    else s1

/-- SCRUB_NOW: a write of STB_CTRL whose SCRUB_NOW bit is set. -/
def execScrubNow (st : StoreId) (v : W64) (s : State) : Host.Outcome State Fault Refusal :=
  .next (if bit v 0 then s.stbCtrl st.val v else s)

/-- STORE_TEST: a write of STB_CTRL whose TEST bit is set. A start begins the test by itself (COLD_START). -/
def execStoreTest (st : StoreId) (v : W64) (s : State) : Host.Outcome State Fault Refusal :=
  .next (if bit v 1 then s.stbCtrl st.val v else s)

/-- STORE_FENCE: a write of STB_CTRL whose FENCE bit is set. -/
def execStoreFence (st : StoreId) (v : W64) (s : State) : Host.Outcome State Fault Refusal :=
  .next (if bit v 2 then s.stbCtrl st.val v else s)

/-- The test map (R391): TESTED is the lead keeper's time in seconds. -/
def testMap (n : Nat) (pass : Bool) (seconds : Nat) (rows : List W64) : List Byte :=
  toLe 4 0x53544D50 ++ toLe 1 n ++ toLe 1 (b2n (!pass)) ++ toLe 2 rows.length ++ toLe 8 seconds ++ List.replicate 48 0 ++
    rows.flatMap (fun r => toLe 8 (keep r 0xFFFFFFFF00000000).toNat)

/-- STORE_TEST_COMPLETE: the map of repaired rows is reported; a failed test fences the store (R391, R392). -/
def execStoreTestComplete (st : StoreId) (pass : Bool) (rows : List W64) (s : State) : Host.Outcome State Fault Refusal :=
  .next (if (s.store st.val).stb ≠ 1 then s
    else
      let s1 := s.modStore st.val (fun x =>
        { x with stb := 2, testMap := testMap st.val pass (s.leadTime.toNat / 1000000000) (rows.take 3072) })
      if pass then s1 else s1.fenceStore st.val)

/-- STORE_CHANNEL_TIMEOUT: a channel does not answer within 10 µs; the store fences (R392). -/
def execStoreChannelTimeout (st : StoreId) (s : State) : Host.Outcome State Fault Refusal :=
  .next (if (s.store st.val).stb = 0 then s else s.fenceStore st.val)

/-! ### Zeroing (R382, R394) -/

/-- STB_ZERO_SIZE by a control write: zeroing of the units starts; while BUSY it is discarded with BAD_WR. Units that do not exist are
left out (log 35). -/
def State.stbZero (s : State) (n : Nat) (v : W64) : State :=
  if (s.store n).zeroBusy then s.setStbErr n sbBadWr
  else
    s.modStore n (fun x =>
      let base := x.zeroBase.toNat
      let size := min (fld v 19 0) (786432 - base)
      { (x.zeroRange (base * 65536) (size * 65536)) with zeroSize := bits v 0 20, zeroBusy := true })

/-- STORE_ZERO: a write of STB_ZERO_SIZE. -/
def execStoreZero (st : StoreId) (v : W64) (s : State) : Host.Outcome State Fault Refusal := .next (s.stbZero st.val v)

/-- STORE_ZERO_DONE: BUSY clears. -/
def execStoreZeroDone (st : StoreId) (s : State) : Host.Outcome State Fault Refusal :=
  .next (s.modStore st.val (fun x => { x with zeroBusy := false }))

/-! ### Digests (R387) -/

/-- STB_DIG_LEN by a control write: the slot's digest starts. A write while the slot is busy is discarded with BAD_WR (log 35). -/
def State.stbDigest (s : State) (n k : Nat) (v : W64) : State :=
  if nth false (s.store n).digBusy k then s.setStbErr n sbBadWr
  else s.modStore n (fun x => { x with digLen := setNth x.digLen k (bits v 0 28), digBusy := setNth x.digBusy k true })

/-- DIGEST_START: a write of STB_DIG_LEN of a slot. -/
def execDigestStart (st : StoreId) (slot : Fin 2) (v : W64) (s : State) : Host.Outcome State Fault Refusal :=
  .next (s.stbDigest st.val slot.val v)

/-- Eight open bytes drawn eight times: a result the spec does not state (log 3). -/
def State.drawBytes : Nat → State → List Byte × State
  | 0, s => ([], s)
  | k + 1, s =>
    let r := s.draw
    let t := State.drawBytes k r.2
    (toLe 8 r.1.toNat ++ t.1, t.2)

/-- DIGEST_DONE: the result is SHA-512 of the range as it stands; of a range with an unreadable granule it is open (R384, R387). -/
def execDigestDone (st : StoreId) (slot : Fin 2) (s : State) : Host.Outcome State Fault Refusal :=
  .next (
    let x := s.store st.val
    if !nth false x.digBusy slot.val then s
    else
      let fin (d : List Byte) (s : State) : State := s.modStore st.val (fun x =>
        { x with digBusy := setNth x.digBusy slot.val false, digResult := setNth x.digResult slot.val d })
      match s.storeRead st.val ((nth 0 x.digAddr slot.val).toNat / 256 * 256) ((nth 0 x.digLen slot.val).toNat * 256) with
      | (some bs, s1) => fin (Config.sha512 bs) s1
      | (none, s1) => let r := State.drawBytes 8 s1; fin r.1 r.2)

/-! ### Extents (R380, R381, R395) -/

/-- Do two ranges of units meet? -/
def unitsMeet (a n b m : Nat) : Bool := decide (a < b + m ∧ b < a + n)

/-- May STB_EXT of colony c take a value? -/
def Store.extLegal (x : Store) (n c : Nat) (v : W64) : Bool :=
  let base := fld v 19 0
  let size := fld v 39 20
  !bit v 63 ||
    (decide (base + size ≤ 786432) &&
      (List.range 64).all (fun d => d == c || !bit (x.extent d) 63 || !unitsMeet base size (fld (x.extent d) 19 0) (fld (x.extent d) 39 20)) &&
      !((n == 0 || n == 111) && unitsMeet base size 720896 65536))

/-- Is colony c at a store stopped: does the store base hold no request that carries COLONY c? -/
def Store.colonyStopped (x : Store) (c : Nat) : Bool := !(x.kv.any (fun k => k.colony = c))

/-- STB_EXT by a control write. -/
def State.stbExt (s : State) (n c : Nat) (v : W64) : State :=
  if !(s.store n).extLegal n c v then s.setStbErr n sbBadWr
  else if !(s.store n).colonyStopped c then s.setStbErr n sbStaticWr
  else s.modStore n (fun x => { x with ext := Tbl.put 0 x.ext c (keep v 0x800000FFFFFFFFFF) })

/-- STB_KVQ by a control write: its unit lies inside the colony's extent. A queue that is enabled starts at count 0 (log 34). -/
def State.stbKvq (s : State) (n c : Nat) (v : W64) : State :=
  if bit v 63 && !(s.store n).owns c (fld v 19 0 * 65536) 65536 then s.setStbErr n sbBadWr
  else if !(s.store n).colonyStopped c then s.setStbErr n sbStaticWr
  else s.modStore n (fun x =>
    { x with kvq := Tbl.put 0 x.kvq c (keep v 0x80000000000FFFFF), kvTaken := Tbl.put 0 x.kvTaken c 0, kvDone := Tbl.put 0 x.kvDone c 0 })

/-- STB_EXT_WRITE. -/
def execStbExtWrite (st : StoreId) (c : ColonyId) (v : W64) (s : State) : Host.Outcome State Fault Refusal :=
  .next (s.stbExt st.val c.val v)

/-- STB_ECC is read and cleared. -/
def State.stbEccRead (s : State) (n : Nat) : W64 × State :=
  ((s.store n).eccReg, s.modStore n (fun x => { x with corrected := 0, uncorrectable := 0, repaired := 0 }))

/-- STB_ECC_READ. -/
def execStbEccRead (st : StoreId) (s : State) : Host.Outcome State Fault Refusal := .next (s.stbEccRead st.val).2

/-! ### The register map (R394) -/

/-- STB_SCRUB by a control write: it waits for the safe point (R59, R394). -/
def State.stbScrub (s : State) (n : Nat) (v : W64) : State :=
  if fld v 31 0 < 600 ∨ fld v 31 0 > 86400 then s.setStbErr n sbBadWr
  else s.modStore n (fun x => { x with scrubLatch := some (loW v) })

/-- A control write of a store-base register. -/
def State.stbWrite (s : State) (n off : Nat) (v : W64) : State :=
  if off = 0x08 then s.stbCtrl n v
  else if off = 0x18 then s.modStore n (fun x => { x with err := w1c x.err v })
  else if off = 0x38 then s.stbScrub n v
  else if off = 0x40 then s.modStore n (fun x => { x with zeroBase := bits v 0 20 })
  else if off = 0x48 then s.stbZero n v
  else if off = 0x100 ∨ off = 0x180 then s.modStore n (fun x => { x with digAddr := setNth x.digAddr ((off - 0x100) / 0x80) (bits v 0 36 &&& 0xFFFFFFF00) })
  else if off = 0x108 ∨ off = 0x188 then s.stbDigest n ((off - 0x108) / 0x80) v
  else if 0x1000 ≤ off ∧ off < 0x1200 then s.stbExt n ((off - 0x1000) / 8) v
  else if 0x1200 ≤ off ∧ off < 0x1400 then s.stbKvq n ((off - 0x1200) / 8) v
  else s

/-- A control read of a store-base register. -/
def State.stbRead (s : State) (n off : Nat) : W64 × State :=
  let x := s.store n
  let slot := (off - 0x100) / 0x80
  let o := (off - 0x100) % 0x80
  if off = 0x00 then (BitVec.ofNat 64 (32 * 65536 + 12 * 256 + n), s)
  else if off = 0x10 then (x.statusReg, s)
  else if off = 0x18 then (x.errReg, s)
  else if off = 0x20 then s.stbEccRead n
  else if off = 0x28 then (x.ueAddr, s)
  else if off = 0x30 then (x.xfErr, s)
  else if off = 0x38 then (BitVec.ofNat 64 (x.passes.toNat * 2 ^ 32 + (x.scrubLatch.getD x.scrubS).toNat), s)
  else if off = 0x40 then (x.zeroBase.setWidth 64, s)
  else if off = 0x48 then (BitVec.ofNat 64 (b2n x.zeroBusy * 2 ^ 63 + x.zeroSize.toNat), s)
  else if 0x100 ≤ off ∧ off < 0x200 then
    (if o = 0 then (nth 0 x.digAddr slot).setWidth 64
     else if o = 8 then BitVec.ofNat 64 (b2n (nth false x.digBusy slot) * 2 ^ 63 + (nth 0 x.digLen slot).toNat)
     else if o ≥ 0x40 then BitVec.ofNat 64 (leAt (nth [] x.digResult slot) (o - 0x40) 8) else 0, s)
  else if 0x1000 ≤ off ∧ off < 0x1200 then (x.extent ((off - 0x1000) / 8), s)
  else if 0x1200 ≤ off ∧ off < 0x1400 then (Tbl.get 0 x.kvq ((off - 0x1200) / 8), s)
  else (0, s)

end Sys2Proof.Machine
end

