-- ==== Sys2Proof/Machine/Region.lean ====
section
/-!
DEFINITION. A colony's control region as the keeper reads and writes it: words, rings, state words, events (R221–R226, R233).
The keeper's own accesses take the bytes that stand in the store (log 41).
-/
namespace Sys2Proof.Machine

/-! ### Colonies -/

/-- A colony's life cycle. -/
def State.colony (s : State) (c : Nat) : Colony := Tbl.get Colony.free s.colonies c

/-- The panel with a colony's life cycle changed. -/
def State.modColony (s : State) (c : Nat) (f : Colony → Colony) : State :=
  { s with colonies := Tbl.put Colony.free s.colonies c (f (s.colony c)) }

/-- What the keeper holds of a colony. -/
def State.work (s : State) (c : Nat) : ColonyWork := Tbl.get ColonyWork.empty s.works c

/-- The panel with what the keeper holds of a colony changed. -/
def State.modWork (s : State) (c : Nat) (f : ColonyWork → ColonyWork) : State :=
  { s with works := Tbl.put ColonyWork.empty s.works c (f (s.work c)) }

/-! ### Words of the region (R222, R223) -/

/-- Offsets of the region (R222). -/
def rgAdmit : Nat := 0x0
def rgAdmitted (b : Nat) : Nat := if b = 0 then 0x40 else 0xC0
def rgRetired (b : Nat) : Nat := if b = 0 then 0x80 else 0x100
def rgSess (b : Nat) : Nat := if b = 0 then 0x140 else 0x180
def rgEvHead : Nat := 0x1C0
def rgEvTail : Nat := 0x200
def rgRqHead : Nat := 0x240
def rgRqTail : Nat := 0x280
def rgEvRing : Nat := 0x1000
def rgRqRing : Nat := 0x5000
def rgGrant (site : Nat) : Nat := 0xD000 + 8 * site
def rgState (slot : Nat) : Nat := 0x10000 + 64 * slot
def rgDesc (slot : Nat) : Nat := 0x810000 + 256 * slot

/-- Bytes of the region. -/
def State.rgBytes (s : State) (c off n : Nat) : List Byte :=
  match (s.work c).region with
  | some (_, st, u) => (s.store st).bytes (u * 65536 + off) n
  | none => List.replicate n 0

/-- The region with bytes written. -/
def State.rgPut (s : State) (c off : Nat) (bs : List Byte) : State :=
  match (s.work c).region with
  | some (_, st, u) => s.modStore st (fun x => x.write (u * 65536 + off) bs)
  | none => s

/-- A 64-bit value of the region. -/
def State.rg64 (s : State) (c off : Nat) : Nat := leBytes (s.rgBytes c off 8)

/-- The region with a 64-bit value written. -/
def State.rgPut64 (s : State) (c off v : Nat) : State := s.rgPut c off (toLe 8 v)

/-- Entries of a ring that stand between TAIL and HEAD (R223). -/
def ringCount (head tail : Nat) : Nat := (2 ^ 64 + head - tail) % 2 ^ 64

/-! ### State words (R224, R225) -/

/-- A state word. -/
def stateWord (st home slot : Nat) : Nat := st * 2 ^ 60 + home * 2 ^ 40 + slot

/-- STATE of a slot in a colony: a value above 3 counts as FREE (R225). -/
def State.seqState (s : State) (c slot : Nat) : Nat :=
  let v := s.rg64 c (rgState slot) / 2 ^ 60
  if v > 3 then 0 else v

/-- The panel with a slot's state set. FREE is the word of zeros. -/
def State.setSeq (s : State) (c home slot st : Nat) : State :=
  s.rgPut64 c (rgState slot) (if st = 0 then 0 else stateWord st home slot)

/-! ### Events (R233) -/

/-- An event's line. BIND bodies stand at bytes 24 and 88. -/
def eventLine (kind reason home slot : Nat) (ext peers : W64) (bindIn bindOut : List Byte) : List Byte :=
  toLe 8 (kind * 2 ^ 56 + reason * 2 ^ 48 + home * 2 ^ 40 + slot) ++ toLe 8 ext.toNat ++ toLe 8 peers.toNat ++
    fitTo 0 64 bindIn ++ fitTo 0 64 bindOut ++ List.replicate 104 0

/-- Is a colony's event ring full? -/
def State.eventsFull (s : State) (c : Nat) : Bool := decide (ringCount (s.rg64 c rgEvHead) (s.rg64 c rgEvTail) ≥ 64)

/-- An event placed in the ring, and HEAD counted. -/
def State.ringEvent (s : State) (c : Nat) (line : List Byte) : State :=
  let h := s.rg64 c rgEvHead
  (s.rgPut c (rgEvRing + h % 64 * 256) line).rgPut64 c rgEvHead ((h + 1) % 2 ^ 64)

/-- Posts an event in a colony: into the ring, or behind those that wait for room. -/
def State.postEvent (s : State) (c : Nat) (line : List Byte) : State :=
  if s.eventsFull c || !(s.work c).events.isEmpty then
    s.modWork c (fun w => { w with events := if w.events.length < 4096 then w.events ++ [line] else w.events })
  else s.ringEvent c line

/-- Posts waiting events while the ring has room. -/
def State.flushEvents (c : Nat) : Nat → State → State
  | 0, s => s
  | k + 1, s =>
    match (s.work c).events with
    | [] => s
    | e :: rest => if s.eventsFull c then s else State.flushEvents c k ((s.modWork c (fun w => { w with events := rest })).ringEvent c e)

/-- EVENT_QUEUE_POST. -/
def execEventQueuePost (c : ColonyId) (s : State) : Host.Outcome State Fault Refusal :=
  .next (State.flushEvents c.val (s.work c.val).events.length s)

/-! ### Sampler contexts granted to a colony (R242, R243) -/

/-- Is context n of a comb (sampler × 256 + ctx) granted to a colony? -/
def State.ctxGranted (s : State) (c site n : Nat) : Bool :=
  match Tbl.get none (s.work c).contexts site with
  | some first => decide (first ≤ n ∧ n < first + s.objU 0x5016 c 0)
  | none => false

/-- The sampler of a comb that holds context n. -/
def ctxSmp (i : Site) (n : Nat) : SmpAt := ⟨i, ⟨n / 256 % 4, by omega⟩⟩

/-- A granted context's state is reset (R247). -/
def State.resetCtx (s : State) (i : Site) (n : Nat) : State :=
  let a := ctxSmp i n
  let gone := (s.smp a).open_.filter (fun y => decide (y.ctx.val = n % 256))
  (s.smpAbandon a gone).modSmp a (fun x => { (x.ctxReset (n % 256)) with open_ := x.open_.filter (fun y => !decide (y.ctx.val = n % 256)) })

/-- COLONY_SAMPLING as words; and profile p of it, with GRAMMAR moved to the descriptor the keeper has given it (R243). -/
def State.sampling (s : State) (c : Nat) : List W64 := words64 (s.objGet 0x5018 c 0)

/-- The four configuration words of a profile; none where there is no such profile. -/
def State.profile (s : State) (c p : Nat) (grammars : List (Nat × Nat)) : Option (List W64) :=
  let ws := s.sampling c
  if p < fld (nth 0 ws 0) 47 40 then
    let q := (ws.drop (1 + 4 * p)).take 4
    let mode := nth 0 q 0
    some ((if bit mode 56 then setBits mode 52 4 (nth (0, 0) grammars (fld mode 55 52)).2 else mode) :: q.drop 1)
  else none

/-- Writes a configuration at once: the keeper writes whole profiles into contexts it owns (R243). -/
def SmpCtx.setCfg (k : SmpCtx) (ws : List W64) : SmpCtx :=
  { k with mode := keep (nth 0 ws 0) cfgModeMask, temp := nth 0 ws 1, pen := nth 0 ws 2, pres := nth 0 ws 3, staged := [] }

/-- The panel with a profile written into a context, and the context's state reset under it. -/
def State.setProfile (s : State) (c : Nat) (i : Site) (n p : Nat) : State :=
  match s.profile c p (Tbl.get [] (s.work c).grammars (i.val * 4 + n / 256)) with
  | none => s.resetCtx i n
  | some ws => ((s.resetCtx i n).modSmp (ctxSmp i n) (fun x => x.modCtx (n % 256) (fun k => k.setCfg ws))).resetCtx i n

end Sys2Proof.Machine
end

