-- ==== Sys2Proof/Machine/Events.lean ====
section
/-!
DEFINITION. The voice service's events to exchanges, and the release of a session's classifier entries (R282, R288–R291).
-/
namespace Sys2Proof.Machine

/-! ### Ports and exchanges -/

/-- The panel with its voice service changed. -/
def State.modVoice (s : State) (f : Voice → Voice) : State := { s with voice := f s.voice }

/-- A service port. -/
def State.vport (s : State) (p : Nat) : VoicePort := Tbl.get VoicePort.reset s.voice.ports p

/-- The panel with a service port changed. -/
def State.modPortV (s : State) (p : Nat) (f : VoicePort → VoicePort) : State :=
  s.modVoice (fun v => { v with ports := Tbl.put VoicePort.reset v.ports p (f (s.vport p)) })

/-- A configured exchange: SVC_EXCHANGE n (R293). -/
def State.exchange (s : State) (n : Nat) : List Byte := s.objGet 0xB031 0 n

/-- Is an exchange entry VALID; its EXCH; its HMAC key. -/
def exchValid (e : List Byte) : Bool := nth 0 e 4 != 0
def exchId (e : List Byte) : Nat := leBytes (e.take 4)
def exchKey (e : List Byte) : List Byte := (e.drop 8).take 32

/-- The entry that names an EXCH. -/
def State.exchOf (s : State) (id : Nat) : Option Nat :=
  (List.range 8).find? (fun n => exchValid (s.exchange n) && exchId (s.exchange n) == id)

/-- A port's own address of a family; an IPv4 address takes four bytes, most significant first. -/
def State.portAddr (s : State) (p : Nat) (v6 : Bool) : List Byte := if v6 then s.objGet 0xB004 p 0 else toBe 4 (s.objU 0xB003 p 0)

/-! ### Datagrams of the service (R288–R290) -/

/-- A datagram of an exchange: header, body, MAC. -/
def svcBytes (key : List Byte) (op exch seq slot home status : Nat) (ext : W64) (body : List Byte) : List Byte :=
  let h := toBe 4 0x4B534344 ++ toBe 1 1 ++ toBe 1 op ++ toBe 2 (48 + body.length) ++ toBe 4 exch ++ toBe 4 seq ++ toBe 4 slot ++
    toBe 1 home ++ toBe 1 status ++ toBe 2 0 ++ toBe 8 ext.toNat
  h ++ body ++ (Config.hmacSha256 key (h ++ body)).take 16

/-- A service port as a station: its MAC, VLAN, and addresses (R278, R293). An unset address is none. -/
def State.portStation (s : State) (p : Nat) : Station :=
  let mac := s.objGet 0xB002 p 0
  let ip6 := s.objGet 0xB004 p 0
  let v6 := if ip6 = noAddr6 then [] else [ip6]
  { mac := mac, vlan := s.objU 0xB006 p 0, ip4 := if s.objU 0xB003 p 0 = 0 then none else some (toBe 4 (s.objU 0xB003 p 0))
    ip6 := v6, resolve6 := v6 ++ [linkLocal mac] }

/-- A port sends a frame, while its link is up. -/
def State.portSend (s : State) (p : Nat) (f : List Byte) : State :=
  if (s.vport p).linkUp then s.modVoice (fun v => { v with frames := v.frames ++ [(p, f)] }) else s

/-- A port sends a UDP datagram to its gateway; the fields of the IP header that the spec does not give are free (log 63). -/
def State.udpSend (s : State) (p : Nat) (d : Datagram) : State :=
  let x := s.draw
  x.2.portSend p (udpFrame (s.portStation p) (s.objGet 0xB005 p 0) d (fld x.1 7 0) (fld x.1 23 8))

/-- Sends a datagram from a port's SVC_CTRL_PORT. -/
def State.svcSend (s : State) (p : Nat) (dst : UdpAddr) (bs : List Byte) : State :=
  s.udpSend p { src := { v6 := dst.v6, addr := s.portAddr p dst.v6, udp := s.objU 0xB030 0 0 }, dst := dst, payload := bs }

/-- The panel with an exchange's working state changed. -/
def State.modExch (s : State) (n : Nat) (f : Exchange → Exchange) : State :=
  s.modVoice (fun v => { v with exchanges := Tbl.put Exchange.reset v.exchanges n (f (Tbl.get Exchange.reset v.exchanges n)) })

/-- Sends a datagram to where an exchange's latest valid one came from. -/
def State.exchSend (s : State) (n : Nat) (bs : List Byte) : State :=
  match (Tbl.get Exchange.reset s.voice.exchanges n).from_ with
  | some (p, a) => s.svcSend p a bs
  | none => s

/-- An EVENT of a session: sent, and kept until an EVENT_ACK answers it. -/
def State.svcEvent (s : State) (exch kind reason home slot : Nat) (ext : W64) : State :=
  let serial := (Tbl.get Exchange.reset s.voice.exchanges exch).next
  let e := s.exchange exch
  let bs := svcBytes (exchKey e) 0x82 (exchId e) serial.toNat slot home 0 ext (toBe 1 kind ++ toBe 1 reason ++ List.replicate 6 0)
  ((s.modExch exch (fun x => { x with next := x.next + 1 })).modVoice (fun v =>
    { v with events := v.events ++ [{ exch := exch, serial := serial, bytes := bs, sends := 1 }] })).exchSend exch bs

/-! ### Rings (R282, R291) -/

/-- The cell whose logical endpoint an identifier of this panel names. -/
def State.cellOfEid (s : State) (e : Eid) : Option CellAt :=
  if h : fld e 15 8 < 224 then
    if fld e 23 16 = s.swarmPanel.toNat ∧ fld e 7 0 < 0xB0 then ((s.comb ⟨fld e 15 8, h⟩).physOf (fld e 7 0)).map (fun p => ⟨⟨fld e 15 8, h⟩, p⟩)
    else none
  else none

/-- The keeper writes a word at a receive address of a cell: through the window that holds it. -/
def State.ringWord (s : State) (e : Eid) (a : Nat) (v : W32) : State :=
  match s.cellOfEid e with
  | none => s
  | some c =>
    match winCheck (s.cell c).rwin0 (s.cell c).rwin1 a 1 rightW with
    | .ok phys => s.memWrite (.cell c.site c.phys) phys [v]
    | _ => s

/-- The ring of a slot of a colony: endpoint and receive address; none where the rank has no endpoint or the ring passes the end (R282). -/
def State.ringOf (s : State) (home slot : Nat) : Option (Eid × Nat) :=
  let m : W64 := BitVec.ofNat 64 (s.objU 0xB020 home 0)
  match (s.work home).slotBase, (s.work home).region with
  | some base, some (site, _, _) =>
    let i := slot - base
    let q := i / fld m 43 37
    let rank := (fld m 63 52 + q / fld m 51 44) * 256 + q % fld m 51 44
    let a := fld m 19 0 + i % fld m 43 37 * 4160
    if fld m 43 37 = 0 ∨ fld m 51 44 = 0 ∨ rank ≥ 2 ^ 20 ∨ a + 4160 > 2 ^ 20 then none
    else ((s.combN site).ranks.translate s.swarmPanel home rank).map (fun e => (e, a))
  | _, _ => none

/-- A session's classifier entries are removed from every port, and EGRESS_RANK.VALID of its ring is cleared (R291). -/
def State.unbindSession (s : State) (home slot : Nat) : State :=
  let bound := s.voice.ports.flatMap (fun e => e.2.streams.filter (fun t => decide (t.slot = slot ∧ t.home = home)))
  let s1 := s.modVoice (fun v =>
    { v with ports := Tbl.mapVal VoicePort.reset (fun _ p => { p with streams := p.streams.filter (fun t => !decide (t.slot = slot ∧ t.home = home)) }) v.ports })
  if bound.isEmpty then s1
  else
    match s.ringOf home slot with
    | some (e, a) => s1.ringWord e (a + 40) 0
    | none => s1

end Sys2Proof.Machine
end

