-- ==== Sys2Proof/Machine/Sessions.lean ====
section
/-!
DEFINITION. Sessions: opening, ending, retiring, requests of colonies, idleness (R219, R220, R232–R236).
-/
namespace Sys2Proof.Machine

/-! ### Which sessions -/

/-- The session at a slot. -/
def State.session (s : State) (slot : Nat) : Option Session := s.sessions.find? (fun x => x.slot = slot)

/-- The panel with one session changed. -/
def State.modSess (s : State) (slot : Nat) (f : Session → Session) : State :=
  { s with sessions := s.sessions.map (fun x => if x.slot = slot then f x else x) }

/-- The colonies that a session with this home and mask holds a sequence in: the home first (R220). -/
def sessColonies (home : Nat) (peers : W64) : List Nat := home :: (List.range 64).filter (fun c => bit peers c && c != home)

/-- Does a slot lie in a colony's range (R219)? -/
def State.slotIn (s : State) (home slot : Nat) : Bool :=
  match (s.work home).slotBase with
  | some b => decide (home < 64 ∧ b ≤ slot ∧ slot < b + s.objU 0x5014 home 0)
  | none => false

/-! ### The end of a session (R234 E1–E4, R236) -/

/-- A session that holds no sequence any more is gone: its slot is reusable, and its end is reported to the exchange that opened it. -/
def State.reapSession (s : State) (slot reason : Nat) : State :=
  match s.session slot with
  | none => s
  | some x =>
    if !x.live.isEmpty then s
    else
      let s1 : State := { s with sessions := s.sessions.filter (fun y => !decide (y.slot = slot)) }
      match x.opener with
      | some e => s1.svcEvent e 2 reason x.home slot x.ext
      | none => s1

/-- E1 in one colony: OPEN becomes ENDING and END is posted; an END that meets OPENING waits (R234). -/
def State.endIn (s : State) (x : Session) (reason c : Nat) : State :=
  if s.seqState c x.slot = 2 then
    (s.setSeq c x.home x.slot 3).postEvent c (eventLine 2 reason x.home x.slot x.ext x.peers [] [])
  else s

/-- Ends a session; a second END is ignored. Its media entries are removed (R291). -/
def State.endSession (s : State) (x : Session) (reason : Nat) : State :=
  if x.endReason.isSome then s
  else
    x.live.foldl (fun s c => s.endIn x reason c)
      ((s.unbindSession x.home x.slot).modSess x.slot (fun y => { y with endReason := some reason }))

/-- An END that met OPENING is applied where OPEN has been set since. -/
def State.applyEnds (s : State) : State :=
  s.sessions.foldl (fun s x =>
    match x.endReason with
    | some r => x.live.foldl (fun s c => s.endIn x r c) s
    | none => s) s

/-- A colony's sequence of a session is FREE: its state word is cleared, and the session ends where it was the last (E3, E4). -/
def State.retire (s : State) (x : Session) (c : Nat) : State :=
  ((s.setSeq c x.home x.slot 0).modSess x.slot (fun y => { y with live := y.live.filter (· != c) })).reapSession x.slot (x.endReason.getD 0)

/-- Step 1 of a restart of colony r, and entry into FAILED: sessions at home in r end in their other colonies with REASON 2; the others
lose r's sequence, and SEQ_LOST is posted to their home (R236). -/
def State.dropSessions (s : State) (r : Nat) : State :=
  s.sessions.foldl (fun s x =>
    if !x.live.contains r then s
    else if x.home = r then
      let y := { x with live := x.live.filter (· != r) }
      ((s.modSess x.slot (fun z => { z with live := y.live })).endSession y 2).reapSession x.slot 2
    else
      ((s.modSess x.slot (fun z => { z with live := z.live.filter (· != r) })).postEvent x.home
        (eventLine 3 r x.home x.slot x.ext x.peers [] [])).reapSession x.slot (x.endReason.getD 0)) s

/-- Every session with a sequence in colony c is ended. -/
def State.endSessionsOf (s : State) (c reason : Nat) : State :=
  s.sessions.foldl (fun s x => if x.live.contains c then s.endSession x reason else s) s

/-! ### Opening (R232, R234 O1) -/

/-- The checks of an OPEN. -/
def State.openCheck (s : State) (home slot : Nat) (peers : W64) : Nat :=
  let cs := sessColonies home peers
  if !s.slotIn home slot then coRange
  else if cs.any (fun c => !decide ((s.colony c).state = 5)) then coBusy
  else if cs.any (fun c => !decide (s.seqState c slot = 0)) then coBusy
  else if cs.any (fun c => decide ((s.work c).events.length ≥ 4096)) then coBusy
  else coOk

/-- O1 in one colony: state word OPENING, the descriptor's line with EXT_ID alone, OPEN posted. -/
def State.openIn (s : State) (home slot : Nat) (peers ext : W64) (c : Nat) : State :=
  ((s.setSeq c home slot 1).rgPut c (rgDesc slot) (List.replicate 32 0 ++ toLe 8 ext.toNat ++ List.replicate 216 0)).postEvent c
    (eventLine 1 0 home slot ext peers [] [])

/-- OPEN: the checks, then O1 in every colony of the session. -/
def State.openSession (s : State) (home slot : Nat) (peers ext : W64) (opener : Option Nat) : Nat × State :=
  let e := s.openCheck home slot peers
  if e ≠ coOk then (e, s)
  else
    let cs := sessColonies home peers
    let x : Session :=
      { slot := slot, home := home, peers := peers, ext := ext, live := cs, endReason := none, activity := 0, idle := 0,
        bindIn := [], bindOut := [], opener := opener }
    (coOk, cs.foldl (fun s c => s.openIn home slot peers ext c) { s with sessions := s.sessions ++ [x] })

/-- SESSION_CTRL: OPEN and END; another OP is out of range. An END of a slot with no session changes nothing. -/
def State.sessionCtrl (s : State) (w0 w1 w2 : W64) : Nat × State :=
  let home := fld w0 55 48
  let slot := fld w0 23 0
  if fld w0 63 56 = 1 then s.openSession home slot w1 w2 none
  else if fld w0 63 56 = 2 then
    match s.session slot with
    | some x => (coOk, if x.home = home then s.endSession x 0 else s)
    | none => (coOk, s)
  else (coRange, s)

/-- SESSION_CTRL_OPEN: a write of SESSION_CTRL whose OP is not END. -/
def execSessionCtrlOpen (r : Req) (w0 w1 w2 : W64) (s : State) : Host.Outcome State Fault Refusal :=
  .next (if fld w0 63 56 = 2 then s
    else s.writeReq r (oref 0x5040 0 0) (toLe 8 w0.toNat ++ toLe 8 w1.toNat ++ toLe 8 w2.toNat) (fun s => s.sessionCtrl w0 w1 w2))

/-- SESSION_CTRL_END: a write of SESSION_CTRL whose OP is END. -/
def execSessionCtrlEnd (r : Req) (w0 w1 w2 : W64) (s : State) : Host.Outcome State Fault Refusal :=
  .next (if fld w0 63 56 ≠ 2 then s
    else s.writeReq r (oref 0x5040 0 0) (toLe 8 w0.toNat ++ toLe 8 w1.toNat ++ toLe 8 w2.toNat) (fun s => s.sessionCtrl w0 w1 w2))

/-- OPEN_TIMEOUT: 100 ms after an OPEN. Where every colony has set OPEN, an exchange that opened the session is told (R290); otherwise
the session ends with REASON 3. -/
def execOpenTimeout (slot : BitVec 24) (s : State) : Host.Outcome State Fault Refusal :=
  .next (match s.session slot.toNat with
    | none => s
    | some x =>
      if x.live.any (fun c => decide (s.seqState c x.slot = 1)) then s.endSession x 3
      else if x.endReason.isSome then s
      else
        match x.opener with
        | some e => s.svcEvent e 1 0 x.home x.slot x.ext
        | none => s)

/-! ### Requests of colonies (R233, R234, R243) -/

/-- The next request in a colony's ring: its 256 bytes; none where the ring is empty. -/
def State.nextRequest (s : State) (c : Nat) : Option (List Byte) :=
  let t := s.rg64 c rgRqTail
  if ringCount (s.rg64 c rgRqHead) t = 0 then none else some (s.rgBytes c (rgRqRing + t % 64 * 256) 256)

/-- A word of a request. -/
def reqWord (bs : List Byte) (i : Nat) : W64 := BitVec.ofNat 64 (leBytes ((bs.drop (8 * i)).take 8))

/-- A request has been taken: TAIL counts. -/
def State.takeRequest (s : State) (c : Nat) : State := s.rgPut64 c rgRqTail ((s.rg64 c rgRqTail + 1) % 2 ^ 64)

/-- Request 0x81: a colony of the session ends it with REASON 4. -/
def State.doReqEnd (s : State) (c : Nat) (bs : List Byte) : State :=
  match s.session (fld (reqWord bs 0) 23 0) with
  | some x => if x.live.contains c then s.endSession x 4 else s
  | none => s

/-- The context that word 3 of a slot's descriptor names, if SVALID: comb site and number (R226). -/
def State.descCtx (s : State) (c slot : Nat) : Option (Nat × Nat) :=
  let w : W64 := BitVec.ofNat 64 (leBytes (s.rgBytes c (rgDesc slot + 24) 8))
  if bit w 63 then some (fld w 23 16, fld w 9 8 * 256 + fld w 7 0) else none

/-- The panel with a context reset, where it is granted to the colony. -/
def State.resetIfGranted (s : State) (c : Nat) (w : Nat × Nat) : State :=
  if h : w.1 < 224 then if s.ctxGranted c w.1 w.2 then s.resetCtx ⟨w.1, h⟩ w.2 else s else s

/-- Request 0x82: the named sampler context is reset and the state word set FREE (E3). A sequence that is not ENDING is left alone. -/
def State.doReqRetired (s : State) (c : Nat) (bs : List Byte) : State :=
  match s.session (fld (reqWord bs 0) 23 0) with
  | some x =>
    if x.live.contains c && decide (s.seqState c x.slot = 3) then
      ((match s.descCtx c x.slot with
        | some w => s.resetIfGranted c w
        | none => s).retire x c)
    else s
  | none => s

/-- Request 0x83: a granted context takes a profile; one that is not granted is ignored with a corrected error (R243). -/
def State.doReqProfile (s : State) (c : Nat) (bs : List Byte) : State :=
  let w := reqWord bs 1
  let site := fld w 23 16
  let n := fld w 9 8 * 256 + fld w 7 0
  if h : site < 224 then
    if s.ctxGranted c site n then s.setProfile c ⟨site, h⟩ n (fld (reqWord bs 2) 3 0)
    else s.combErr ⟨site, h⟩ 0x0206 0 w 0
  else s

/-- What a request asks, by KIND; an unknown kind is passed over. -/
def State.doRequest (s : State) (c : Nat) (bs : List Byte) : State :=
  let k := fld (reqWord bs 0) 63 56
  if k = 0x81 then s.doReqEnd c bs else if k = 0x82 then s.doReqRetired c bs else if k = 0x83 then s.doReqProfile c bs else s

/-- Takes the next request of a colony's ring if `ok` holds of its KIND. -/
def State.serveRequest (s : State) (c : Nat) (ok : Nat → Bool) : State :=
  match s.nextRequest c with
  | none => s
  | some bs => if ok (fld (reqWord bs 0) 63 56) then (s.doRequest c bs).takeRequest c else s

/-- REQUEST_RING_POLL: the keeper takes what every ring holds, in ring order; ENDs that met OPENING are applied. -/
def execRequestRingPoll (s : State) : Host.Outcome State Fault Refusal :=
  .next ((List.range 64).foldl (fun s c =>
    (List.range (min 64 (ringCount (s.rg64 c rgRqHead) (s.rg64 c rgRqTail)))).foldl (fun s _ => s.serveRequest c (fun _ => true)) s) s).applyEnds

/-- REQ_END: the next request of a colony's ring is an END. -/
def execReqEnd (c : ColonyId) (s : State) : Host.Outcome State Fault Refusal := .next (s.serveRequest c.val (fun k => k == 0x81))

/-- REQ_RETIRED: the next request of a colony's ring is a RETIRED. -/
def execReqRetired (c : ColonyId) (s : State) : Host.Outcome State Fault Refusal := .next (s.serveRequest c.val (fun k => k == 0x82))

/-- REQ_SET_PROFILE: the next request of a colony's ring is a SET_PROFILE. -/
def execReqSetProfile (c : ColonyId) (s : State) : Host.Outcome State Fault Refusal := .next (s.serveRequest c.val (fun k => k == 0x83))

/-! ### Late and idle sessions (R234, R235) -/

/-- SESSION_END_TIMEOUT: a colony that has not retired an ended session's sequence receives a contained error. -/
def execSessionEndTimeout (c : ColonyId) (slot : BitVec 24) (s : State) : Host.Outcome State Fault Refusal :=
  .next (match s.session slot.toNat with
    | some x =>
      if x.endReason.isSome && x.live.contains c.val then
        s.sendErr (0xF0 + s.lead.code) (mkErr 0x0602 1 6 c.val (s.eid (0xF0 + s.lead.code) 0) 0 (BitVec.ofNat 64 x.slot) 0)
      else s
    | none => s)

/-- One session looked at: its home descriptor's ACTIVITY against what it was a second ago. -/
def State.idleCheck (s : State) (x : Session) : State :=
  let a : W64 := BitVec.ofNat 64 (leBytes (s.rgBytes x.home (rgDesc x.slot + 40) 8))
  let n := if a = x.activity then x.idle + 1 else 0
  let limit := s.objU 0x5031 x.home 0
  let s1 := s.modSess x.slot (fun y => { y with activity := a, idle := n })
  if limit ≠ 0 ∧ n ≥ limit then s1.endSession { x with activity := a, idle := n } 1 else s1

/-- SESSION_IDLE_CHECK: once per second. -/
def execSessionIdleCheck (s : State) : Host.Outcome State Fault Refusal := .next (s.sessions.foldl (fun s x => s.idleCheck x) s)

end Sys2Proof.Machine
end

