-- ==== Sys2Proof/Machine/Layout.lean ====
section
/-!
DEFINITION. A colony's layout (R198, R199), and what the keeper derives from its sampling configuration (R243).
-/
namespace Sys2Proof.Machine

/-! ### Fields (R199) -/

/-- SEGMENTS, PANELS and BRIDGES of the header. -/
def laySegs (l : List W64) : Nat := fld (nth 0 l 0) 47 32
def layPanels (l : List W64) : Nat := fld (nth 0 l 0) 31 24
def layBridges (l : List W64) : Nat := fld (nth 0 l 0) 23 16

/-- Bridge word i: peer and first segment. -/
def layBridge (l : List W64) (i : Nat) : Nat × Nat := (fld (nth 0 l (1 + i)) 55 48, fld (nth 0 l (1 + i)) 43 32)

/-- A segment: its number, store units, height and width, panel, pinned site (0xFF: none). -/
structure Seg where
  g : Nat
  store64 : Nat
  h : Nat
  w : Nat
  panel : Nat
  site : Nat
  deriving DecidableEq, Repr

/-- Segment word g. -/
def laySeg (l : List W64) (g : Nat) : Seg :=
  let v := nth 0 l (1 + layBridges l + g)
  { g := g, store64 := fld v 63 44, h := fld v 39 36 + 1, w := fld v 35 32, panel := fld v 23 16, site := fld v 15 8 }

/-- The own segments of a layout. -/
def laySegList (l : List W64) : List Seg := (List.range (laySegs l)).map (laySeg l)

/-- A layout with its gen-rsvd bits zero (R9). -/
def layMask (l : List W64) : List W64 :=
  match l with
  | [] => []
  | h :: t =>
    let nb := layBridges l
    keep h 0xFF00FFFFFFFF0000 :: ((t.take nb).map (fun w => keep w 0x00FF0FFF00000000) ++ (t.drop nb).map (fun w => keep w 0xFFFFF0FF00FFFF00))

/-! ### Checks (R199, R282) -/

/-- Do ranges of segments keep clear of the own segments, of each other, and of the end? -/
def rangesClear (segs : Nat) : List (Nat × Nat) → Bool
  | [] => true
  | (a, n) :: t => decide (segs ≤ a ∧ a + n ≤ 4096) && t.all (fun e => !unitsMeet a n e.1 e.2) && rangesClear segs t

/-- The field rules of a segment word. -/
def segOk (panels : Nat) (x : Seg) : Bool :=
  decide (x.store64 ≤ 786432 ∧ 1 ≤ x.w ∧ x.w ≤ 11 ∧ x.h * x.w ≤ 176 ∧ x.panel < panels) && decide (x.site < 224 ∨ x.site = 0xFF)

/-- Do two segments that pin one comb need more than its pair store holds? -/
def pinsTooMuch : List Seg → Bool
  | [] => false
  | x :: t => t.any (fun y => decide (x.site ≠ 0xFF ∧ x.site = y.site ∧ x.store64 + y.store64 > 786432)) || pinsTooMuch t

/-- Is a layout acceptable for colony c? Each bridge range counts as one segment long. -/
def layoutOk (c : Nat) (bytes : List Byte) : Bool :=
  let l := words64 bytes
  let n := laySegs l
  let nb := layBridges l
  let segs := laySegList l
  decide (bytes.length = 8 * (1 + nb + n) ∧ fld (nth 0 l 0) 63 56 = 1 ∧ 1 ≤ n ∧ n ≤ 4096 ∧ 1 ≤ layPanels l ∧ layPanels l ≤ 32 ∧ nb ≤ 63) &&
  (List.range nb).all (fun i => decide ((layBridge l i).1 < 64 ∧ (layBridge l i).1 ≠ c)) &&
  segs.all (segOk (layPanels l)) && !pinsTooMuch segs &&
  rangesClear n ((List.range nb).map (fun i => ((layBridge l i).2, 1)))

/-- Does a layout use segment 4,095 as an own or bridge segment (R282)? -/
def uses4095 (l : List W64) : Bool :=
  decide (laySegs l = 4096) || (List.range (layBridges l)).any (fun i => decide ((layBridge l i).2 = 4095))

/-! ### COLONY_SAMPLING (R243) -/

/-- The grammars after the profiles: start and words of each. -/
def grammarsOf : Nat → List W64 → List (Nat × List W64)
  | 0, _ => []
  | k + 1, ws =>
    match ws with
    | [] => []
    | d :: t => (fld d 35 18, t.take (fld d 17 0 + 1)) :: grammarsOf k (t.drop (fld d 17 0 + 1))

/-- A colony's grammars. -/
def samplingGrammars (ws : List W64) : List (Nat × List W64) :=
  grammarsOf (fld (nth 0 ws 0) 39 32) (ws.drop (1 + 4 * fld (nth 0 ws 0) 47 40))

/-- Is a sampling configuration well formed: header, counts, lengths? -/
def samplingOk (bytes : List Byte) : Bool :=
  let ws := words64 bytes
  let h := nth 0 ws 0
  let gs := samplingGrammars ws
  decide (bytes.length % 8 = 0 ∧ fld h 63 56 = 1 ∧ keep h 0x00FF0000FFFFFFFF = 0 ∧ fld h 63 48 % 256 = 0) &&
  decide (1 ≤ fld h 47 40 ∧ fld h 47 40 ≤ 16 ∧ fld h 39 32 ≤ 8 ∧ gs.length = fld h 39 32) &&
  decide (ws.length = 1 + 4 * fld h 47 40 + (gs.map (fun g => g.2.length + 1)).foldl (· + ·) 0) &&
  (List.range gs.length).all (fun i => decide ((nth (0, []) gs i).1 < (nth (0, []) gs i).2.length))

/-- A grammar's words with every state index moved by its base: DEFNEXT of a header with DFLT, and NEXT of every range (R243, R252). -/
def relocate (base : Nat) : Nat → List W64 → List W64
  | _, [] => []
  | 0, h :: t =>
    let v := if bit h 62 then setBits h 0 18 (fld h 17 0 + base) else h
    v :: relocate base (fld h 61 50) t
  | k + 1, w :: t => setBits w 0 18 (fld w 17 0 + base) :: relocate base k t

end Sys2Proof.Machine
end

