-- ==== Sys2Proof/Machine/Place.lean ====
section
/-!
DEFINITION. Placement of a colony (R200, R219, R221, R242, R256): the keeper's search for cells, store extents, slots, contexts, rank
memory. Where the spec leaves the keeper a choice, an open preference is tried first and every legal choice after it.
-/
namespace Sys2Proof

/-- What the lead keeper prefers where the spec leaves it a choice: the kind of choice, the colony, the part, the panel's state (R200: for
identical panel state the choice is identical; log 45). -/
opaque Config.keeperPick : Nat → Nat → Nat → Machine.State → Nat

end Sys2Proof

namespace Sys2Proof.Machine

/-- A list turned to begin at a preferred place. -/
def rotate {α : Type} (l : List α) (k : Nat) : List α := l.drop (k % max 1 l.length) ++ l.take (k % max 1 l.length)

/-! ### Cells (R200) -/

/-- A rectangle of logical cells of a comb: first frame and slot, height and width. -/
structure Rect where
  site : Nat
  f0 : Nat
  s0 : Nat
  h : Nat
  w : Nat
  deriving DecidableEq, Repr

/-- Its first logical cell. -/
def Rect.first (r : Rect) : Nat := r.f0 * 11 + r.s0

/-- Its logical cells, in row-major order. -/
def Rect.cells (r : Rect) : List Nat := (List.range (r.h * r.w)).map (fun k => (r.f0 + k / r.w) * 11 + r.s0 + k % r.w)

/-- The rank memory entry that names a rectangle (R205). -/
def Rect.entry (r : Rect) (panel : Nat) : W64 :=
  BitVec.ofNat 64 (2 ^ 63 + r.w * 2 ^ 48 + r.h * r.w * 2 ^ 40 + panel * 2 ^ 16 + r.site * 2 ^ 8 + r.first)

/-- The rectangle a rank memory entry names. -/
def rectOf (e : W64) : Rect :=
  { site := fld e 15 8, f0 := fld e 7 0 / 11, s0 := fld e 7 0 % 11, h := fld e 47 40 / max 1 (fld e 51 48), w := fld e 51 48 }

/-- Is a logical cell of a comb mapped and bound to no colony? -/
def Comb.freeCell (k : Comb) (l : Nat) : Bool :=
  match k.physOf l with
  | some p => decide ((k.cell p).colony = 0xFF)
  | none => false

/-- May a comb host a segment: enabled, with its pair store in service? -/
def State.combHosts (s : State) (site : Nat) : Bool :=
  decide (site < 224 ∧ (s.combN site).state = 0) && (if h : site < 224 then decide ((s.store (storeOf ⟨site, h⟩)).stb = 2) else false)

/-- The pair store of a site. -/
def pairStore (site : Nat) : Nat := site / 16 * 8 + site % 16 / 2

/-- Every rectangle a segment could take by its shape and pin. -/
def rectsOf (x : Seg) : List Rect :=
  let sites := if x.site = 0xFF then List.range 224 else [x.site]
  sites.flatMap (fun i => (List.range (17 - x.h)).flatMap (fun f => (List.range (12 - x.w)).map (fun k =>
    { site := i, f0 := f, s0 := k, h := x.h, w := x.w })))

/-- Do two rectangles share a cell? -/
def Rect.meets (a b : Rect) : Bool :=
  decide (a.site = b.site) && unitsMeet a.f0 a.h b.f0 b.h && unitsMeet a.s0 a.w b.s0 b.w

/-! ### Store space (R200, R256, R380) -/

/-- COLONY_BANK_64K and COLONY_STREAM_64K. -/
def State.bankUnits (s : State) (c : Nat) : Nat := s.objU 0x7120 c 0
def State.streamUnits (s : State) (c : Nat) : Nat := s.objU 0x7121 c 0

/-- Units of a store that a colony may not use: other colonies' extents, and the dump area (R381). -/
def State.extTaken (s : State) (c st : Nat) : List (Nat × Nat) :=
  (s.colonies.flatMap (fun e => if e.1 = c then [] else (e.2.extents.filter (fun x => decide (x.1 = st))).map (·.2))) ++
    (if st = 0 ∨ st = 111 then [(720896, 65536)] else [])

/-- Is a range of units free? -/
def extFree (taken : List (Nat × Nat)) (b n : Nat) : Bool := decide (b + n ≤ 786432) && taken.all (fun e => !unitsMeet b n e.1 e.2)

/-- Where a colony's extent of n units may lie in a store: where it lies already, if it can grow there; else a free range. -/
def State.extBase (s : State) (c st n : Nat) : Option Nat :=
  let taken := s.extTaken c st
  match (s.colony c).extents.find? (fun x => x.1 = st) with
  | some (_, b, _) => if extFree taken b n then some b else none
  | none =>
    let p := Config.keeperPick 1 c st s % 786432
    ((p :: 0 :: taken.map (fun e => e.1 + e.2)).find? (fun b => extFree taken b n))

/-- Units a colony needs in a store: banks, control region, staging, stream area, own space. -/
def State.extNeed (s : State) (c : Nat) (ps : List (Seg × Rect)) (st : Nat) : Nat :=
  let here := ps.filter (fun p => decide (pairStore p.2.site = st))
  2 * s.bankUnits c + (if here.any (fun p => p.1.g == 0) then 641 else 0) + 96 + s.streamUnits c +
    (here.map (fun p => p.1.store64)).foldl (· + ·) 0

/-- The stores that a placement uses, in order. -/
def storesOf (ps : List (Seg × Rect)) : List Nat := (List.range 112).filter (fun st => ps.any (fun p => decide (pairStore p.2.site = st)))

/-- Does every store of a placement have room? -/
def State.storesFit (s : State) (c : Nat) (ps : List (Seg × Rect)) : Bool :=
  (storesOf ps).all (fun st => (s.extBase c st (s.extNeed c ps st)).isSome)

/-- May a segment take a rectangle, beside those placed already? -/
def State.rectOk (s : State) (c : Nat) (x : Seg) (r : Rect) (ps : List (Seg × Rect)) : Bool :=
  s.combHosts r.site && r.cells.all (s.combN r.site).freeCell && ps.all (fun p => !p.2.meets r) && s.storesFit c (ps ++ [(x, r)])

/-- Places segments one after another, going back where a later one finds no room. -/
def State.placeSegs (s : State) (c : Nat) : List Seg → List (Seg × Rect) → Option (List (Seg × Rect))
  | [], ps => some ps
  | x :: t, ps =>
    (rotate (rectsOf x) (Config.keeperPick 0 c x.g s)).findSome? (fun r =>
      if s.rectOk c x r ps then State.placeSegs s c t (ps ++ [(x, r)]) else none)

/-! ### Slots, contexts, grammars, rank memory (R203, R219, R242, R252) -/

/-- The first free range of n among numbers below a bound: a preferred start, then 0 and the ends of what is taken. -/
def findRange (bound n pick : Nat) (taken : List (Nat × Nat)) : Option Nat :=
  ((pick % max 1 bound :: 0 :: taken.map (fun e => e.1 + e.2)).find? (fun b =>
    decide (b + n ≤ bound) && taken.all (fun e => !unitsMeet b n e.1 e.2)))

/-- Slots of other colonies. -/
def State.slotsTaken (s : State) (c : Nat) : List (Nat × Nat) :=
  s.works.filterMap (fun e => if e.1 = c then none else e.2.slotBase.map (fun b => (b, s.objU 0x5014 e.1 0)))

/-- Context runs of other colonies on a comb. -/
def State.ctxTaken (s : State) (c site : Nat) : List (Nat × Nat) :=
  s.works.filterMap (fun e => if e.1 = c then none else (Tbl.get none e.2.contexts site).map (fun b => (b, s.objU 0x5016 e.1 0)))

/-- Grammar words and descriptors of other colonies on a sampler (key site × 4 + sampler). -/
def State.grmTaken (s : State) (c key : Nat) : List (Nat × Nat) :=
  s.works.flatMap (fun e => if e.1 = c then []
    else List.zipWith (fun g w => (g.1, w.2.length)) (Tbl.get [] e.2.grammars key) (samplingGrammars (s.sampling e.1)))
def State.descTaken (s : State) (c key : Nat) : List Nat :=
  s.works.flatMap (fun e => if e.1 = c then [] else (Tbl.get [] e.2.grammars key).map (·.2))

/-- Places a colony's grammars on a sampler: base and descriptor of each. -/
def State.placeGrammars (s : State) (c key : Nat) : List (Nat × List W64) → List (Nat × Nat) → List Nat → Option (List (Nat × Nat))
  | [], _, _ => some []
  | g :: t, words, descs =>
    match findRange 262144 g.2.length (Config.keeperPick 3 c key s) words, (List.range 16).find? (fun d => !descs.contains d) with
    | some b, some d => (State.placeGrammars s c key t ((b, g.2.length) :: words) (d :: descs)).map ((b, d) :: ·)
    | _, _ => none

/-- The samplers of a comb that a run of contexts touches. -/
def runSamplers (first n : Nat) : List Nat := (List.range 4).filter (fun k => unitsMeet first n (k * 256) 256)

/-- The context run and grammars granted on a comb; none where there is no room. -/
def State.placeCtx (s : State) (c site : Nat) : Option (Nat × List (Nat × List (Nat × Nat))) :=
  let n := s.objU 0x5016 c 0
  match findRange 1024 n (Config.keeperPick 2 c site s) (s.ctxTaken c site) with
  | none => none
  | some first =>
    let gs := samplingGrammars (s.sampling c)
    let rec go : List Nat → Option (List (Nat × List (Nat × Nat)))
      | [] => some []
      | k :: t =>
        match s.placeGrammars c (site * 4 + k) gs (s.grmTaken c (site * 4 + k)) (s.descTaken c (site * 4 + k)), go t with
        | some l, some r => some ((site * 4 + k, l) :: r)
        | _, _ => none
    (go (runSamplers first n)).map (fun l => (first, l))

/-- Rank memory that enabled directory entries of other colonies hold on a comb. -/
def Comb.rnkTaken (k : Comb) (c : Nat) : List (Nat × Nat) :=
  (List.range 64).filterMap (fun d =>
    if d ≠ c ∧ bit (k.ranks.dirOf d) 63 then some (fld (k.ranks.dirOf d) 12 0, fld (k.ranks.dirOf d) 28 16) else none)

/-- Where a colony's table of n entries may lie on a comb. -/
def State.rnkBase (s : State) (c site n : Nat) : Option Nat :=
  findRange 8192 n (Config.keeperPick 4 c site s) ((s.combN site).rnkTaken c)

end Sys2Proof.Machine
end

