-- ==== Sys2Proof/Machine/Image.lean ====
section
/-!
DEFINITION. Images: headers, colony bodies, their checks (R458–R460, R541, R543), and what their sections write into cells (R469).
-/
namespace Sys2Proof.Machine

/-! ### Signatures (R541) -/

/-- Does a signature verify under any non-zero slot of a key object? -/
def State.signedBy (s : State) (idx : Nat) (msg sig : List Byte) : Bool :=
  (List.range 4).any (fun k =>
    let key := s.objGet idx 0 k
    key.any (· != 0) && Config.ed25519Verify key msg sig)

/-! ### Headers (R458) -/

/-- A little-endian field of bytes. -/
def fieldAt (bs : List Byte) (off n : Nat) : Nat := leAt bs off n

/-- Bytes [off, off + n). -/
def slice (bs : List Byte) (off n : Nat) : List Byte := (bs.drop off).take n

/-- Are all bytes zero? -/
def allZero (bs : List Byte) : Bool := bs.all (· == 0)

/-- The header rules that every KIND shares: MAGIC, FORMAT, gen-rsvd, BODY_BYTES with the image's length, BODY_DIGEST. -/
def headerOk (kind limit : Nat) (bs : List Byte) : Bool :=
  let body := fieldAt bs 16 8
  decide (bs.length = 256 + body ∧ fieldAt bs 0 4 = 0x474D494B ∧ fieldAt bs 4 2 = 1 ∧ fieldAt bs 6 1 = kind ∧ body % 256 = 0 ∧ body ≤ limit) &&
  allZero (slice bs 7 1) && allZero (slice bs 28 4) && allZero (slice bs 48 16) && allZero (slice bs 192 64) &&
  decide (Config.sha512 (bs.drop 256) = slice bs 64 64)

/-- An image's facts. -/
def imageOf (bs : List Byte) : Image :=
  { version := BitVec.ofNat 32 (fieldAt bs 8 4), svn := BitVec.ofNat 16 (fieldAt bs 12 2), entry := BitVec.ofNat 32 (fieldAt bs 24 4),
    digest := slice bs 64 64, body := bs.drop 256 }

/-- SVN_FLOOR of a KIND (R543). -/
def State.svnFloor (s : State) (kind : Nat) : Nat := s.objU 0xA020 0 kind

/-- A keeper or steward image that passes R460: its signature is under the key that KIND names. -/
def State.firmwareOk (s : State) (kind limit : Nat) (key bs : List Byte) : Bool :=
  headerOk kind limit bs && decide (fieldAt bs 14 2 = 1) && allZero (slice bs 32 16) &&
  Config.ed25519Verify key (bs.take 128) (slice bs 128 64) && decide (s.svnFloor kind ≤ fieldAt bs 12 2)

/-! ### Colony bodies (R459) -/

/-- Is a TASKS record t (0–7) or window record (8) well formed? -/
def taskRecOk (d : List Byte) (t : Nat) : Bool :=
  let r := slice d (64 * t) 64
  cwinLegal (BitVec.ofNat 64 (fieldAt r 0 8)) && cwinLegal (BitVec.ofNat 64 (fieldAt r 8 8)) &&
  (if t < 8 then decide (fieldAt r 20 1 ≤ 1) && allZero (r.drop 21) else allZero (r.drop 16))

/-- Section record k of a body, if it keeps R459. -/
def sectionOf (segs sections : Nat) (body : List Byte) (k : Nat) : Option Section :=
  let r := slice body (128 * k) 128
  let lo := fieldAt r 0 2
  let hi := fieldAt r 2 2
  let ty := fieldAt r 4 1
  let off := fieldAt r 8 4
  let n := fieldAt r 12 4
  let line := fieldAt r 16 4
  let d := slice body off n
  if decide (lo ≤ hi ∧ hi < segs ∧ ty ≤ 1 ∧ off % 256 = 0 ∧ sections * 128 ≤ off ∧ off + n ≤ body.length ∧ 256 ≤ n ∧ n ≤ 1048576 ∧ n % 256 = 0) &&
      allZero (slice r 5 3) && allZero (slice r 20 12) && allZero (slice r 96 32) && decide (Config.sha512 d = slice r 32 64) &&
      (if ty = 0 then decide (line + n / 256 ≤ 7168)
       else decide (n = 768 ∧ line = 0) && (List.range 9).all (taskRecOk d) && allZero (d.drop 576)) then
    some { segLo := lo, segHi := hi, tasks := ty == 1, line := line, digest := slice r 32 64, data := d }
  else none

/-- Every section, if all keep R459. -/
def sectionsOf (segs sections : Nat) (body : List Byte) : Nat → Option (List Section)
  | 0 => some []
  | k + 1 =>
    match sectionsOf segs sections body k, sectionOf segs sections body k with
    | some l, some x => some (l ++ [x])
    | _, _ => none

/-- Has every segment exactly one TASKS section? -/
def tasksCover (segs : Nat) (l : List Section) : Bool :=
  (List.range segs).all (fun g => decide ((l.filter (fun x => x.tasks && decide (x.segLo ≤ g ∧ g ≤ x.segHi))).length = 1))

/-- LAYOUT_DIGEST: SHA-512 of the layout, its first 16 bytes (R259). -/
def State.layoutDigest (s : State) (c : Nat) : List Byte := (Config.sha512 (s.objGet 0x5010 c 0)).take 16

/-- The image check of a colony (R459, R460, R517); none where it is rejected. -/
def State.checkColImage (s : State) (c : Nat) (bs : List Byte) : Option ColImage :=
  let n := fieldAt bs 14 2
  let segs := laySegs (s.layout c)
  if headerOk 3 268435456 bs && decide (1 ≤ n ∧ n ≤ 1024 ∧ fieldAt bs 24 4 = 0 ∧ slice bs 32 16 = s.layoutDigest c) &&
      s.signedBy 0xA011 (bs.take 128) (slice bs 128 64) && decide (s.svnFloor 3 ≤ fieldAt bs 12 2) then
    match sectionsOf segs n (bs.drop 256) n with
    | some l =>
      if tasksCover segs l then
        some { version := BitVec.ofNat 32 (fieldAt bs 8 4), svn := BitVec.ofNat 16 (fieldAt bs 12 2), digest := slice bs 64 64, sections := l }
      else none
    | none => none
  else none

/-! ### Delivery (R257, R469) -/

/-- The cells of a colony's own segment g on this panel. -/
def State.segCells (s : State) (c g : Nat) : List CellAt :=
  let e := nth 0 (s.colony c).placement g
  if h : fld e 15 8 < 224 then
    if bit e 63 && !bit e 62 && decide (fld e 23 16 = s.swarmPanel.toNat) then
      (rectOf e).cells.filterMap (fun l => ((s.comb ⟨fld e 15 8, h⟩).physOf l).map (fun p => ⟨⟨fld e 15 8, h⟩, p⟩))
    else []
  else []

/-- The cells bound to a colony on this panel. -/
def State.boundCells (s : State) (c : Nat) : List CellAt :=
  (List.finRange 224).flatMap (fun i => ((List.finRange 192).filter (fun p => decide ((s.cell ⟨i, p⟩).colony.toNat = c))).map (fun p => ⟨i, p⟩))

/-- The segments of a section. -/
def Section.segs (x : Section) : List Nat := (List.range (x.segHi + 1 - x.segLo)).map (x.segLo + ·)

/-- TASKS data written to a cell's registers, every task STOPPED. -/
def Cell.setTasks (x : Cell) (d : List Byte) : Cell :=
  let word (t o : Nat) : W64 := keep (BitVec.ofNat 64 (fieldAt d (64 * t + o) 8)) cwinMask
  { x with
    rwin0 := word 8 0, rwin1 := word 8 8,
    core := { x.core with tasks := Vector.ofFn (fun t : Fin 8 =>
      { x.core.tasks.get t with cwin0 := word t.val 0, cwin1 := word t.val 8, pc := BitVec.ofNat 24 (fieldAt d (64 * t.val + 16) 4 % 2 ^ 20) }) } }

/-- A section applied to one cell. -/
def Section.apply (x : Section) (y : Cell) : Cell :=
  if x.tasks then y.setTasks x.data else { y with cmem := y.cmem.write (64 * x.line) (wordsOfBytes x.data) }

/-- A colony image delivered to every cell of its segments. -/
def State.deliver (s : State) (c : Nat) : State :=
  match (s.work c).image with
  | none => s
  | some m => m.sections.foldl (fun s x => x.segs.foldl (fun s g => (s.segCells c g).foldl (fun s a => s.modCell a x.apply) s) s) s

/-- A store window's value (R56). -/
def swinWord (r w : Bool) (via store base size : Nat) : W64 :=
  BitVec.ofNat 64 (2 ^ 63 + b2n w * 2 ^ 62 + b2n r * 2 ^ 61 + via * 2 ^ 53 + store * 2 ^ 46 + size * 2 ^ 20 + base)

/-- The store windows of a task of a colony on a comb: banks read-only, the rest of the extent, the control region (R257). -/
def State.swinsFor (s : State) (c site : Nat) : List W64 :=
  let b := s.bankUnits c
  let st := pairStore site
  let ext := match (s.colony c).extents.find? (fun x => x.1 = st) with
    | some (_, base, size) =>
      [swinWord true false site st base b, swinWord true false site st (base + b) b, swinWord true true site st (base + 2 * b) (size - 2 * b)]
    | none => [0, 0, 0]
  ext ++ [match (s.work c).region with
    | some (i, rst, u) => swinWord true true i rst u 641
    | none => 0]

/-- Does a colony's image start task t of segment g? -/
def ColImage.starts (m : ColImage) (g t : Nat) : Bool :=
  m.sections.any (fun x => x.tasks && decide (x.segLo ≤ g ∧ g ≤ x.segHi) && decide (fieldAt x.data (64 * t + 20) 1 = 1))

/-- A task started by the keeper: its store windows set, then ACTIVE (R43, R257). -/
def Task.launch (t : Task) (sw : List W64) : Task :=
  { t with swin0 := nth 0 sw 0, swin1 := nth 0 sw 1, swin2 := nth 0 sw 2, swin3 := nth 0 sw 3, st := .active, trapCause := 0 }

/-- Tasks whose TASKS record has START = 1 are started in every cell of the colony. -/
def State.startTasks (s : State) (c : Nat) : State :=
  match (s.work c).image with
  | none => s
  | some m =>
    (List.range (laySegs (s.layout c))).foldl (fun s g => (s.segCells c g).foldl (fun s a =>
      let sw := s.swinsFor c a.site.val
      (List.finRange 8).foldl (fun s t =>
        if m.starts g t.val && decide ((s.task ⟨.cell a.site a.phys, t⟩).st = .stopped) then s.modTask ⟨.cell a.site a.phys, t⟩ (fun k => k.launch sw)
        else s) s) s) s

/-- Every task of the colony is stopped. -/
def State.stopTasks (s : State) (c : Nat) : State :=
  (s.boundCells c).foldl (fun s a => (tasksOf (.cell a.site a.phys)).foldl (fun s t => s.taskStop t) s) s

end Sys2Proof.Machine
end

