-- ==== Sys2Proof/Machine/Reserve.lean ====
section
/-!
DEFINITION. What a placement writes: extents, rank tables, bindings, contexts, waggle groups; and how it is taken back (R196–R208, R212,
R219–R222, R242, R256, R340, R380, R388).
-/
namespace Sys2Proof.Machine

/-! ### Extents (R256, R380, R382, R388) -/

/-- A colony's extent laid out in units from its start: control region (segment 0's store only), staging, stream area, own space. -/
def extCtrl (b : Nat) : Nat := 2 * b
def extStage (b : Nat) (zero : Bool) : Nat := 2 * b + (if zero then 641 else 0)
def extStream (b : Nat) (zero : Bool) : Nat := extStage b zero + 96
def extOwn (b sUnits : Nat) (zero : Bool) : Nat := extStream b zero + sUnits

/-- The extent of a colony in a store: base and size. -/
def State.extentOf (s : State) (c st : Nat) : Option (Nat × Nat) := ((s.colony c).extents.find? (fun x => x.1 = st)).map (·.2)

/-- Reserves an extent: units it did not hold are zeroed, STB_EXT enabled, and STB_KVQ where its own space is not empty. -/
def State.reserveExt (s : State) (c st base size : Nat) (zero : Bool) : State :=
  let old := s.extentOf c st
  let own := base + extOwn (s.bankUnits c) (s.streamUnits c) zero
  let s1 := s.modStore st (fun x =>
    let y := match old with
      | some (b, n) => if size > n then x.zeroRange ((b + n) * 65536) ((size - n) * 65536) else x
      | none => x.zeroRange (base * 65536) (size * 65536)
    { y with ext := Tbl.put 0 y.ext c (BitVec.ofNat 64 (2 ^ 63 + size * 2 ^ 20 + base)),
             kvq := Tbl.put 0 y.kvq c (if own < base + size then BitVec.ofNat 64 (2 ^ 63 + own) else 0),
             kvTaken := Tbl.put 0 y.kvTaken c 0, kvDone := Tbl.put 0 y.kvDone c 0 })
  s1.modColony c (fun k => { k with extents := (k.extents.filter (fun x => !decide (x.1 = st))) ++ [(st, base, size)] })

/-- Gives an extent back: its queue and its extent register are disabled. -/
def State.freeExt (s : State) (c st : Nat) : State :=
  (s.modStore st (fun x =>
    { x with ext := Tbl.put 0 x.ext c 0, kvq := Tbl.put 0 x.kvq c 0, kv := x.kv.filter (fun k => !decide (k.colony = c)) })).modColony c
      (fun k => { k with extents := k.extents.filter (fun x => !decide (x.1 = st)) })

/-- Reserves what a placement needs in every store; segment 0's store holds the control region. -/
def State.reserveStores (s : State) (c : Nat) (ps : List (Seg × Rect)) : State :=
  (storesOf ps).foldl (fun s st =>
    match s.extBase c st (s.extNeed c ps st) with
    | some b =>
      let zero := ps.any (fun p => p.1.g == 0 && decide (pairStore p.2.site = st))
      let s1 := s.reserveExt c st b (s.extNeed c ps st) zero
      if zero then
        s1.modWork c (fun w => { w with region := ((ps.find? (fun p => p.1.g == 0)).map (fun p => (p.2.site, st, b + extCtrl (s.bankUnits c)))) })
      else s1
    | none => s) s

/-! ### Rank tables (R199, R201–R206) -/

/-- Bridge ranges of a layout with their lengths now: the peer's SEGMENTS, or one where the peer is FREE (R199). -/
def State.bridgeRanges (s : State) (l : List W64) : List (Nat × Nat × Nat) :=
  (List.range (layBridges l)).map (fun i =>
    let b := layBridge l i
    (b.1, b.2, if (s.colony b.1).state = 0 then 1 else laySegs (s.layout b.1)))

/-- Entries of a colony's table: own segments, and bridge ranges up to the last. -/
def tableLen (segs : Nat) (bridges : List (Nat × Nat × Nat)) : Nat := bridges.foldl (fun a b => max a (b.2.1 + b.2.2)) segs

/-- Can cells of a colony be reached through bridges: placed, and not in restart, FAILED or undone (R209, R212)? -/
def State.reachable (s : State) (c : Nat) : Bool :=
  decide (2 ≤ (s.colony c).state ∧ (s.colony c).state ≤ 6)

/-- The bridge entry for the peer's segment k: its own entry with BRIDGE set, VALID only while the peer can be reached. -/
def State.bridgeEntry (s : State) (peer k : Nat) : W64 :=
  let e := nth 0 (s.colony peer).placement k
  if s.reachable peer && bit e 63 && !bit e 62 then setBit e 62 true else setBit (keep e 0x000FFF0000FFFFFF) 62 true

/-- The segment list of a colony: own entries, then bridge entries in their places; other places hold no segment. -/
def State.segTable (s : State) (own : List W64) (bridges : List (Nat × Nat × Nat)) : List W64 :=
  (List.range (tableLen own.length bridges)).map (fun g =>
    if g < own.length then nth 0 own g
    else
      match bridges.find? (fun b => decide (b.2.1 ≤ g ∧ g < b.2.1 + b.2.2)) with
      | some b => s.bridgeEntry b.1 (g - b.2.1)
      | none => 0)

/-- The combs of this panel that host a colony. -/
def State.hostSites (s : State) (c : Nat) : List Site :=
  (List.finRange 224).filter (fun i => (s.colony c).placement.any (fun e =>
    bit e 63 && !bit e 62 && decide (fld e 23 16 = s.swarmPanel.toNat ∧ fld e 15 8 = i.val)))

/-- Writes a colony's segment list, directory entry and bridge grants into a comb, at the base it holds or a new one. -/
def State.writeTable (s : State) (c : Nat) (i : Site) : State :=
  let t := (s.colony c).placement
  let d := (s.comb i).ranks.dirOf c
  let base := if bit d 63 && decide (fld d 28 16 = t.length) then some (fld d 12 0) else s.rnkBase c i.val t.length
  match base with
  | none => s
  | some b =>
    s.modRanks i (fun k =>
      { k with mem := Tbl.putAll 0 k.mem b t,
               dir := Tbl.put 0 k.dir c (BitVec.ofNat 64 (2 ^ 63 + b2n (s.objU 0xB020 c 0 != 0) * 2 ^ 62 + t.length * 2 ^ 16 + b)),
               bridge := Tbl.put 0 k.bridge c (BitVec.ofNat 64 (s.objU 0x5011 c 0)) })

/-- Clears a colony's directory entry, its entries and its bridge grants on a comb. -/
def State.clearTable (s : State) (c : Nat) (i : Site) : State :=
  s.modRanks i (fun k =>
    let d := k.dirOf c
    { k with mem := if bit d 63 then Tbl.clear k.mem (fld d 12 0) (fld d 28 16) else k.mem, dir := Tbl.put 0 k.dir c 0, bridge := Tbl.put 0 k.bridge c 0 })

/-- Bridge entries that name a colony are written again in every peer's tables: VALID 0 while it cannot be reached (R212 steps 2, 7). -/
def State.rebridge (s : State) (c : Nat) : State :=
  (List.range 64).foldl (fun s p =>
    let bs := (s.work p).bridges
    if p = c ∨ !s.reachable p ∨ !bs.any (fun b => b.1 = c) then s
    else
      let s1 := s.modColony p (fun k => { k with placement := s.segTable (k.placement.take (laySegs (s.layout p))) bs })
      (s1.hostSites p).foldl (fun s i => s.writeTable p i) s1) s

/-! ### Bindings (R62, R208, R427, R439) -/

/-- PST_SITE.DEEPEST of a site. -/
def State.setDeepest (s : State) (c : CellAt) (n : Nat) : State :=
  s.modPw c.site (fun w => { w with deepest := Tbl.put 1 w.deepest c.phys.val n, deepestLatch := Tbl.put none w.deepestLatch c.phys.val none })

/-- COLONY_CLOCK as a CAP (R427). -/
def clockCap (n : Nat) : Nat := if n = 0xFF then 16 else n

/-- A cell of the colony: woken, bound, with DEEPEST and CAP of the colony. -/
def State.bindCell (s : State) (c : Nat) (a : CellAt) : State :=
  let s1 := (s.dawn a).modCell a (fun x => { x with colony := BitVec.ofNat 8 c })
  (s1.setDeepest a (s.objU 0x8024 c 0)).setCap a (clockCap (s.objU 0x8023 c 0))

/-- A cell whose binding ends: woken where asleep, reset, then unbound; DEEPEST returns to 1 (R208, R424). -/
def State.unbindCell (s : State) (a : CellAt) : State :=
  (((s.dawn a).cellReset a).modCell a (fun x => { x with colony := 0xFF })).setDeepest a 1

/-! ### Sampler contexts (R242, R243) -/

/-- Loads the colony's grammars where the grant placed them. -/
def State.loadGrammars (s : State) (c : Nat) (i : Site) (k : SamplerId) (gs : List (Nat × Nat)) : State :=
  (List.zip (samplingGrammars (s.sampling c)) gs).foldl (fun s g =>
    let base := g.2.1
    s.modSmp ⟨i, k⟩ (fun x =>
      { x with grammar := Tbl.putAll 0 x.grammar base (relocate base 0 g.1.2),
               grmDesc := Tbl.put 0 x.grmDesc g.2.2
                 (BitVec.ofNat 64 (2 ^ 63 + (base + g.1.1) * 2 ^ 36 + (g.1.2.length - 1) * 2 ^ 18 + base)) })) s

/-- The contexts granted to a colony, by comb: profile 0 in each. -/
def State.loadContexts (s : State) (c : Nat) : State :=
  (s.work c).contexts.foldl (fun s e =>
    if h : e.1 < 224 then
      match e.2 with
      | some first =>
        let i : Site := ⟨e.1, h⟩
        let s1 := (List.finRange 4).foldl (fun s k => s.loadGrammars c i k (Tbl.get [] (s.work c).grammars (e.1 * 4 + k.val))) s
        (List.range (s.objU 0x5016 c 0)).foldl (fun s k => s.setProfile c i (first + k) 0) s1
      | none => s
    else s) s

/-- Every granted context's state is reset (R212 step 1). -/
def State.resetContexts (s : State) (c : Nat) : State :=
  (s.work c).contexts.foldl (fun s e =>
    if h : e.1 < 224 then
      match e.2 with
      | some first => (List.range (s.objU 0x5016 c 0)).foldl (fun s k => s.resetCtx ⟨e.1, h⟩ (first + k)) s
      | none => s
    else s) s

/-- The grants taken back: contexts return to their reset state, descriptors to not VALID. -/
def State.freeContexts (s : State) (c : Nat) : State :=
  let n := s.objU 0x5016 c 0
  let s1 := (s.work c).contexts.foldl (fun s e =>
    if h : e.1 < 224 then
      match e.2 with
      | some first => (List.range n).foldl (fun s k =>
          (s.resetCtx ⟨e.1, h⟩ (first + k)).modSmp (ctxSmp ⟨e.1, h⟩ (first + k)) (fun x => x.modCtx ((first + k) % 256) (fun _ => SmpCtx.reset))) s
      | none => s
    else s) s
  let s2 := (s.work c).grammars.foldl (fun s e =>
    if h : e.1 / 4 < 224 then
      s.modSmp ⟨⟨e.1 / 4, h⟩, ⟨e.1 % 4, by omega⟩⟩ (fun x => { x with grmDesc := e.2.foldl (fun t g => Tbl.put 0 t g.2 0) x.grmDesc })
    else s) s1
  s2.modWork c (fun w => { w with contexts := [], grammars := [] })

/-- The grant table: one word for each hosting comb (R242). -/
def State.writeGrants (s : State) (c : Nat) : State :=
  (List.range 224).foldl (fun s i =>
    s.rgPut64 c (rgGrant i) (match Tbl.get none (s.work c).contexts i with
      | some first => 2 ^ 63 + s.objU 0x5016 c 0 * 2 ^ 10 + first
      | none => 0)) s

/-! ### The waggle tree and its groups (R330, R334, R338, R340) -/

/-- PARENT of a comb in the default tree: 0 panel root, 1 N, 2 E, 3 S, 4 W (R330). -/
def defaultParent (i : Site) : Nat :=
  let r := rowOf i
  let c := colOf i
  if r = 6 ∧ c = 7 then 0 else if r = 6 ∧ c = 8 then 4 else if c ≤ 6 then 2 else if c ≥ 9 then 4 else if r ≥ 7 then 1 else 3

/-- Can the tree pass a comb: it is started, and no detour leads around it (R317, R338)? -/
def State.treeOk (s : State) (i : Site) : Bool := (s.comb i).router.tablesUp && !(s.comb i).detour

/-- The panel root: 0x67, or 0x68 across the seam where the tree cannot pass 0x67 (log 92). -/
def State.panelRoot (s : State) : Site := if s.treeOk 0x67 then 0x67 else 0x68

/-- Does a direction lead from a comb into a tree? -/
def leadsInto (t : List (Nat × Nat)) (i : Site) (d : Nat) : Bool :=
  match linkPeer i (wagDir d) with
  | some j => t.any (fun e => decide (e.1 = j.val))
  | none => false

/-- A tree, as combs with their PARENT, grown: by default parents, else by one comb whose default parent the tree cannot pass, to an adjacent
comb of the keeper's choice. -/
def State.treeStep (s : State) (t : List (Nat × Nat)) : List (Nat × Nat) :=
  let out := (List.finRange 224).filter (fun i => s.treeOk i && !t.any (fun e => decide (e.1 = i.val)))
  let next := out.filter (fun i => leadsInto t i (defaultParent i))
  let cut := out.filter (fun i => match linkPeer i (wagDir (defaultParent i)) with
    | some j => !s.treeOk j
    | none => true)
  if !next.isEmpty then t ++ next.map (fun i => (i.val, defaultParent i))
  else
    match (cut ++ out).findSome? (fun i =>
      ((rotate [1, 2, 3, 4] (Config.keeperPick 6 0 i.val s)).find? (leadsInto t i)).map (fun d => (i.val, d))) with
    | some e => t ++ [e]
    | none => t

/-- A tree grown until no comb joins it. -/
def State.treeGrow (s : State) : Nat → List (Nat × Nat) → List (Nat × Nat)
  | 0, t => t
  | n + 1, t => if (s.treeStep t).length = t.length then t else State.treeGrow s n (s.treeStep t)

/-- This panel's place among the panels of the swarm, by rising number; none outside a swarm. -/
def State.swarmPlace (s : State) : Option Nat :=
  (List.range s.swarmMembers.length).find? (fun k => (s.swarmMembers.map (·.1))[k]? == some s.swarmPanel.toNat)

/-- UP_PANEL of the panel root: the parent of pi is p((i − 1) div 2); 0xFF is none (R334). -/
def State.swarmUp (s : State) : Nat :=
  match s.swarmPlace with
  | some (k + 1) => ((s.swarmMembers.map (·.1))[k / 2]?).getD 0xFF
  | _ => 0xFF

/-- The child panels of this panel in the swarm's tree. -/
def State.swarmKids (s : State) : List Nat :=
  match s.swarmPlace with
  | some k => ((s.swarmMembers.map (·.1)).drop (2 * k + 1)).take 2
  | none => []

/-- The lead keeper writes the tree: every WAG_PARENT, with UP_PANEL at the panel root (R330, R334, R338). -/
def State.layTree (s : State) : State :=
  let t := s.treeGrow 224 [(s.panelRoot.val, 0)]
  (List.finRange 224).foldl (fun u i => u.modWag i (fun w =>
    { w with parent := BitVec.ofNat 3 (((t.find? (fun e => decide (e.1 = i.val))).map (·.2)).getD (defaultParent i)),
             upPanel := if i = s.panelRoot then BitVec.ofNat 8 s.swarmUp else 0xFF })) s

/-- The combs from a comb up its tree to the root. -/
def State.treePath (s : State) : Nat → Site → List Site
  | 0, i => [i]
  | k + 1, i =>
    let p := (s.comb i).waggle.parent.toNat
    if p = 0 then [i]
    else
      match linkPeer i (wagDir p) with
      | some j => i :: State.treePath s k j
      | none => [i]

/-- Is the comb in direction d (1 N, 2 E, 3 S, 4 W) a child of a comb that the group's tree holds? -/
def State.isChild (s : State) (i : Site) (d : Nat) (tree : List Site) : Bool :=
  match linkPeer i (wagDir d) with
  | some j => tree.contains j && decide ((s.comb j).waggle.parent.toNat = (if d = 1 then 3 else if d = 3 then 1 else if d = 2 then 4 else 2))
  | none => false

/-- SWARM_KIDS of a group: the child panels that take part in it (R322, R334, R340). -/
def State.groupKids (s : State) (g : Nat) : Nat :=
  if g = 0x41 then s.swarmKids.length
  else if g < 64 then
    (if layPanels (s.layout g) > 1 then (s.swarmKids.filter (fun p => decide (p < layPanels (s.layout g)))).length else 0)
  else 0

/-- A keeper that is up is an input where it enters the tree, in the SYSTEM and SWARM groups (R321, R330). -/
def State.keeperInput (s : State) (i : Site) (g : Nat) : Nat :=
  match keeperEdge i with
  | some h => if 64 ≤ g ∧ keeperComb h = i ∧ (s.keeper h).health = 0 then 32 else 0
  | none => 0

/-- The keeper writes a group over the combs that hold its members and those between them and the root: a colony's hosts, every comb for SYSTEM
and SWARM (R322, R340). -/
def State.writeGroup (s : State) (g : Nat) : State :=
  let hosts := ((if g < 64 then s.hostSites g else List.finRange 224)).filter s.treeOk
  let tree := if g < 64 then hosts.flatMap (s.treePath 224) else hosts
  (List.finRange 224).foldl (fun u i =>
    let own := if hosts.contains i then 1 else 0
    let kids := ([1, 2, 3, 4].filter (fun d => s.isChild i d tree)).foldl (fun a d => a + 2 ^ d) 0
    let panels := if i = s.panelRoot then s.groupKids g else 0
    let v : W64 := if tree.contains i then BitVec.ofNat 64 (2 ^ 63 + (own + kids + s.keeperInput i g) * 2 ^ 48 + panels * 2 ^ 40) else 0
    u.modWag i (fun w => { w with group := Tbl.put 0 w.group g v })) s

/-- Every group written. -/
def State.writeGroups (s : State) : State := (List.range 66).foldl (fun s g => s.writeGroup g) s

/-- The tree and every group written anew, around the combs it cannot pass. -/
def State.retree (s : State) : State := s.layTree.writeGroups

/-- A comb leaves the tree: every group with an open operation whose tree passes it is aborted, and the tree is laid around it (R338). -/
def State.leaveTree (s : State) (x : Site) : State :=
  (((List.range 66).filter (fun g => bit (s.wagGroup x g) 63 && s.groupOpen g)).foldl (fun s g => s.abortGroup g) s).retree

/-! ### PLACED (R209, R219–R221, R242) -/

/-- What a placement finds beside cells and stores: the slot base, and for each hosting comb its context run, grammars and rank base.
None where one of them finds no room. -/
def State.grants (s : State) (c tlen : Nat) (sites : List Nat) : Option (Option Nat × List (Nat × Nat × List (Nat × List (Nat × Nat)))) :=
  let slots := s.objU 0x5014 c 0
  let base := if slots = 0 then some none else (findRange 131072 slots (Config.keeperPick 5 c 0 s) (s.slotsTaken c)).map some
  let ctx := if s.objU 0x5016 c 0 = 0 then some []
    else sites.foldr (fun i acc =>
      match s.placeCtx c i, acc with
      | some g, some l => some ((i, g.1, g.2) :: l)
      | _, _ => none) (some [])
  if sites.all (fun i => (s.rnkBase c i tlen).isSome) then
    match base, ctx with
    | some b, some l => some (b, l)
    | _, _ => none
  else none

/-- The own entries of a placement, in segment order. -/
def State.ownEntries (s : State) (ps : List (Seg × Rect)) (n : Nat) : List W64 :=
  (List.range n).map (fun g =>
    match ps.find? (fun p => p.1.g = g) with
    | some p => p.2.entry s.swarmPanel.toNat
    | none => 0)

/-- The segments of a layout that this panel hosts. -/
def State.ownSegs (s : State) (l : List W64) : List Seg :=
  (laySegList l).filter (fun x => decide (layPanels l = 1 ∨ x.panel = s.swarmPanel.toNat))

/-- Tables, bindings, contexts and groups after a placement is fixed. -/
def State.settle (s : State) (c : Nat) : State :=
  let s1 := (s.hostSites c).foldl (fun s i => s.writeTable c i) s
  let s2 := (List.range (laySegs (s1.layout c))).foldl (fun s g => (s.segCells c g).foldl (fun s a =>
    if (s.cell a).colony.toNat = c then s else s.bindCell c a) s) s1
  ((s2.writeGroup c).writeGrants c).rebridge c

/-- Places a colony: PLACED with everything reserved, or none where there is no room. -/
def State.place (s : State) (c : Nat) : Option State :=
  let l := s.layout c
  match s.placeSegs c (s.ownSegs l) [] with
  | none => none
  | some ps =>
    let bridges := s.bridgeRanges l
    let own := s.ownEntries ps (laySegs l)
    let t := s.segTable own bridges
    let sites := (List.range 224).filter (fun i => ps.any (fun p => p.2.site = i))
    match s.grants c t.length sites with
    | none => none
    | some (slots, ctx) =>
      let s1 := (s.modColony c (fun k => { k with state := 2, placement := t })).modWork c (fun w =>
        { w with slotBase := slots, bridges := bridges,
                 contexts := ctx.foldl (fun m e => Tbl.put none m e.1 (some e.2.1)) [],
                 grammars := ctx.foldl (fun m e => e.2.2.foldl (fun m g => Tbl.put [] m g.1 g.2) m) [] })
      some (((s1.reserveStores c ps).settle c).loadContexts c)

/-- Everything a colony holds is given back: sessions, contexts, tables, bindings, extents, slots, groups. -/
def State.unplace (s : State) (c : Nat) : State :=
  let s1 := (s.boundCells c).foldl State.unbindCell (s.freeContexts c)
  let s2 := (List.finRange 224).foldl (fun s i => s.clearTable c i) s1
  let s3 := (s2.colony c).extents.foldl (fun s x => s.freeExt c x.1) s2
  let s4 := (s3.modColony c (fun k => { k with placement := [], extents := [] })).modWork c (fun _ => ColonyWork.empty)
  ((List.finRange 224).foldl (fun s i => s.modWag i (fun w => { w with group := Tbl.put 0 w.group c 0 })) s4).rebridge c

end Sys2Proof.Machine
end

