-- ==== Sys2Proof/Machine/Colony.lean ====
section
/-!
DEFINITION. The life cycle of colonies: layout, DEPLOY, START, STOP, RESTART, RELEASE, draining, failure, restart (R199, R209–R215, R236).
-/
namespace Sys2Proof.Machine

/-! ### States and reasons (R209, R210) -/

def csFree : Nat := 0
def csDefined : Nat := 1
def csPlaced : Nat := 2
def csLoading : Nat := 3
def csReady : Nat := 4
def csServing : Nat := 5
def csDraining : Nat := 6
def csRestarting : Nat := 7
def csFailed : Nat := 8

def crNone : Nat := 0
def crNoRoom : Nat := 1
def crWeights : Nat := 2
def crImage : Nat := 3
def crLimit : Nat := 4
def crPeer : Nat := 5
def crBelow : Nat := 6
def crBridge : Nat := 7

/-- The panel with a colony's state and reason set. -/
def State.setCol (s : State) (c st reason : Nat) : State := s.modColony c (fun k => { k with state := st, reason := reason })

/-- COLONY_LAYOUT may be written in FREE and DEFINED alone; so may every object of its static block (R218, R255, R276, R293). -/
def State.colonyStatic (s : State) (c : Nat) : Bool := decide ((s.colony c).state ≤ 1)

/-- A COLONY_LAYOUT value is accepted: FREE becomes DEFINED (R199, R210, R282). -/
def State.layoutWrite (s : State) (c : Nat) (bytes : List Byte) : Nat × State :=
  if !layoutOk c bytes || (s.objU 0xB020 c 0 != 0 && uses4095 (words64 bytes)) then (coRange, s)
  else if !s.colonyStatic c then (coBusy, s)
  else s.putStored (objKey 0x5010 c 0) (bytes64 (layMask (words64 bytes))) (fun s => s.setCol c csDefined (s.colony c).reason)

/-- COLONY_LAYOUT_WRITE. -/
def execColonyLayoutWrite (r : Req) (c : ColonyId) (bytes : List Byte) (s : State) : Host.Outcome State Fault Refusal :=
  .next (s.writeReq r (oref 0x5010 c.val 0) bytes (fun s => s.layoutWrite c.val bytes))

/-! ### Loads (R267, R271) -/

/-- A load ends: FAILED with a reason. -/
def State.failLoad (s : State) (c reason : Nat) : State :=
  s.modWork c (fun w => { w with load := { w.load with state := 4, reason := reason, left := [], again := [] } })

/-- Is a load of the colony running? -/
def ColonyWork.loading (w : ColonyWork) : Bool := decide (w.load.state = 1 ∨ w.load.state = 2)

/-- A load in progress is abandoned with ABORTED. -/
def State.abortLoad (s : State) (c : Nat) : State := if (s.work c).loading then s.failLoad c 10 else s

/-- L1: the target bank is the one that is not valid, or A; the state is MANIFEST (R267). -/
def State.startLoad (s : State) (c : Nat) (ref : List Byte) (first : Bool) : State :=
  s.modWork c (fun w =>
    { w with load := { Load.idle with state := 1, bank := if w.bankA.valid && !w.bankB.valid then 1 else 0,
                                      auto := bit (nth 0 ref 1) 0, first := first, ref := ref } })

/-! ### Failure (R209) -/

/-- The guard patrol of every comb that hosts a colony is paused, or resumes (R212 steps 3 and 7). -/
def State.pauseAt (s : State) (sites : List Site) (on : Bool) : State :=
  sites.foldl (fun s i => s.modComb i (fun k => { k with guardPaused := on })) s
def State.pausePatrol (s : State) (c : Nat) (on : Bool) : State := s.pauseAt (s.hostSites c) on

/-- FAILED: sessions end as at step 1 of a restart, bridges to the colony are withdrawn, its cells are reset and stay bound. -/
def State.failColony (s : State) (c reason : Nat) : State :=
  let s0 := if (s.colony c).state = csRestarting then s.pausePatrol c false else s
  let s1 := (((s0.abortLoad c).dropSessions c).setCol c csFailed reason).rebridge c
  ((s1.boundCells c).foldl State.cellReset s1).modWork c (fun w => { w with refetch := [], swarm := none, updateDrain := false })

/-! ### DEPLOY (R199, R200, R210, R267, R517) -/

/-- Is an image or weight reference's SOURCE VALID (R258, R276)? -/
def State.sourceValid (s : State) (ref : List Byte) : Bool :=
  decide (fieldAt ref 0 1 < 16) && nth 0 (s.objGet 0x7110 0 (fieldAt ref 0 1)) 0 != 0

/-- PLACED becomes LOADING: the image is fetched and checked, its sections delivered, and the first load begun; or FAILED. -/
def State.beginLoading (s : State) (c : Nat) (img : Option (List Byte)) : State :=
  let s1 := (s.setCol c csLoading crNone).modWork c (fun w => { w with imageState := 1 })
  match (if s.sourceValid (s.objGet 0x5050 c 0) then img else none) with
  | none => (s1.modWork c (fun w => { w with imageState := 4 })).failColony c crImage
  | some bs =>
    match s1.checkColImage c bs with
    | none => (s1.modWork c (fun w => { w with imageState := 3 })).failColony c crImage
    | some m => (((s1.modWork c (fun w => { w with imageState := 2, image := some m })).deliver c).startLoad c
        (s.objGet 0x7105 c 0) true)

/-- DEPLOY of a DEFINED colony on this panel: DEFINED with BRIDGE_RANGE or NO_ROOM, or on through PLACED into LOADING. -/
def State.deploy (s : State) (c : Nat) (img : Option (List Byte)) : State :=
  let l := s.layout c
  let s0 := s.setCol c csDefined crNone
  if !rangesClear (laySegs l) ((s.bridgeRanges l).map (fun b => (b.2.1, b.2.2))) then s.setCol c csDefined crBridge
  else
    match s0.place c with
    | none => s.setCol c csDefined crNoRoom
    | some s1 => s1.beginLoading c img

/-! ### Restart (R211–R213, R236, R271) -/

/-- A slot of a cell that is unmapped is mapped to its frame's spare, where there is one (R212 step 4). -/
def State.mapToSpare (s : State) (i : Site) (l : Nat) : State :=
  let f := l / 11
  let w := (s.comb i).mapWord f
  if slotPos w (l % 11) < 12 ∨ sparePos w ≥ 12 then s
  else s.modComb i (fun k => { k with siteMap := Tbl.put siteMapDefault k.siteMap f (setBits (setBits w (4 * (l % 11)) 4 (sparePos w)) 44 4 15) })

/-- Unmapped cells of a colony's own segments take the spares of their frames. -/
def State.takeSpares (s : State) (c : Nat) : State :=
  (s.colony c).placement.foldl (fun s e =>
    if h : fld e 15 8 < 224 then
      if bit e 63 && !bit e 62 && decide (fld e 23 16 = s.swarmPanel.toNat) then
        (rectOf e).cells.foldl (fun s l => s.mapToSpare ⟨fld e 15 8, h⟩ l) s
      else s
    else s) s

/-- Does an own segment keep its place: its comb in service with its pair store, and every cell mapped? -/
def State.segKeeps (s : State) (c g : Nat) : Bool :=
  let e := nth 0 (s.colony c).placement g
  s.combHosts (fld e 15 8) && (rectOf e).cells.all (fun l => ((s.combN (fld e 15 8)).physOf l).isSome)

/-- Re-placement (step 4): segments that lost their place are placed again; none where no placement is left. The segments whose weights
must be fetched again come with it: those that moved to another store (R271). -/
def State.replace (s : State) (c : Nat) : Option (State × List Nat) :=
  let s1 := s.takeSpares c
  let l := s1.layout c
  let own := s1.ownSegs l
  let kept := own.filter (fun x => s1.segKeeps c x.g)
  let lost := own.filter (fun x => !s1.segKeeps c x.g)
  let storeWas (g : Nat) : Nat := pairStore (fld (nth 0 (s1.colony c).placement g) 15 8)
  let s2 := lost.foldl (fun s x => (s.segCells c x.g).foldl State.unbindCell s) s1
  let s3 := ((s2.colony c).extents.filter (fun x => !kept.any (fun y => storeWas y.g == x.1))).foldl (fun s x => s.freeExt c x.1) s2
  let ps0 := kept.map (fun x => (x, rectOf (nth 0 (s3.colony c).placement x.g)))
  match s3.placeSegs c lost ps0 with
  | none => none
  | some ps =>
    let entries := s3.ownEntries ps (laySegs l)
    let t := s3.segTable entries (s3.work c).bridges
    let sites := (List.range 224).filter (fun i => ps.any (fun p => p.2.site = i))
    let fresh := sites.filter (fun i => decide (s3.objU 0x5016 c 0 > 0) && (Tbl.get none (s3.work c).contexts i).isNone)
    let ctx := fresh.foldr (fun i acc =>
      match s3.placeCtx c i, acc with
      | some g, some r => some ((i, g.1, g.2) :: r)
      | _, _ => none) (some [])
    match ctx with
    | none => none
    | some ctx =>
      if !sites.all (fun i => (s3.rnkBase c i t.length).isSome) then none
      else
        let away := (s3.hostSites c).filter (fun i => !sites.contains i.val)
        let s4 := away.foldl (fun s i => s.clearTable c i) s3
        let s5 := (s4.modColony c (fun k => { k with placement := t })).modWork c (fun w =>
          { w with contexts := ctx.foldl (fun m e => Tbl.put none m e.1 (some e.2.1)) (w.contexts.filter (fun e => sites.contains e.1)),
                   grammars := ctx.foldl (fun m e => e.2.2.foldl (fun m g => Tbl.put [] m g.1 g.2) m) (w.grammars.filter (fun e => sites.contains (e.1 / 4))) })
        let moved := lost.filter (fun x => match ps.find? (fun p => p.1.g = x.g) with
          | some p => pairStore p.2.site != storeWas x.g
          | none => false)
        some ((s5.reserveStores c ps).settle c, moved.map (·.g))

/-- The region as a restart leaves it: state words FREE, counters, ring indexes and the request ring zero, ADMIT kept (R236). -/
def State.clearRegion (s : State) (c : Nat) (adm : Nat) : State :=
  match (s.work c).region with
  | none => s
  | some (_, st, u) =>
    (s.modStore st (fun x =>
      { x with mem := Tbl.clear (Tbl.clear (Tbl.clear x.mem (u * 65536 + 0x40) 0x280) (u * 65536 + rgRqRing) 0x4000) (u * 65536 + 0x10000) 0x800000 })).rgPut64
        c rgAdmit adm

/-- KV pages are cleared: the colony's own space in every store is zero, and its KV queue starts anew (R212 step 6, R388). -/
def State.clearOwn (s : State) (c : Nat) : State :=
  (s.colony c).extents.foldl (fun s x =>
    let zero := match (s.work c).region with
      | some (_, st, _) => st == x.1
      | none => false
    let o := extOwn (s.bankUnits c) (s.streamUnits c) zero
    s.modStore x.1 (fun y =>
      { (y.zeroRange ((x.2.1 + o) * 65536) ((x.2.2 - o) * 65536)) with
        kvTaken := Tbl.put 0 y.kvTaken c 0, kvDone := Tbl.put 0 y.kvDone c 0, kv := y.kv.filter (fun k => !decide (k.colony = c)) })) s

/-- A manifest entry's segment and whether it is resident (R259). -/
def manSeg (m : List Byte) (i : Nat) : Nat := fieldAt m (64 + 128 * i + 6) 2
def manTier (m : List Byte) (i : Nat) : Nat := fieldAt m (64 + 128 * i + 28) 1
def manShards (m : List Byte) : Nat := fieldAt m 8 4

/-- The resident shards of valid banks that lie with given segments: bank and entry. -/
def ColonyWork.residentOf (w : ColonyWork) (segs : List Nat) : List (Nat × Nat) :=
  let of_ (k : Nat) (b : Bank) : List (Nat × Nat) :=
    if b.valid then ((List.range (manShards b.manifest)).filter (fun i => manTier b.manifest i == 0 && segs.contains (manSeg b.manifest i))).map (fun i => (k, i))
    else []
  of_ 0 w.bankA ++ of_ 1 w.bankB

/-- Steps 7 and 8: tasks are started where the restart ends in SERVING, bridges restored, the state changes; the series of restarts ends
(R212, R213). -/
def State.finishRestart (s : State) (c : Nat) : State :=
  let serve := (s.colony c).endServing
  let s0 := s.pausePatrol c false
  let s1 := if serve then s0.startTasks c else s0
  (s1.modColony c (fun k => { k with state := if serve then csServing else csReady, series := 0, endServing := false })).rebridge c

/-- Steps 5 and 6 after re-placement: the image delivered and contexts configured, KV pages and region cleared; the restart then ends, or
goes on until weights have been fetched again. A section that fails twice fails the colony. -/
def State.restartLoad (s : State) (c : Nat) (moved : List Nat) (first delivered : Bool) (adm : Nat) : State :=
  if !delivered then s.failColony c crImage
  else
    let s1 := ((((s.deliver c).loadContexts c).clearRegion c adm).writeGrants c).clearOwn c
    let w := s1.work c
    if first then
      s1.startLoad c (s.objGet 0x7105 c 0) true
    else
      let again := w.refetch ++ (w.residentOf moved).filter (fun e => !w.refetch.contains e)
      let s2 := s1.modWork c (fun w => { w with refetch := again })
      if again.isEmpty then s2.finishRestart c else s2

/-- A restart start (R212 step 1, R213): counted, its series bounded. -/
def State.countRestart (s : State) (c : Nat) : State :=
  s.modColony c (fun k =>
    let new := k.series = 0 ∨ s.leadTime.toNat > k.seriesAt.toNat + 60000000000
    { k with restarts := k.restarts + 1, series := if new then 1 else k.series + 1, seriesAt := if new then s.leadTime else k.seriesAt,
             endServing := decide (k.state = csServing ∨ k.state = csDraining) || (decide (k.state = csRestarting) && k.endServing),
             state := csRestarting })

/-- A restart of a colony on this panel (R212), from its reference on. Colonies with nothing placed, and FAILED ones, do not restart. -/
def State.restartHere (s : State) (c : Nat) (delivered : Bool) : State :=
  let k := s.colony c
  if k.state < csPlaced ∨ k.state > csRestarting then s
  else
    let first := decide (k.state = csPlaced ∨ k.state = csLoading) || (decide (k.state = csRestarting) && (s.work c).load.first && (s.work c).loading)
    let s1 := s.countRestart c
    if (s1.colony c).series ≥ 4 then s1.failColony c crLimit
    else
      let adm := s1.rg64 c rgAdmit
      let s2 := ((((s1.dropSessions c).resetContexts c).abortLoad c).modWork c (fun w => { w with events := [] })).rebridge c
      let s3 := s2.abortGroup c
      let s4 := ((s3.boundCells c).foldl State.cellReset s3).pausePatrol c true
      match s4.replace c with
      | none => s4.failColony c crBelow
      | some (s5, moved) => ((s5.pauseAt (s4.hostSites c) false).pausePatrol c true).restartLoad c moved first delivered adm

/-! ### Swarm transactions (R215, R360) -/

/-- Panels that a colony spans beside this one. -/
def State.peersOf (s : State) (c : Nat) : List Nat := (List.range (layPanels (s.layout c))).filter (· != s.swarmPanel.toNat)

/-- Does this panel coordinate a swarm colony: it is the lowest-numbered one? -/
def State.coordinates (s : State) : Bool := s.swarmPanel == 0

/-- A SWARM_MSG to the keepers of a panel: KIND, COLONY, STEP, SERIAL, and a body whose layout the spec does not give (log 40). -/
def State.swarmMsg (s : State) (panel kind colony step : Nat) (body : List W32) : State :=
  { (s.sendData (mkData 0x1B (BitVec.ofNat 24 (panel * 65536 + 0xF000)) (s.eid (0xF0 + s.lead.code) 0) 0xFF 0 0 0
      ([BitVec.ofNat 32 (step * 2 ^ 24 + colony * 2 ^ 16 + kind), s.swarmSerial] ++ body))) with swarmSerial := s.swarmSerial + 1 }

/-- The coordinator sends a command to every other panel of the colony, and awaits their reports. -/
def State.swarmCommand (s : State) (c cmd : Nat) : State :=
  ((s.peersOf c).foldl (fun s p => s.swarmMsg p 1 c 0 [BitVec.ofNat 32 cmd]) s).modWork c (fun w => { w with swarm := some (cmd, s.peersOf c) })

/-- A trigger of R211: on a swarm colony the coordinator restarts it everywhere; another panel asks the coordinator (log 40). -/
def State.restartColony (s : State) (c : Nat) (delivered : Bool) : State :=
  if layPanels (s.layout c) ≤ 1 then s.restartHere c delivered
  else if s.coordinates then s.swarmCommand c 4
  else s.swarmMsg 0 1 c 0 [4]

/-! ### COLONY_CTRL (R210, R213, R471) -/

/-- Does the table of R210 have a row for a command in a state? DEPLOY, START and RESTART need a panel in READY. -/
def State.ctrlTaken (s : State) (c v : Nat) : Bool :=
  let st := (s.colony c).state
  let up := decide (s.boot.state = 6)
  if v = 1 then up && decide (st = csDefined)
  else if v = 2 then up && decide (st = csReady ∨ st = csRestarting)
  else if v = 3 then decide (st = csServing ∨ st = csRestarting)
  else if v = 4 then up && decide (st = csReady ∨ st = csServing ∨ st = csDraining ∨ st = csRestarting)
  else decide (st = csDefined ∨ st = csReady ∨ st = csFailed)

/-- RELEASE: cells reset and unbound, everything given back, the layout cleared, FREE (R210, R217). -/
def State.release (s : State) (c : Nat) : State :=
  let s1 := (((s.abortLoad c).dropSessions c).setCol c csFree crNone).unplace c
  let key := objKey 0x5010 c 0
  { ((s1.setObj key []).burn key []) with colonies := Tbl.put Colony.free s1.colonies c { Colony.free with restarts := (s1.colony c).restarts } }

/-- What a command does on this panel. -/
def State.ctrlAct (s : State) (c v : Nat) (img : Option (List Byte)) (delivered : Bool) : State :=
  let st := (s.colony c).state
  if v = 1 then s.deploy c img
  else if v = 2 then
    if st = csRestarting then s.modColony c (fun k => { k with endServing := true, reason := crNone })
    else (s.setCol c csServing crNone).startTasks c
  else if v = 3 then
    if st = csRestarting then s.modColony c (fun k => { k with endServing := false }) else s.modColony c (fun k => { k with state := csDraining })
  else if v = 4 then (s.modColony c (fun k => { k with reason := crNone })).restartHere c delivered
  else if v = 5 then s.release c
  else ((s.dropSessions c).unplace c).setCol c csDefined crNoRoom

/-- A COLONY_CTRL write: refused BUSY without a row; a swarm colony's goes to every panel first. -/
def State.colonyCtrl (s : State) (c v : Nat) (img : Option (List Byte)) (delivered : Bool) : Nat × State :=
  if !s.ctrlTaken c v then (coBusy, s)
  else if layPanels (s.layout c) ≤ 1 then (coOk, s.ctrlAct c v img delivered)
  else if !s.coordinates ∨ (s.work c).swarm.isSome then (coBusy, s)
  else (coOk, s.swarmCommand c v)

/-- DEPLOY: COLONY_CTRL = 1, with the image as its super gives it (none: it cannot be fetched). -/
def execDeploy (r : Req) (c : ColonyId) (img : Option (List Byte)) (s : State) : Host.Outcome State Fault Refusal :=
  .next (s.writeReq r (oref 0x5002 c.val 0) [1] (fun s => s.colonyCtrl c.val 1 img true))

/-- COLONY_START: COLONY_CTRL = 2. -/
def execColonyStart (r : Req) (c : ColonyId) (s : State) : Host.Outcome State Fault Refusal :=
  .next (s.writeReq r (oref 0x5002 c.val 0) [2] (fun s => s.colonyCtrl c.val 2 none true))

/-- COLONY_STOP: COLONY_CTRL = 3. -/
def execColonyStop (r : Req) (c : ColonyId) (s : State) : Host.Outcome State Fault Refusal :=
  .next (s.writeReq r (oref 0x5002 c.val 0) [3] (fun s => s.colonyCtrl c.val 3 none true))

/-- RESTART: COLONY_CTRL = 4; whether every image section is delivered within two tries. -/
def execRestart (r : Req) (c : ColonyId) (delivered : Bool) (s : State) : Host.Outcome State Fault Refusal :=
  .next (s.writeReq r (oref 0x5002 c.val 0) [4] (fun s => s.colonyCtrl c.val 4 none delivered))

/-- COLONY_RELEASE: COLONY_CTRL = 5. -/
def execColonyRelease (r : Req) (c : ColonyId) (s : State) : Host.Outcome State Fault Refusal :=
  .next (s.writeReq r (oref 0x5002 c.val 0) [5] (fun s => s.colonyCtrl c.val 5 none true))

/-! ### Draining (R210, R518) -/

/-- DRAINING becomes READY: sessions still open are ended and tasks stopped. A drain for an image update goes on into the restart, with a
pending START. -/
def State.drained (s : State) (c : Nat) (delivered : Bool) : State :=
  let s1 := ((s.endSessionsOf c 0).stopTasks c).modColony c (fun k => { k with state := csReady, series := 0 })
  if (s.work c).updateDrain then
    ((s1.modWork c (fun w => { w with updateDrain := false })).modColony c (fun k => { k with state := csDraining })).restartColony c delivered
  else s1

/-- Have all batches retired: each bank's RETIRED equals its ADMITTED (R229)? -/
def State.batchesDone (s : State) (c : Nat) : Bool := [0, 1].all (fun b => s.rg64 c (rgAdmitted b) == s.rg64 c (rgRetired b))

/-- DRAIN_COMPLETE: the last batch has retired. -/
def execDrainComplete (c : ColonyId) (delivered : Bool) (s : State) : Host.Outcome State Fault Refusal :=
  .next (if (s.colony c.val).state = csDraining ∧ s.batchesDone c.val then s.drained c.val delivered else s)

/-- DRAIN_TIMEOUT: COLONY_DRAIN_MS has elapsed. -/
def execDrainTimeout (c : ColonyId) (delivered : Bool) (s : State) : Host.Outcome State Fault Refusal :=
  .next (if (s.colony c.val).state = csDraining then s.drained c.val delivered else s)

/-! ### Bridges (R207, R218) -/

/-- COLONY_BRIDGES: copied into every comb that hosts the colony. -/
def State.bridgesWrite (s : State) (c : Nat) (v : W64) : Nat × State :=
  s.putStored (objKey 0x5011 c 0) (toLe 8 v.toNat) (fun s =>
    (s.hostSites c).foldl (fun s i => s.modRanks i (fun k => { k with bridge := Tbl.put 0 k.bridge c v })) s)

/-- COLONY_BRIDGES_WRITE. -/
def execColonyBridgesWrite (r : Req) (c : ColonyId) (v : W64) (s : State) : Host.Outcome State Fault Refusal :=
  .next (s.writeReq r (oref 0x5011 c.val 0) (toLe 8 v.toNat) (fun s => s.bridgesWrite c.val v))

end Sys2Proof.Machine
end

