-- ==== Sys2Proof/Machine/Weights.lean ====
section
/-!
DEFINITION. Weight sets: manifests, containers, loads, epochs and banks, re-checks, streamed shards (R228, R231, R256–R276).
-/
namespace Sys2Proof.Machine

/-! ### Where things lie (R256, R268) -/

/-- Does a colony's extent in a store hold the control region? -/
def State.hasRegion (s : State) (c st : Nat) : Bool :=
  match (s.work c).region with
  | some (_, r, _) => r == st
  | none => false

/-- Byte address of a unit counted from a colony's staging area in a store. -/
def State.stageAt (s : State) (c st unit : Nat) : Option Nat :=
  (s.extentOf c st).map (fun e => (e.1 + extStage (s.bankUnits c) (s.hasRegion c st) + unit) * 65536)

/-- Byte address of a colony's stream area in a store. -/
def State.streamAt (s : State) (c st : Nat) : Option Nat :=
  (s.extentOf c st).map (fun e => (e.1 + extStream (s.bankUnits c) (s.hasRegion c st)) * 65536)

/-- The comb site of segment g, if it is placed on this panel. -/
def State.segSite (s : State) (c g : Nat) : Option Nat :=
  let e := nth 0 (s.colony c).placement g
  if bit e 63 && !bit e 62 && decide (fld e 23 16 = s.swarmPanel.toNat) then some (fld e 15 8) else none

/-! ### Manifests (R259, R260) -/

/-- Fields of manifest entry i. -/
def manSource (m : List Byte) (i : Nat) : Nat := fieldAt m (64 + 128 * i + 5) 1
def manOff (m : List Byte) (i : Nat) : Nat := fieldAt m (64 + 128 * i + 8) 8
def manOut (m : List Byte) (i : Nat) : Nat := fieldAt m (64 + 128 * i + 16) 8
def manDigest (m : List Byte) (i : Nat) : List Byte := slice m (64 + 128 * i + 64) 64

/-- The field rules of an entry. -/
def manEntryOk (segs : Nat) (m : List Byte) (i : Nat) : Bool :=
  decide (manSeg m i < segs ∧ manTier m i ≤ 1 ∧ manOff m i % 256 = 0 ∧ manOut m i % 256 = 0 ∧ (manTier m i = 0 ∨ manOff m i = 0)) &&
  allZero (slice m (64 + 128 * i + 29) 35)

/-- Do two resident entries that lie in one store overlap? -/
def manMeet (storeOf : Nat → Nat) (m : List Byte) (i j : Nat) : Bool :=
  decide (manTier m i = 0 ∧ manTier m j = 0 ∧ storeOf (manSeg m i) = storeOf (manSeg m j)) &&
  unitsMeet (manOff m i) (manOut m i) (manOff m j) (manOut m j)

/-- The panel and the pair store of a segment, as one number; and the panel and the comb. -/
def State.segStore (s : State) (c g : Nat) : Nat := let e := nth 0 (s.colony c).placement g; fld e 23 16 * 256 + pairStore (fld e 15 8)
def State.segComb (s : State) (c g : Nat) : Nat := fld (nth 0 (s.colony c).placement g) 23 8

/-- The checks of a manifest in their order: the reason of the first that fails, 0 where all hold. -/
def State.manCheck (s : State) (c : Nat) (m : List Byte) : Nat :=
  let n := manShards m
  let es := List.range n
  let segs := laySegs (s.layout c)
  if !(decide (fieldAt m 0 4 = 0x46574D4E ∧ fieldAt m 4 2 = 1 ∧ 1 ≤ n ∧ n ≤ 32767 ∧ m.length = 64 + 128 * n + 64 ∧ m.length ≤ 4194304) &&
      allZero (slice m 40 24) && es.all (manEntryOk (fieldAt m 6 2) m)) then 2
  else if !s.signedBy 0xA012 (m.take (64 + 128 * n)) (m.drop (64 + 128 * n)) then 3
  else if fieldAt m 6 2 ≠ segs ∨ slice m 24 16 ≠ s.layoutDigest c then 4
  else if fieldAt m 12 4 > s.bankUnits c then 5
  else if !es.all (fun i => decide (manSource m i < 16) && nth 0 (s.objGet 0x7110 0 (manSource m i)) 0 != 0) then 2
  else if !es.all (fun i => (manTier m i == 1 || decide (manOff m i + manOut m i ≤ fieldAt m 12 4 * 65536)) &&
      (List.range i).all (fun j => !manMeet (s.segStore c) m i j)) then 2
  else if !es.all (fun i => decide ((es.filter (fun j => s.segComb c (manSeg m j) == s.segComb c (manSeg m i))).length ≤ 2048)) then 2
  else if !es.all (fun i => manTier m i == 0 || decide (manOut m i + 65536 ≤ s.streamUnits c * 65536)) then 2
  else 0

/-! ### How a load ends (R267, R271, R276) -/

/-- A load fails; a first load takes the colony with it. -/
def State.loadFails (s : State) (c reason : Nat) : State :=
  if (s.work c).load.first then (s.failLoad c reason).failColony c crWeights else s.failLoad c reason

/-- A reference to a manifest is well formed (R276). -/
def weightRefOk (d : List Byte) : Bool :=
  decide (fieldAt d 0 1 ≤ 15 ∧ fieldAt d 1 1 ≤ 1) && allZero (slice d 2 6) && allZero (slice d 13 3)

/-- WEIGHT_LOAD. -/
def State.weightLoad (s : State) (c : Nat) (d : List Byte) : Nat × State :=
  let st := (s.colony c).state
  let w := s.work c
  if !weightRefOk d then (coRange, s)
  else if st < csLoading ∨ st > csDraining ∨ w.loading ∨ (w.bankA.valid ∧ w.bankB.valid) then (coBusy, s)
  else (coOk, s.startLoad c d false)

/-- WEIGHT_LOAD: a write of the object. -/
def execWeightLoad (r : Req) (c : ColonyId) (data : List Byte) (s : State) : Host.Outcome State Fault Refusal :=
  .next (s.writeReq r (oref 0x7100 c.val 0) data (fun s => s.weightLoad c.val data))

/-- MANIFEST_CHECK: the manifest, so many bytes long, has landed in the keeper's staging, or could not be fetched. -/
def execManifestCheck (c : ColonyId) (len : Option Nat) (s : State) : Host.Outcome State Fault Refusal :=
  .next (
    let w := s.work c.val
    if w.load.state ≠ 1 then s
    else
      match (if s.sourceValid w.load.ref then len else none), w.region with
      | some n, some (_, st, _) =>
        match s.stageAt c.val st 0 with
        | none => s.loadFails c.val 1
        | some a =>
          let m := (s.store st).bytes a n
          let e := s.manCheck c.val m
          if e ≠ 0 then s.loadFails c.val e
          else
            s.modWork c.val (fun w =>
              { w with load := { w.load with state := 2, manifest := m, left := (List.range (manShards m)).filter (fun i =>
                  manTier m i == 0 && (s.segSite c.val (manSeg m i)).isSome) } })
      | _, _ => s.loadFails c.val 1)

/-! ### Containers (R261, R268) -/

/-- The chunk table as OUT_OFF values, in rising order. -/
def chunkOffs (n : Nat) (h : List Byte) : List Nat :=
  ((List.range n).map (fun j => fieldAt h (256 + 16 * j + 8) 8)).foldl (fun l v => (l.filter (· < v)) ++ [v] ++ l.filter (v ≤ ·)) []

/-- Does every chunk's expected output fit, to the end of the shard? -/
def chunkGapsOk (out : Nat) : List Nat → Bool
  | [] => true
  | a :: t => decide ((t.headD out - a) ≤ 65535 * 256 ∧ a < t.headD out) && chunkGapsOk out t

/-- Is a chunk entry's XFORM one that a table may hold (R263)? -/
def chunkXformOk (x : Nat) : Bool := xformOk x && x / 16 % 4 != 3

/-- The steward's check of a container's header and chunk table. -/
def containerOk (out : Nat) (h : List Byte) : Bool :=
  let n := fieldAt h 6 2
  let offs := chunkOffs n h
  decide (fieldAt h 0 4 = 0x46574B43 ∧ fieldAt h 4 2 = 1 ∧ 1 ≤ n ∧ n ≤ 4080 ∧ fieldAt h 8 8 = out) && allZero (slice h 16 240) &&
  (List.range n).all (fun j => let o := 256 + 16 * j
    decide (1 ≤ fieldAt h (o + 4) 2 ∧ fieldAt h (o + 4) 2 ≤ 4096 ∧ fieldAt h (o + 7) 1 = 0 ∧ fieldAt h (o + 8) 8 % 256 = 0 ∧ fieldAt h (o + 8) 8 < out) &&
    chunkXformOk (fieldAt h (o + 6) 1) &&
    decide (fieldAt h o 4 = cdiv (256 + 16 * n) 256 + ((List.range j).map (fun k => fieldAt h (256 + 16 * k + 4) 2)).foldl (· + ·) 0)) &&
  decide (offs.length = n ∧ offs.head? = some 0) && chunkGapsOk out offs

/-- Where a comb's steward keeps a container's header: outer combs from unit 64, inner ones from unit 80. -/
def stageSlot (site slot : Nat) : Nat :=
  (if (octetCombs (pairStore site)).1 = site then 64 else 80) + slot

/-- CONTAINER_CHECK: a container's header and table have landed in the steward's staging, or cannot be fetched. -/
def execContainerCheck (c : ColonyId) (entry : BitVec 15) (slot : Fin 16) (fetched : Bool) (s : State) : Host.Outcome State Fault Refusal :=
  .next (
    let l := (s.work c.val).load
    if l.state ≠ 2 ∨ !l.left.contains entry.toNat then s
    else if !fetched then s.loadFails c.val 6
    else
      match s.segSite c.val (manSeg l.manifest entry.toNat) with
      | none => s
      | some i =>
        match s.stageAt c.val (pairStore i) (stageSlot i slot.val) with
        | none => s
        | some a =>
          if containerOk (manOut l.manifest entry.toNat) ((s.store (pairStore i)).bytes a 65536) then s else s.loadFails c.val 7)

/-! ### Digests (R269, R387) -/

/-- A shard's landed image against its DIGEST. One with an unreadable granule has an open digest (R384, log 3). -/
def State.shardMatches (s : State) (st a : Nat) (m : List Byte) (i : Nat) : Bool × State :=
  match s.storeRead st a (manOut m i) with
  | (some bs, s1) => (decide (Config.sha512 bs = manDigest m i), s1)
  | (none, s1) => let r := State.drawBytes 8 s1; (decide (r.1 = manDigest m i), r.2)

/-- The same of a resident shard in a bank, 0 A or 1 B. -/
def State.residentMatches (s : State) (c k : Nat) (m : List Byte) (i : Nat) : Bool × State :=
  match s.segSite c (manSeg m i) with
  | none => (true, s)
  | some site =>
    match s.extentOf c (pairStore site) with
    | none => (false, s)
    | some e => s.shardMatches (pairStore site) ((e.1 + k * s.bankUnits c) * 65536 + manOff m i) m i

/-- A bank of a colony. -/
def ColonyWork.bank (w : ColonyWork) (k : Nat) : Bank := if k = 0 then w.bankA else w.bankB

/-- A colony's bank replaced. -/
def ColonyWork.setBank (w : ColonyWork) (k : Nat) (b : Bank) : ColonyWork := if k = 0 then { w with bankA := b } else { w with bankB := b }

/-- The mark of a shard whose digest has failed once. -/
def againKey (k i : Nat) : Nat := k * 32768 + i

/-- A load's shard has been fetched whole: counted, fetched once more, or the end of the load. -/
def State.loadShard (s : State) (c k i : Nat) : State :=
  let r := s.residentMatches c k (s.work c).load.manifest i
  if r.1 then
    r.2.modWork c (fun w => { w with load := { w.load with left := w.load.left.filter (· != i), progress := w.load.progress + 1 } })
  else if (s.work c).load.again.contains (againKey k i) then r.2.loadFails c 8
  else r.2.modWork c (fun w => { w with load := { w.load with again := againKey k i :: w.load.again } })

/-- A shard of a valid bank leaves those that are fetched again; a restart that waited for the last of them ends. -/
def State.refetched (s : State) (c k i : Nat) : State :=
  let s1 := s.modWork c (fun w => { w with refetch := w.refetch.filter (fun e => !decide (e = (k, i))),
                                           load := { w.load with again := w.load.again.filter (· != againKey k i) } })
  if (s1.colony c).state = csRestarting ∧ (s1.work c).refetch.isEmpty then s1.finishRestart c else s1

/-- A shard that cannot be fetched again fails a colony in restart; another colony's is left for the next re-check. -/
def State.refetchFails (s : State) (c k i : Nat) : State :=
  if (s.colony c).state = csRestarting then s.failColony c crWeights else s.refetched c k i

/-- A shard of a valid bank has been fetched again. -/
def State.refetchShard (s : State) (c k i : Nat) : State :=
  let r := s.residentMatches c k ((s.work c).bank k).manifest i
  if r.1 then r.2.refetched c k i
  else if (s.work c).load.again.contains (againKey k i) then r.2.refetchFails c k i
  else r.2.modWork c (fun w => { w with load := { w.load with again := againKey k i :: w.load.again } })

/-- SHARD_DIGEST_CHECK: the fetch of a shard ends; a landed one is digested. -/
def execShardDigestCheck (c : ColonyId) (bank : Fin 2) (entry : BitVec 15) (how : FetchEnd) (s : State) : Host.Outcome State Fault Refusal :=
  .next (
    let w := s.work c.val
    let i := entry.toNat
    if w.load.state = 2 ∧ w.load.bank = bank.val ∧ w.load.left.contains i then
      match how with
      | .landed => s.loadShard c.val bank.val i
      | .source => s.loadFails c.val 6
      | .container => s.loadFails c.val 7
    else if w.refetch.contains (bank.val, i) then
      match how with
      | .landed => s.refetchShard c.val bank.val i
      | _ => s.refetchFails c.val bank.val i
    else s)

/-! ### Epochs and banks (R228, R231, R267, R270) -/

/-- The epoch after the last one assigned: 0 and the other valid bank's are skipped. -/
def nextEpoch (last : BitVec 16) (other : Bank) : BitVec 16 :=
  let skip (e : BitVec 16) : BitVec 16 := if e = 0 ∨ (other.valid ∧ e = other.epoch) then e + 1 else e
  skip (skip (last + 1))

/-- ADMIT with a bank's epoch, VALID, and where asked ACTIVE. -/
def admitWith (v k : Nat) (e : BitVec 16) (auto : Bool) : Nat :=
  let w : W64 := setBit (setBits (BitVec.ofNat 64 v) (16 + 16 * k) 16 e.toNat) (48 + k) true
  (if auto then setBit w 0 (k == 1) else w).toNat

/-- L6 on this panel: the bank is valid under its epoch and ADMIT says so. -/
def State.finishLoad (s : State) (c : Nat) : State :=
  let w := s.work c
  let k := w.load.bank
  let e := nextEpoch w.lastEpoch (w.bank (1 - k))
  (s.modWork c (fun w =>
    { (w.setBank k { valid := true, epoch := e, manifest := w.load.manifest }) with
      lastEpoch := e, swarmLoaded := [], load := { w.load with state := 3, reason := 0, first := false } })).rgPut64 c rgAdmit (admitWith (s.rg64 c rgAdmit) k e w.load.auto)

/-- What follows a first load: LOADING becomes READY, a restart ends. -/
def State.afterFirst (s : State) (c : Nat) (first : Bool) : State :=
  if !first then s
  else if (s.colony c).state = csRestarting then s.finishRestart c
  else s.modColony c (fun k => { k with state := csReady, series := 0 })

/-- L6 of a colony on this panel. -/
def State.completeLoad (s : State) (c : Nat) : State := (s.finishLoad c).afterFirst c (s.work c).load.first

/-- LOAD_COMPLETE: every steward has reported. On a swarm colony the coordinator waits for every panel, and another panel reports
(R215, R270, log 40). -/
def execLoadComplete (c : ColonyId) (s : State) : Host.Outcome State Fault Refusal :=
  .next (
    let w := s.work c.val
    if w.load.state ≠ 2 ∨ !w.load.left.isEmpty then s
    else if layPanels (s.layout c.val) ≤ 1 then s.completeLoad c.val
    else if !s.coordinates then s.swarmMsg 0 2 c.val 6 [7]
    else if !(s.peersOf c.val).all (fun p => w.swarmLoaded.contains p) then s
    else ((s.peersOf c.val).foldl (fun s p => s.swarmMsg p 1 c.val 6 [7]) s).completeLoad c.val)

/-- WEIGHT_LOAD_TIMEOUT: WEIGHT_LOAD_TIMEOUT_S has elapsed in a load. -/
def execWeightLoadTimeout (c : ColonyId) (s : State) : Host.Outcome State Fault Refusal :=
  .next (if (s.work c.val).loading then s.loadFails c.val 9 else s)

/-- ADMIT.ACTIVE names a bank. -/
def State.activate (s : State) (c k : Nat) : State := s.rgPut64 c rgAdmit (setBit (BitVec.ofNat 64 (s.rg64 c rgAdmit)) 0 (k == 1)).toNat

/-- WEIGHT_ACTIVATE: a write of the object. -/
def execWeightActivate (r : Req) (c : ColonyId) (v : Byte) (s : State) : Host.Outcome State Fault Refusal :=
  .next (s.writeReq r (oref 0x7104 c.val 0) [v] (fun s =>
    if v.toNat > 1 then (coRange, s)
    else if !((s.work c.val).bank v.toNat).valid then (coBusy, s)
    else (coOk, s.activate c.val v.toNat)))

/-- Is bank x of a colony in use: ACTIVE, or joined, or with batches in flight (R272)? -/
def State.bankInUse (s : State) (c k : Nat) : Bool :=
  s.rg64 c rgAdmit % 2 == k || s.rg64 c (rgSess k) != 0 || s.rg64 c (rgAdmitted k) != s.rg64 c (rgRetired k)

/-- A bank's VALID bit is cleared; what was being fetched into it again is abandoned. -/
def State.releaseBank (s : State) (c k : Nat) : State :=
  (s.modWork c (fun w => { (w.setBank k Bank.empty) with refetch := w.refetch.filter (fun e => e.1 != k) })).rgPut64 c rgAdmit
    (setBit (BitVec.ofNat 64 (s.rg64 c rgAdmit)) (48 + k) false).toNat

/-- BANK_RELEASE: the lead keeper looks whether a bank may be released. -/
def execBankRelease (c : ColonyId) (x : Fin 2) (s : State) : Host.Outcome State Fault Refusal :=
  .next (if ((s.work c.val).bank x.val).valid ∧ s.bankInUse c.val x.val = false then s.releaseBank c.val x.val else s)

/-! ### Re-checks (R272) -/

/-- One resident shard of a valid bank digested again. -/
def State.recheckShard (s : State) (c k i : Nat) : State :=
  let r := s.residentMatches c k ((s.work c).bank k).manifest i
  if r.1 then r.2
  else
    let s1 := r.2.modWork c (fun w =>
      { w with mismatches := BitVec.ofNat 32 (satAdd 32 w.mismatches.toNat 1), refetch := if w.refetch.contains (k, i) then w.refetch else w.refetch ++ [(k, i)] })
    s1.sendErr (0xF0 + s.lead.code) (mkErr 0x0601 (b2n (s.bankInUse c k)) 6 c (s.eid (0xF0 + s.lead.code) 0) 0
      (BitVec.ofNat 64 i) (BitVec.ofNat 64 k))

/-- WEIGHT_RECHECK: every resident shard of a colony's valid banks on this panel is digested again, and a pass is counted. -/
def execWeightRecheck (c : ColonyId) (s : State) : Host.Outcome State Fault Refusal :=
  .next (
    let w := s.work c.val
    if s.objU 0x7130 0 0 = 0 ∨ (w.bankA.valid = false ∧ w.bankB.valid = false) then s
    else
      let s1 := (w.residentOf ((List.range (laySegs (s.layout c.val))).filter (fun g => (s.segSite c.val g).isSome))).foldl
        (fun s e => s.recheckShard c.val e.1 e.2) s
      s1.modWork c.val (fun w => { w with passes := BitVec.ofNat 32 (satAdd 32 w.passes.toNat 1) }))

/-! ### Streamed shards (R273–R275) -/

/-- A 64-bit value of a stream area. -/
def State.sr64 (s : State) (st a off : Nat) : Nat := leBytes ((s.store st).bytes (a + off) 8)

/-- A stream area with a 64-bit value written. -/
def State.srPut64 (s : State) (st a off v : Nat) : State := s.modStore st (fun x => x.write (a + off) (toLe 8 (v % 2 ^ 64)))

/-- Streamed requests of a colony that a store's steward holds open. -/
def ColonyWork.openAt (w : ColonyWork) (st : Nat) : List (Nat × Nat × Bool) := w.streams.filter (fun x => decide (x.1 = st))

/-- STREAM_RING_POLL: requests are taken while fewer than four are open. -/
def execStreamRingPoll (st : StoreId) (c : ColonyId) (s : State) : Host.Outcome State Fault Refusal :=
  .next (
    match s.streamAt c.val st.val with
    | none => s
    | some a =>
      if s.streamUnits c.val = 0 then s
      else
        let opened := ((s.work c.val).openAt st.val).length
        let tail := s.sr64 st.val a 0x40
        let n := min (4 - opened) (ringCount (s.sr64 st.val a 0) tail - opened)
        s.modWork c.val (fun w =>
          { w with streams := w.streams ++ (List.range n).map (fun k => (st.val, (tail + opened + k) % 2 ^ 64, false)) }))

/-- Is a request BAD_REQUEST: bank, entry, segment or range? -/
def State.streamBad (s : State) (c st : Nat) (w0 dest : Nat) : Bool :=
  let b := (s.work c).bank (w0 / 2 ^ 63)
  let i := w0 % 2 ^ 15
  !b.valid || decide (i ≥ manShards b.manifest) || manTier b.manifest i != 1 ||
  (match s.segSite c (manSeg b.manifest i) with
    | some site => pairStore site != st
    | none => true) ||
  decide (dest % 256 ≠ 0 ∨ dest < 65536 ∨ dest + manOut b.manifest i > s.streamUnits c * 65536)

/-- A request completes: STATUS, SR_DONE, SR_TAIL. -/
def State.streamDone (s : State) (c st a n status : Nat) : State :=
  let s1 := s.modWork c (fun w => { w with streams := w.streams.filter (fun x => !decide (x.1 = st ∧ x.2.1 = n)) })
  let s2 := s1.srPut64 st a (0x1000 + n % 64 * 256 + 24) (status * 2 ^ 56)
  let s3 := s2.srPut64 st a 0x80 (s2.sr64 st a 0x80 + 1)
  s3.srPut64 st a 0x40 (s3.sr64 st a 0x40 + 1)

/-- STREAM_REQUEST_DONE: the fetch of an open request ends. A broken container is reported SOURCE, the only status left for a shard that
cannot be fetched. -/
def execStreamRequestDone (st : StoreId) (c : ColonyId) (n : W64) (how : FetchEnd) (s : State) : Host.Outcome State Fault Refusal :=
  .next (
    match s.streamAt c.val st.val, (s.work c.val).streams.find? (fun x => decide (x.1 = st.val ∧ x.2.1 = n.toNat)) with
    | some a, some x =>
      let at_ := 0x1000 + n.toNat % 64 * 256
      let w0 := s.sr64 st.val a at_
      let dest := s.sr64 st.val a (at_ + 8)
      if s.streamBad c.val st.val w0 dest then s.streamDone c.val st.val a n.toNat 4
      else
        match how with
        | .landed =>
          let r := s.shardMatches st.val (a + dest) ((s.work c.val).bank (w0 / 2 ^ 63)).manifest (w0 % 2 ^ 15)
          if r.1 then r.2.streamDone c.val st.val a n.toNat 1
          else if x.2.2 then r.2.streamDone c.val st.val a n.toNat 2
          else r.2.modWork c.val (fun w =>
            { w with streams := w.streams.map (fun y => if y = x then (x.1, x.2.1, true) else y) })
        | _ => s.streamDone c.val st.val a n.toNat 3
    | _, _ => s)

/-! ### Energy (R216, R217) -/

/-- A non-negative F32 as a multiple of 2^−149. -/
def f32Scaled (w : Nat) : Nat :=
  let e := w / 2 ^ 23 % 256
  if e = 0 then w % 2 ^ 23 else (2 ^ 23 + w % 2 ^ 23) * 2 ^ (e - 1)

/-- A cell's counts of activity: cycles, busy cycles of the engines, bytes of its movers. -/
def Cell.counts (x : Cell) : List W64 := [x.cycles, x.mxe.busy, x.vxe.busy, x.core.movTx + x.core.movRx]

/-- How far a count has come since a mark; a count that a reset has cleared starts from zero. -/
def since (new old : W64) : Nat := if new.toNat < old.toNat then new.toNat else new.toNat - old.toNat

/-- The activity of a cell since its last charge, and the panel with the cell marked. Its cycles have advanced by an open amount (log 10). -/
def State.activity (s : State) (c : CellAt) : Nat × State :=
  let d := s.draw
  let s1 := d.2.modCell c (fun x => { x with cycles := x.cycles + d.1 })
  let now := (s1.cell c).counts
  let key := cellInst c
  let old := Tbl.get [0, 0, 0, 0] s1.energyMarks key
  let k (j : Nat) : Nat := f32Scaled (fieldAt s.ident.energyCoeff (4 * j) 4)
  (((List.range 4).map (fun j => k j * since (nth 0 now j) (nth 0 old j))).foldl (· + ·) 0,
    { s1 with energyMarks := Tbl.put [0, 0, 0, 0] s1.energyMarks key now })

/-- The account of a cell's energy: its colony, or overhead for unbound cells, spares and cells under test. -/
def State.account (s : State) (c : CellAt) : Option Nat :=
  let x := s.cell c
  if x.colony.toNat < 64 ∧ (s.comb c.site).logicalOf c.phys ≠ 0xFF ∧
      (Tbl.get Guard.reset (s.comb c.site).guards (frameOf c.phys)).testPos.toNat ≠ posOf c.phys then some x.colony.toNat else none

/-- Energy charged to an account. -/
def State.charge (s : State) (who : Option Nat) (e : Nat) : State :=
  match who with
  | some c => s.modColony c (fun k => { k with energy := k.energy + BitVec.ofNat 64 e })
  | none => { s with overhead := s.overhead + BitVec.ofNat 64 e }

/-- Energy divided in proportion to weights; what rounding leaves goes to overhead. -/
def State.divide (s : State) (e : Nat) (ws : List (Option Nat × Nat)) : State :=
  let total := (ws.map (·.2)).foldl (· + ·) 0
  let share (w : Nat) : Nat := if total = 0 then 0 else e * w / total
  (ws.foldl (fun s w => s.charge w.1 (share w.2)) s).charge none (e - (ws.map (fun w => share w.2)).foldl (· + ·) 0)

/-- A frame's energy divided among its cells by activity. Where no cell was active, open weights stand for theirs. -/
def State.chargeFrame (s : State) (i : Site) (f e : Nat) : State :=
  let r := (frameSites f).foldl (fun a p => let x := a.2.activity ⟨i, p⟩; (a.1 ++ [(a.2.account ⟨i, p⟩, x.1)], x.2)) ([], s)
  if r.1.all (fun w => w.2 == 0) then
    let q := r.1.foldl (fun a w => let d := a.2.draw; (a.1 ++ [(w.1, d.1.toNat)], d.2)) ([], r.2)
    q.2.divide e q.1
  else r.2.divide e r.1

/-- A store's energy divided among colonies by the units of their extents, of 786,432 in all. -/
def State.chargeStore (s : State) (st e : Nat) : State :=
  let ws := s.colonies.flatMap (fun k => (k.2.extents.filter (fun x => decide (x.1 = st))).map (fun x => (some k.1, x.2.2)))
  s.divide e (ws ++ [(none, 786432 - (ws.map (·.2)).foldl (· + ·) 0)])

/-- ENERGY_CHARGE: a millisecond's measurements of a half, in microjoules: cell domains by frame, stores, and everything else. -/
def execEnergyCharge (h : Half) (frames : List (Site × Frame × Nat)) (stores : List (StoreId × Nat)) (other : Nat) (s : State) :
    Host.Outcome State Fault Refusal :=
  .next (
    let mine := frames.filter (fun m => decide (halfOf m.1 = h))
    let s1 := mine.foldl (fun s m => s.chargeFrame m.1 m.2.1.val m.2.2) s
    (stores.foldl (fun s m => s.chargeStore m.1.val m.2) s1).charge none other)

end Sys2Proof.Machine
end

