-- ==== Sys2Proof/Machine/Swarm.lean ====
section
/-!
DEFINITION. Swarm coordination between keepers: SWARM_MSG and SWARM_ACK, swarm epochs, the loss of a panel (R214, R215, R270, R360, R516).
The layout of a message's BODY is the model's own (log 40): word 0 of a COMMAND or STEP_DONE is the COLONY_CTRL command, 6 to undo a
placement, 7 for a load complete; word 1 of a STEP_DONE is 1 where the step failed.
-/
namespace Sys2Proof.Machine

/-! ### Messages (R360) -/

/-- A swarm message of a kind reaches a keeper's endpoint: it is acknowledged with its serial and status 0, and acted on. -/
def State.swarmIn (s : State) (h : Half) (p : DataPkt) (kind : Nat) (body : Nat → State → State) : State :=
  let site := 0xF0 + h.code
  let ep := fld p.dst 7 0
  if p.type ≠ 0x1B ∨ fld (plWord p 0) 15 0 ≠ kind ∨ ep ≥ 16 ∨ p.dst ≠ s.eid site ep then s
  else
    s.arriveData site ep p (fun s =>
      body (fld (plWord p 0) 23 16)
        (s.sendData (mkData 0x1C p.src p.dst 0xFF (s.keeper h).epoch.epoch 0 p.tag [plWord p 0, plWord p 1, 0])))

/-- The panel that sent a message. -/
def fromPanel (p : DataPkt) : Nat := fld p.src 23 16

/-- A word of a message's body. -/
def swarmBody (p : DataPkt) (i : Nat) : W32 := plWord p (2 + i)

/-- Reports a step to the coordinator. -/
def State.stepDone (s : State) (c cmd failed : Nat) : State := s.swarmMsg 0 2 c 0 [BitVec.ofNat 32 cmd, BitVec.ofNat 32 failed]

/-- Sends this panel's own segments of a colony to its other panels (R215). -/
def State.sendSegments (s : State) (c : Nat) : State :=
  (List.range (laySegs (s.layout c))).foldl (fun s g =>
    let e := nth 0 (s.colony c).placement g
    if bit e 63 && !bit e 62 && decide (fld e 23 16 = s.swarmPanel.toNat) then
      (s.peersOf c).foldl (fun s p => s.swarmMsg p 3 c 0 [BitVec.ofNat 32 g, loW e, hiW e]) s
    else s) s

/-- A command carried out on this panel; whether it failed. -/
def State.swarmAct (s : State) (c cmd : Nat) (img : Option (List Byte)) (delivered : Bool) : Bool × State :=
  if cmd = 7 then (false, s.completeLoad c)
  else if cmd ≤ 5 ∧ !s.ctrlTaken c cmd then (true, s)
  else
    let s1 := s.ctrlAct c cmd img delivered
    if cmd = 1 then
      if (s1.colony c).state = csDefined then (true, s1) else (false, s1.sendSegments c)
    else (false, s1)

/-- SWARM_COMMAND: a panel does what the coordinator asks and reports; the coordinator takes a restart that another panel asks for. -/
def execSwarmCommand (h : Half) (p : DataPkt) (img : Option (List Byte)) (delivered : Bool) (s : State) : Host.Outcome State Fault Refusal :=
  .next (s.swarmIn h p 1 (fun c s =>
    let cmd := (swarmBody p 0).toNat
    if c ≥ 64 ∨ cmd = 0 ∨ cmd > 7 then s
    else if s.coordinates then (if cmd = 4 then s.restartColony c delivered else s)
    else
      let r := s.swarmAct c cmd img delivered
      if cmd ≥ 6 then r.2 else r.2.stepDone c cmd (b2n r.1)))

/-- A step has failed on a panel: nothing changes here, and a placement is undone on every panel, which leaves DEFINED with NO_ROOM. -/
def State.undoSwarm (s : State) (c cmd : Nat) : State :=
  let s1 := s.modWork c (fun w => { w with swarm := none })
  if cmd = 1 then ((s1.peersOf c).foldl (fun s p => s.swarmMsg p 1 c 0 [6]) s1).setCol c csDefined crNoRoom else s1

/-- Every other panel has done the step: the coordinator does it here. -/
def State.swarmLast (s : State) (c cmd : Nat) (img : Option (List Byte)) (delivered : Bool) : State :=
  let r := (s.modWork c (fun w => { w with swarm := none })).swarmAct c cmd img delivered
  if r.1 then r.2.undoSwarm c cmd else r.2

/-- SWARM_STEP_DONE: the coordinator notes a panel's report. -/
def execSwarmStepDone (h : Half) (p : DataPkt) (img : Option (List Byte)) (delivered : Bool) (s : State) : Host.Outcome State Fault Refusal :=
  .next (s.swarmIn h p 2 (fun c s =>
    let cmd := (swarmBody p 0).toNat
    if c ≥ 64 ∨ !s.coordinates then s
    else if cmd = 7 then s.modWork c (fun w => { w with swarmLoaded := fromPanel p :: w.swarmLoaded.filter (· != fromPanel p) })
    else
      match (s.work c).swarm with
      | some (k, left) =>
        if k ≠ cmd then s
        else if (swarmBody p 1).toNat = 1 then s.undoSwarm c cmd
        else
          let rest := left.filter (· != fromPanel p)
          if rest.isEmpty then s.swarmLast c cmd img delivered else s.modWork c (fun w => { w with swarm := some (k, rest) })
      | none => s))

/-- SWARM_SEGMENTS: another panel's segment entries go into the colony's list and into every hosting comb's table. -/
def execSwarmSegments (h : Half) (p : DataPkt) (s : State) : Host.Outcome State Fault Refusal :=
  .next (s.swarmIn h p 3 (fun c s =>
    let g := (swarmBody p 0).toNat
    let e := joinW (swarmBody p 1) (swarmBody p 2)
    if c ≥ 64 ∨ g ≥ laySegs (s.layout c) ∨ fld e 23 16 ≠ fromPanel p ∨ !rnkLegal e then s
    else
      let s1 := s.modColony c (fun k => { k with placement := setNth k.placement g (keep e rnkMask) })
      (s1.hostSites c).foldl (fun s i => s.writeTable c i) s1))

/-! ### Membership (R516) -/

/-- The swarm's tree goes into UP_PANEL of the panel root and SWARM_KIDS of the groups that leave the panel (R334, R340). -/
def State.swarmTree (s : State) : State :=
  let s1 := s.modWag s.panelRoot (fun w => { w with upPanel := BitVec.ofNat 8 s.swarmUp })
  ((0x41 :: (List.range 64).filter (fun c => decide (layPanels (s.layout c) > 1)))).foldl (fun s g => s.writeGroup g) s1

/-- The coordinator commits a swarm epoch: the panels by rising number, sent to each of them. -/
def State.swarmCommit (s : State) (members : List (Nat × List Byte)) : State :=
  let s1 := ({ s with swarmEpoch := s.swarmEpoch + 1, swarmMembers := members } : State).swarmTree
  let body := [s1.swarmEpoch, BitVec.ofNat 32 members.length] ++ members.flatMap (fun m => BitVec.ofNat 32 m.1 :: wordsOfBytes m.2)
  members.foldl (fun s m => if m.1 = s.swarmPanel.toNat then s else s.swarmMsg m.1 4 0 0 body) s1

/-- A panel joins: the coordinator's list holds it in its place. -/
def joinMember (l : List (Nat × List Byte)) (n : Nat) (uid : List Byte) : List (Nat × List Byte) :=
  l.filter (fun m => decide (m.1 < n)) ++ [(n, uid)] ++ l.filter (fun m => decide (n < m.1))

/-- The members that an EPOCH message lists. -/
def membersOf : Nat → List W32 → List (Nat × List Byte)
  | 0, _ => []
  | k + 1, ws => ((nth 0 ws 0).toNat % 256, wordBytes (nth 0 ws 1) ++ wordBytes (nth 0 ws 2)) :: membersOf k (ws.drop 3)

/-- SWARM_EPOCH: a panel takes over the coordinator's epoch. -/
def execSwarmEpoch (h : Half) (p : DataPkt) (s : State) : Host.Outcome State Fault Refusal :=
  .next (s.swarmIn h p 4 (fun _ s =>
    ({ s with swarmEpoch := swarmBody p 0, swarmMembers := membersOf (min 32 (swarmBody p 1).toNat) (p.payload.drop 4) } : State).swarmTree))

/-! ### Heartbeats and loss (R215, R360) -/

/-- SWARM_HEARTBEAT: the lead keeper sends one to every other panel (none), or one arrives. -/
def execSwarmHeartbeat (h : Half) (p : Option DataPkt) (s : State) : Host.Outcome State Fault Refusal :=
  .next (match p with
    | some p => s.swarmIn h p 5 (fun _ s => s)
    | none =>
      if s.lead = h then s.swarmMembers.foldl (fun s m => if m.1 = s.swarmPanel.toNat then s else s.swarmMsg m.1 5 0 0 []) s else s)

/-- SWARM_ACK: a keeper's message is answered. -/
def execSwarmAck (h : Half) (p : DataPkt) (s : State) : Host.Outcome State Fault Refusal :=
  let ep := fld p.dst 7 0
  .next (if p.type ≠ 0x1C ∨ ep ≥ 16 ∨ p.dst ≠ s.eid (0xF0 + h.code) ep then s else s.arriveData (0xF0 + h.code) ep p (fun s => s))

/-- A panel is lost to a colony that spans it. -/
def State.losePeer (s : State) (c : Nat) : State :=
  let s1 := if (s.colony c).state ≤ 1 then s.setCol c csFailed crPeer else s.failColony c crPeer
  s1.sendErr (0xF0 + s.lead.code) (mkErr 0x0603 1 6 c (s.eid (0xF0 + s.lead.code) 0) 0 0 0)

/-- SWARM_PEER_LOST: a panel has not answered for 100 ms. Every colony that spans it fails, and the coordinator commits the swarm without
it. -/
def execSwarmPeerLost (panel : Fin 32) (s : State) : Host.Outcome State Fault Refusal :=
  .next (
    if panel.val = s.swarmPanel.toNat then s
    else
      let s1 := (List.range 64).foldl (fun s c =>
        if (s.colony c).state = csFree ∨ layPanels (s.layout c) ≤ panel.val ∨ layPanels (s.layout c) ≤ 1 ∨ (s.colony c).state = csFailed then s
        else s.losePeer c) s
      if s1.swarmMembers.any (fun m => m.1 == panel.val) && (s1.coordinates || decide (panel.val = 0)) then
        s1.swarmCommit (s1.swarmMembers.filter (fun m => m.1 != panel.val))
      else s1)

end Sys2Proof.Machine
end

