-- ==== Sys2Proof/Machine/Links.lean ====
section
/-!
DEFINITION. Links and light: frames, replay, credits, waggle blocks, training, faults, quarantine, laser modules, the census
(R341–R373).
-/
namespace Sys2Proof.Machine

/-! ### Link ends (R341) -/

/-- The link end that a command names. -/
def State.linkAt (s : State) : LinkAt → Link
  | .comb i k => (s.comb i).link k.val
  | .keeper h => (s.keeper h).link

/-- The panel with a link end changed. -/
def State.modLinkAt (s : State) (l : LinkAt) (f : Link → Link) : State :=
  match l with
  | .comb i k => s.modLink i k.val f
  | .keeper h => s.setKeeper h { s.keeper h with link := f (s.keeper h).link }

end Sys2Proof.Machine
namespace Sys2Proof
open Machine

/-- Does the link end exist (R14, R341)? -/
def LinkAt.ok : LinkAt → Bool
  | .comb i k => linkExists i k
  | .keeper _ => true

/-- Link numbers (R341). -/
def LinkAt.no : LinkAt → Nat
  | .comb i k => linkNo i.val k.val
  | .keeper h => 0x0D00 + h.code

/-- The other end of a link inside the panel. -/
def LinkAt.peer : LinkAt → Option LinkAt
  | .comb i k =>
    match linkPeer i k.val with
    | some p => if h : linkBack i k.val < 12 then some (.comb p ⟨_, h⟩) else none
    | none => none
  | .keeper h => some (.keeper h.other)

/-- How many channels a link end has: 16 on an edge, one otherwise (R342, R344). -/
def LinkAt.chans : LinkAt → Nat
  | .comb _ k => if k.val < 4 then 16 else 1
  | .keeper _ => 1

/-- Is it a light lane; an external one? -/
def LinkAt.lane : LinkAt → Bool
  | .comb _ k => decide (k.val ≥ 4)
  | .keeper _ => false
def LinkAt.external : LinkAt → Bool
  | .comb _ k => decide (k.val ≥ 8)
  | .keeper _ => false

end Sys2Proof
namespace Sys2Proof.Machine

/-- A command on a link end that R14 does not provide stops (R341). -/
def onLink (l : LinkAt) (t : State) : Host.Outcome State Fault Refusal := if l.ok then .next t else .fault .noSuchUnit

/-- An error record of a link (R371, R475): a comb's to its steward, the keeper link's to its keeper. -/
def State.linkRec (s : State) (l : LinkAt) (code sev : Nat) (info0 : W64) : State :=
  match l with
  | .comb i _ => s.sendErr i.val (mkErr code sev 5 l.no (s.eid i.val 0xB9) 0 info0 0)
  | .keeper h => s.sendErr (0xF0 + h.code) (mkErr code sev 5 l.no (s.eid (0xF0 + h.code) 0) 0 info0 0)

/-- LNK_ERR bits (R371). -/
def leBadWr : Nat := 0
def leReplay : Nat := 1
def leRetrain : Nat := 2
def leQuarantine : Nat := 3

/-- Sets an LNK_ERR bit; its 0-to-1 transition sends a record of corrected severity (R371). -/
def State.setLnkErr (s : State) (l : LinkAt) (b : Nat) : State :=
  if bit (s.linkAt l).err b then s
  else
    let s1 := s.modLinkAt l (fun x => { x with err := setBit x.err b true })
    s1.linkRec l 0x0501 0 ((s1.linkAt l).err.setWidth 64)

/-- A total of LINK_COUNTERS counts on: 0 replays, 1 CRC failures, 2 uncorrected codewords, 3 retrains (R373). -/
def Link.total (x : Link) (k : Nat) : Link := { x with totals := setNth x.totals k (nth 0 x.totals k + 1) }

/-- A channel of a link end. -/
def Link.ch (x : Link) (c : Nat) : Chan := Tbl.get Chan.reset x.chans c

/-- A link end with a channel changed. -/
def Link.modCh (x : Link) (c : Nat) (f : Chan → Chan) : Link := { x with chans := Tbl.put Chan.reset x.chans c (f (x.ch c)) }

/-! ### Frames (R347–R350) -/

/-- The CRC-32 of R349 over the bits of a number from bit 0 up. -/
def crc32Bits : Nat → Nat → Nat → Nat
  | 0, _, r => r
  | n + 1, v, r => crc32Bits n (v / 2) (if (r % 2 == 1) != (v % 2 == 1) then r / 2 ^^^ 0xEDB88320 else r / 2)

/-- The CRC-32 of R349 over a byte string. -/
def crc32 (bs : List Byte) : W32 := ~~~ (BitVec.ofNat 32 (bs.foldl (fun r b => crc32Bits 8 b.toNat r) 0xFFFFFFFF))

end Sys2Proof.Machine
namespace Sys2Proof
open Machine

/-- The CRC of a frame: SOF bits [55:0] and the 2,048 DATA bits, in transmit order (R349). -/
def LinkFrame.crcOf (f : LinkFrame) : W32 :=
  ~~~ (BitVec.ofNat 32 ((fitTo 0 32 f.data).foldl (fun r w => crc32Bits 64 w.toNat r) (crc32Bits 56 f.sof.toNat 0xFFFFFFFF)))

/-- SEQ of a frame (R348). -/
def LinkFrame.seq (f : LinkFrame) : BitVec 12 := bits f.sof 44 12

/-- Type and count of a flit slot, and its 512 bits (R348, R349). -/
def LinkFrame.slotType (f : LinkFrame) (k : Nat) : Nat := fld f.sof (37 + 2 * k) (36 + 2 * k)
def LinkFrame.slotCount (f : LinkFrame) (k : Nat) : Nat := fld f.sof (20 + 5 * k) (16 + 5 * k)
def LinkFrame.slotBits (f : LinkFrame) (k : Nat) : BitVec 512 :=
  BitVec.ofNat 512 (((f.data.drop (8 * k)).take 8).foldr (fun w a => a * 2 ^ 64 + w.toNat) 0)

end Sys2Proof
namespace Sys2Proof.Machine

/-- A control packet from its 128 bits (R298). -/
def ctlOfBits (v : BitVec 128) : CtlPkt :=
  { gen := bits v 126 2, cls := bits v 118 8, dst := bits v 94 24, src := bits v 70 24, crc := bits v 64 6, payload := bits v 0 64 }

/-- A data packet from its flits, the header first (R301). -/
def dataOfFlits (l : List (BitVec 512)) : DataPkt :=
  let h := nth 0 l 0
  { gen := bits h 126 2, type := bits h 120 6, dst := bits h 96 24, src := bits h 72 24, colony := bits h 64 8, lenM1 := bits h 58 6,
    ep := bits h 56 2, addr := bits h 24 32, tag := bits h 8 16, hcrc := bits h 0 8, badPayload := false,
    payload := (l.drop 1).flatMap (fun f => (List.range 16).map (fun k => bits f (32 * k) 32)) }

/-- A waggle packet from its tokens (R323). -/
def wagOfTokens (l : List W32) : WagPkt :=
  let h := nth 0 l 0
  { gen := bits h 30 2, op := bits h 26 4, down := bit h 25, group := bits h 18 7, seq := bits h 14 4, len := bits h 11 3,
    status := bits h 8 3, crc := bits h 0 8, data := l.drop 1 }

/-- The port router of an external lane, and where it sits. -/
def lanePort (k : Nat) : Nat := k - 4

/-- The input of the panel root at which a panel's tokens arrive: 6 and 7 for its child panels in rising order (R334). -/
def State.childInput (s : State) (panel : Byte) : Nat :=
  let nums := s.swarmMembers.map (·.1)
  match nums.findIdx? (· == panel.toNat) with
  | some j => if j % 2 = 1 then 6 else 7
  | none => 6

/-- Whole waggle packets at the head of a run of tokens that came over an external lane go to the panel root, comb 0x67; what is left is
the head of the next (R330, R334). -/
def State.landTokens (s : State) (panel : Byte) : Nat → List W32 → State × List W32
  | 0, l => (s, l)
  | n + 1, l =>
    match l with
    | [] => (s, [])
    | h :: _ =>
      let need := 1 + wagLen (fld h 13 11)
      if l.length < need then (s, l)
      else
        let p := wagOfTokens (l.take need)
        State.landTokens (s.sendWag 0x67 (if p.down then 0 else s.childInput panel) p) panel n (l.drop need)

/-- A bulk flit that came over an external lane: the packets of one lane come flit after flit (log 46). A whole packet is in the net at the
lane's port router. -/
def State.landFlit (s : State) (i : Site) (k : Fin 12) (f : BitVec 512) : State :=
  let x := (s.comb i).link k.val
  let l := (x.ch 0).flits ++ [f]
  if l.length < fld (nth 0 l 0) 63 58 + 2 then s.modLink i k.val (fun x => x.modCh 0 (fun c => { c with flits := l }))
  else
    let s1 := s.modLink i k.val (fun x => x.modCh 0 (fun c => { c with flits := [] }))
    let at_ := some (i.val, portPhys (lanePort k.val))
    { s1 with net := { s1.net with bulk := s1.net.bulk ++ [{ pkt := dataOfFlits l, at_ := at_, high := false, held := false }] } }

/-- A control packet that came over an external lane. -/
def State.landCtl (s : State) (i : Site) (k : Fin 12) (p : CtlPkt) : State :=
  let at_ := some (i.val, portPhys (lanePort k.val))
  { s with net := { s.net with ctl := s.net.ctl ++ [{ pkt := p, at_ := at_, high := false, held := false }] } }

/-- The content of a slot of an accepted frame of an external lane (R349). -/
def State.landSlot (s : State) (i : Site) (k : Fin 12) (f : LinkFrame) (n : Nat) : State :=
  let v := f.slotBits n
  let t := f.slotType n
  if t = 0 then s.landFlit i k v
  else if t = 1 then (List.range (min 4 (f.slotCount n))).foldl (fun s j => s.landCtl i k (ctlOfBits (bits v (128 * j) 128))) s
  else if t = 2 then
    (s.landTokens ((s.comb i).link k.val).peerPanel 16 ((List.range (min 16 (f.slotCount n))).map (fun j => bits v (32 * j) 32))).1
  else s

/-- LINK_FRAME_RECEIVE: a frame is accepted when its SEQ is the next expected, its CRC holds and it has no block error; any other is
discarded, the first discard with a NAK (R350). The content of an accepted frame of an external lane enters the panel; between the ends of
a link inside the panel, packets cross by their hops (log 46). -/
def execLinkFrameReceive (l : LinkAt) (ch : Fin 16) (f : LinkFrame) (s : State) : Host.Outcome State Fault Refusal :=
  let x := s.linkAt l
  let c := x.ch ch.val
  let good := decide (f.crc = f.crcOf) && !f.blockErr && !f.uncorrected
  onLink l (
    if !x.isUp ∨ l.chans ≤ ch.val then s
    else if good ∧ f.seq = c.rxSeq then
      let s1 := s.modLinkAt l (fun x => x.modCh ch.val (fun c => { c with rxSeq := c.rxSeq + 1, rxPending := true, nakSent := false }))
      match l with
      | .comb i k => if k.val ≥ 8 then (List.range 4).foldl (fun s n => s.landSlot i k f n) s1 else s1
      | .keeper _ => s1
    else
      s.modLinkAt l (fun x =>
        let y := x.modCh ch.val (fun c => { c with nakSent := true })
        let y := if f.uncorrected then ({ y with uncorrected := satInc y.uncorrected } : Link).total 2 else y
        if good ∨ f.uncorrected then y else ({ y with crcFails := satInc y.crcFails } : Link).total 1))

/-! ### Retraining, loss and quarantine (R353, R363–R365, R370) -/

/-- The engine that carries an octet (R27). -/
def engineOf (o : Nat) : Nat :=
  let k := o % 8
  let br := o / 8 / 2
  let kw := if k ≤ 3 then k else 7 - k
  (if k ≤ 3 then 0 else 28) + (if kw ≤ 1 then 2 * br + kw else if kw = 2 then 14 + br else 21 + br)

/-- The two sockets that feed an engine (R28). -/
def feeders (e : Nat) : List Nat := [e / 28 * 28 + e % 28, e / 28 * 28 + (e % 28 + 27) % 28]

/-- A laser module. -/
def State.laser (s : State) (n : Nat) : Laser := Tbl.get Laser.reset s.power.lasers n

/-- Does an engine have light: a module of its two within specification, OK or WORN (R28, R366)? -/
def State.lit (s : State) (e : Nat) : Bool := (feeders e).any (fun n => decide ((s.laser n).state = 2 ∨ (s.laser n).state = 3))

/-- Has a laser event on the engine of a link happened within the last second (R365)? -/
def State.laserJust (s : State) : LinkAt → Bool
  | .comb i k => decide (k.val ≥ 8) && (feeders (engineOf (octetOf i))).any (fun n =>
      match (s.laser n).at_ with
      | some t => decide (s.leadTime.toNat ≤ t.toNat + 1000000000)
      | none => false)
  | .keeper _ => false

/-- The light lane or edge of a link end does not run: what it held is discarded, and fetches open on it end SUPER_ERROR (R363, R370). -/
def State.linkDown (s : State) (l : LinkAt) (state reason : Nat) : State :=
  let s1 := s.modLinkAt l (fun x => { x with state := state, reason := reason, version := 0, chans := [], heard := none })
  match l with
  | .comb i k =>
    if k.val ≥ 8 then
      ((s1.comb i).port (lanePort k.val)).fetches.foldl (fun s f => s.endFetch i (lanePort k.val) f 4) s1
    else s1
  | .keeper _ => s1

/-- Training starts: TRAINING, with a policy that waits now in force; a lane whose octet is off or in service mode stays OFF, one with no
light DOWN (R346, R353, R364, R367). -/
def State.startTraining (s : State) (l : LinkAt) : State :=
  let dark := match l with
    | .comb i k => decide (k.val ≥ 8) && !s.lit (engineOf (octetOf i))
    | .keeper _ => false
  let off := match l with
    | .comb i k => decide (k.val ≥ 8) && !(decide (s.octetMode (octetOf i) = 1 ∨ s.octetMode (octetOf i) = 2))
    | .keeper _ => false
  if off then s.linkDown l 0 1
  else if dark then s.linkDown l 1 2
  else s.modLinkAt l (fun x =>
    { x with state := 2, reason := 0, version := 0, heard := none, policy := x.policyNext.getD x.policy, policyNext := none })

/-- A link that runs retrains: counted; with more than 4 retrains in 10 minutes it is QUARANTINED (R363, R365). -/
def State.retrain (s : State) (l : LinkAt) (commanded : Bool) : State :=
  if !(s.linkAt l).isUp then s
  else
    let s1 := s.modLinkAt l (fun x => ({ x with retrains := satInc x.retrains } : Link).total 3)
    if commanded then s1.startTraining l
    else
      let s2 := s1.setLnkErr l leRetrain
      if s.laserJust l then s2.startTraining l
      else
        let now := s.leadTime
        let h := (s.linkAt l).history.filter (fun t => decide (now.toNat < t.toNat + 600000000000)) ++ [now]
        let s3 := s2.modLinkAt l (fun x => { x with history := h })
        if h.length > 4 then (s3.linkDown l 5 12).setLnkErr l leQuarantine else s3.startTraining l

/-- LOCK_LOSS: block lock or ALIGN is lost for 1 µs (R363). -/
def execLockLoss (l : LinkAt) (s : State) : Host.Outcome State Fault Refusal := onLink l (s.retrain l false)

/-! ### Replay and credits (R350, R351) -/

/-- The transmitter resends what is unacknowledged. A frame that 8 sends did not bring through makes the link retrain. -/
def State.resend (s : State) (l : LinkAt) (ch : Nat) : State :=
  let c := (s.linkAt l).ch ch
  if c.unacked = [] then s
  else if c.unacked.any (fun e => decide (e.2 ≥ 8)) then (s.setLnkErr l leReplay).retrain l false
  else
    s.modLinkAt l (fun x =>
      ({ (x.modCh ch (fun c => { c with unacked := c.unacked.map (fun e => (e.1, e.2 + 1)) })) with replays := satInc x.replays } : Link).total 0)

/-- The frames that an ACK frees: those before the next expected one. An ACK that names no frame in flight frees none. -/
def Chan.ack (c : Chan) (ack : BitVec 12) : Chan :=
  if ack = c.txSeq ∨ c.unacked.any (fun e => e.1 = ack) then { c with unacked := c.unacked.dropWhile (fun e => !decide (e.1 = ack)) } else c

/-- ACKNAK: the frames before ACK are freed; with NAK the others are sent again. -/
def execAcknak (l : LinkAt) (ch : Fin 16) (ack : BitVec 12) (nak : Bool) (s : State) : Host.Outcome State Fault Refusal :=
  onLink l (
    if !(s.linkAt l).isUp then s
    else
      let s1 := s.modLinkAt l (fun x => x.modCh ch.val (fun c => c.ack ack))
      if nak then s1.resend l ch.val else s1)

/-- ACKNAK_SEND_TIMER: the receiver acknowledges what it has accepted. -/
def execAcknakSendTimer (l : LinkAt) (ch : Fin 16) (s : State) : Host.Outcome State Fault Refusal :=
  onLink l (if (s.linkAt l).isUp then s.modLinkAt l (fun x => x.modCh ch.val (fun c => { c with rxPending := false })) else s)

/-- REPLAY_TIMEOUT: ACK has not advanced within the replay timeout. `over`: more than 1,000 replays have occurred in the last 1 ms, so
that the link retrains (R363). -/
def execReplayTimeout (l : LinkAt) (ch : Fin 16) (spent : Bool) (s : State) : Host.Outcome State Fault Refusal :=
  onLink l (if !(s.linkAt l).isUp then s else if spent then s.retrain l false else s.resend l ch.val)

end Sys2Proof.Machine
namespace Sys2Proof
open Machine

/-- The input buffer of a virtual channel, in flits or packets: 48 and 16 on an edge channel, 512 and 64 on a light lane (R313, R351). -/
def LinkAt.buffer (l : LinkAt) (key : Nat) : Nat :=
  if l.lane then (if key < 4 then 512 else 64) else if key < 4 then 48 else 16

/-- An entry of a CREDIT block: NET, VC, COUNT; an all-zero entry is empty (R348). A NET above 1 names no network and is ignored. Credits never exceed the
peer's buffer. -/
def LinkAt.credit (l : LinkAt) (c : Chan) (e : BitVec 16) : Chan :=
  let key := fld e 15 14 * 4 + fld e 13 12
  if fld e 15 14 > 1 then c
  else { c with credits := Tbl.put 0 c.credits key (min (Int.ofNat (l.buffer key)) (Tbl.get 0 c.credits key + Int.ofNat (fld e 11 0))) }

end Sys2Proof
namespace Sys2Proof.Machine

/-- CREDIT_BLOCK: credits come back. -/
def execCreditBlock (l : LinkAt) (ch : Fin 16) (e0 e1 : BitVec 16) (s : State) : Host.Outcome State Fault Refusal :=
  onLink l (if !(s.linkAt l).isUp then s
    else s.modLinkAt l (fun x => x.modCh ch.val (fun c => l.credit (l.credit c e0) e1)))

/-- WAGGLE_BLOCK: a preemptive beat of two tokens (R331, R347). On an external lane the tokens of a packet are put together and go to the
panel root; the second token of a packet's last beat is padding where the packet has an odd number. -/
def execWaggleBlock (l : LinkAt) (t0 t1 : W32) (s : State) : Host.Outcome State Fault Refusal :=
  onLink l (
    match l with
    | .keeper _ => s
    | .comb i k =>
      let x := (s.comb i).link k.val
      if !x.isUp ∨ k.val < 8 ∨ s.octetMode (octetOf i) ≠ 1 then s
      else
        let ts := (x.ch 0).tokens ++ [t0, t1]
        let need := 1 + wagLen (fld (nth 0 ts 0) 13 11)
        if ts.length < need then s.modLink i k.val (fun x => x.modCh 0 (fun c => { c with tokens := ts }))
        else
          ((s.landTokens x.peerPanel 1 (ts.take need)).1).modLink i k.val (fun x => x.modCh 0 (fun c => { c with tokens := [] })))

/-! ### Training (R352–R355) -/

/-- The identifier of this panel in training records (R352). -/
def State.uid (s : State) : List Byte := (Config.sha512 s.birth.serial).take 8

/-- TRAINING_RECORD: a record is heard; a valid one is kept for LINK_PEER (R373). -/
def execTrainingRecord (l : LinkAt) (bs : List Byte) (s : State) : Host.Outcome State Fault Refusal :=
  let r := fitTo 0 35 bs
  onLink l (
    if (s.linkAt l).state ≠ 2 ∨ !l.lane then s
    else s.modLinkAt l (fun x =>
      { x with heard := some r, peer := if fieldAt r 31 4 = (crc32 (r.take 31)).toNat then r else x.peer }))

/-- MODE of a lane's records: 1 express, 2 swarm, 3 super (R352). -/
def State.laneMode (s : State) : LinkAt → Nat
  | .comb i k => if k.val < 8 then 1 else if s.octetMode (octetOf i) = 1 then 2 else 3
  | .keeper _ => 0

/-- The lanes of an octet, in the order of R27: the outer comb's four, then the inner comb's. -/
def octetLanes (o : Nat) : List LinkAt :=
  let c := octetCombs o
  [c.1, c.2].flatMap (fun n => if h : n < 224 then [8, 9, 10, 11].map (fun k => LinkAt.comb ⟨n, h⟩ k) else [])

/-- The T4 checks of a lane's record, in order; the LINK_REASON of the first failure (R354). -/
def State.identCheck (s : State) (l : LinkAt) (r : List Byte) : Option Nat :=
  if fieldAt r 31 4 ≠ (crc32 (r.take 31)).toNat then some 3
  else if fieldAt r 1 1 ≠ s.laneMode l then some 6
  else if fieldAt r 2 1 > 1 ∨ fieldAt r 3 1 < 1 then some 7
  else if l.external ∧ slice r 4 8 = s.uid then some 9
  else if s.laneMode l = 2 ∧ fieldAt r 12 1 = s.swarmPanel.toNat then some 8
  else
    match l with
    | .keeper _ => none
    | .comb i k =>
      if k.val < 8 then
        match linkPeer i k.val with
        | some p => if fieldAt r 13 1 = p.val ∧ fieldAt r 14 1 = linkBack i k.val - 4 then none else some 5
        | none => none
      else
        let others := (octetLanes (octetOf i)).filterMap (fun m => (s.linkAt m).heard)
        if others.any (fun q => decide (slice q 4 8 ≠ slice r 4 8 ∨ fieldAt q 13 1 ≠ fieldAt r 13 1)) then some 5 else none

/-- Good wires of a channel of 38 after its test (R342, R343). -/
def goodWires (v : BitVec 38) : Nat := 38 - ((List.range 38).filter (fun b => bit v b)).length

/-- Training ends in DOWN with a reason; a failed check of R354 is also recorded at the peer when the peer has decoded the record. -/
def State.trainFail (s : State) (l : LinkAt) (reason : Nat) (check : Bool) : State :=
  let s1 := s.linkDown l 1 reason
  match l.peer with
  | some p => if check ∧ (s1.linkAt p).state = 2 ∧ (s1.linkAt p).heard.isSome then s1.linkDown p 1 reason else s1
  | none => s1

/-- T5–T7: credits are sent, the link is UP, or DEGRADED at half rate or width; a link that kept its replay buffer sends it again
(R353, R363). A swarm lane that comes UP brings its panel into the swarm (R516). -/
def State.trainUp (s : State) (l : LinkAt) (half : Bool) : State :=
  let x := s.linkAt l
  let credits : Tbl Int := (List.range 8).map (fun k => (k, Int.ofNat (l.buffer k)))
  let r := x.heard.getD []
  let s1 := s.modLinkAt l (fun x =>
    { x with state := if half then 4 else 3, reason := 0, half := half, width := if l.lane then 0 else if half then 18 else 36,
             version := 1, peerLane := if l.lane then BitVec.ofNat 8 (fieldAt r 14 1) else x.peerLane,
             peerPanel := if l.lane then BitVec.ofNat 8 (fieldAt r 12 1) else x.peerPanel,
             chans := (List.range l.chans).map (fun c =>
               (c, { x.ch c with credits := credits, unacked := (x.ch c).unacked.map (fun e => (e.1, e.2 + 1)) })) })
  if s.laneMode l = 2 ∧ s1.coordinates then
    let own := joinMember s1.swarmMembers s1.swarmPanel.toNat s1.uid
    let all := joinMember own (fieldAt r 12 1) (slice r 4 8)
    if all = s1.swarmMembers then s1 else s1.swarmCommit all
  else s1

/-- The outcome of T2–T7 (R343, R353, R354, R364). -/
def State.train (s : State) (l : LinkAt) (o : TrainOut) : State :=
  let x := s.linkAt l
  let wires : Tbl (BitVec 38) := if l.lane then [] else o.wires.foldl (fun t e => Tbl.put 0 t e.1.val e.2) []
  let s := s.modLinkAt l (fun x => { x with wires := wires })
  let bad := wires.filter (fun e => decide (goodWires e.2 < 36))
  if !o.signal then s.trainFail l 3 false
  else if bad ≠ [] ∧ (x.policy ∨ bad.any (fun e => decide (goodWires e.2 < 18))) then s.trainFail l 11 false
  else if !o.eqOk then s.trainFail l 4 false
  else
    match (if l.lane then (match x.heard with | none => some 3 | some r => s.identCheck l r) else none) with
    | some reason => s.trainFail l reason true
    | none =>
      if bad ≠ [] then (if o.berHalfOk then s.trainUp l true else s.trainFail l 10 false)
      else if o.berOk then s.trainUp l false
      else if !x.policy ∧ o.berHalfOk then s.trainUp l true
      else s.trainFail l 10 false

/-- LINK_TRAINING: a link end in TRAINING comes to the end of R353. -/
def execLinkTraining (l : LinkAt) (o : TrainOut) (s : State) : Host.Outcome State Fault Refusal :=
  onLink l (if (s.linkAt l).state = 2 then s.train l o else s)

/-! ### Routes around what is down (R310, R317, R363) -/

/-- Does the primary route of a comb to a site byte pass a link whose routes are flipped, or a comb that is detoured? -/
def State.routeHit (s : State) (n : Nat) : Nat → Site → Bool
  | 0, _ => false
  | k + 1, i =>
    let e := s.siteEntry i n
    let x := fld e 3 0
    if i.val = n ∨ x = 0 then false
    else if ((s.comb i).link (exitLink x)).flipped then true
    else
      match linkPeer i (exitLink x) with
      | none => false
      | some j => if (s.comb j).detour ∧ j.val ≠ n then true else State.routeHit s n k j

/-- The lead keeper sets SEL of every entry from its primary route (R310). -/
def State.resel (s : State) : State :=
  (List.finRange 224).foldl (fun t i =>
    if !(s.comb i).router.tablesUp then t
    else
      (List.range 242).foldl (fun t n =>
        if !siteByteOk n ∨ n = i.val then t
        else
          let e := s.siteEntry i n
          let e1 := setBit e 61 (s.routeHit n 224 i)
          if e1 = e then t else t.modRouter i (fun r => { r with siteTbl := Tbl.put none r.siteTbl n (some e1) })) t) s

/-- The panel table entries whose primary lane's link is flipped take their alternates (R307). -/
def State.reselPanels (s : State) : State :=
  (List.finRange 224).foldl (fun t i =>
    t.modRouter i (fun r =>
      { r with panelTbl := r.panelTbl.map (fun e =>
          (e.1, e.2.map (fun w =>
            if !bit w 63 || bit w 62 then w
            else setBit w 61 ((s.combN (fld w 7 0)).link (8 + fld w 9 8)).flipped))) })) s

/-- ROUTE_FLIP_TIMER: a link end is out of UP for 1 ms; routes through it take their alternates. -/
def execRouteFlipTimer (l : LinkAt) (s : State) : Host.Outcome State Fault Refusal :=
  onLink l (
    if (s.linkAt l).isUp ∨ (s.linkAt l).flipped then s
    else (s.modLinkAt l (fun x => { x with flipped := true })).resel.reselPanels)

/-- ROUTE_RESTORE_TIMER: 1 s after the link is UP again. -/
def execRouteRestoreTimer (l : LinkAt) (s : State) : Host.Outcome State Fault Refusal :=
  onLink l (
    if !(s.linkAt l).isUp ∨ !(s.linkAt l).flipped then s
    else (s.modLinkAt l (fun x => { x with flipped := false })).resel.reselPanels)

/-! ### Recalibration and commands (R365, R371, R373) -/

/-- LINK_RECALIBRATION: a quarantined link is trained and stressed; clean, it leaves quarantine with its history cleared and trains into
service; the 24th failure in a row is a contained error against the link. An UP link re-tunes in place. -/
def execLinkRecalibration (l : LinkAt) (clean : Bool) (s : State) : Host.Outcome State Fault Refusal :=
  let x := s.linkAt l
  onLink l (
    if x.state ≠ 5 then s
    else if clean then (s.modLinkAt l (fun x => { x with history := [], recalFails := 0 })).startTraining l
    else
      let s1 := s.modLinkAt l (fun x => { x with recalFails := x.recalFails + 1 })
      if x.recalFails + 1 = 24 then s1.linkRec l 0x0502 1 (x.err.setWidth 64) else s1)

/-- RETRAIN (1), DISABLE (2), ENABLE (3), RELEASE (4) of a link end (R371, R373). RETRAIN also starts a link that is DOWN. -/
def State.linkCtrl (s : State) (v : Nat) (l : LinkAt) : State :=
  let x := s.linkAt l
  if v = 2 then s.linkDown l 0 13
  else if v = 1 then (if x.state = 1 then s.startTraining l else s.retrain l true)
  else if v = 3 then (if x.state = 0 then s.startTraining l else s)
  else if v = 4 then (if x.state = 5 then (s.modLinkAt l (fun x => { x with history := [], recalFails := 0 })).startTraining l else s)
  else s

end Sys2Proof.Machine
namespace Sys2Proof
open Machine

/-- The link ends that a command names. -/
def LinkSel.ends : LinkSel → List LinkAt
  | .one l => [l]
  | .octet o => octetLanes o.val

/-- The link number of a selection (R341). -/
def LinkSel.no : LinkSel → Nat
  | .one l => l.no
  | .octet o => 0x0C00 + o.val

end Sys2Proof
namespace Sys2Proof.Machine

/-- A command on links: a write of LNK_CTRL (none), or of the LINK_CTRL object. -/
def State.linkCommand (s : State) (v : Nat) (l : LinkSel) (r : Option Req) : Host.Outcome State Fault Refusal :=
  let act (s : State) : State := l.ends.foldl (fun s e => s.linkCtrl v e) s
  if l.ends.all LinkAt.ok then
    .next (match r with
      | none => act s
      | some q => s.writeReq q (oref 0x6006 l.no 0) [BitVec.ofNat 8 v] (fun s => (coOk, act s)))
  else .fault .noSuchUnit

/-- LINK_RETRAIN, LINK_DISABLE, LINK_ENABLE, LINK_RELEASE. -/
def execLinkRetrain (l : LinkSel) (r : Option Req) (s : State) : Host.Outcome State Fault Refusal := s.linkCommand 1 l r
def execLinkDisable (l : LinkSel) (r : Option Req) (s : State) : Host.Outcome State Fault Refusal := s.linkCommand 2 l r
def execLinkEnable (l : LinkSel) (r : Option Req) (s : State) : Host.Outcome State Fault Refusal := s.linkCommand 3 l r
def execLinkRelease (l : LinkSel) (r : Option Req) (s : State) : Host.Outcome State Fault Refusal := s.linkCommand 4 l r

/-- LNK_CTRL written (R371): DISABLE takes effect when written together with other bits. -/
def State.lnkCtrlWrite (s : State) (l : LinkAt) (v : W64) : State :=
  if bit v 1 then s.linkCtrl 2 l
  else
    let s1 := if bit v 3 then s.linkCtrl 4 l else s
    let s2 := if bit v 2 then s1.linkCtrl 3 l else s1
    if bit v 0 then s2.linkCtrl 1 l else s2

/-- LNK_COUNTS (R371). -/
def Link.countsReg (x : Link) : W64 :=
  BitVec.ofNat 64 (x.replays.toNat * 2 ^ 48 + x.crcFails.toNat * 2 ^ 32 + x.uncorrected.toNat * 2 ^ 16 + x.retrains.toNat)

/-- LNK_STATUS (R372). -/
def Link.statusReg (x : Link) : W64 :=
  BitVec.ofNat 64 (x.reason * 2 ^ 48 + x.peerLane.toNat * 2 ^ 40 + x.peerPanel.toNat * 2 ^ 32 +
    (if x.isUp then x.version.toNat else 0) * 2 ^ 24 + x.width.toNat * 2 ^ 16 + b2n x.half * 16 + x.state)

/-- LNK_WIRES (R371). -/
def Link.wiresReg (x : Link) : W64 :=
  BitVec.ofNat 64 (((List.range 16).filter (fun c => Tbl.get 0 x.wires c != 0)).foldl (fun a c => a + 2 ^ c) 0 * 2 ^ 48 +
    x.chan.toNat * 2 ^ 44 + (Tbl.get 0 x.wires x.chan.toNat).toNat)

/-- A read of LNK_COUNTS clears it. -/
def Link.clearCounts (x : Link) : Link := { x with replays := 0, crcFails := 0, uncorrected := 0, retrains := 0 }

/-- LNK_COUNTS_READ. -/
def execLnkCountsRead (i : Site) (k : Fin 12) (s : State) : Host.Outcome State Fault Refusal :=
  onLink (.comb i k) (s.modLink i k.val Link.clearCounts)

/-! ### Octet modes and swarm numbers (R346, R370) -/

/-- OCTET_MODE of an octet has been committed: its lanes go down and train in the new mode. -/
def State.octetChange (s : State) (o : Nat) : State :=
  (octetLanes o).foldl (fun s l => if (s.linkAt l).state = 0 ∧ (s.linkAt l).reason = 13 then s else (s.linkDown l 1 0).startTraining l) s

/-- SWARM_PANEL has been committed: swarm lanes retrain. -/
def State.swarmChange (s : State) : State :=
  (List.range 112).foldl (fun s o => if s.octetMode o = 1 then (octetLanes o).foldl (fun s l => s.retrain l true) s else s) s

/-! ### Laser modules (R28, R366, R367) -/

/-- The panel with a laser module changed; its event is timed. -/
def State.setLaser (s : State) (n st : Nat) (tele : List W32) : State :=
  { s with power := { s.power with lasers := Tbl.put Laser.reset s.power.lasers n { state := st, tele := tele, at_ := some s.leadTime } } }

/-- The octets of the two engines that a socket feeds (R27, R28). -/
def octetsFed (n : Nat) : List Nat := (List.range 112).filter (fun o => (feeders (engineOf o)).contains n)

/-- The lanes of a socket's engines follow the light: dark engines take theirs DOWN with LIGHT; lanes that were so train again. -/
def State.relight (s : State) (n : Nat) : State :=
  (octetsFed n).foldl (fun s o =>
    (octetLanes o).foldl (fun s l =>
      let x := s.linkAt l
      if s.lit (engineOf o) then (if x.state = 1 ∧ x.reason = 2 then s.startTraining l else s)
      else if x.state = 2 ∨ x.isUp then s.linkDown l 1 2 else s) s) s

/-- LASER_INSERT: a module in an empty socket is identified and ramped: OK, or INCOMPATIBLE. -/
def execLaserInsert (n : Fin 56) (accepted : Bool) (tele : List W32) (s : State) : Host.Outcome State Fault Refusal :=
  .next (if (s.laser n.val).state ≠ 0 then s
    else if accepted then (s.setLaser n.val 2 (fitTo 0 4 tele)).relight n.val
    else s.setLaser n.val 5 [0, 0, 0, 0])

/-- LASER_LOSS: a module is removed, or fails. -/
def execLaserLoss (n : Fin 56) (removed : Bool) (s : State) : Host.Outcome State Fault Refusal :=
  let x := s.laser n.val
  .next (if x.state = 0 then s
    else if removed then (s.setLaser n.val 0 [0, 0, 0, 0]).relight n.val
    else if x.state = 5 then s
    else (s.setLaser n.val 4 x.tele).relight n.val)

/-- LASER_WORN: the drive current rises above 90 % of the module's limit; light stays within specification. -/
def execLaserWorn (n : Fin 56) (tele : List W32) (s : State) : Host.Outcome State Fault Refusal :=
  .next (if (s.laser n.val).state = 2 then s.setLaser n.val 3 (fitTo 0 4 tele) else s)

/-! ### The census (R368, R369) -/

/-- All link ends of a comb that exist. -/
def combLinks (i : Site) : List LinkAt := ((List.finRange 12).filter (fun k => linkExists i k)).map (fun k => .comb i k)

/-- All link ends of the panel. -/
def allLinks : List LinkAt := (List.finRange 224).flatMap combLinks ++ [.keeper .west, .keeper .east]

/-- The link ends of a census scope; none where its condition does not hold (R369): a link's routes flipped; steps 1–3 of R317 complete
for a comb; no colony in PLACED or beyond. -/
def State.censusScope (s : State) (scope arg : Nat) : Option (List LinkAt) :=
  if scope = 0 then
    match linkOfNo arg with
    | some (.comb n k) =>
      if h : n < 224 ∧ k < 12 then
        let l : LinkAt := .comb ⟨n, h.1⟩ ⟨k, h.2⟩
        if (s.linkAt l).flipped then some [l] else none
      else none
    | some (.keeper h) => if (s.linkAt (.keeper h)).flipped then some [.keeper h] else none
    | some (.octet o) => if (octetLanes o).all (fun l => (s.linkAt l).flipped) then some (octetLanes o) else none
    | none => none
  else if scope = 1 then
    if h : arg < 224 then
      if (s.comb ⟨arg, h⟩).detour ∧ (s.comb ⟨arg, h⟩).router.drain = 0x1FFFF then some (combLinks ⟨arg, h⟩) else none
    else none
  else if (List.range 64).all (fun c => decide ((Tbl.get Colony.free s.colonies c).state ≤ 1)) then some allLinks else none

/-- The results of a census of link ends are stored, the combs with a failed on-die link are reported, and the links under test train
afterwards (R368, R369). -/
def State.censusOf (s : State) (ls : List LinkAt) (onDie : List Site) (o : CensusOut) : State :=
  let s1 := ls.foldl (fun s l =>
    let res := ((o.links.find? (fun e => e.1 == l.no)).map (·.2)).getD []
    let s := (s.modLinkAt l (fun x => { x with census := res })).burn (objKey 0x6033 l.no 0) res
    if (s.linkAt l).state = 0 ∨ (s.linkAt l).state = 5 then s else (s.linkDown l 6 15).startTraining l) s
  onDie.foldl (fun s i => s.combErr i 0x0209 1 0 0) s1

/-- CENSUS: a write of CENSUS_CTRL. Results are stored, a failed on-die link is a contained error against its comb, and the links under
test train afterwards. -/
def execCensus (r : Req) (ctrl : List Byte) (o : CensusOut) (s : State) : Host.Outcome State Fault Refusal :=
  let scope := fieldAt ctrl 0 2
  let arg := fieldAt ctrl 2 2
  .next (s.writeReq r (oref 0x6031 0 0) ctrl (fun s =>
    if scope > 2 ∨ (scope = 0 ∧ (linkOfNo arg).isNone) ∨ (scope = 1 ∧ arg ≥ 224) then (coRange, s)
    else
      match s.censusScope scope arg with
      | none => (coBusy, s.modMgmt (fun m => { m with census := 3 }))
      | some ls =>
        (coOk, (s.censusOf ls (o.onDie.filter (fun i => scope == 2 || (scope == 1 && arg == i.val))) o).modMgmt (fun m => { m with census := 2 }))))

end Sys2Proof.Machine
end

