-- ==== Sys2Proof/Machine/Power.lean ====
section
/-!
DEFINITION. Power: blades, converters, halves, zone feeds, regulators, domains and inrush tokens (R397–R421).
-/
namespace Sys2Proof.Machine

/-! ### Records and error bits -/

/-- A SUPPLY record: against the panel, corrected (R398, R401, R443, R476). A keeper raises it. -/
def State.supplyRec (s : State) (h : Half) (info0 : W64) : State :=
  s.sendErr (0xF0 + h.code) (mkErr 0x0306 0 9 0 (s.eid (0xF0 + h.code) 0) 0 info0 0)

/-- PWR_ERR bits (R420). -/
def peBadWr : Nat := 0
def peStatic : Nat := 1
def pePhase : Nat := 2
def peDerate : Nat := 3
def peLatch : Nat := 4
def peInrush : Nat := 5
def peCatch : Nat := 6

/-- Sets a PWR_ERR bit; its 0-to-1 transition sends a record against a domain (R420, R473). -/
def State.setPwrErr (s : State) (i : Site) (b kind inst : Nat) : State :=
  if bit (s.comb i).pw.pwrErr b then s
  else
    let s1 := s.modPw i (fun w => { w with pwrErr := setBit w.pwrErr b true })
    let info := (s1.comb i).pw.pwrErr.setWidth 64
    s1.sendErr i.val (if b = peLatch then mkErr 0x0302 1 kind inst (s.eid i.val 0xB9) 0 info 0 else mkErr 0x0301 0 kind inst (s.eid i.val 0xB9) 0 info 0)

/-- PWR_ERR of the comb as a whole. -/
def State.pwrErr (s : State) (i : Site) (b : Nat) : State := s.setPwrErr i b 3 i.val

/-! ### Domains (R407, R408, R413, R418) -/

/-- Domain numbers (R407). -/
def dWatch (f : Nat) : Nat := 4 * f
def dTransit (f : Nat) : Nat := 4 * f + 1
def dLogic (f : Nat) : Nat := 4 * f + 2
def dArray (f : Nat) : Nat := 4 * f + 3
def dSteward : Nat := 64
def dSampler (k : Nat) : Nat := 65 + k
def dTest : Nat := 79

/-- A domain of a comb. -/
def CombPower.dom (w : CombPower) (d : Nat) : Dom := Tbl.get Dom.reset w.doms d

/-- The panel with a domain changed. -/
def State.setDom (s : State) (i : Site) (d : Nat) (x : Dom) : State :=
  s.modPw i (fun w => { w with doms := Tbl.put Dom.reset w.doms d x })

/-- A request for power that waits or ramps is withdrawn (R415). -/
def State.withdraw (s : State) (i : Site) (d : Nat) : State :=
  s.modStore (storeOf i) (fun x =>
    { x with waiting := x.waiting.filter (fun e => !decide (e = (i, d))), token := if x.token = some (i, d) then none else x.token })

/-- What loses power with a domain: sites go Dark, a sampler its state, the links of a lane domain go DOWN (R407, R422, R433). -/
def State.domDark (s : State) (i : Site) (d : Nat) : State :=
  if d < 64 then
    if d % 4 ≥ 2 then (frameSites (d / 4)).foldl (fun s p => s.setSite ⟨i, p⟩ 5) s else s
  else if d = 64 then s.modComb i (fun k => { k with steward := Core.reset, stewardMem := Ram.zero, loader := Loader.reset })
  else if d ≤ 68 then s.modComb i (fun k => { k with samplers := Tbl.put k.smpInit k.samplers (d - 65) Sampler.reset })
  else if h : 71 ≤ d ∧ d ≤ 78 then s.linkDown (.comb i ⟨d - 67, by omega⟩) 1 13
  else s

/-- A domain switched off, or lost, with a state and reason. -/
def State.domOff (s : State) (i : Site) (d st reason : Nat) : State :=
  if (s.comb i).pw.dom d = { on := false, state := st, reason := reason } then s
  else (((s.withdraw i d).setDom i d { on := false, state := st, reason := reason })).domDark i d

/-- Is the order of R408 kept by turning a domain on? -/
def CombPower.onOrder (w : CombPower) (d : Nat) : Bool :=
  if d ≥ 64 then true
  else if d % 4 = 1 then decide ((w.dom (d - 1)).state = 3)
  else if d % 4 = 3 then decide ((w.dom (d - 2)).state = 3)
  else if d % 4 = 2 then decide ((w.dom (d + 1)).state = 3)
  else true

/-- Is the reverse order kept by turning it off: what turns on after it is off? -/
def CombPower.offOrder (w : CombPower) (d : Nat) : Bool :=
  let dark (k : Nat) : Bool := !(w.dom k).on
  if d ≥ 64 then true
  else if d % 4 = 0 then dark (d + 1)
  else if d % 4 = 1 then dark (d + 2)
  else if d % 4 = 3 then dark (d - 1)
  else true

/-- May the agent switch a domain: WATCH_f, TRANSIT_f and STEWARD belong to the keeper of the half, every other to the steward (R408)? -/
def domEntitled (i : Site) (d : Nat) (who : Option Half) : Bool :=
  if (d < 64 ∧ d % 4 ≤ 1) ∨ d = 64 then decide (who = some (halfOf i)) else decide (who = none)

/-- A write of PWR_DOM that asks for on: an inrush token is requested (R408, R413). FAULT and FENCED ignore it. -/
def State.domOn (s : State) (i : Site) (d : Nat) (who : Option Half) : State :=
  let w := (s.comb i).pw
  let x := w.dom d
  if !domEntitled i d who then s.pwrErr i peBadWr
  else if x.state = 4 ∨ x.state = 5 ∨ x.on then s
  else if !w.onOrder d then s.pwrErr i peBadWr
  else (s.setDom i d { on := true, state := 1, reason := 0 }).modStore (storeOf i) (fun z => { z with waiting := z.waiting ++ [(i, d)] })

/-- A write that asks for off. -/
def State.domOffWrite (s : State) (i : Site) (d : Nat) (who : Option Half) : State :=
  let w := (s.comb i).pw
  let x := w.dom d
  if !domEntitled i d who then s.pwrErr i peBadWr
  else if x.state = 4 ∨ x.state = 5 ∨ !x.on then s
  else if !w.offOrder d then s.pwrErr i peBadWr
  else s.domOff i d 0 0

/-- DOMAIN_POWER_ON: PWR_DOM written with ON = 1, by the keeper of a half or by the steward (none). -/
def execDomainPowerOn (i : Site) (d : Fin 80) (who : Option Half) (s : State) : Host.Outcome State Fault Refusal := .next (s.domOn i d.val who)

/-- DOMAIN_POWER_OFF: PWR_DOM written with ON = 0. -/
def execDomainPowerOff (i : Site) (d : Fin 80) (who : Option Half) (s : State) : Host.Outcome State Fault Refusal :=
  .next (s.domOffWrite i d.val who)

/-- Ramp need of a domain in 0.1 A (R414). -/
def rampNeed (d : Nat) : Nat :=
  if d < 64 then (if d % 4 = 0 then 5 else if d % 4 = 2 then 60 else 20)
  else if 71 ≤ d ∧ d ≤ 78 then 5 else 10

/-- HEADROOM of a zone in 0.1 A (R420). -/
def Store.headroom (z : Store) : Nat := 2000 - z.zoneCurrent

/-- GUARD of the steward that issues a zone's token (R413). -/
def State.zoneGuard (s : State) (z : Nat) : Nat := (s.combN (s.storeSteward z)).pw.guard.toNat

/-- INRUSH_GRANT: with the zone's current as measured, the first request that waits gets the zone's free token when HEADROOM allows. -/
def execInrushGrant (z : StoreId) (current : Nat) (s : State) : Host.Outcome State Fault Refusal :=
  let s1 := s.modStore z.val (fun x => { x with zoneCurrent := current })
  let x := s1.store z.val
  .next (match x.waiting with
    | [] => s1
    | (i, d) :: rest =>
      if x.token.isSome ∨ x.zoneOpen ∨ x.headroom < rampNeed d + s1.zoneGuard z.val then s1
      else
        (s1.modStore z.val (fun x => { x with token := some (i, d), waiting := rest })).setDom i d { on := true, state := 2, reason := 0 })

/-- DOMAIN_POWER_GOOD: the domain that holds the zone's token is on. A sampler is READY (R170). -/
def execDomainPowerGood (z : StoreId) (s : State) : Host.Outcome State Fault Refusal :=
  .next (match (s.store z.val).token with
    | none => s
    | some (i, d) =>
      let s1 := (s.modStore z.val (fun x => { x with token := none })).setDom i d { on := true, state := 3, reason := 0 }
      if 65 ≤ d ∧ d ≤ 68 then
        s1.modComb i (fun k => { k with samplers := Tbl.put k.smpInit k.samplers (d - 65) { Sampler.reset with ready := true } })
      else s1)

/-- DOMAIN_RAMP_TIMEOUT: no power good within 50 µs. -/
def execDomainRampTimeout (z : StoreId) (s : State) : Host.Outcome State Fault Refusal :=
  .next (match (s.store z.val).token with
    | none => s
    | some (i, d) => (s.modStore z.val (fun x => { x with token := none })).domOff i d 4 2)

/-- INRUSH_WAIT_TIMEOUT: a request has waited WAIT_MS. -/
def execInrushWaitTimeout (i : Site) (d : Fin 80) (s : State) : Host.Outcome State Fault Refusal :=
  .next (if ((s.comb i).pw.dom d.val).state ≠ 1 then s
    else ((s.withdraw i d.val).setDom i d.val { on := false, state := 0, reason := 1 }).pwrErr i peInrush)

/-! ### Regulators (R406, R409–R412, R417) -/

/-- The domains that go dark with a regulator, in the order of R408 (R412). -/
def regDoms (r : Nat) : List Nat :=
  let f := r / 3
  if r = 48 then (List.range 16).map (· + 64)
  else if r % 3 = 0 then [dLogic f, dArray f, dTransit f, dWatch f]
  else [dLogic f, dArray f]

/-- The domain of a regulator's records: frame for REG_L and REG_A, comb for REG_T and REG_C (R412, R476). -/
def regKind (i : Site) (r : Nat) : Nat × Nat := if r = 48 ∨ r % 3 = 0 then (3, i.val) else (2, i.val * 256 + r / 3)

/-- Whole-regulator loss (R412): the domains are in FAULT, and a LATCH record is sent. With REG_T or REG_C the comb's links are held DOWN
with DISABLED. -/
def State.regLost (s : State) (i : Site) (r cause : Nat) (latch : Bool) : State :=
  let x := (s.comb i).pw.reg r
  if x.latchCause ≠ 0 then s
  else
    let s1 := s.modReg i r (fun x =>
      { x with latchCause := BitVec.ofNat 8 cause, latched := latch, fuseOpen := latch, vout := 0, iout := 0 })
    let s2 := (regDoms r).foldl (fun s d => s.domOff i d 4 3) s1
    let s3 := if r = 48 ∨ r % 3 = 0 then (combLinks i).foldl (fun s l => s.linkDown l 1 13) s2 else s2
    s3.setPwrErr i peLatch (regKind i r).1 (regKind i r).2

/-- How many phases of a regulator have failed. -/
def Regul.failed (x : Regul) : Nat := ((List.range 13).filter (fun p => bit x.phaseFail p)).length

/-- PHASE_FAILURE: a phase fails (12: the spare), or the controller (none). One failure takes the spare; two derate, and REG_L's frame is
slowed to the code `fit` whose demand fits; three lose the regulator (R409). -/
def execPhaseFailure (i : Site) (r : Fin 49) (p : Option (Fin 13)) (fit : Fin 17) (s : State) : Host.Outcome State Fault Refusal :=
  let k := regKind i r.val
  .next (match p with
    | none => s.regLost i r.val 4 false
    | some p =>
      if bit ((s.comb i).pw.reg r.val).phaseFail p.val then s
      else
        let s1 := s.modReg i r.val (fun x =>
          let m := setBit x.phaseFail p.val true
          { x with phaseFail := m, spareInUse := !bit m 12 })
        let n := ((s1.comb i).pw.reg r.val).failed
        if n ≥ 3 then s1.regLost i r.val 3 false
        else if n = 2 then
          let s2 := (s1.modReg i r.val (fun x => { x with derated := true })).setPwrErr i peDerate k.1 k.2
          if r.val % 3 = 1 then
            (frameSites (r.val / 3)).foldl (fun s q => s.retune ⟨i, q⟩) (s2.modPw i (fun w => { w with fit := Tbl.put 16 w.fit (r.val / 3) fit.val }))
          else s2
        else s1.setPwrErr i pePhase k.1 k.2)

/-- REGULATOR_LATCH: overcurrent, or output undervoltage, latches a regulator off and opens its fuse (R410). -/
def execRegulatorLatch (i : Site) (r : Fin 49) (under : Bool) (s : State) : Host.Outcome State Fault Refusal :=
  .next (s.regLost i r.val (if under then 2 else 1) true)

/-- DROOP_CATCH: counted and reported (R411). -/
def execDroopCatch (i : Site) (r : Fin 49) (s : State) : Host.Outcome State Fault Refusal :=
  .next ((s.modReg i r.val (fun x => { x with catches := satInc x.catches })).setPwrErr i peCatch (regKind i r.val).1 (regKind i r.val).2)

/-- PWR_REG_CTRL written (R417): a live write of REG_L's VSET, legal from 600 to 900 mV. -/
def State.vsetWrite (s : State) (i : Site) (r : Nat) (v : W64) : State :=
  let n := fld v 15 0
  if r ≥ 48 ∨ r % 3 ≠ 1 ∨ n < 600 ∨ n > 900 then s.pwrErr i peBadWr
  else s.modReg i r (fun x => { x with vsetLatch := some (bits v 0 16) })

/-- VSET_WRITE. -/
def execVsetWrite (i : Site) (r : Fin 49) (v : W64) (s : State) : Host.Outcome State Fault Refusal := .next (s.vsetWrite i r.val v)

/-! ### Halves (R398, R402–R404, R433) -/

/-- The panel with the power of a half changed. -/
def State.halfPower (s : State) : Half → HalfPower
  | .west => s.power.west
  | .east => s.power.east
def State.modHalf (s : State) (h : Half) (f : HalfPower → HalfPower) : State :=
  match h with
  | .west => { s with power := { s.power with west := f s.power.west } }
  | .east => { s with power := { s.power with east := f s.power.east } }

/-- The combs and stores of a half (R15). -/
def sitesOf (h : Half) : List Site := (List.finRange 224).filter (fun i => decide (halfOf i = h))
def storesIn (h : Half) : List Nat := (List.range 112).filter (fun n => decide (n % 8 < 4) == decide (h = .west))

/-- A comb without power: what is kept in flash, in fuses and in the keepers' care stays (R18, R34, R428). -/
def Comb.unpowered (k : Comb) : Comb :=
  { Comb.powerUp with
    state := k.state, siteMap := k.siteMap,
    pw := { CombPower.reset with fmax := k.pw.fmax, charAge := k.pw.charAge, heat := k.pw.heat, heatCount := k.pw.heatCount },
    links := Tbl.mapVal Link.reset (fun _ x => { Link.reset with policy := x.policy, policyNext := x.policyNext, history := x.history, census := x.census, totals := x.totals, peer := x.peer }) k.links }

/-- A store without power: its state and its test map are kept. -/
def Store.unpowered (x : Store) : Store := { Store.powerUp with state := x.state, testMap := x.testMap, eccTotal := x.eccTotal }

/-- Is a site byte in a half: one of its combs, or its keeper? -/
def siteIn (h : Half) (n : Nat) : Bool :=
  if n ≥ 0xF0 then decide (n = 0xF0 + h.code) else decide (n % 16 < 8) == decide (h = .west)

/-- What stands in the routers, queues and channels of a half is lost. -/
def Net.without (n : Net) (h : Half) : Net :=
  { n with
    bulk := n.bulk.filter (fun f => match f.at_ with | some p => !siteIn h p.1 | none => !siteIn h (fld f.pkt.src 15 8))
    ctl := n.ctl.filter (fun f => match f.at_ with | some p => !siteIn h p.1 | none => !siteIn h (fld f.pkt.src 15 8))
    wag := n.wag.filter (fun f => !siteIn h f.site)
    err := n.err.filter (fun f => decide (f.site ≥ 0xF0) || !siteIn h f.site)
    nbr := n.nbr.filter (fun f => decide (halfOf f.site ≠ h)) }

/-- The lead passes to the other keeper, where that one serves (R433, R481). -/
def State.passLead (s : State) (h : Half) : State :=
  if s.lead = h ∧ (s.keeper h.other).health = 0 then { s with lead := h.other } else s

/-- The converters of a half stop: everything on its plane loses power; its keeper's standby logic keeps what it reports (R398, R433). -/
def State.halfStop (s : State) (h : Half) (why : Nat) : State :=
  if !(s.halfPower h).on then s.modHalf h (fun p => { p with stop := why })
  else
    let s1 := (sitesOf h).foldl (fun s i => s.modComb i Comb.unpowered) s
    let s2 := (storesIn h).foldl (fun s n => s.modStore n Store.unpowered) s1
    let k := s2.keeper h
    let s3 := s2.setKeeper h { k with cores := [], mem := Ram.zero, epoch := UnitEpoch.reset, health := 2, link := Link.reset }
    (({ s3 with net := s3.net.without h }).modHalf h (fun p => { p with on := false, stop := why, volt := 0, amp := 0 })).passLead h

/-! ### Converters (R399–R402) -/

/-- A converter of the panel, and the half of a socket (R30). -/
def State.conv (s : State) (n : Nat) : Converter := Tbl.get Converter.reset s.power.convs n
def convHalf (n : Nat) : Half := if n < 32 then .west else .east
def State.setConv (s : State) (n : Nat) (x : Converter) : State :=
  { s with power := { s.power with convs := Tbl.put Converter.reset s.power.convs n x } }

/-- Converters of a half counted under R402: OK or DEGRADED. -/
def State.convCount (s : State) (h : Half) : Nat :=
  ((List.range 64).filter (fun n => decide (convHalf n = h) && decide ((s.conv n).state = 2 ∨ (s.conv n).state = 3))).length

/-- The load limit of a half's plane in W (R402). -/
def State.halfLimit (s : State) (h : Half) : Nat := 460 * s.convCount h

/-- Fewer than 20 converters shut a running half down: PLANE_SHORT (R402). -/
def State.planeCheck (s : State) (h : Half) : State :=
  if (s.halfPower h).on ∧ s.convCount h < 20 then
    let r := mkErr 0x0805 2 8 h.code (s.eid (0xF0 + h.code) 0) 0 (BitVec.ofNat 64 (s.convCount h)) 0
    let s1 := s.halfStop h 4
    s1.sendErr (0xF0 + s1.lead.code) r
  else s

/-- CONVERTER_INSERT: identified, matched and connected, or INCOMPATIBLE (R401). -/
def execConverterInsert (p : Fin 64) (accepted : Bool) (tele : List W32) (s : State) : Host.Outcome State Fault Refusal :=
  .next (if (s.conv p.val).state ≠ 0 then s
    else s.setConv p.val { state := if accepted then 2 else 5, tele := fitTo 0 5 tele })

/-- CONVERTER_FAULT: the output isolates itself. -/
def execConverterFault (p : Fin 64) (s : State) : Host.Outcome State Fault Refusal :=
  let x := s.conv p.val
  .next (if 1 ≤ x.state ∧ x.state ≤ 3 then
      ((s.setConv p.val { x with state := 4 }).supplyRec (convHalf p.val) 4).planeCheck (convHalf p.val)
    else s)

/-- CONVERTER_REMOVE: a module in OK counts as a loss. -/
def execConverterRemove (p : Fin 64) (s : State) : Host.Outcome State Fault Refusal :=
  .next ((s.setConv p.val Converter.reset).planeCheck (convHalf p.val))

/-- CONVERTER_DEGRADED: to or from DEGRADED, which counts as OK (R400). -/
def execConverterDegraded (p : Fin 64) (deg : Bool) (s : State) : Host.Outcome State Fault Refusal :=
  let x := s.conv p.val
  .next (if deg ∧ x.state = 2 then s.setConv p.val { x with state := 3 }
    else if !deg ∧ x.state = 3 then s.setConv p.val { x with state := 2 } else s)

/-! ### Blades and buses (R398) -/

/-- A blade, and its half (R421). -/
def State.blade (s : State) (b : Nat) : Blade := Tbl.get Blade.reset s.power.blades b
def bladeHalf (b : Nat) : Half := if b < 4 then .west else .east
def State.setBlade (s : State) (b : Nat) (x : Blade) : State :=
  { s with power := { s.power with blades := Tbl.put Blade.reset s.power.blades b x } }
def bladesOf (h : Half) : List Nat := (List.range 4).map (fun k => 4 * h.code + k)

/-- A blade changes its state, and the change is reported. -/
def State.bladeTo (s : State) (b st : Nat) : State :=
  (s.setBlade b { s.blade b with state := st }).supplyRec (bladeHalf b) (BitVec.ofNat 64 st)

/-- BLADE_REVERSED: blocked before the bus. Reported if another blade of the half is correctly connected. -/
def execBladeReversed (b : Fin 8) (s : State) : Host.Outcome State Fault Refusal :=
  let right := (bladesOf (bladeHalf b.val)).any (fun k => k != b.val && decide ((s.blade k).state = 1))
  .next (if (s.blade b.val).state = 0 ∧ right then s.bladeTo b.val 4 else s)

/-- BLADE_OVERCURRENT: the e-fuse latches open. -/
def execBladeOvercurrent (b : Fin 8) (s : State) : Host.Outcome State Fault Refusal :=
  .next (if (s.blade b.val).state = 1 then s.bladeTo b.val 5 else s)

/-- EFUSE_RECLOSE: a tripped e-fuse closes again, at most 3 times. -/
def execEfuseReclose (b : Fin 8) (s : State) : Host.Outcome State Fault Refusal :=
  let x := s.blade b.val
  .next (if x.state = 5 ∧ x.recloses < 3 then s.setBlade b.val { x with state := 1, recloses := x.recloses + 1 } else s)

/-- BLADE_ABSENT: below 10 V; the count of re-closes starts anew. -/
def execBladeAbsent (b : Fin 8) (s : State) : Host.Outcome State Fault Refusal :=
  .next (if (s.blade b.val).state = 0 then s
    else (s.setBlade b.val { s.blade b.val with state := 0, recloses := 0 }).supplyRec (bladeHalf b.val) 0)

/-- BLADE_RETURN: an absent blade rises above 10 V. -/
def execBladeReturn (b : Fin 8) (s : State) : Host.Outcome State Fault Refusal :=
  .next (if (s.blade b.val).state = 0 then s.setBlade b.val { s.blade b.val with state := 1 } else s)

/-- The connected blades of a half show a bus condition. -/
def State.busState (s : State) (h : Half) (old new : Nat) : State :=
  (bladesOf h).foldl (fun s b => if (s.blade b).state = old then s.setBlade b { s.blade b with state := new } else s) s

/-- BUS_UNDERVOLT: the converters stop; the half restarts under R404. -/
def execBusUndervolt (h : Half) (s : State) : Host.Outcome State Fault Refusal :=
  .next (if (s.halfPower h).on then ((s.busState h 1 2).halfStop h 1).supplyRec h 2 else s)

/-- BUS_OVERVOLT: the converters stop; the half restarts below 49 V. -/
def execBusOvervolt (h : Half) (s : State) : Host.Outcome State Fault Refusal :=
  .next (if (s.halfPower h).on then ((s.busState h 1 3).halfStop h 2).supplyRec h 3 else s)

/-- Steps 1–5 of R404 from the start or the stop of a half: its plane comes within range with at least 20 converters OK; the keeper's
logic starts, its time from 0 where it had no power (R452), its reference on a valid input (R443). Else the half stays off. -/
def State.halfUp (s : State) (h : Half) : State :=
  if (s.halfPower h).on ∨ s.convCount h < 20 then s
  else
    let p := s.halfPower h
    let s1 := s.modHalf h (fun p =>
      { p with on := true, stop := 0, refState := if p.refState ≠ 0 then p.refState else if p.refA then 1 else if p.refB then 2 else 0 })
    let k := s1.keeper h
    s1.setKeeper h { k with health := 1, time := if p.stop = 0 then 0 else k.time }

/-- HALF_POWER_UP: the half's bus reaches 35 V; the converters found in its sockets are accepted or not (R404). A half stopped by a trip or
by missing converters waits for PANEL_RESET_L (R433, log 49). -/
def execHalfPowerUp (h : Half) (found : List (Fin 64 × Bool)) (s : State) : Host.Outcome State Fault Refusal :=
  .next (if (s.halfPower h).on ∨ (s.halfPower h).stop > 1 then s
    else
      let s1 := found.foldl (fun s e =>
        if convHalf e.1.val = h ∧ (s.conv e.1.val).state = 0 then s.setConv e.1.val { s.conv e.1.val with state := if e.2 then 2 else 5 } else s) s
      (s1.busState h 2 1).halfUp h)

/-- OVERVOLT_RECOVERY: a half stopped for OVERVOLT restarts once its bus falls below 49 V. -/
def execOvervoltRecovery (h : Half) (s : State) : Host.Outcome State Fault Refusal :=
  .next (if (s.halfPower h).on ∨ (s.halfPower h).stop ≠ 2 then s else (s.busState h 3 1).halfUp h)

/-! ### Zone feeds (R405) -/

/-- The store of a zone is fenced without its store base: by its keeper (R392, R405). -/
def State.zoneStoreFence (s : State) (z : Nat) : State :=
  let h : Half := if z % 8 < 4 then .west else .east
  if (s.store z).stb = 3 then s
  else (s.modStore z (fun x => { x with stb := 3, chunks := [], kv := [] })).sendErr (0xF0 + h.code)
    (mkErr 0x0402 1 4 z (s.eid (0xF0 + h.code) 0) 0 0 0)

/-- ZONE_FEED_TRIP: the e-fuse of a pair zone opens. Every domain of the zone goes dark; ZONE_OPEN is recorded for each comb, and the store
is fenced (R405). -/
def execZoneFeedTrip (z : StoreId) (s : State) : Host.Outcome State Fault Refusal :=
  let h : Half := if z.val % 8 < 4 then .west else .east
  let combs := [(octetCombs z.val).1, (octetCombs z.val).2].filterMap (fun n => if hn : n < 224 then some (⟨n, hn⟩ : Site) else none)
  .next (if (s.store z.val).zoneOpen then s
    else
      let s1 := s.modStore z.val (fun x => { x with zoneOpen := true, zoneCurrent := 0, token := none, waiting := [] })
      let s2 := combs.foldl (fun s i => (List.range 80).foldl (fun s d => s.domOff i d 4 2) s) s1
      let s3 := combs.foldl (fun s i => s.sendErr (0xF0 + h.code) (mkErr 0x0303 1 3 i.val (s.eid (0xF0 + h.code) 0) 0 0 0)) s2
      s3.zoneStoreFence z.val)

end Sys2Proof.Machine
end

