-- ==== Sys2Proof/Machine/PState.lean ====
section
/-!
DEFINITION. Power states of cell sites, frame limiters, the panel loop, sensors, frames off for heat, power reports (R422–R441, R450).
-/
namespace Sys2Proof.Machine

/-! ### Power registers' errors (R438) -/

/-- PST_ERR bits. -/
def psBadWr : Nat := 0
def psStatic : Nat := 1
def psSensor : Nat := 2
def psHeat : Nat := 3

/-- Sets a PST_ERR bit; its 0-to-1 transition sends a record of corrected severity, HEAT_OFF's apart (R438). -/
def State.setPstErr (s : State) (i : Site) (b : Nat) : State :=
  if bit (s.comb i).pw.pstErr b then s
  else
    let s1 := s.modPw i (fun w => { w with pstErr := setBit w.pstErr b true })
    if b = psHeat then s1 else s1.combErr i 0x0305 0 ((s1.comb i).pw.pstErr.setWidth 64) 0

/-! ### The ladder (R422–R425) -/

/-- Is a task idle (R423)? -/
def Task.idle (t : Task) : Bool :=
  decide (t.st = .stopped) ||
  (decide (t.st = .waiting) && (match t.wait with
    | .waitw _ _ _ timed => !timed
    | .wgo _ _ => true
    | _ => false))

/-- Is a site idle (R423)? -/
def State.siteIdle (s : State) (c : CellAt) : Bool :=
  let x := s.cell c
  let l := (s.comb c.site).logicalOf c.phys
  !x.quiesced && !x.quiescing && !x.inReset && x.core.tasks.toList.all Task.idle &&
  (List.range 5).all (fun u => (s.unitAll (.cell c.site c.phys) u).isEmpty) && x.elastic.isEmpty &&
  !s.net.nbr.any (fun f => decide (f.site = c.site ∧ f.phys = c.phys)) &&
  !s.net.bulk.any (fun f => decide (f.at_ = some (c.site.val, c.phys.val) ∧ f.pkt.dst = s.eid c.site.val l))

/-- Is a position fenced: neither mapped nor spare (R17), and not under guard patrol test? -/
def Comb.siteFenced (k : Comb) (p : Phys) : Bool :=
  let w := k.mapWord (frameOf p)
  (slotAt w (posOf p)).isNone && decide (sparePos w ≠ posOf p) && decide ((Tbl.get Guard.reset k.guards (frameOf p)).testPos.toNat ≠ posOf p)

/-- The deepest state of a site by its role (R424). -/
def State.deepestOf (s : State) (c : CellAt) : Nat :=
  let k := s.comb c.site
  let w := k.mapWord (frameOf c.phys)
  let d := Tbl.get 1 k.pw.deepest c.phys.val
  if (Tbl.get Guard.reset k.guards (frameOf c.phys)).testPos.toNat = posOf c.phys then 0
  else if (slotAt w (posOf c.phys)).isSome then (if (s.cell c).colony ≠ 0xFF then min d 3 else d)
  else if sparePos w = posOf c.phys then 3
  else 5

/-- An idle site goes one state deeper: from Night on its generator stands still (R422, R455). -/
def State.deeper (s : State) (c : CellAt) : State :=
  let n := (s.comb c.site).siteSt c.phys + 1
  if n > s.deepestOf c ∨ n > 5 ∨ (s.cell c).clk.changing then s
  else
    let s1 := s.setSite c n
    if n ≥ 2 then s1.modCell c (fun x => { x with clk := { x.clk with locked := false } }) else s1

/-- SITE_DUSK_ENTRY: 64 idle cycles. -/
def execSiteDuskEntry (c : CellAt) (s : State) : Host.Outcome State Fault Refusal :=
  .next (if (s.comb c.site).siteSt c.phys = 0 ∧ s.siteIdle c then s.deeper c else s)

/-- SITE_DESCEND: the dwell time of R423 has passed in a state below Noon. -/
def execSiteDescend (c : CellAt) (s : State) : Host.Outcome State Fault Refusal :=
  .next (if 1 ≤ (s.comb c.site).siteSt c.phys ∧ (s.comb c.site).siteSt c.phys ≤ 4 ∧ s.siteIdle c then s.deeper c else s)

/-- SITE_WAKE: a packet, line or token for a site in Dusk, Night or Midnight starts Dawn; in Small Hours and Dark none does (R425). -/
def execSiteWake (c : CellAt) (s : State) : Host.Outcome State Fault Refusal :=
  .next (if (s.comb c.site).siteSt c.phys ≤ 3 then s.dawn c else s)

/-- PST_SITE.DAWN: the site wakes, where its frame has power and it is not fenced (R424, R439). -/
def State.siteDawn (s : State) (c : CellAt) : State :=
  let k := s.comb c.site
  if (k.pw.dom (dLogic (frameOf c.phys))).state = 3 ∧ !k.siteFenced c.phys then s.dawn c else s

/-- SITE_DAWN. -/
def execSiteDawn (c : CellAt) (s : State) : Host.Outcome State Fault Refusal := .next (s.siteDawn c)

/-- DEEPEST written: live, at the safe point between two state changes (R439). -/
def State.deepestWrite (s : State) (i : Site) (p : Phys) (n : Nat) : State :=
  if n > 5 then s.setPstErr i psBadWr
  else s.modPw i (fun w => { w with deepestLatch := Tbl.put none w.deepestLatch p.val (some n) })

/-- FMX_CAP_WRITE: CAP of a site, and RUN follows; codes above 16 are discarded (R427, R440). -/
def State.capWrite (s : State) (c : CellAt) (v : W64) : State :=
  if fld v 20 16 > 16 then s.setPstErr c.site psBadWr else s.setCap c (fld v 20 16)
def execFmxCapWrite (c : CellAt) (v : W64) (s : State) : Host.Outcome State Fault Refusal := .next (s.capWrite c v)

/-- CHARACTERISATION_OVERDUE: CHAR_AGE has passed 4 hours; RUN is at most code 8 (R428). -/
def execCharacterisationOverdue (c : CellAt) (s : State) : Host.Outcome State Fault Refusal :=
  .next (if (s.comb c.site).pw.overdue c.phys.val then s.retune c else s)

/-- DROOP_STRETCH: an episode of stretched cycles (R450, R453). -/
def execDroopStretch (c : CellAt) (cycles : Nat) (s : State) : Host.Outcome State Fault Refusal :=
  .next (if (s.comb c.site).siteSt c.phys ≠ 0 ∨ (s.cell c).clk.changing then s
    else s.modCell c (fun x =>
      { x with
        cycles := x.cycles + BitVec.ofNat 64 cycles
        clk := { x.clk with stretch := x.clk.stretch + BitVec.ofNat 64 cycles, episodes := satInc x.clk.episodes,
                            longest := BitVec.ofNat 16 (max x.clk.longest.toNat (min 65535 cycles)) } }))

/-! ### Capping (R429–R431) -/

/-- Registers of a frame limiter: LIMIT, TLIMIT, LEVEL (R438). -/
def CombPower.limitOf (w : CombPower) (f : Nat) : Nat := Tbl.get 2000 w.limit f
def CombPower.tlimitOf (w : CombPower) (f : Nat) : Nat := Tbl.get 2000 w.tlimit f
def CombPower.levelOf (w : CombPower) (f : Nat) : Nat := Tbl.get 0 w.level f

/-- A LIMIT that waits takes effect at the limiter's interval. -/
def CombPower.takeLimit (w : CombPower) (f : Nat) : CombPower :=
  match Tbl.get none w.limitLatch f with
  | some n => { w with limit := Tbl.put 2000 w.limit f n, limitLatch := Tbl.put none w.limitLatch f none }
  | none => w

/-- The next LEVEL: up above LIMIT, down below nine tenths of it unless an inrush token of the zone is held, 0 to 8 (R429). A frame off for
heat stays at 8 (R434). -/
def nextLevel (level limit power : Nat) (held heat : Bool) : Nat :=
  if heat then 8
  else if power > limit then min 8 (level + 1)
  else if 10 * power < 9 * limit ∧ !held then level - 1
  else level

/-- A regulator's meter is read (R417). -/
def Regul.read (x : Regul) (m : RegRead) : Regul :=
  { x with vout := m.vout, iout := m.iout, vin := m.vin, iin := m.iin, energy := x.energy + BitVec.ofNat 64 m.energy }

/-- FRAME_LIMITER_TICK: the power of REG_L and REG_A over the last 10 µs, in 10 mW, and what the regulators' meters read. -/
def execFrameLimiterTick (i : Site) (f : Frame) (power : Nat) (reads : List (Fin 49 × RegRead)) (s : State) : Host.Outcome State Fault Refusal :=
  let held := (s.store (storeOf i)).token.isSome
  let s1 := reads.foldl (fun s m => s.modReg i m.1.val (fun x => x.read m.2)) s
  .next (s1.modPw i (fun w0 =>
    let w := w0.takeLimit f.val
    let lim := min (w.limitOf f.val) (w.tlimitOf f.val)
    { w with power := Tbl.put 0 w.power f.val (min 65535 power),
             level := Tbl.put 0 w.level f.val (nextLevel (w.levelOf f.val) lim power held (bit w.heat f.val)) }))

/-- The enabled frames of a half: LOGIC_f and ARRAY_f on (R426). -/
def State.liveFrames (s : State) (h : Half) : List (Site × Nat) :=
  (sitesOf h).flatMap (fun i =>
    ((List.range 16).filter (fun f => decide (((s.comb i).pw.dom (dLogic f)).state = 3))).map (fun f => (i, f)))

/-- demand[f] × 720,720, where 720,720 is a multiple of every 16 − LEVEL (R430). -/
def CombPower.demand (w : CombPower) (f : Nat) : Nat := Tbl.get 0 w.power f * 16 * (720720 / (16 - min 8 (w.levelOf f)))

/-- One half of the panel loop, in units of 10 mW. Where no frame draws power the spec gives no quotient: an open value is clamped. -/
def State.loopHalf (s : State) (h : Half) (inH inAll other : Nat) : State :=
  let cap := s.objU 0x8020 0 0 * 100
  let budget := if inAll = 0 then s.halfLimit h * 100 else min (s.halfLimit h * 100) (cap * inH / inAll)
  let fs := s.liveFrames h
  let sum := fs.foldl (fun a x => a + (s.comb x.1).pw.demand x.2) 0
  let d := s.draw
  fs.foldl (fun t x =>
    let raw := if sum = 0 then d.1.toNat else (budget - other) * (s.comb x.1).pw.demand x.2 / sum
    t.modPw x.1 (fun w => { w with limitLatch := Tbl.put none w.limitLatch x.2 (some (max 100 (min 2000 raw))) }))
    (if sum = 0 then d.2 else s)

/-- PANEL_LOOP: each keeper writes the LIMIT values of its own half, from the powers as measured (R430). -/
def execPanelLoop (m : PowerMeas) (s : State) : Host.Outcome State Fault Refusal :=
  let s1 := if (s.halfPower .west).on then s.loopHalf .west m.inWest (m.inWest + m.inEast) m.otherWest else s
  .next (if (s1.halfPower .east).on then s1.loopHalf .east m.inEast (m.inWest + m.inEast) m.otherEast else s1)

/-- RUN of every site of a frame moves one code. -/
def State.shiftFrame (s : State) (i : Site) (f : Nat) (up : Bool) : State :=
  (frameSites f).foldl (fun s p =>
    let w := (s.comb i).pw
    let r := w.wanted p.val
    if up then (if r < w.topOf p.val then s.askRun ⟨i, p⟩ (r + 1) else s) else if r > 0 then s.askRun ⟨i, p⟩ (r - 1) else s) s

/-- RUN_DOWNSHIFT: LEVEL at 6 or more for 10 ms (R431). -/
def execRunDownshift (i : Site) (f : Frame) (s : State) : Host.Outcome State Fault Refusal :=
  .next (if (s.comb i).pw.levelOf f.val ≥ 6 then s.shiftFrame i f.val false else s)

/-- RUN_UPSHIFT: LEVEL at 0 for 100 ms. -/
def execRunUpshift (i : Site) (f : Frame) (s : State) : Host.Outcome State Fault Refusal :=
  .next (if (s.comb i).pw.levelOf f.val = 0 then s.shiftFrame i f.val true else s)

/-! ### Sensors (R432, R433) -/

/-- A temperature in 1/16 °C as an integer. -/
def degrees (v : BitVec 16) : Int := v.toInt

/-- The higher of some temperatures plus 5 °C; none listed: 5 °C above 0. -/
def hottest (l : List Int) : Int := l.foldl max (l.headD 0) + 80

/-- What replaces a faulted sensor of a comb: its neighbouring frame sensors, or all others, plus 5 °C (R432). -/
def CombPower.replaced (w : CombPower) (n : Nat) : BitVec 16 :=
  let t (k : Nat) : Int := degrees (Tbl.get 0 w.temp k)
  BitVec.ofInt 16 (if n < 16 then hottest (((if n = 0 then [] else [n - 1]) ++ (if n = 15 then [] else [n + 1])).map t)
    else hottest (((List.range 22).filter (· != n)).map t))

/-- The level of a junction temperature: 1 THROTTLE, 2 CRITICAL, 3 TRIP (R433, R438). -/
def junctionLevel (throttle : Nat) (v : BitVec 16) : Nat :=
  if degrees v ≥ 115 * 16 then 3 else if degrees v ≥ 105 * 16 then 2 else if degrees v ≥ Int.ofNat throttle * 16 then 1 else 0

/-- The level of a store sensor (R433). -/
def dramLevel (v : BitVec 16) : Nat :=
  if degrees v ≥ 105 * 16 then 3 else if degrees v ≥ 95 * 16 then 2 else if degrees v ≥ 85 * 16 then 1 else 0

/-- A comb is fenced as on the loss of REG_C: its domains 64–79 are off, its links held DOWN, and the contained record of R412 is sent
(R433, log 50). -/
def State.lostC (s : State) (i : Site) : State :=
  let s1 := (regDoms 48).foldl (fun s d => s.domOff i d 5 4) s
  ((combLinks i).foldl (fun s l => s.linkDown l 1 13) s1).combErr i 0x0302 1 0 0

/-- What a comb sensor at CRITICAL does, frame sensors apart: 17, 20 and 21 switch off the watched domains; 16, 18 and 19 fence the comb. -/
def State.criticalAct (s : State) (i : Site) (n : Nat) : State :=
  if n = 17 then [65, 66, 67, 68].foldl (fun s d => s.domOff i d 0 0) s
  else if n = 20 then [71, 72, 73, 74].foldl (fun s d => s.domOff i d 0 0) s
  else if n = 21 then [75, 76, 77, 78].foldl (fun s d => s.domOff i d 0 0) s
  else if n ≥ 16 then s.lostC i
  else s

/-- SENSOR_CONVERSION: a sensor converts to a temperature, or reads open or out of range. A THROTTLE_C that waits takes effect first. -/
def execSensorConversion (a : SensorAt) (v : BitVec 16) (fault : Bool) (s : State) : Host.Outcome State Fault Refusal :=
  .next (match a with
    | .comb i n =>
      let s1 := s.modPw i (fun w => { w with throttleC := w.throttleLatch.getD w.throttleC, throttleLatch := none })
      let s2 := if fault then s1.setPstErr i psSensor else s1
      let w := (s2.comb i).pw
      let t := if fault then w.replaced n.val else v
      let lv := junctionLevel w.throttleC.toNat t
      let s3 := s2.modPw i (fun w =>
        { w with temp := Tbl.put 0 w.temp n.val t, sensFault := Tbl.put false w.sensFault n.val fault,
                 sensLevel := Tbl.put 0 w.sensLevel n.val lv })
      if lv ≥ 2 ∧ Tbl.get 0 w.sensLevel n.val < 2 then s3.criticalAct i n.val else s3
    | .store st n => s.modStore st.val (fun x =>
        { x with temps := Tbl.put 0 x.temps n.val v, tempLevel := Tbl.put 0 x.tempLevel n.val (dramLevel v) })
    | .keeper h n => s.setKeeper h { s.keeper h with temps := Tbl.put 0 (s.keeper h).temps n.val v })

/-- THROTTLE_STEP: every 10 ms the ceiling of a frame whose sensor throttles falls by 10 %; below THROTTLE_C − 5 °C it is lifted (R433). -/
def execThrottleStep (i : Site) (f : Frame) (s : State) : Host.Outcome State Fault Refusal :=
  .next (s.modPw i (fun w =>
    let t := degrees (Tbl.get 0 w.temp f.val)
    let cool := decide (t < (Int.ofNat w.throttleC.toNat - 5) * 16)
    let cur := min (w.tlimitOf f.val) (w.limitOf f.val)
    if cool then { w with tlimit := Tbl.put 2000 w.tlimit f.val 2000 }
    else if Tbl.get 0 w.sensLevel f.val ≥ 1 ∨ w.tlimitOf f.val < 2000 then { w with tlimit := Tbl.put 2000 w.tlimit f.val (cur * 9 / 10) }
    else w))

/-- FRAME_HEAT_OFF: a frame sensor at CRITICAL (R434 step 1): LEVEL 8, and the contained record against the frame, whose handling fences it. At
110 °C its domains are off at once. -/
def execFrameHeatOff (i : Site) (f : Frame) (s : State) : Host.Outcome State Fault Refusal :=
  let w := (s.comb i).pw
  .next (if Tbl.get 0 w.sensLevel f.val < 2 ∨ bit w.heat f.val then s
    else
      let s1 := s.modPw i (fun w =>
        { w with level := Tbl.put 0 w.level f.val 8, heat := setBit w.heat f.val true,
                 heatCount := Tbl.put 0 w.heatCount f.val (Tbl.get 0 w.heatCount f.val + 1) })
      let s2 := s1.setPstErr i psHeat
      let s3 := s2.sendErr i.val (mkErr 0x0304 1 2 (i.val * 256 + f.val) (s.eid i.val 0xB9) 0 ((s2.comb i).pw.pstErr.setWidth 64) 0)
      if degrees (Tbl.get 0 w.temp f.val) ≥ 110 * 16 then (s3.domOff i (dLogic f.val) 0 0).domOff i (dArray f.val) 0 0 else s3)

/-- THERMAL_TRIP: a sensor of a half at TRIP for 10 µs stops its converters in hardware; the keeper's standby logic reports the panel-fatal
error (R433). -/
def execThermalTrip (h : Half) (s : State) : Host.Outcome State Fault Refusal :=
  .next (if !(s.halfPower h).on then s
    else
      let r := mkErr 0x0804 2 8 h.code (s.eid (0xF0 + h.code) 0) 0 0 0
      let s1 := s.halfStop h 3
      s1.sendErr (0xF0 + s1.lead.code) r)

/-! ### A frame's return, and the initial site map (R19, R435) -/

/-- The site map word of R19: slot k at the k-th good position, a position left over the spare. -/
def mapOf (good : List Nat) : W64 :=
  let slots := (List.range 11).foldr (fun k a => a * 16 + nth 15 good k) 0
  BitVec.ofNat 64 (nth 15 good 11 * 2 ^ 44 + slots)

/-- FRAME_GOOD of the birth map (R32). -/
def State.birthGood (s : State) (i : Site) (f : Nat) : BitVec 12 := Tbl.get 0xFFF s.birth.good (i.val * 16 + f)

/-- Is a unit in the fence map, the fences of a code apart (R479)? -/
def Log.fenced (l : Log) (kind inst : Nat) : Bool := l.fences.any (fun e => decide (e.kind = kind ∧ e.inst = inst))

/-- The good positions of a frame: good at birth, no service fence (R19). -/
def State.goodPositions (s : State) (i : Site) (f : Nat) : List Nat :=
  (List.range 12).filter (fun p => bit (s.birthGood i f) p && !s.log.fenced 1 (i.val * 256 + f * 12 + p))

/-- The sites of a frame come into service: mapped ones to Noon as after a reset, the spare to Midnight, others Dark. -/
def State.openFrame (s : State) (i : Site) (f : Nat) : State :=
  (frameSites f).foldl (fun s p =>
    let w := (s.comb i).mapWord f
    if (slotAt w (posOf p)).isSome then (s.setSite ⟨i, p⟩ 5).dawn ⟨i, p⟩
    else if sparePos w = posOf p then ((s.setSite ⟨i, p⟩ 5).dawn ⟨i, p⟩).setSite ⟨i, p⟩ 3
    else s.setSite ⟨i, p⟩ 5) s

/-- HEAT_FRAME_RETURN: the sensor has read below THROTTLE_C − 10 °C for 60 s. ARRAY_f and LOGIC_f come on, the positions are tested, and the
slots go to those that pass; a position that fails is a contained SELF_TEST. Three times within 24 h keep the frame fenced (R435). -/
def execHeatFrameReturn (i : Site) (f : Frame) (passed : BitVec 12) (s : State) : Host.Outcome State Fault Refusal :=
  let w := (s.comb i).pw
  let inst := i.val * 256 + f.val
  .next (if !bit w.heat f.val ∨ Tbl.get 0 w.heatCount f.val ≥ 3 ∨ !s.log.fenced 2 inst ∨
      degrees (Tbl.get 0 w.temp f.val) ≥ (Int.ofNat w.throttleC.toNat - 10) * 16 ∨ (w.dom (dTransit f.val)).state ≠ 3 then s
    else
      let on : Dom := { on := true, state := 3, reason := 0 }
      let s1 := ((s.setDom i (dArray f.val) on).setDom i (dLogic f.val) on).modPw i (fun w => { w with heat := setBit w.heat f.val false, level := Tbl.put 0 w.level f.val 0 })
      let s2 : State := { s1 with log := { s1.log with fences := s1.log.fences.filter (fun e => !decide (e.kind = 2 ∧ e.inst = inst)) } }
      let good := s2.goodPositions i f.val
      let s3 := s2.modComb i (fun k =>
        { k with siteMap := Tbl.put siteMapDefault k.siteMap f.val (mapOf (good.filter (fun p => bit passed p))) })
      let bad := good.filter (fun p => !bit passed p)
      (bad.foldl (fun s p => s.sendErr i.val (mkErr 0x0107 1 1 (i.val * 256 + f.val * 12 + p) (s.eid i.val 0xB9) 0 0 0)) s3).openFrame i f.val)

/-! ### Reports (R436) -/

/-- A non-negative quotient in F32, rounded to nearest, ties to even. -/
def ratF32 (num den : Nat) : W32 :=
  if num = 0 ∨ den = 0 then 0
  else
    let k0 : Int := 24 + Int.ofNat (Nat.log2 den) - Int.ofNat (Nat.log2 num)
    let at_ (k : Int) : Nat × Nat := if k ≥ 0 then (num * 2 ^ k.toNat, den) else (num, den * 2 ^ (-k).toNat)
    let k := if (at_ k0).1 / (at_ k0).2 ≥ 2 ^ 24 then k0 - 1 else k0
    let q := (at_ k).1 / (at_ k).2
    let r := 2 * ((at_ k).1 % (at_ k).2)
    let m := if r > (at_ k).2 ∨ (r = (at_ k).2 ∧ q % 2 = 1) then q + 1 else q
    BitVec.ofInt 32 ((150 - k - 1) * 2 ^ 23 + Int.ofNat m)

/-- POWER_REPORT: once per second, with the meters' readings: COLONY_POWER and PANEL_POWER are the changes over the second (R436). -/
def execPowerReport (m : Meter) (s : State) : Host.Outcome State Fault Refusal :=
  let used := m.blades.foldl (fun a b => a + b.2.2.2) 0
  let s1 := m.blades.foldl (fun s b =>
    s.setBlade b.1.val { s.blade b.1.val with volt := b.2.1, amp := b.2.2.1, energy := (s.blade b.1.val).energy + BitVec.ofNat 64 b.2.2.2 }) s
  let s2 := m.convs.foldl (fun s c => s.setConv c.1.val { s.conv c.1.val with tele := fitTo 0 5 c.2 }) s1
  let s3 := (s2.modHalf .west (fun p => { p with volt := m.west.1, amp := m.west.2 })).modHalf .east (fun p => { p with volt := m.east.1, amp := m.east.2 })
  let p := s3.power
  let energy (c : Nat) : W64 := (Tbl.get Colony.free s3.colonies c).energy
  .next { s3 with mgmt := { s3.mgmt with echoW := 0, echoE := 0 }, power :=
    { p with
      input := p.input + BitVec.ofNat 64 used
      inputMark := p.input + BitVec.ofNat 64 used
      watts := ratF32 (p.input + BitVec.ofNat 64 used - p.inputMark).toNat 1000000
      marks := (List.range 64).foldl (fun t c => Tbl.put 0 t c (energy c)) p.marks
      colWatts := (List.range 64).foldl (fun t c => Tbl.put 0 t c (ratF32 (energy c - Tbl.get 0 p.marks c).toNat 1000000)) p.colWatts } }

end Sys2Proof.Machine
end

