-- ==== Sys2Proof/Machine/Clock.lean ====
section
/-!
DEFINITION. Clocks above the cells: reference inputs of the halves, transit clock forwarding, keeper time (R442–R447, R452, R456, R457).
-/
namespace Sys2Proof.Machine

/-! ### Reference inputs (R443, R444) -/

/-- REFCLK_STATE changes; each change of state is recorded. -/
def State.refTo (s : State) (h : Half) (st : Nat) : State :=
  if (s.halfPower h).refState = st then s
  else (s.modHalf h (fun p => { p with refState := st })).supplyRec h (BitVec.ofNat 64 st)

/-- Is an input valid: false A, true B? -/
def HalfPower.refOk (p : HalfPower) (b : Bool) : Bool := if b then p.refB else p.refA

/-- REFCLK_LOSS: when the selected input is lost, the PLL moves to the other one, or into holdover. -/
def execRefclkLoss (h : Half) (b : Bool) (s : State) : Host.Outcome State Fault Refusal :=
  let s1 := s.modHalf h (fun p => if b then { p with refB := false } else { p with refA := false })
  .next (if (s.halfPower h).refState ≠ 1 + b2n b then s1
    else if (s1.halfPower h).refOk (!b) then s1.refTo h (1 + b2n (!b)) else s1.refTo h 3)

/-- REFCLK_RETURN: an input becomes valid. It is used at once from FREE_RUN and from holdover; otherwise selection does not revert. -/
def execRefclkReturn (h : Half) (b : Bool) (s : State) : Host.Outcome State Fault Refusal :=
  let s1 := s.modHalf h (fun p => if b then { p with refB := true } else { p with refA := true })
  .next (if (s.halfPower h).refState = 0 ∨ (s.halfPower h).refState = 3 then s1.refTo h (1 + b2n b) else s1)

/-- REFCLK_SELECT_WRITE: 0 A, 1 B; a lost input is refused BUSY (R457). -/
def execRefclkSelectWrite (r : Req) (h : Half) (v : Byte) (s : State) : Host.Outcome State Fault Refusal :=
  .next (s.writeReq r (oref 0x8051 0 h.code) [v] (fun s =>
    if v.toNat > 1 then (coRange, s)
    else if !(s.halfPower h).refOk (v == 1) then (coBusy, s)
    else s.putStored (objKey 0x8051 0 h.code) [v] (fun s => s.refTo h (1 + v.toNat))))

/-! ### Transit clock (R446, R456) -/

/-- Does a comb have a transit clock input: 0 KEEPER, 1 N, 2 E, 3 S, 4 W? -/
def hasInput (i : Site) (k : Nat) : Bool := if k = 0 then (keeperEdge i).isSome else decide (k ≤ 4) && (linkPeer i (k - 1)).isSome

/-- PRIMARY, ALT1 and ALT2 as the keeper writes them at cold start (R446). -/
def clkDefaults (i : Site) : Nat × Nat × Nat :=
  let c := colOf i
  if i.val = 0x07 then (0, 2, 3) else if i.val = 0x08 then (0, 4, 3)
  else if i.val = 0x06 then (0, 4, 3) else if i.val = 0x09 then (0, 2, 3)
  else if 6 ≤ c ∧ c ≤ 9 then (1, 3, if c < 8 then 2 else 4)
  else if c ≤ 5 then (2, 1, 3) else (4, 1, 3)

/-- CLK_ERR bits. -/
def ceBadWr : Nat := 0
def ceStatic : Nat := 1
def ceSwitched : Nat := 2
def ceAllLost : Nat := 3

/-- Sets a CLK_ERR bit; its 0-to-1 transition sends a record: ALL_LOST contained, the others corrected (R456, R476). -/
def State.setClkErr (s : State) (i : Site) (b : Nat) : State :=
  if bit (s.comb i).pw.clkErr b then s
  else
    let s1 := s.modPw i (fun w => { w with clkErr := setBit w.clkErr b true })
    let info := (s1.comb i).pw.clkErr.setWidth 64
    if b = ceAllLost then s1.combErr i 0x0208 1 info 0 else s1.combErr i 0x020C 0 info 0

/-- The first valid input in the order PRIMARY, ALT1, ALT2. -/
def CombPower.firstInput (w : CombPower) (i : Site) : Option (BitVec 3) :=
  [w.clkPrimary, w.clkAlt1, w.clkAlt2].find? (fun k => hasInput i k.toNat && !bit w.clkLost k.toNat)

/-- TRANSIT_INPUT_LOSS: a comb whose selected input is lost moves to the first valid one, or runs on its own holdover loop. -/
def execTransitInputLoss (i : Site) (k : Fin 5) (s : State) : Host.Outcome State Fault Refusal :=
  .next (if !hasInput i k.val then s
    else
      let s1 := s.modPw i (fun w => { w with clkLost := setBit w.clkLost k.val true })
      if (s.comb i).pw.clkSel.toNat ≠ k.val then s1
      else
        match (s1.comb i).pw.firstInput i with
        | some n => (s1.modPw i (fun w => { w with clkSel := n })).setClkErr i ceSwitched
        | none => s1.setClkErr i ceAllLost)

/-- TRANSIT_INPUT_RETURN: the LOST bit clears; a comb on its holdover loop takes the input. -/
def execTransitInputReturn (i : Site) (k : Fin 5) (s : State) : Host.Outcome State Fault Refusal :=
  .next (if !hasInput i k.val then s
    else s.modPw i (fun w =>
      let w1 := { w with clkLost := setBit w.clkLost k.val false }
      if bit w.clkLost w.clkSel.toNat then { w1 with clkSel := (w1.firstInput i).getD w.clkSel } else w1))

/-- CLK_COMB written (R456): live; codes 5–7 and inputs that the comb does not have are discarded. -/
def State.clkCombWrite (s : State) (i : Site) (v : W64) : State :=
  if [fld v 10 8, fld v 14 12, fld v 18 16].all (hasInput i) then s.modPw i (fun w => { w with clkLatch := some v }) else s.setClkErr i ceBadWr

/-- CLK_COMB_WRITE. -/
def execClkCombWrite (i : Site) (v : W64) (s : State) : Host.Outcome State Fault Refusal := .next (s.clkCombWrite i v)

/-- A CLK_COMB that waits takes effect: a valid new PRIMARY is selected at once. -/
def CombPower.takeClk (w : CombPower) : CombPower :=
  match w.clkLatch with
  | none => w
  | some v =>
    let p := bits v 8 3
    { w with clkPrimary := p, clkAlt1 := bits v 12 3, clkAlt2 := bits v 16 3, clkLatch := none,
             clkSel := if p ≠ w.clkPrimary ∧ !bit w.clkLost p.toNat then p else w.clkSel }

/-- CLK_COMB as read. -/
def CombPower.clkReg (w : CombPower) : W64 :=
  match w.clkLatch with
  | some v => setBits (setBits (keep v 0x77700) 3 5 w.clkLost.toNat) 0 3 w.clkSel.toNat
  | none => BitVec.ofNat 64 (w.clkAlt2.toNat * 2 ^ 16 + w.clkAlt1.toNat * 2 ^ 12 + w.clkPrimary.toNat * 2 ^ 8 + w.clkLost.toNat * 8 + w.clkSel.toNat)

/-! ### Keeper time (R452) -/

/-- A keeper with its time set. -/
def State.setTime (s : State) (h : Half) (t : W64) : State := s.setKeeper h { s.keeper h with time := t }

/-- KEEPER_TIME_WRITE: the lead keeper's count is set, and the other keeper takes it over. -/
def execKeeperTimeWrite (r : Req) (h : Half) (v : W64) (s : State) : Host.Outcome State Fault Refusal :=
  .next (s.writeReq r (oref 0x8052 0 h.code) (toLe 8 v.toNat) (fun s => (coOk, (s.setTime .west v).setTime .east v)))

/-- KEEPER_TIME_ALIGN: the nanoseconds passed since the last alignment are counted, and the keeper that does not lead aligns to the lead
(log 51). -/
def execKeeperTimeAlign (dt : W64) (s : State) : Host.Outcome State Fault Refusal :=
  let t := s.leadTime + dt
  .next ((s.setTime s.lead t).setTime s.lead.other t)

end Sys2Proof.Machine
end

