-- ==== Sys2Proof/Machine/Recover.lean ====
section
/-!
DEFINITION. The steward loader (R461, R462), fencing of cells, frames, combs and stores (R483), detours and whole-comb reset (R316, R317).
-/
namespace Sys2Proof.Machine

/-! ### The steward loader (R460–R462) -/

/-- FWL_ERR bits. -/
def feRefused : Nat := 0
def feBadWr : Nat := 1
def feStatic : Nat := 2

/-- The panel with a comb's loader changed. -/
def State.modLoader (s : State) (i : Site) (f : Loader → Loader) : State := s.modComb i (fun k => { k with loader := f k.loader })

/-- Sets an FWL_ERR bit; its 0-to-1 transition sends a record of corrected severity (R461). -/
def State.setFwlErr (s : State) (i : Site) (b : Nat) : State :=
  if bit (s.comb i).loader.err b then s
  else
    let s1 := s.modLoader i (fun l => { l with err := setBit l.err b true })
    s1.combErr i 0x020C 0 ((s1.comb i).loader.err.setWidth 64) 0

/-- Fields of FWL_CFG (R461): ENTRY, LEN, BASE. -/
def Loader.entry (l : Loader) : Nat := fld l.cfg 63 40
def Loader.len (l : Loader) : Nat := fld l.cfg 25 13
def Loader.base (l : Loader) : Nat := fld l.cfg 12 0

/-- FWL_CTRL.ARM. -/
def State.fwlArm (s : State) (i : Site) : State :=
  if (s.comb i).loader.state = 2 then s.setFwlErr i feBadWr else s.modLoader i (fun l => { l with state := 1, rx := [] })

/-- FWL_CTRL.CHECK, from ARMED. Elsewhere it is discarded with BAD_WR (log 52). -/
def State.fwlCheck (s : State) (i : Site) : State :=
  if (s.comb i).loader.state = 1 then s.modLoader i (fun l => { l with state := 2 }) else s.setFwlErr i feBadWr

/-- A task reset to STOPPED and started at an address on a steward or keeper core (R45, R121). -/
def Core.boot (k : Core) (entry : Nat) : Core :=
  let fresh : Core := { Core.reset with nextTag := k.nextTag, cycles := k.cycles }
  { fresh with tasks := fresh.tasks.set 0 { fresh.tasks.get 0 with st := .active, pc := BitVec.ofNat 24 entry } }

/-- FWL_CTRL.START: from a keeper and in OK alone; elsewhere discarded with BAD_WR (log 52). -/
def State.fwlStart (s : State) (i : Site) (keeper : Bool) : State :=
  let l := (s.comb i).loader
  if keeper ∧ l.state = 3 then s.modComb i (fun k => { k with steward := k.steward.boot l.entry }) else s.setFwlErr i feBadWr

/-- FWL_ARM, FWL_CHECK, FWL_START. -/
def execFwlArm (i : Site) (s : State) : Host.Outcome State Fault Refusal := .next (s.fwlArm i)
def execFwlCheck (i : Site) (s : State) : Host.Outcome State Fault Refusal := .next (s.fwlCheck i)
def execFwlStart (i : Site) (keeper : Bool) (s : State) : Host.Outcome State Fault Refusal := .next (s.fwlStart i keeper)

/-- The bytes of steward memory lines. -/
def Comb.stewardLines (k : Comb) (base n : Nat) : List Byte := (k.stewardMem.read (base * 64) (n * 64)).flatMap wordBytes

/-- The digest registers as bytes: byte 0 in [7:0] of the first. -/
def Loader.digestBytes (l : Loader) : List Byte := l.digest.flatMap (fun w => toLe 8 w.toNat)

/-- FWL_CHECK_DONE: MISSING, OK or MISMATCH. -/
def execFwlCheckDone (i : Site) (s : State) : Host.Outcome State Fault Refusal :=
  let k := s.comb i
  let l := k.loader
  .next (if l.state ≠ 2 then s
    else
      let st := if l.rx.length < l.len then 5 else if Config.sha512 (k.stewardLines l.base l.len) = l.digestBytes then 3 else 4
      s.modLoader i (fun l => { l with state := st }))

/-- FW_BLOCK: lines of firmware from a keeper, while ARMED; else NOT_PERMITTED with REFUSED (R462). -/
def execFwBlock (i : Site) (p : DataPkt) (s : State) : Host.Outcome State Fault Refusal :=
  .next (if p.type ≠ 0x15 ∨ p.dst ≠ s.eid i.val 0xB9 then s
    else s.arriveData i.val 0xB9 p (fun s =>
      let l := (s.comb i).loader
      let n := (p.lenM1.toNat + 1) / 4
      let first := p.addr.toNat
      if (p.lenM1.toNat + 1) % 4 ≠ 0 then s.nackData (s.eid i.val 0xB9) p nkBadPacket
      else if l.state ≠ 1 ∨ !s.fromKeeper p.src ∨ first ≥ 2 ^ 24 ∨ first + n > l.len then
        (s.setFwlErr i feRefused).nackData (s.eid i.val 0xB9) p nkNotPermitted
      else
        let s1 := s.memWrite (.steward i) ((l.base + first) * 64) p.payload
        let new := ((List.range n).map (first + ·)).filter (fun k => !l.rx.contains k)
        (s1.modLoader i (fun l => { l with rx := l.rx ++ new })).ackData (s.eid i.val 0xB9) p))

/-- The set a keeper runs (R460). -/
def Keeper.running (k : Keeper) : ImgSet := if k.activeB then k.setB else k.setA

/-- The lead keeper loads its steward image into a steward and starts it (R463, R465 W3). -/
def State.bootSteward (s : State) (i : Site) : State :=
  let m := (s.keeper s.lead).running.steward
  s.modComb i (fun k =>
    { k with stewardMem := Ram.zero.write 0 (wordsOfBytes m.body), steward := k.steward.boot m.entry.toNat, stewardSvn := m.svn
             loader := { Loader.reset with state := 3, cfg := BitVec.ofNat 64 (m.entry.toNat % 2 ^ 24 * 2 ^ 40 + m.body.length / 256 * 2 ^ 13)
                                           digest := words64 m.digest, rx := List.range (m.body.length / 256) } })

/-! ### Fences (R479, R483) -/

/-- The fence map gains a unit (R479). -/
def State.addFence (s : State) (kind inst code : Nat) : State :=
  if s.log.fenced kind inst then s else { s with log := { s.log with fences := s.log.fences ++ [{ kind := kind, inst := inst, code := code }] } }

/-- A cell is fenced: reset, unmapped, held in Dark (R20, R424, R483). A patrol test of the position ends. -/
def State.fenceCell (s : State) (c : CellAt) : State :=
  let k := s.comb c.site
  let f := frameOf c.phys
  let w := k.mapWord f
  let w1 := match slotAt w (posOf c.phys) with
    | some n => setBits w (4 * n) 4 15
    | none => if sparePos w = posOf c.phys then setBits w 44 4 15 else w
  let s1 := (s.modCell c (fun x => { x with clk := { x.clk with changing := false } })).cellReset c
  let s2 := s1.modCell c (fun x => { x with colony := 0xFF })
  (s2.modComb c.site (fun k =>
    { k with siteMap := Tbl.put siteMapDefault k.siteMap f w1
             router := { k.router with localTbl := Tbl.put none k.router.localTbl (k.logicalOf c.phys) none }
             guards := Tbl.put Guard.reset k.guards f
               (let g := Tbl.get Guard.reset k.guards f; if g.testPos.toNat = posOf c.phys then { g with testPos := 0xF, mode := 0, parked := none } else g)
             pw := { k.pw with runChange := Tbl.put none k.pw.runChange c.phys.val none } })).setSite c 5

/-- A fenced domain: FENCED, unless it is in FAULT; off for a frame off for heat, so that it may come on again (R418, R435). -/
def State.domFence (s : State) (i : Site) (d : Nat) (heat : Bool) : State :=
  if ((s.comb i).pw.dom d).state = 4 then s else if heat then s.domOff i d 0 0 else s.domOff i d 5 4

/-- A frame is fenced: its positions as cells, LOGIC_f and then ARRAY_f off (R483). -/
def State.fenceFrame (s : State) (i : Site) (f : Nat) (heat : Bool) : State :=
  (((frameSites f).foldl (fun s p => s.fenceCell ⟨i, p⟩) s).domFence i (dLogic f) heat).domFence i (dArray f) heat

/-- Sets ACTION and reason of the site entry of a comb in every comb that has its tables (R308, R317). -/
def State.setAction (s : State) (x : Site) (action reason : Nat) : State :=
  (List.finRange 224).foldl (fun s i =>
    if !(s.comb i).router.tablesUp then s
    else
      let e := setBits (setBits (s.siteEntry i x.val) 62 2 action) 8 8 reason
      s.modRouter i (fun r => { r with siteTbl := Tbl.put none r.siteTbl x.val (some e) })) s

/-- Steps 1 and 2 of R317: the comb's site entry refuses, and routes through it take their alternates. -/
def State.detourComb (s : State) (x : Site) : State :=
  ((s.modComb x (fun k => { k with detour := true })).setAction x 2 nkInReset).resel

/-- Step 6: the site entry is restored, and SEL bits return. -/
def State.undetour (s : State) (x : Site) : State :=
  ((s.modComb x (fun k => { k with detour := false })).setAction x 1 0).resel

/-- A comb is fenced: its sites and samplers, the sampler domains off, COMB_STATE 2; detoured where the fault lies in its transit
(R483). Requests for power are withdrawn, and a token it holds is free again (R415). -/
def State.fenceComb (s : State) (i : Site) (transit : Bool) : State :=
  let s1 := (List.finRange 192).foldl (fun s p => s.fenceCell ⟨i, p⟩) s
  let s2 := [65, 66, 67, 68].foldl (fun s d => s.domFence i d false) s1
  let s3 := (s2.modComb i (fun k => { k with state := 2 })).modStore (storeOf i) (fun z =>
    { z with waiting := z.waiting.filter (fun e => !decide (e.1 = i)), token := match z.token with | some t => if t.1 = i then none else some t | none => none })
  if transit then (s3.detourComb i).leaveTree i else s3

/-- A store is fenced by the keeper: STORE_STATE 2, its store base answers STORE_FENCED (R392, R483). -/
def State.fenceStoreUnit (s : State) (n : Nat) : State :=
  s.modStore n (fun x => { x with state := 2, stb := 3, chunks := [], kv := [] })

/-- Does an enabled comb keep at least 11 mapped positions in every frame; are 216 combs and 108 stores enabled (R1, R5, R6)? -/
def State.belowMinimum (s : State) : Bool :=
  let full (i : Site) : Bool := (List.range 16).all (fun f => (List.range 11).all (fun k => decide (slotPos ((s.comb i).mapWord f) k < 12)))
  decide (((List.finRange 224).filter (fun i => decide ((s.comb i).state = 0) && full i)).length < 216) ||
  decide (((List.range 112).filter (fun n => decide ((s.store n).state = 0))).length < 108)

/-! ### Colonies with state in a domain (R480) -/

def State.colsOfCell (s : State) (c : CellAt) : List Nat :=
  if (s.cell c).colony.toNat < 64 ∧ (s.comb c.site).logicalOf c.phys ≠ 0xFF then [(s.cell c).colony.toNat] else []
def State.colsOfFrame (s : State) (i : Site) (f : Nat) : List Nat := (frameSites f).flatMap (fun p => s.colsOfCell ⟨i, p⟩)
def State.colsOfComb (s : State) (i : Site) : List Nat :=
  (List.finRange 192).flatMap (fun p => s.colsOfCell ⟨i, p⟩) ++
  (List.range 64).filter (fun c => (Tbl.get none (s.work c).contexts i.val).isSome || bit (Tbl.get 0 (s.comb i).ranks.dir c) 63)
def State.colsOfStore (s : State) (n : Nat) : List Nat :=
  (List.range 64).filter (fun c => (Tbl.get Colony.free s.colonies c).extents.any (fun x => decide (x.1 = n)))

/-- The colonies of a domain, each once, in ascending id (R473, R480). -/
def State.colsOf (s : State) (kind inst : Nat) : List Nat :=
  let l := if kind = 1 then (match cellOfInst inst with | some c => s.colsOfCell c | none => [])
    else if kind = 2 then (if h : inst / 256 < 224 then s.colsOfFrame ⟨inst / 256, h⟩ (inst % 256) else [])
    else if kind = 3 then (if h : inst < 224 then s.colsOfComb ⟨inst, h⟩ else [])
    else if kind = 4 then s.colsOfStore inst
    else if kind = 6 then [inst]
    else []
  (List.range 64).filter (fun c => l.contains c)

/-- Colonies restart (R211); `fails` are those whose image cannot be delivered. -/
def State.restartAll (s : State) (cs fails : List Nat) : State := cs.foldl (fun s c => s.restartColony c (!fails.contains c)) s

/-! ### Whole-comb reset (R317) -/

/-- Does the alternate route of a comb to a site byte pass a comb? -/
def State.altHits (s : State) (x : Site) (n : Nat) : Nat → Site → Bool
  | 0, _ => false
  | k + 1, i =>
    let y := fld (s.siteEntry i n) 7 4
    if i.val = n ∨ y = 0 then false
    else
      match linkPeer i (exitLink y) with
      | none => false
      | some j => if j = x then true else State.altHits s x n k j

/-- Does the primary route of a comb to a site byte pass a comb? -/
def State.primHits (s : State) (x : Site) (n : Nat) : Nat → Site → Bool
  | 0, _ => false
  | k + 1, i =>
    let y := fld (s.siteEntry i n) 3 0
    if i.val = n ∨ y = 0 then false
    else
      match linkPeer i (exitLink y) with
      | none => false
      | some j => if j = x then true else State.primHits s x n k j

/-- Step 1: have any two other endpoints no route that avoids the comb? -/
def State.resetRefused (s : State) (x : Site) : Bool :=
  (List.finRange 224).any (fun i => i != x && (s.comb i).router.tablesUp && (List.range 242).any (fun n =>
    siteByteOk n && n != x.val && n != i.val && s.primHits x n 224 i && s.altHits x n 224 i))

/-- Steps 4 and 5: the comb comes out of reset with its links in training, its tables written, its steward started; site map and cell bindings
stay (R208, R317). -/
def State.resetComb (s : State) (x : Site) : State :=
  let s1 := (combLinks x).foldl (fun s l => s.linkDown l 1 14) s
  let s2 := (List.finRange 192).foldl (fun s p => (s.modCell ⟨x, p⟩ (fun c => { c with clk := { c.clk with changing := false } })).cellReset ⟨x, p⟩) s1
  let s3 := s2.modComb x (fun k =>
    { k with
      router := { Router.reset with panelTbl := k.router.panelTbl, siteTbl := k.router.siteTbl, tablesUp := true }
      netCounters := 0, ranks := Ranks.reset, samplers := k.samplers.foldl (fun t e => Tbl.put k.smpInit t e.1 { Sampler.reset with ready := e.2.ready }) []
      waggle := { k.waggle with err := 0, opens := [], digDomain := 0, digUnit := 0, limitLatch := none }
      ports := [], erq := [], erqErr := 0, erqDropped := 0, erqPending := false, erqSent := [], guards := [], guardPaused := false, resetRun := none
      epochs := [], epochInit := { UnitEpoch.reset with epoch := s.mgmt.epoch.committed } })
  let s4 := s3.bootSteward x
  (combLinks x).foldl (fun s l => s.startTraining l) s4

/-- Steps 3 to 6 of a comb whose drain is confirmed; `hold` leaves it after step 3, for a census (R369). Its colonies restart. -/
def State.resetDrained (s : State) (x : Site) (hold : Bool) (fails : List Nat) : State :=
  let s1 := (s.modRouter x (fun r => { r with drain := 0x1FFFF })).leaveTree x
  if hold then s1.modComb x (fun k => { k with resetRun := some { tries := 1, waiting := false } })
  else
    let cols := s1.colsOf 3 x.val
    ((s1.resetComb x).undetour x).retree.restartAll cols fails

/-- COMB_RESET: the lead keeper's decision. `drained`: the routers report empty within 200 µs. A comb held after step 3 goes on with step 4. -/
def execCombReset (x : Site) (drained hold : Bool) (fails : List Nat) (s : State) : Host.Outcome State Fault Refusal :=
  let k := s.comb x
  .next (if k.detour ∧ k.router.drain = 0x1FFFF then (if hold then s else s.resetDrained x false fails)
    else if k.detour ∨ k.state ≠ 0 ∨ s.resetRefused x then s
    else
      let s1 := s.detourComb x
      if drained then s1.resetDrained x hold fails
      else s1.modComb x (fun k => { k with resetRun := some { tries := 1, waiting := true } }))

/-- DRAIN_CONFIRM_TIMEOUT: the reset is not performed; DRAIN_FAIL is recorded, and the detours stay. -/
def execDrainConfirmTimeout (x : Site) (s : State) : Host.Outcome State Fault Refusal :=
  .next (match (s.comb x).resetRun with
    | some r =>
      if r.waiting then (s.modComb x (fun k => { k with resetRun := some { r with waiting := false } })).combErr x 0x0207 1 0 0 else s
    | none => s)

/-- DRAIN_RETRY: 10 ms after a failed drain. A second failure is recorded, its handling fences the comb, and its routes are restored. -/
def execDrainRetry (x : Site) (drained : Bool) (fails : List Nat) (s : State) : Host.Outcome State Fault Refusal :=
  .next (match (s.comb x).resetRun with
    | some r =>
      if r.waiting ∨ r.tries ≠ 1 ∨ (s.comb x).router.drain = 0x1FFFF then s
      else if drained then s.resetDrained x false fails
      else ((s.modComb x (fun k => { k with resetRun := some { tries := 2, waiting := false } })).undetour x).combErr x 0x0207 1 0 0
    | none => s)

end Sys2Proof.Machine
end

