-- ==== Sys2Proof/Machine/Patrol.lean ====
section
/-!
DEFINITION. The guard patrol: swaps, tests, parked tests, reports, pause and resume (R485, R486, R492, R493).
-/
namespace Sys2Proof.Machine

/-! ### State of the patrol -/

/-- A frame's patrol. -/
def Comb.guard (k : Comb) (f : Nat) : Guard := Tbl.get Guard.reset k.guards f

/-- The panel with a frame's patrol changed. -/
def State.modGuard (s : State) (i : Site) (f : Nat) (g : Guard → Guard) : State :=
  s.modComb i (fun k => { k with guards := Tbl.put Guard.reset k.guards f (g (k.guard f)) })

/-- Sets ERQ_ERR.BAD_WR; its 0-to-1 transition sends a record (R492). -/
def State.erqBadWr (s : State) (i : Site) : State :=
  if bit (s.comb i).erqErr 0 then s
  else
    let s1 := s.modComb i (fun k => { k with erqErr := setBit k.erqErr 0 true })
    s1.combErr i 0x020C 0 ((s1.comb i).erqErr.setWidth 64) 0

/-- GRD_CTRL PAUSE and RESUME: keepers only (R492). -/
def State.guardPause (s : State) (i : Site) (keeper on : Bool) : State :=
  if keeper then s.modComb i (fun k => { k with guardPaused := on }) else s.erqBadWr i

/-- GUARD_PAUSE and GUARD_RESUME. -/
def execGuardPause (i : Site) (keeper : Bool) (s : State) : Host.Outcome State Fault Refusal := .next (s.guardPause i keeper true)
def execGuardResume (i : Site) (keeper : Bool) (s : State) : Host.Outcome State Fault Refusal := .next (s.guardPause i keeper false)

/-- GRD_FRAME (R493): an idle frame of a paused comb reads PAUSED. -/
def Comb.guardReg (k : Comb) (f : Nat) : W64 :=
  let g := k.guard f
  let mode := if g.mode = 0 ∧ k.guardPaused then 4 else g.mode
  BitVec.ofNat 64 (g.lastS.toNat * 2 ^ 32 + g.testPos.toNat * 2 ^ 12 + b2n g.dir * 128 + mode)

/-- The mapped position next to the spare in the sweep direction, fenced ones skipped; with none that way, the sweep turns (R485). -/
def sweepNext (w : W64) (spare : Nat) (up : Bool) : Option (Nat × Bool) :=
  let mapped (p : Nat) : Bool := (slotAt w p).isSome
  let above := (List.range 12).find? (fun p => decide (p > spare) && mapped p)
  let below := (List.range 12).reverse.find? (fun p => decide (p < spare) && mapped p)
  match (if up then above else below) with
  | some p => some (p, up)
  | none => (if up then below else above).map (fun p => (p, !up))

/-- Does a cell's state hold a word that cannot be read? -/
def Cell.anyUe (x : Cell) : Bool := x.cmem.ecc.any (fun e => e.2 == .double) || x.acc.ecc.any (fun e => e.2 == .double)

/-! ### The swap (R485) -/

/-- A physical site of a frame. -/
def sitePhys (f p : Nat) : Option Phys := if h : f * 12 + p < 192 then some ⟨f * 12 + p, h⟩ else none

/-- Lines and answers in flight follow the cell to its new site (R40, R485 step 3). -/
def Net.moveCell (n : Net) (i : Site) (q p : Phys) : Net :=
  { n with nbr := n.nbr.map (fun f =>
      if f.site = i then
        { f with phys := if f.phys = q then p else f.phys,
                 line := { f.line with fromPhys := if f.line.fromPhys = q then p else f.line.fromPhys } }
      else f) }

/-- Steps 0–3: the spare wakes and takes the moving cell's code; the cell is quiesced, copied, remapped and resumed. A word that cannot be
read fails the move. -/
def State.guardSwap (s : State) (i : Site) (f : Nat) (q p : Phys) (up : Bool) : State :=
  let s0 := (s.accessWake ⟨i, q⟩).dawn ⟨i, p⟩
  let s1 := s0.quiesce ⟨i, q⟩
  let x := s1.cell ⟨i, q⟩
  if x.anyUe then
    ((s1.resume ⟨i, q⟩).setSite ⟨i, p⟩ 3).sendErr i.val (mkErr 0x0108 1 1 (i.val * 256 + q.val) (s.eid i.val 0xB9) 0 0 0)
  else
    let w := (s1.comb i).mapWord f
    let pw := (s1.comb i).pw
    let run := min (pw.wanted q.val) (pw.fmaxOf p.val)
    let code := BitVec.ofNat 5 run
    let old := s1.cell ⟨i, p⟩
    let moved := { x with clk := { x.clk with target := code, code := code, locked := true } }
    let slot := (slotAt w (posOf q)).getD 0
    let s2 := (s1.setCell ⟨i, p⟩ moved).setCell ⟨i, q⟩ { x.afterReset with colony := 0xFF, clk := { old.clk with changing := false, locked := true } }
    let s3 := s2.modComb i (fun k =>
      { k with
        siteMap := Tbl.put siteMapDefault k.siteMap f (setBits (setBits w (4 * slot) 4 (posOf p)) 44 4 (posOf q))
        guards := Tbl.put Guard.reset k.guards f { lastS := 0, testPos := BitVec.ofNat 4 (posOf q), dir := up, mode := 2, parked := none }
        pw := { k.pw with
          run := Tbl.put 8 k.pw.run p.val run
          runChange := Tbl.put none (Tbl.put none k.pw.runChange p.val none) q.val none
          cap := Tbl.put 8 k.pw.cap p.val (pw.capOf q.val)
          deepest := Tbl.put 1 k.pw.deepest p.val (Tbl.get 1 pw.deepest q.val) } })
    let s4 : State := { s3 with net := s3.net.moveCell i q p }
    (s4.setSite ⟨i, q⟩ 0).resume ⟨i, p⟩

/-- May a new swap or parked test start in a frame: the comb in service and not paused, the frame powered and with no test? -/
def State.patrolFree (s : State) (i : Site) (f : Nat) : Bool :=
  let k := s.comb i
  decide (k.state = 0) && !k.guardPaused && decide ((k.guard f).testPos = 0xF) && decide ((k.guard f).mode ≠ 3) &&
  decide ((k.pw.dom (dLogic f)).state = 3) && !bit k.pw.heat f

/-- GUARD_SWAP: GRD_PERIOD has passed; the spare swaps with its neighbour in the sweep. -/
def execGuardSwap (i : Site) (f : Frame) (s : State) : Host.Outcome State Fault Refusal :=
  let w := (s.comb i).mapWord f.val
  .next (if !s.patrolFree i f.val ∨ sparePos w ≥ 12 then s
    else
      match sweepNext w (sparePos w) ((s.comb i).guard f.val).dir with
      | none => s
      | some (q, up) =>
        match sitePhys f.val q, sitePhys f.val (sparePos w) with
        | some qp, some sp => if (s.cell ⟨i, qp⟩).clk.changing then s else s.guardSwap i f.val qp sp up
        | _, _ => s)

/-! ### Tests (R428, R485 steps 4 and 5, R486) -/

/-- Where the parking slots of a half lie: its store, and the address of a comb's slot (R486). -/
def parkStore (i : Site) : Nat := if halfOf i = .west then 0 else 111
def parkAddr (i : Site) : Nat := 0xBF0000000 + (rowOf i * 8 + colOf i % 8) * 0x210000

/-- PARKED_TEST: a frame without a spare parks a mapped position: its cell is quiesced and refuses, its memories are copied to the parking
slot, and the position is tested. It cannot run while the store of the half is fenced. -/
def execParkedTest (i : Site) (f : Frame) (q : Fin 12) (s : State) : Host.Outcome State Fault Refusal :=
  let w := (s.comb i).mapWord f.val
  .next (match sitePhys f.val q.val, slotAt w q.val with
    | some qp, some slot =>
      if !s.patrolFree i f.val ∨ sparePos w < 12 ∨ (s.cell ⟨i, qp⟩).clk.changing ∨ (16 : Nat) ≤ f.val then s
      else if (s.store (parkStore i)).stb = 3 then s.modGuard i f.val (fun g => { g with mode := 5 })
      else
        let s1 := (s.accessWake ⟨i, qp⟩).quiesce ⟨i, qp⟩
        let x := s1.cell ⟨i, qp⟩
        if x.anyUe then (s1.resume ⟨i, qp⟩).sendErr i.val (mkErr 0x0108 1 1 (i.val * 256 + qp.val) (s.eid i.val 0xB9) 0 0 0)
        else
          let nack : W64 := BitVec.ofNat 64 (3 * 2 ^ 62 + nkInReset * 256)
          let s2 := s1.modStore (parkStore i) (fun z =>
            (z.zeroRange (parkAddr i) 2105344).write (parkAddr i) [])
          let s3 := x.cmem.words.foldl (fun s e => s.modStore (parkStore i) (fun z => z.write (parkAddr i + 4 * e.1) (wordBytes e.2))) s2
          let s4 := x.acc.words.foldl (fun s e => s.modStore (parkStore i) (fun z => z.write (parkAddr i + 1835008 + 4 * e.1) (wordBytes e.2))) s3
          let s5 := s4.modRouter i (fun r => { r with localTbl := Tbl.put none r.localTbl (f.val * 11 + slot) (some nack) })
          s5.modGuard i f.val (fun g => { g with testPos := BitVec.ofNat 4 q.val, mode := 3, parked := some x })
    | _, _ => s)

/-- A RAM read back from a store: words from an address up. -/
def Store.ramAt (z : Store) (a words : Nat) : Ram :=
  (z.mem.filter (fun e => decide (a ≤ e.1 ∧ e.1 < a + 4 * words))).foldl (fun r e =>
    let k := (e.1 - a) / 4
    r.write k [BitVec.ofNat 32 (leBytes (z.bytes (a + 4 * k) 4))]) Ram.zero

/-- A parked cell comes back and resumes: its memories from the parking slot. -/
def State.unpark (s : State) (i : Site) (f : Nat) (qp : Phys) (x : Cell) : State :=
  let z := s.store (parkStore i)
  let y := { x with cmem := z.ramAt (parkAddr i) 458752, acc := z.ramAt (parkAddr i + 1835008) 65536 }
  let l := f * 11 + ((slotAt ((s.comb i).mapWord f) (posOf qp)).getD 0)
  let s1 := (s.setCell ⟨i, qp⟩ y).modRouter i (fun r => { r with localTbl := Tbl.put none r.localTbl l none })
  s1.resume ⟨i, qp⟩

/-- GUARD_TEST_DONE: the test of the vacated, or parked, position ends, with the code it is characterised at. Below code 8 it fails (R428). A
position that passes becomes the spare in Midnight, or gets its cell back; one that fails is a contained SELF_TEST, and its frame has no
spare. -/
def execGuardTestDone (i : Site) (f : Frame) (pass : Bool) (fmax : Fin 17) (s : State) : Host.Outcome State Fault Refusal :=
  let g := (s.comb i).guard f.val
  let ok := pass && decide (fmax.val ≥ 8)
  let rec_ (s : State) (qp : Phys) : State := s.sendErr i.val (mkErr 0x0107 1 1 (i.val * 256 + qp.val) (s.eid i.val 0xB9) 0 0 0)
  .next (if g.testPos = 0xF then s
    else
      match sitePhys f.val g.testPos.toNat with
      | none => s
      | some qp =>
        let s1 := (s.modPw i (fun w => { w with fmax := Tbl.put 8 w.fmax qp.val fmax.val, charAge := Tbl.put 0 w.charAge qp.val 0 })).modGuard i f.val
          (fun g => { g with testPos := 0xF, mode := 0, parked := none, lastS := if g.mode = 3 then 0 else g.lastS })
        match g.parked with
        | some x =>
          let s2 := (s1.unpark i f.val qp x).retune ⟨i, qp⟩
          if ok then s2 else rec_ s2 qp
        | none =>
          if ok then s1.setSite ⟨i, qp⟩ 3
          else
            rec_ (s1.modComb i (fun k => { k with siteMap := Tbl.put siteMapDefault k.siteMap f.val (setBits (k.mapWord f.val) 44 4 15) })) qp)

/-- OVERDUE_REPORT: hourly, a corrected SELF_TEST with INFO1 = 1 for each mapped position that is overdue (R428, R486). -/
def execOverdueReport (i : Site) (s : State) : Host.Outcome State Fault Refusal :=
  .next ((List.finRange 192).foldl (fun s p =>
    if (s.comb i).pw.overdue p.val ∧ (s.comb i).logicalOf p ≠ 0xFF then
      s.sendErr i.val (mkErr 0x0107 0 1 (i.val * 256 + p.val) (s.eid i.val 0xB9) 0 0 1)
    else s) s)

end Sys2Proof.Machine
end

