-- ==== Sys2Proof/Machine/Registers.lean ====
section
/-!
DEFINITION. The register maps as the control network reaches them, reads and writes of any register, and safe points
(R8, R59–R61, R170, R203, R244, R299, R300, R319, R339, R371, R394, R417, R438, R456, R461, R492).
-/
namespace Sys2Proof.Machine

/-! ### Samplers (R170, R244) -/

/-- A control read of a sampler register. -/
def State.smpRead (s : State) (a : SmpAt) (off : Nat) : W64 × State :=
  let x := s.smp a
  let k := x.ctx ((off - 0x1000) / 0x20 % 256)
  let o := off % 0x20
  if off = 0x0000 then (BitVec.ofNat 64 (a.site.val * 256 + a.smp.val), s)
  else if off = 0x0010 then
    (BitVec.ofNat 64 (x.open_.length * 256 + b2n (!x.open_.isEmpty) * 4 + b2n x.stopped * 2 + b2n x.ready), s)
  else if off = 0x0018 then (x.err.setWidth 64, s)
  else if off = 0x0020 then s.smpCountsRead a
  else if 0x1000 ≤ off ∧ off < 0x3000 then
    let y := k.applyStaged
    (if o = 0 then y.mode else if o = 8 then y.temp else if o = 0x10 then y.pen else y.pres, s)
  else if 0x3000 ≤ off ∧ off < 0x5000 then
    if o = 0 then (k.gram.setWidth 64, s)
    else if o = 8 then (k.rng, s)
    else if o = 0x10 then (BitVec.ofNat 64 (k.head.toNat * 2 ^ 32 + k.total.toNat), s)
    else s.smpStCountRead a ((off - 0x3000) / 0x20)
  else if 0x5000 ≤ off ∧ off < 0x5080 then (Tbl.get 0 x.grmDesc ((off - 0x5000) / 8), s)
  else if off = 0x5080 then (BitVec.ofNat 64 (b2n x.gAuto * 2 ^ 63 + x.gIndex.toNat), s)
  else if off = 0x5088 then s.gdataRead a
  else if off = 0x5090 then (BitVec.ofNat 64 (b2n x.hAuto * 2 ^ 63 + x.hIndex.toNat), s)
  else if off = 0x5098 then s.hdataRead a
  else if off = 0x50A8 then (x.cfgErr.setWidth 64, s)
  else (0, s)

/-- A write of a context's state: static, context c (R244). -/
def State.smpStWrite (s : State) (a : SmpAt) (c : Nat) (f : SmpCtx → SmpCtx) : State :=
  if (s.smp a).ctxStopped c then s.modSmp a (fun x => x.modCtx c f) else s.setCfgErr a 1

/-- A control write of a sampler register. -/
def State.smpWrite (s : State) (a : SmpAt) (off : Nat) (v : W64) : State :=
  let c := (off - 0x1000) / 0x20 % 256
  let o := off % 0x20
  if off = 0x0008 then s.smpCtrl a v
  else if off = 0x0018 then s.modSmp a (fun x => { x with err := w1c x.err v })
  else if 0x1000 ≤ off ∧ off < 0x3000 then s.smpCfgWrite a c (o / 8) v
  else if 0x3000 ≤ off ∧ off < 0x5000 then
    if o = 0 then s.smpStWrite a c (fun k => { k with gram := v.setWidth 18 })
    else if o = 8 then s.smpStWrite a c (fun k => { k with rng := v })
    else if o = 0x10 then s.smpStWrite a c (fun k => { k with head := bits v 32 10, total := loW v })
    else s
  else if 0x5000 ≤ off ∧ off < 0x5080 then s.smpGrmWrite a ((off - 0x5000) / 8) v
  else if off = 0x5080 then s.modSmp a (fun x => { x with gAuto := bit v 63, gIndex := bits v 0 18 })
  else if off = 0x5088 then s.gdataWrite a v
  else if off = 0x5090 then s.modSmp a (fun x => { x with hAuto := bit v 63, hIndex := bits v 0 18 })
  else if off = 0x5098 then s.hdataWrite a v
  else if off = 0x50A0 then s.ctxResetWrite a v
  else if off = 0x50A8 then s.modSmp a (fun x => { x with cfgErr := w1c x.cfgErr v })
  else s

/-! ### Links (R371) -/

/-- A control read of a link register; an edge that the comb does not have reads zero. -/
def State.lnkRead (s : State) (i : Site) (off : Nat) : W64 × State :=
  if h : (off - 0xA000) / 0x40 < 12 then
    let k : Fin 12 := ⟨(off - 0xA000) / 0x40, h⟩
    let x := (s.comb i).link k.val
    let o := off % 0x40
    if !linkExists i k then (0, s)
    else if o = 0x00 then (x.statusReg, s)
    else if o = 0x10 then (BitVec.ofNat 64 (b2n (x.policyNext.getD x.policy)), s)
    else if o = 0x18 then (x.err.setWidth 64, s)
    else if o = 0x20 then (x.countsReg, s.modLink i k.val Link.clearCounts)
    else if o = 0x28 then (if k.val < 4 then x.wiresReg else 0, s)
    else (0, s)
  else (0, s)

/-- A control write of a link register. -/
def State.lnkWrite (s : State) (i : Site) (off : Nat) (v : W64) : State :=
  if h : (off - 0xA000) / 0x40 < 12 then
    let k : Fin 12 := ⟨(off - 0xA000) / 0x40, h⟩
    let o := off % 0x40
    if !linkExists i k then s
    else if o = 0x08 then s.lnkCtrlWrite (.comb i k) v
    else if o = 0x10 then s.modLink i k.val (fun x => { x with policyNext := some (bit v 0) })
    else if o = 0x18 then s.modLink i k.val (fun x => { x with err := w1c x.err v })
    else if o = 0x28 then (if k.val < 4 then s.modLink i k.val (fun x => { x with chan := bits v 44 4 }) else s)
    else s
  else s

/-! ### Power (R417–R420) -/

/-- PWR_DOM (R418). -/
def Dom.reg (d : Dom) : W64 := BitVec.ofNat 64 (d.reason * 2 ^ 16 + b2n d.on * 256 + d.state)

/-- PWR_REG_STATUS (R419). -/
def Regul.statusReg (x : Regul) : W64 :=
  BitVec.ofNat 64 (x.latchCause.toNat * 2 ^ 40 + x.phaseFail.toNat * 2 ^ 16 + x.catches.toNat * 256 + b2n x.fuseOpen * 8 +
    b2n x.latched * 4 + b2n x.derated * 2 + b2n x.spareInUse)

/-- PWR_ZONE as a comb sees its zone (R420). -/
def State.zoneReg (s : State) (i : Site) : W64 :=
  let z := s.store (storeOf i)
  BitVec.ofNat 64 (2000 * 2 ^ 48 + z.zoneCurrent % 65536 * 2 ^ 32 + z.headroom * 2 ^ 16 +
    (z.waiting.filter (fun e => decide (e.1 = i))).length * 256 +
    b2n (match z.token with | some t => decide (t.1 = i) | none => false))

/-- A control read of a power register. -/
def State.pwrRead (s : State) (i : Site) (off : Nat) : W64 :=
  let w := (s.comb i).pw
  let r := w.reg ((off - 0xC400) / 0x20)
  let o := off % 0x20
  if off < 0xC280 then (w.dom ((off - 0xC000) / 8)).reg
  else if 0xC400 ≤ off ∧ off < 0xCA20 then
    if o = 0 then r.statusReg
    else if o = 8 then BitVec.ofNat 64 (r.vout.toNat * 2 ^ 48 + r.iout.toNat * 2 ^ 32 + r.vin.toNat * 2 ^ 16 + r.iin.toNat)
    else if o = 0x10 then r.energy
    else (r.vsetLatch.getD r.vset).setWidth 64
  else if off = 0xCC00 then s.zoneReg i
  else if off = 0xCC08 then w.inrushLatch.getD (BitVec.ofNat 64 (w.guard.toNat * 2 ^ 16 + w.waitMs.toNat))
  else if off = 0xCC10 then w.pwrErr.setWidth 64
  else 0

/-- A control write of a power register, by the keeper of a half or by the steward (none). -/
def State.pwrWrite (s : State) (i : Site) (off : Nat) (v : W64) (who : Option Half) : State :=
  if off < 0xC280 then (if bit v 8 then s.domOn i ((off - 0xC000) / 8) who else s.domOffWrite i ((off - 0xC000) / 8) who)
  else if 0xC400 ≤ off ∧ off < 0xCA20 ∧ off % 0x20 = 0x18 then s.vsetWrite i ((off - 0xC400) / 0x20) v
  else if off = 0xCC08 then
    if fld v 31 16 > 1000 ∨ fld v 15 0 < 1 ∨ fld v 15 0 > 1000 then s.pwrErr i peBadWr
    else s.modPw i (fun w => { w with inrushLatch := some (keep v 0xFFFFFFFF) })
  else if off = 0xCC10 then s.modPw i (fun w => { w with pwrErr := w1c w.pwrErr v })
  else s

/-! ### Power states (R438–R440) -/

/-- A physical site by number. -/
def physOfNo (n : Nat) : Option Phys := if h : n < 192 then some ⟨n, h⟩ else none

/-- A control read of a power-state register. -/
def State.pstRead (s : State) (i : Site) (off : Nat) : W64 :=
  let k := s.comb i
  let w := k.pw
  let q := (off - 0xD600) / 8
  let f := (off - 0xDC00) / 0x10
  let n := (off - 0xDD00) / 8
  if off < 0xD600 then
    match physOfNo ((off - 0xD000) / 8) with
    | some p =>
      BitVec.ofNat 64 (k.siteSt p * 2 ^ 16 + ((Tbl.get none w.deepestLatch p.val).getD (Tbl.get 1 w.deepest p.val)) * 256)
    | none => 0
  else if off < 0xDC00 then
    BitVec.ofNat 64 (min (2 ^ 32 - 1) (Tbl.get 0 w.charAge q) * 2 ^ 32 + w.capOf q * 2 ^ 16 + w.runOf q * 256 + w.fmaxOf q)
  else if off < 0xDD00 then
    if off % 0x10 = 0 then BitVec.ofNat 64 ((Tbl.get none w.limitLatch f).getD (w.limitOf f))
    else BitVec.ofNat 64 (w.tlimitOf f * 2 ^ 32 + Tbl.get 0 w.power f % 65536 * 2 ^ 16 + w.levelOf f)
  else if n < 22 then
    BitVec.ofNat 64 (Tbl.get 0 w.sensLevel n * 2 ^ 17 + b2n (Tbl.get false w.sensFault n) * 2 ^ 16 + (Tbl.get 0 w.temp n).toNat)
  else if off = 0xDE00 then BitVec.ofNat 64 (115 * 2 ^ 16 + 105 * 256 + (w.throttleLatch.getD w.throttleC).toNat)
  else if off = 0xDE08 then w.pstErr.setWidth 64
  else 0

/-- A control write of a power-state register. -/
def State.pstWrite (s : State) (i : Site) (off : Nat) (v : W64) : State :=
  if off < 0xD600 then
    match physOfNo ((off - 0xD000) / 8) with
    | some p =>
      let s1 := s.deepestWrite i p (fld v 10 8)
      if bit v 19 && decide (fld v 10 8 ≤ 5) then s1.siteDawn ⟨i, p⟩ else s1
    | none => s
  else if off < 0xDC00 then
    match physOfNo ((off - 0xD600) / 8) with
    | some p => s.capWrite ⟨i, p⟩ v
    | none => s
  else if off < 0xDD00 then
    if off % 0x10 ≠ 0 then s
    else if fld v 15 0 < 100 ∨ fld v 15 0 > 2000 then s.setPstErr i psBadWr
    else s.modPw i (fun w => { w with limitLatch := Tbl.put none w.limitLatch ((off - 0xDC00) / 0x10) (some (fld v 15 0)) })
  else if off = 0xDE00 then
    if fld v 7 0 < 70 ∨ fld v 7 0 > 100 then s.setPstErr i psBadWr else s.modPw i (fun w => { w with throttleLatch := some (bits v 0 8) })
  else if off = 0xDE08 then s.modPw i (fun w => { w with pstErr := w1c w.pstErr v })
  else s

/-! ### Clock, loader, error queue, patrol (R456, R461, R492) -/

/-- A control read of a clock, loader, error-queue or patrol register. -/
def State.miscRead (s : State) (i : Site) (off : Nat) : W64 × State :=
  let k := s.comb i
  let l := k.loader
  if off = 0xB000 then (k.pw.clkReg, s)
  else if off = 0xB008 then (k.pw.clkErr.setWidth 64, s)
  else if off = 0xE008 then (BitVec.ofNat 64 (l.rx.length * 2 ^ 16 + l.state), s)
  else if off = 0xE010 then (l.cfg, s)
  else if 0xE040 ≤ off ∧ off < 0xE080 then (nth 0 l.digest ((off - 0xE040) / 8), s)
  else if off = 0xE080 then (l.err.setWidth 64, s)
  else if off = 0xF000 then
    let mine := s.log.opens.filter (fun o => s.log.recs.any (fun r => decide (r.serial = o.serial ∧ fld r.source 15 8 = i.val)))
    (BitVec.ofNat 64 (min 255 mine.length * 256 + k.erq.length), s)
  else if off = 0xF008 then (k.erqErr.setWidth 64, s)
  else if off = 0xF010 then (k.erqDropped.setWidth 64, s.modComb i (fun k => { k with erqDropped := 0 }))
  else if 0xF100 ≤ off ∧ off < 0xF180 then (k.guardReg ((off - 0xF100) / 8), s)
  else if off = 0xF180 then ((k.guardLatch.getD k.guardPeriod).setWidth 64, s)
  else (0, s)

/-- Is the loader block stopped (R461)? -/
def Loader.stopped (l : Loader) : Bool := decide (l.state ≠ 1 ∧ l.state ≠ 2)

/-- FWL_CTRL written. With more than one bit, ARM acts, then CHECK, then START (log 52). -/
def State.fwlCtrl (s : State) (i : Site) (v : W64) (keeper : Bool) : State :=
  let s1 := if bit v 0 then s.fwlArm i else s
  let s2 := if bit v 1 then s1.fwlCheck i else s1
  if bit v 2 then s2.fwlStart i keeper else s2

/-- A control write of a clock, loader, error-queue or patrol register. -/
def State.miscWrite (s : State) (i : Site) (off : Nat) (v : W64) (keeper : Bool) : State :=
  let l := (s.comb i).loader
  if off = 0xB000 then s.clkCombWrite i v
  else if off = 0xB008 then s.modPw i (fun w => { w with clkErr := w1c w.clkErr v })
  else if off = 0xE000 then s.fwlCtrl i v keeper
  else if off = 0xE010 then
    if fld v 25 13 < 1 ∨ fld v 25 13 > 4096 ∨ fld v 12 0 + fld v 25 13 > 8192 then s.setFwlErr i feBadWr
    else if !l.stopped then s.setFwlErr i feStatic
    else s.modLoader i (fun l => { l with cfg := keep v 0xFFFFFF0003FFFFFF })
  else if 0xE040 ≤ off ∧ off < 0xE080 then
    if !l.stopped then s.setFwlErr i feStatic else s.modLoader i (fun l => { l with digest := setNth l.digest ((off - 0xE040) / 8) v })
  else if off = 0xE080 then s.modLoader i (fun l => { l with err := w1c l.err v })
  else if off = 0xF008 then s.modComb i (fun k => { k with erqErr := w1c k.erqErr v })
  else if off = 0xF180 then
    if fld v 15 0 < 60 ∨ fld v 15 0 > 600 then s.erqBadWr i else s.modComb i (fun k => { k with guardLatch := some (bits v 0 16) })
  else if off = 0xF188 then
    if bit v 0 then s.guardPause i keeper true else if bit v 1 then s.guardPause i keeper false else s
  else s

/-! ### The steward endpoint -/

/-- A control read at a steward endpoint, with its effects. -/
def State.stewardRead (s : State) (i : Site) (off : Nat) : W64 × State :=
  if off < 0x6000 then (s.coreRegRead (.steward i) off, s)
  else if off < 0x8000 then s.rnkRead i off
  else if off < 0x9000 then s.routerRegRead i off
  else if off < 0xA000 then (s.wagRegRead i off, s)
  else if off < 0xB000 then s.lnkRead i off
  else if 0xC000 ≤ off ∧ off < 0xD000 then (s.pwrRead i off, s)
  else if 0xD000 ≤ off ∧ off < 0xE000 then (s.pstRead i off, s)
  else s.miscRead i off

/-- A control write at a steward endpoint. -/
def State.stewardWrite (s : State) (i : Site) (off : Nat) (v : W64) (who : Option Half) : State :=
  if off < 0x6000 then s.coreRegWrite (.steward i) off v
  else if off < 0x8000 then s.rnkWrite i off v
  else if off < 0x9000 then s.routerRegWrite i off v who.isSome
  else if off < 0xA000 then s.wagRegWrite i off v
  else if off < 0xB000 then s.lnkWrite i off v
  else if 0xC000 ≤ off ∧ off < 0xD000 then s.pwrWrite i off v who
  else if 0xD000 ≤ off ∧ off < 0xE000 then s.pstWrite i off v
  else s.miscWrite i off v who.isSome

/-! ### Any register -/

/-- A control write of a cell register: every one of R61. -/
def State.cellWrite (s : State) (c : CellAt) (off : Nat) (v : W64) : State :=
  if off = 0x0008 then s.bindWrite c v
  else if off = 0x0010 then s.cellCtrl c v
  else if off = 0x0100 then s.clkCtrlWrite c v
  else if off = 0x4030 then s.accWrite c v
  else s.cellPlainWrite c off v

/-- A control read of a register, with its effects. A port router has no registers: every offset is gen-rsvd (log 54). -/
def State.regRead (s : State) (u : RegUnit) (off : Nat) : W64 × State :=
  match u with
  | .core (.cell i p) => s.cellRead ⟨i, p⟩ off
  | .core (.steward i) => s.stewardRead i off
  | .core (.keeper h k) => (s.coreRegRead (.keeper h k) off, s)
  | .sampler i k => s.smpRead ⟨i, k⟩ off
  | .store st => s.stbRead st.val off
  | .port _ _ => (0, s)

/-- A control write of a register, by the keeper of a half or by a steward (none). -/
def State.regWrite (s : State) (u : RegUnit) (off : Nat) (v : W64) (who : Option Half) : State :=
  match u with
  | .core (.cell i p) => s.cellWrite ⟨i, p⟩ off v
  | .core (.steward i) => s.stewardWrite i off v who
  | .core (.keeper h k) => s.coreRegWrite (.keeper h k) off v
  | .sampler i k => s.smpWrite ⟨i, k⟩ off v
  | .store st => s.stbWrite st.val off v
  | .port _ _ => s

/-- The half of a comb or store that a block belongs to. -/
def unitHalf : RegUnit → Half
  | .core (.cell i _) => halfOf i
  | .core (.steward i) => halfOf i
  | .core (.keeper h _) => h
  | .sampler i _ => halfOf i
  | .store st => if st.val % 8 < 4 then .west else .east
  | .port i _ => halfOf i

/-- Can a block take a register access: a cell out of reset and not in Small Hours or Dark, a powered sampler? A cell in reset answers
reads of TSK_CELL_ID and TSK_CELL_STATUS, and takes RESET (R57, R425). -/
def State.regOpen (s : State) (u : RegUnit) (write : Bool) (off : Nat) (v : W64) : Bool :=
  match u with
  | .core (.cell i p) =>
    s.cellReach ⟨i, p⟩ && (!(s.cell ⟨i, p⟩).inReset || (if write then decide (off = 0x10) && bit v 0 else decide (off = 0x00 ∨ off = 0x18)))
  | .sampler i k => (s.smp ⟨i, k⟩).ready
  | _ => true

/-- Dawn at a cell whose register an access reaches (R425). -/
def State.regWake (s : State) (u : RegUnit) : State :=
  match u with
  | .core (.cell i p) => s.accessWake ⟨i, p⟩
  | _ => s

/-- REGISTER_WRITE: a write of a register; an access that cannot reach its block changes nothing here (REG_WR answers it). The keeper that
makes it is that of the block's half. -/
def execRegisterWrite (w : RegWr) (s : State) : Host.Outcome State Fault Refusal :=
  .next (if s.regOpen w.unit true (off8 w.off) w.val then
    (s.regWake w.unit).regWrite w.unit (off8 w.off) w.val (if w.keeper then some (unitHalf w.unit) else none)
  else s)

/-! ### REG_RD and REG_WR (R60, R299, R300) -/

/-- The site byte and endpoint code of a block; a store's by the packet that reaches it. None where the packet goes elsewhere. -/
def State.regPlace (s : State) (u : RegUnit) (d : Eid) : Option (Nat × Nat) :=
  let at_ (site ep : Nat) : Option (Nat × Nat) := if d = s.eid site ep then some (site, ep) else none
  match u with
  | .core (.cell i p) => if (s.comb i).logicalOf p = 0xFF then none else at_ i.val ((s.comb i).logicalOf p)
  | .core (.steward i) => at_ i.val 0xB9
  | .core (.keeper h k) => at_ (0xF0 + h.code) k.val
  | .sampler i k => at_ i.val (0xBA + k.val)
  | .store st => if pairHas st.val (fld d 15 8) then at_ (fld d 15 8) 0xB8 else none
  | .port i k => at_ i.val (0xB0 + k.val)

/-- May a source access a block's registers: the comb's steward, either steward of a store's pair, and the keepers (R60, R394)? A keeper's
registers: the keepers (log 54). -/
def State.regSource (s : State) (u : RegUnit) (src : Eid) : Bool :=
  match u with
  | .core (.cell i _) => s.ctlSource i src
  | .core (.steward i) => s.ctlSource i src
  | .core (.keeper _ _) => s.fromKeeper src
  | .sampler i _ => s.ctlSource i src
  | .store st =>
    s.fromKeeper src || (decide (fld src 23 16 = s.swarmPanel.toNat ∧ fld src 7 0 = 0xB9) && pairHas st.val (fld src 15 8) && decide (fld src 15 8 < 224))
  | .port i _ => s.ctlSource i src

/-- The keeper that a source is. -/
def State.srcKeeper (s : State) (src : Eid) : Option Half :=
  if !s.fromKeeper src then none else if fld src 15 8 = 0xF0 then some .west else some .east

/-- A register access refused with a NACK; a refusal by a cell in reset is counted by its comb's routers as well (R303, R425, log 19). -/
def State.regNack (s : State) (u : RegUnit) (ep : Eid) (p : CtlPkt) (reason : Nat) : State :=
  match u with
  | .core (.cell i ph) =>
    if reason = nkInReset then (s.nackCtl (if s.cellDark ⟨i, ph⟩ then s.eid i.val 0xB9 else ep) p reason).countNack i else s.nackCtl ep p reason
  | _ => s.nackCtl ep p reason

/-- REG_RD: the register is read and REG_RD_RSP answers with its value; or a NACK. A cell whose clock is stopped for a change answers, as a
quiesced one does (R58, R449, R453, R455; log 93). -/
def execRegRd (u : RegUnit) (p : CtlPkt) (s : State) : Host.Outcome State Fault Refusal :=
  .next (if p.cls ≠ 0x01 then s
    else
      match s.regPlace u p.dst with
      | none => s
      | some (site, ep) =>
        let off := fld p.payload 15 0 / 8 * 8
        s.arriveCtl site ep p (fun s =>
          if !s.regSource u p.src then s.regNack u p.dst p nkNotPermitted
          else if !s.regOpen u false off 0 then s.regNack u p.dst p nkInReset
          else
            let r := (s.regWake u).regRead u off
            r.2.sendCtl (mkCtl (0x08 + fld p.payload 18 16) p.src p.dst r.1)))

/-- A REG_WR packet without its partner is discarded and counted at the comb it arrives at; nothing answers (R300). -/
def State.unpairedAt (s : State) (site : Nat) (p : CtlPkt) : State :=
  let s1 := s.takeCtl p
  if h : site < 224 then s1.modRouter ⟨site, h⟩ (fun r => { r with unpaired := satInc r.unpaired }) else s1

/-- REG_WR: the head and the body that follows it are taken together and the write is performed and acknowledged; or a NACK. Either alone,
or beside one that fails its check, is discarded and counted. -/
def execRegWr (u : RegUnit) (head : CtlPkt) (body : CtlPkt) (s : State) : Host.Outcome State Fault Refusal :=
  .next (
    match s.regPlace u head.dst with
    | none => s
    | some (site, ep) =>
      let good (q : CtlPkt) : Bool := decide (q.crc = ctlCrc6 q)
      if head.cls = 0x02 ∧ body.cls = 0x03 ∧ body.dst = head.dst then
        if !good head then ((s.takeCtl head).crcDiscard site).unpairedAt site body
        else if !good body then ((s.takeCtl body).crcDiscard site).unpairedAt site head
        else (s.takeCtl body).arriveCtl site ep head (fun s =>
          let off := fld head.payload 15 0 / 8 * 8
          if !s.regSource u head.src then s.regNack u head.dst head nkNotPermitted
          else if !s.regOpen u true off body.payload then s.regNack u head.dst head nkInReset
          else
            ((s.regWake u).regWrite u off body.payload (s.srcKeeper head.src)).sendCtl
              (mkCtl (0x10 + fld head.payload 18 16) head.src head.dst 0))
      else if head.cls = 0x02 then s.unpairedAt site head
      else if body.cls = 0x03 ∧ body.dst = head.dst then s.unpairedAt site body
      else s)

/-! ### Safe points (R59) -/

/-- What waits at a cell: the droop threshold. -/
def CellClk.takeThresh (k : CellClk) : CellClk := { k with thresh := k.threshLatch.getD k.thresh, threshLatch := none }

/-- What waits at a mover pair: MOV_TIMEOUT. -/
def Core.takeTimeout (k : Core) : Core :=
  match k.movLatch with
  | some v => { k with movSwarm := bits v 16 16, movPanel := bits v 0 16, movLatch := none }
  | none => k

/-- What waits at an engine: its seed, between two commands. -/
def Engine.takeSeed (e : Engine) : Engine := if e.running.isNone then { e with seed := e.seedLatch.getD e.seed, seedLatch := none } else e

/-- What waits in a comb's power, thermal and clock blocks: PWR_INRUSH, VSET, DEEPEST, LIM_FRAME, THM_LIMITS, CLK_COMB. -/
def CombPower.safePoint (w : CombPower) : CombPower :=
  let w1 := match w.inrushLatch with
    | some v => { w with guard := bits v 16 16, waitMs := bits v 0 16, inrushLatch := none }
    | none => w
  let w2 := { w1 with
    regs := Tbl.mapVal Regul.reset (fun _ r => { r with vset := r.vsetLatch.getD r.vset, vsetLatch := none }) w1.regs
    deepest := w1.deepestLatch.foldl (fun t e => Tbl.put 1 t e.1 (e.2.getD (Tbl.get 1 t e.1))) w1.deepest
    deepestLatch := []
    throttleC := w1.throttleLatch.getD w1.throttleC
    throttleLatch := none }
  ((List.range 16).foldl CombPower.takeLimit w2).takeClk

/-- SAFE_POINT_APPLY: the writes that wait at a block's safe point take effect. -/
def execSafePointApply (b : Block) (s : State) : Host.Outcome State Fault Refusal :=
  .next (match b with
    | .cellBlk i p => s.modCell ⟨i, p⟩ (fun x => { x with clk := x.clk.takeThresh })
    | .moverBlk c => s.modCore c Core.takeTimeout
    | .engine i p e => s.modCell ⟨i, p⟩ (fun x => x.setEng e (x.eng e).takeSeed)
    | .samplerBlk i k => s.modSmp ⟨i, k⟩ Sampler.safePoint
    | .combBlk i => s.modComb i (fun k =>
        { k with waggle := k.waggle.safePoint, pw := k.pw.safePoint, guardPeriod := k.guardLatch.getD k.guardPeriod, guardLatch := none })
    | .storeBlk st => s.modStore st.val (fun x => { x with scrubS := x.scrubLatch.getD x.scrubS, scrubLatch := none })
    | .portBlk _ _ => s
    | .keeperBlk _ => s)

end Sys2Proof.Machine
end

