-- ==== Sys2Proof/Machine/Lead.lean ====
section
/-!
DEFINITION. Keepers: start from flash, discrete signals, heartbeat, silence, hand-over of the lead (R458–R460, R487, R555–R557).
-/
namespace Sys2Proof.Machine

/-! ### Start from flash (R460) -/

/-- Is an image acceptable at a keeper's start: its set valid, and both SVN at or above the floors (R460, R543)? -/
def State.setOk (s : State) (x : ImgSet) : Bool :=
  x.valid && decide (x.keeper.svn.toNat ≥ s.svnFloor 1) && decide (x.steward.svn.toNat ≥ s.svnFloor 2)

/-- The set a keeper's ROM accepts: BOOT_PREF's first, the other second (R460). -/
def State.pickSet (s : State) (h : Half) : Option Bool :=
  let k := s.keeper h
  let first := s.objU 0x2005 0 h.code = 1
  let good (b : Bool) : Bool := s.setOk (if b then k.setB else k.setA)
  if good first then some first else if good (!first) then some (!first) else none

/-- A keeper restarts from flash: its body is loaded at word 0 and core 0 starts at ENTRY; with no acceptable set it is in rescue. A half
without power leaves it down. KEEPER_TIME and the flash are kept, and the running epoch is the other keeper's. -/
def State.keeperBoot (s : State) (h : Half) : State :=
  let k := s.keeper h
  if !(s.halfPower h).on then s.setKeeper h { k with cores := [], mem := Ram.zero, health := 2 }
  else
    match s.pickSet h with
    | none => s.setKeeper h { k with cores := [], mem := Ram.zero, health := 3, can0 := CanBus.reset, can1 := CanBus.reset }
    | some b =>
      let m := (if b then k.setB else k.setA).keeper
      s.setKeeper h
        { k with cores := Tbl.put Core.reset [] 0 ((Tbl.get Core.reset k.cores 0).boot m.entry.toNat),
                 mem := Ram.zero.write 0 (wordsOfBytes m.body), health := 0, activeB := b, epoch := (s.keeper h.other).epoch,
                 can0 := { CanBus.reset with rate := k.can0.rate }, can1 := { CanBus.reset with rate := k.can1.rate } }

/-! ### Alert and discrete signals (R402, R443, R470, R479, R488, R555, R557) -/

/-- Is ALERT_L asserted? -/
def State.alert (s : State) : Bool :=
  decide (s.boot.state = 8) || s.log.recs.any (fun r => decide (r.severity ≠ 0 ∧ r.serial ≥ s.log.cursor.toNat)) || !s.boot.alertRead ||
  (!s.mgmt.lostRead && !s.mgmt.storedLost.isEmpty) ||
  [Half.west, Half.east].any (fun h => (s.halfPower h).on && decide (s.convCount h < 30)) ||
  [Half.west, Half.east].any (fun h => (s.halfPower h).on && !(s.halfPower h).refA && !(s.halfPower h).refB)

/-- DISCRETE_STATE of a half's connector (R557). -/
def State.discreteNow (s : State) (h : Half) : Byte :=
  let k := s.keeper h
  let p := s.halfPower h
  let n := b2n k.strapOpen * 128 + b2n (decide (s.west.straps.toNat % 64 ≠ s.east.straps.toNat % 64)) * 64 + b2n k.safeStop * 16 +
    b2n (decide (p.stop = 3)) * 8 + b2n s.alert * 4 + b2n p.on * 2 + b2n k.resetLow
  BitVec.ofNat 8 n

/-- KEEPER_HEARTBEAT: a keeper's heartbeat reaches the other keeper, which keeps the discrete state that it carries (R487, R557). -/
def execKeeperHeartbeat (h : Half) (s : State) : Host.Outcome State Fault Refusal :=
  .next (if (s.keeper h).health = 0 then s.setKeeper h { s.keeper h with discrete := s.discreteNow h } else s)

/-! ### The lead passes (R487) -/

/-- Colonies in RESTARTING begin again at step 1 (R487 step 3). -/
def State.restartAgain (s : State) (fails : List Nat) : State :=
  ((List.range 64).filter (fun c => decide ((s.colony c).state = csRestarting))).foldl (fun s c => s.restartHere c (!fails.contains c)) s

/-- The operand of a group's open solicited operation: at a comb root that its request has reached, else in the request. -/
def State.solicitedOperand (s : State) (g : Nat) : List W32 :=
  match (List.finRange 224).findSome? (fun i => s.wagOpen i (wagKey true g)) with
  | some o => o.operand
  | none =>
    ((s.net.wag.find? (fun f => f.pkt.down && decide (f.pkt.group.toNat = g ∧ f.pkt.len = 2) && isSolicited f.pkt.op.toNat)).map
      (fun f => f.pkt.data)).getD []

/-- The solicited operation that a group has open at the old lead ends ABORTED there, and the new lead issues it again (R338, R487). -/
def State.passSolicited (s : State) (h : Half) (g : Nat) : State :=
  let key := wagKey true g
  match (s.wagMember (.keeper h.other 0) key).openOp with
  | none => s
  | some w =>
    let s1 := (List.finRange 224).foldl (fun s i => s.setOpen i key none)
      { s with net := { s.net with wag := s.net.wag.filter (fun f => !(decide (f.pkt.group.toNat = g) && isSolicited f.pkt.op.toNat)) } }
    let s2 := (s1.wagAnswer h.other g 4 0).modMember (.keeper h 0) key (fun m => { m with openOp := some w })
    match s2.wagRoot 225 (keeperComb h) with
    | some r => s2.sendWag r.val 0 (mkWag (fld w 29 26) true g (s.wagMember (.keeper h 0) key).seq.toNat 0 (s.solicitedOperand g))
    | none => s2

/-- Steps 2 and 3 of R487 at the new lead: loads end ABORTED, a commit under way is aborted and its set pends again, segmented writes and
provisional sessions are dropped, open solicited operations pass to the new lead, restarts in progress begin again (R271, R338, R487,
R504, R509, R515). `fails`: colonies whose image cannot be delivered. -/
def State.takeLead (s : State) (h : Half) (fails : List Nat) : State :=
  let s1 := { s with lead := h }
  let s2 := (List.range 64).foldl (fun s c => s.abortLoad c) s1
  let s3 := s2.modMgmt (fun m =>
    { m with epoch := { m.epoch with committing := false },
             sessions := (m.sessions.filter (fun x => !x.provisional)).map (fun x => { x with seg := none }) })
  ((s3.passSolicited h 0x40).passSolicited h 0x41).restartAgain fails

/-- The lead passes to the other keeper, where that one is UP, and the former lead restarts from flash once (R487 step 4). -/
def State.handOver (s : State) (fails : List Nat) : State :=
  let old := s.lead
  if (s.keeper old.other).health = 0 then (s.takeLead old.other fails).keeperBoot old else s

/-- KEEPER_SILENT: the lead has been silent for 10 ms; the other keeper leads and logs it against the silent one. -/
def execKeeperSilent (fails : List Nat) (s : State) : Host.Outcome State Fault Refusal :=
  let old := s.lead
  .next (if (s.keeper old.other).health ≠ 0 then s
    else
      (s.takeLead old.other fails).sendErr (0xF0 + old.other.code)
        (mkErr 0x0702 1 7 (0xF0 + old.code) (s.eid (0xF0 + old.other.code) 0) 0 0 0))

/-- HAND_OVER: LEAD_CTRL = 1; any other value is out of range. BUSY while the other keeper is not UP. -/
def execHandOver (r : Req) (v : Byte) (fails : List Nat) (s : State) : Host.Outcome State Fault Refusal :=
  .next (s.writeReq r (oref 0x9041 0 0) [v] (fun s =>
    if v ≠ 1 then (coRange, s) else if (s.keeper s.lead.other).health ≠ 0 then (coBusy, s) else (coOk, s.handOver fails)))

end Sys2Proof.Machine
end

