-- ==== Sys2Proof/Machine/Safe.lean ====
section
/-!
DEFINITION. Dumps and the safe state (R474, R488–R490, R494, R555).
-/
namespace Sys2Proof.Machine

/-! ### Error records as bytes (R474) -/

/-- The 64 bytes of a record. -/
def recBytes (r : ErrRec) : List Byte :=
  let b := toLe 4 r.serial ++ toLe 2 r.code.toNat ++ [r.severity, r.kind] ++ toLe 4 r.inst ++ toLe 3 r.source.toNat ++ [r.flags] ++
    toLe 8 r.time.toNat ++ toLe 8 r.addr.toNat ++ toLe 8 r.info0.toNat ++ toLe 8 r.info1.toNat ++ [r.colony, r.orig] ++ toLe 2 r.rep ++
    toLe 4 r.cause ++ toLe 4 r.arrival
  b ++ toLe 4 (crc32 b).toNat

/-! ### The dump (R489, R490) -/

/-- The dump area, and the store of a half (R381, R489). -/
def dumpBase : Nat := 0xB00000000
def dumpStore (h : Half) : Nat := if h = .west then 0 else 111

/-- A RAM laid into a store from a byte address up. -/
def Store.layRam (x : Store) (a : Nat) (r : Ram) : Store :=
  r.words.foldl (fun x e => x.write (a + 4 * e.1) (wordBytes e.2)) x

/-- Register values laid into a store, eight bytes each. -/
def Store.layRegs (x : Store) (a : Nat) (vs : List W64) : Store := x.write a (vs.flatMap (fun v => toLe 8 v.toNat))

/-- Offsets of a register block. -/
def regBlock (first bytes : Nat) : List Nat := (List.range (bytes / 8)).map (fun k => first + 8 * k)

/-- The offsets of a cell record, in its order (R489). -/
def cellOffs : List Nat :=
  regBlock 0 0x200 ++ regBlock 0x1000 0x1000 ++ regBlock 0x2000 0x40 ++ regBlock 0x3000 0x80 ++ regBlock 0x4000 0x40 ++ regBlock 0x5000 0x40

/-- The record of a cell site: its registers, or all ones in the first 8 bytes where it cannot be read. -/
def State.cellRecord (s : State) (c : CellAt) : List W64 :=
  if s.cellReach c && !(s.cell c).inReset then cellOffs.map (fun o => (s.cellRead c o).1) else [BitVec.allOnes 64]

/-- The number of a comb in its half's dump (R489). -/
def combNo (i : Site) : Nat := rowOf i * 8 + colOf i % 8

/-- A comb's part of a dump: steward memory, the registers of 0xB9, the error queue, the cell records. -/
def State.dumpComb (s : State) (x : Store) (i : Site) : Store :=
  let n := combNo i
  let k := s.comb i
  let x1 := x.layRam (dumpBase + 0x4200000 + n * 0x200000) k.stewardMem
  let x2 := x1.layRegs (dumpBase + 0x12200000 + n * 0x20000) ((regBlock 0 0x10000).map (fun o => (s.stewardRead i o).1))
  let x3 := x2.write (dumpBase + 0x12200000 + n * 0x20000 + 0x10000) (k.erq.flatMap recBytes)
  (List.finRange 192).foldl (fun x p => x.layRegs (dumpBase + 0x13000000 + (n * 192 + p.val) * 0x2000) (s.cellRecord ⟨i, p⟩)) x3

/-- The cells that contained and panel-fatal records of the last second name, in log order, each once, at most 32 (R489). -/
def State.namedCells (s : State) (time : W64) : List Nat :=
  let rs := s.log.recs.filter (fun r => decide (r.severity ≠ 0 ∧ r.kind = 1 ∧ r.time.toNat ≤ time.toNat ∧ time.toNat < r.time.toNat + 1000000000))
  ((rs.map (·.inst)).foldl (fun l n => if l.contains n then l else l ++ [n]) []).take 32

/-- The full images of the named cells. -/
def State.dumpCells (s : State) (x : Store) (named : List Nat) : Store :=
  (List.range named.length).foldl (fun x k =>
    match cellOfInst (nth 0 named k) with
    | some c =>
      let a := dumpBase + 0x1D800000 + k * 0x200000
      (x.layRam a (s.cell c).cmem).layRam (a + 1835008) (s.cell c).acc
    | none => x) x

/-- The dump header (R490). -/
def State.dumpHeader (s : State) (h : Half) (trigger : Nat) (r : Option ErrRec) (named : List Nat) (complete : Bool) (digest : List Byte) :
    List Byte :=
  let b := toLe 4 0x504D5544 ++ toLe 2 1 ++ toLe 1 h.code ++ toLe 1 trigger ++ toLe 8 s.leadTime.toNat ++
    toLe 4 (match r with | some x => x.serial | none => 0) ++ toLe 4 s.log.recs.length ++ toLe 1 named.length ++ toLe 1 (b2n complete) ++
    List.replicate 6 0 ++ (match r with | some x => recBytes x | none => List.replicate 64 0) ++
    fitTo 0 256 (named.flatMap (fun n => toLe 2 n ++ List.replicate 6 0)) ++ fitTo 0 64 digest
  b ++ fitTo 0 64 (Config.ed25519Sign s.ident.deviceSeed b) ++ List.replicate 3616 0

/-- Can the dump store of a half be written? -/
def State.dumpable (s : State) (h : Half) : Bool := decide ((s.store (dumpStore h)).stb = 2)

/-- The last 56 contained or panel-fatal records (R490). -/
def Log.lastSevere (l : Log) : List ErrRec :=
  let rs := l.recs.filter (fun r => decide (r.severity ≠ 0))
  rs.drop (rs.length - 56)

/-- A half's dump: its keeper writes the dump area and a summary in its flash; only the summary where the store cannot be written. A keeper
that is down writes nothing. `trigger`: 0 safe state, with its record; 1 DUMP_CTRL, with no cell images. -/
def State.dumpHalf (s : State) (h : Half) (trigger : Nat) (r : Option ErrRec) : State :=
  let k := s.keeper h
  if k.health ≠ 0 then s
  else
    let named := if trigger = 0 then (s.namedCells s.leadTime).filter (fun n =>
        match cellOfInst n with | some c => decide (halfOf c.site = h) | none => false) else []
    let st := dumpStore h
    let note (s : State) (hdr : List Byte) (n : Nat) : State :=
      s.setKeeper h { s.keeper h with dumpState := n, summaries := ((hdr ++ s.log.lastSevere.flatMap recBytes) :: (s.keeper h).summaries).take 8 }
    if s.dumpable h then
      let x0 := ((s.store st).zeroRange dumpBase 0xF0000000).write (dumpBase + 0x100000) (s.log.recs.flatMap recBytes)
      let x1 := x0.layRam (dumpBase + 0x200000) k.mem
      let x2 := s.dumpCells ((sitesOf h).foldl (fun x i => s.dumpComb x i) x1) named
      let hdr := s.dumpHeader h trigger r named true (Config.sha512 (x2.bytes (dumpBase + 0x100000) 0x21700000))
      note (s.setStore st (x2.write dumpBase hdr)) hdr 2
    else note s (s.dumpHeader h trigger r named false (List.replicate 64 0)) 3

/-- Both halves' dumps. -/
def State.dumps (s : State) (trigger : Nat) (r : Option ErrRec) : State := (s.dumpHalf .west trigger r).dumpHalf .east trigger r

/-- DUMP_CTRL (R494): 1 DUMP, taken without quiescing; 2 RELEASE. -/
def State.dumpCtrl (s : State) (v : Nat) : Nat × State :=
  if v = 1 then (coOk, s.dumps 1 none)
  else if v = 2 then
    (coOk, (s.setKeeper .west { s.keeper .west with dumpState := 0 }).setKeeper .east { s.keeper .east with dumpState := 0 })
  else (coRange, s)

/-- DUMP. -/
def execDump (r : Req) (s : State) : Host.Outcome State Fault Refusal := .next (s.writeReq r (oref 0x9033 0 0) [1] (fun s => s.dumpCtrl 1))

/-- DUMP_RELEASE. -/
def execDumpRelease (r : Req) (s : State) : Host.Outcome State Fault Refusal := .next (s.writeReq r (oref 0x9033 0 0) [2] (fun s => s.dumpCtrl 2))

/-! ### The safe state (R488) -/

/-- A bound cell is quiesced; a sleeping one wakes first (R425). -/
def State.safeQuiesce (s : State) (c : CellAt) : State := if s.cellOff c then s else (s.accessWake c).quiesce c

/-- S1–S4. `r` is the triggering record; none for SAFE_STOP_L. A panel that is in the safe state stays as it is. -/
def State.safeState (s : State) (r : Option ErrRec) : State :=
  if s.boot.state = 8 then s
  else
    let s1 := { s with boot := { s.boot with state := 8, wave := 0xFF } }
    let s2 := s1.sessions.foldl (fun s x => s.endSession x 2) s1
    let live := (List.range 64).filter (fun c => decide ((s2.colony c).state ≥ csPlaced))
    let s3 := live.foldl (fun s c => (s.boundCells c).foldl State.safeQuiesce s) s2
    let s4 := s3.dumps 0 r
    live.foldl (fun s c => (((s.abortLoad c).dropSessions c).unplace c).setCol c csDefined crNone) s4

/-- SAFE_STOP: the line of a connector is low for 1 ms or more, or is released. -/
def execSafeStop (h : Half) (low : Bool) (s : State) : Host.Outcome State Fault Refusal :=
  let s1 := s.setKeeper h { s.keeper h with safeStop := low }
  .next (if low ∧ (s.keeper s.lead).health = 0 then s1.safeState none else s1)

end Sys2Proof.Machine
end

