-- ==== Sys2Proof/Machine/Log.lean ====
section
/-!
DEFINITION. Comb error queues, the panel log, escalation, containment and fences (R5, R475–R484, R494).
-/
namespace Sys2Proof.Machine

/-! ### Comb error queues (R475, R478, R492) -/

/-- Is a record on its way to a site byte? -/
def State.errWaits (s : State) (site : Nat) (r : ErrRec) : Bool := s.net.err.contains { site := site, rec_ := r }

/-- The panel with a record taken off its way. -/
def State.takeErr (s : State) (site : Nat) (r : ErrRec) : State :=
  { s with net := { s.net with err := s.net.err.erase { site := site, rec_ := r } } }

/-- A record enters a comb's queue, with its arrival time; with 63 entries in use it is dropped and counted, and the first drop asks for an
overflow record. -/
def Comb.enqueue (k : Comb) (r : ErrRec) (arrival : W32) : Comb :=
  if k.erq.length ≥ 63 then
    { k with erqDropped := satInc k.erqDropped, erqErr := setBit k.erqErr 1 true, erqPending := k.erqPending || !bit k.erqErr 1 }
  else { k with erq := k.erq ++ [{ r with arrival := arrival.toNat }] }

/-- ERR_RECORD: a record reaches the steward of a comb. -/
def execErrRecord (i : Site) (r : ErrRec) (arrival : W32) (s : State) : Host.Outcome State Fault Refusal :=
  .next (if s.errWaits i.val r then (s.takeErr i.val r).modComb i (fun k => k.enqueue r arrival) else s)

/-- ERQ_OVERFLOW_RECORD: it takes the entry kept free for it; INFO1 holds the count of dropped records. -/
def execErqOverflowRecord (i : Site) (arrival : W32) (s : State) : Host.Outcome State Fault Refusal :=
  let k := s.comb i
  .next (if k.erqPending ∧ k.erq.length < 64 then
    s.modComb i (fun k =>
      { k with erqPending := false,
               erq := k.erq ++ [{ mkErr 0x0202 1 3 i.val (s.eid i.val 0xB9) 0 (k.erqErr.setWidth 64) (k.erqDropped.setWidth 64) with
                                    arrival := arrival.toNat }] })
  else s)

/-- The keeper that the record at the head of a queue has been sent to: the lead keeper, or the other after a time without ACK (R475). -/
def State.erqTarget (s : State) (i : Site) : Half :=
  match (s.comb i).erqSent, (s.comb i).erq with
  | e :: _, r :: _ => if e.2 = r then e.1 else s.lead
  | _, _ => s.lead

/-- ERR_RECORD_ACK_TIMEOUT: the record at the head goes to the other keeper. -/
def execErrRecordAckTimeout (i : Site) (s : State) : Host.Outcome State Fault Refusal :=
  .next (match (s.comb i).erq with
    | [] => s
    | r :: _ => let t := (s.erqTarget i).other; s.modComb i (fun k => { k with erqSent := [(t, r)] }))

/-- ERQ_OVERFLOWS_READ. -/
def execErqOverflowsRead (i : Site) (s : State) : Host.Outcome State Fault Refusal := .next (s.modComb i (fun k => { k with erqDropped := 0 }))

/-! ### The panel log (R479) -/

/-- The records after the one that gives way to a new record: the oldest corrected one, else the oldest. -/
def makeRoom (l : List ErrRec) : List ErrRec := if l.any (fun r => r.severity = 0) then l.eraseP (fun r => r.severity = 0) else l.drop 1

/-- A record enters the log, and the persistent log where it is contained or panel-fatal. -/
def Log.add (l : Log) (r : ErrRec) : Log :=
  let full := decide (l.recs.length ≥ 16384)
  let p := l.persistent ++ [r]
  { l with
    next := l.next + 1
    recs := (if full then makeRoom l.recs else l.recs) ++ [r]
    overwritten := if full then l.overwritten + 1 else l.overwritten
    persistent := if r.severity = 0 then l.persistent else p.drop (p.length - 4096) }

/-- The record with a serial, changed. -/
def Log.amend (l : Log) (serial : Nat) (f : ErrRec → ErrRec) : Log :=
  let g (r : ErrRec) : ErrRec := if r.serial = serial then f r else r
  { l with recs := l.recs.map g, persistent := l.persistent.map g }

/-- The open record of a domain (R477). -/
def Log.openOf (l : Log) (kind : Byte) (inst : Nat) : Option (OpenRec × ErrRec) :=
  l.opens.findSome? (fun o => (l.recs.find? (fun r => decide (r.serial = o.serial ∧ r.kind = kind ∧ r.inst = inst))).map (fun r => (o, r)))

/-- Does a new record merge into an open one: it arrived at the same steward within 250 watch-clock periods, or its source is a unit that
the handling has reset, quiesced, switched off or fenced (R477)? -/
def mergesWith (r : ErrRec) (o : OpenRec) (a : ErrRec) : Bool :=
  let gap := (2 ^ 32 + r.arrival - a.arrival) % 2 ^ 32
  (decide (fld r.source 23 8 = fld a.source 23 8) && decide (gap ≤ 250 ∨ 2 ^ 32 - gap ≤ 250)) || o.units.contains r.source

/-! ### Fences (R476, R480, R483) -/

/-- The Fence column of R476: 0 none, 1 always, 2 on the second contained error within 24 h, 3 on the second try of a drain. -/
def fenceRule (code : Nat) : Nat :=
  if [0x0001, 0x0107, 0x0108, 0x020A, 0x0302, 0x0303, 0x0304, 0x0402].contains code then 1
  else if [0x0102, 0x0103, 0x0201, 0x0204].contains code then 2
  else if code = 0x0207 then 3
  else 0

/-- Was there an earlier contained error of the domain within 24 h? Records with a later time are of an earlier run (log 56). -/
def State.hadContained (s : State) (kind : Byte) (inst : Nat) : Bool :=
  (s.log.recs ++ s.log.persistent).any (fun r =>
    decide (r.severity = 1 ∧ r.kind = kind ∧ r.inst = inst) &&
    decide (s.leadTime.toNat < r.time.toNat ∨ s.leadTime.toNat - r.time.toNat ≤ 86400000000000))

/-- Does a contained record fence its domain? A store only where its store base has fenced it, or the operator names it. -/
def State.fenceDue (s : State) (r : ErrRec) : Bool :=
  let rule := fenceRule r.code.toNat
  if r.kind = 4 then decide (r.code = 0x0001) || decide ((s.store r.inst).stb = 3)
  else if r.kind = 0 ∨ r.kind > 4 then false
  else if rule = 1 then true
  else if rule = 2 then s.hadContained r.kind r.inst
  else if rule = 3 then (match (s.combN r.inst).resetRun with | some x => decide (x.tries = 2) | none => false)
  else false

/-- Step 4 of R483 for a domain, and its entry in the fence map. -/
def State.fenceDomain (s : State) (kind inst code : Nat) : State :=
  let s1 :=
    if kind = 1 then (match cellOfInst inst with | some c => s.fenceCell c | none => s)
    else if kind = 2 then (if h : inst / 256 < 224 then s.fenceFrame ⟨inst / 256, h⟩ (inst % 256) (code == 0x0304) else s)
    else if kind = 3 then (if h : inst < 224 then
        (s.fenceComb ⟨inst, h⟩ (code == 0x0302 || code == 0x0303)).modComb ⟨inst, h⟩ (fun k => { k with resetRun := none }) else s)
    else if kind = 4 then s.fenceStoreUnit inst
    else s
  s1.addFence kind inst code

/-- A shortfall against R1 after a fence is recorded, contained against the panel (R5). -/
def State.checkMinimum (s : State) : State :=
  if s.belowMinimum then s.sendErr (0xF0 + s.lead.code) (mkErr 0x0801 1 9 0 (s.eid (0xF0 + s.lead.code) 0) 0 0 0) else s

/-! ### Handling (R480, R481) -/

/-- Colonies with state in a half: a segment, an extent or a context run there (R481). -/
def State.colsOfHalf (s : State) (h : Half) : List Nat :=
  (List.range 64).filter (fun c =>
    let k := s.colony c
    decide (k.state ≥ csPlaced) &&
    (k.placement.any (fun e => decide (fld e 23 16 = s.swarmPanel.toNat) && siteIn h (fld e 15 8)) ||
      k.extents.any (fun x => decide (x.1 % 8 < 4) == decide (h = .west)) ||
      (s.work c).contexts.any (fun e => e.2.isSome && siteIn h e.1)))

/-- Endpoints of a domain's units: its cells, and a comb's own endpoints. -/
def State.unitsOf (s : State) (kind inst : Nat) : List Eid :=
  let cells (i : Site) (ps : List Phys) : List Eid := ps.map (fun p => s.eidOf (.cell i p))
  if kind = 1 then (match cellOfInst inst with | some c => cells c.site [c.phys] | none => [])
  else if kind = 2 then (if h : inst / 256 < 224 then cells ⟨inst / 256, h⟩ (frameSites (inst % 256)) else [])
  else if kind = 3 then (if h : inst < 224 then cells ⟨inst, h⟩ (List.finRange 192) ++ [0xBA, 0xBB, 0xBC, 0xBD].map (fun e => s.eid inst e) else [])
  else if kind = 4 then [s.storeEid inst]
  else []

/-- The action for a contained record of a domain: the fence it calls for, then the colonies with state there restart (R480). -/
def State.contain (s : State) (r : ErrRec) (fails : List Nat) : State :=
  let kind := r.kind.toNat
  let cols := if 1 ≤ kind ∧ kind ≤ 4 ∨ kind = 6 then s.colsOf kind r.inst else []
  let s1 := if bit r.flags 2 then (s.fenceDomain kind r.inst r.code.toNat).checkMinimum else s
  let s2 := s1.restartAll cols fails
  if kind = 7 then (if r.inst = 0xF0 + s.lead.code then s2.handOver fails else s2.keeperBoot s.lead.other) else s2

/-- The action for a panel-fatal record: a half stops, and the colonies with state there restart; a record against the panel, or an
escalated one, takes the safe state (R481). -/
def State.fatal (s : State) (r : ErrRec) (fails : List Nat) : State :=
  if r.kind = 8 ∧ bit r.flags 0 = false then
    let h : Half := if r.inst = 0 then .west else .east
    let cols := s.colsOfHalf h
    (s.halfStop h (if r.code = 0x0804 then 3 else 4)).restartAll cols fails
  else s.safeState (some r)

/-- A record as the lead keeper enters it in the log (R474, R477, R480). -/
def State.stamp (s : State) (r : ErrRec) (by_ : Option ErrRec) : ErrRec :=
  let sev := match by_ with | some _ => min 2 (r.orig.toNat + 1) | none => r.orig.toNat
  let cols := if sev ≠ 1 then [] else s.colsOf r.kind.toNat r.inst
  let due := decide (sev = 1) && s.fenceDue { r with severity := 1 }
  { r with
    serial := s.log.next, severity := BitVec.ofNat 8 sev, time := s.leadTime
    flags := BitVec.ofNat 8 (b2n by_.isSome + 2 * s.lead.code + 4 * b2n due)
    colony := match cols with | [c] => BitVec.ofNat 8 c | _ => 0xFF
    cause := match by_ with | some a => a.serial | none => 0 }

/-- A record that neither merges nor is refused: logged, open while it is not corrected, and acted on (R477, R479). -/
def State.logNew (s : State) (r : ErrRec) (fails : List Nat) : State :=
  let cells := (s.colsOf r.kind.toNat r.inst).flatMap (fun c => (s.boundCells c).map (fun x => s.eidOf (.cell x.site x.phys)))
  let o : OpenRec := { serial := r.serial, units := cells ++ (if bit r.flags 2 then s.unitsOf r.kind.toNat r.inst else []) }
  let s1 := { s with log := { (s.log.add r) with opens := if r.severity = 0 then s.log.opens else s.log.opens ++ [o] } }
  if r.severity = 0 then s1 else if r.severity = 1 then s1.contain r fails else s1.fatal r fails

/-- The lead keeper logs a record, mirrors it, and acts on it; a record of an open domain merges or escalates (R477, R479). `fails`:
colonies whose image cannot be delivered. -/
def State.logRecord (s : State) (r : ErrRec) (fails : List Nat) : State :=
  match s.log.openOf r.kind r.inst with
  | some (o, a) =>
    if mergesWith r o a then { s with log := s.log.amend a.serial (fun x => { x with rep := min 65535 (x.rep + 1) }) }
    else s.logNew (s.stamp r (some a)) fails
  | none => s.logNew (s.stamp r none) fails

/-- Records whose handling has closed are no longer open. -/
def State.closeHandling (s : State) (closed : List Nat) : State :=
  { s with log := { s.log with opens := s.log.opens.filter (fun o => !closed.contains o.serial) } }

/-- ERROR_RECORD_LOG: the record at the head of a comb's queue, or a keeper's own oldest one, reaches the lead keeper's log. `closed`: open
records whose handling has closed by then (log 55). -/
def execErrorRecordLog (src : LogFrom) (closed fails : List Nat) (s : State) : Host.Outcome State Fault Refusal :=
  let s1 := s.closeHandling closed
  .next (if (s.keeper s.lead).health ≠ 0 then s
    else
      match src with
      | .comb i =>
        match (s.comb i).erq with
        | r :: rest =>
          if s.erqTarget i ≠ s.lead then s
          else (s1.modComb i (fun k => { k with erq := rest, erqSent := [] })).logRecord r fails
        | [] => s
      | .keeper h =>
        match s.net.err.find? (fun f => f.site = 0xF0 + h.code) with
        | some f => (s1.takeErr f.site f.rec_).logRecord f.rec_ fails
        | none => s)

/-! ### FENCE_CTRL (R484, R491, R494) -/

/-- Does a domain of kinds 1–4 exist? -/
def domainExists (kind inst : Nat) : Bool :=
  decide (kind = 1 ∧ inst / 256 < 224 ∧ inst % 256 < 192) || decide (kind = 2 ∧ inst / 256 < 224 ∧ inst % 256 < 16) ||
  decide (kind = 3 ∧ inst < 224) || decide (kind = 4 ∧ inst < 112)

/-- Is a domain fenced, at birth or in service? -/
def State.isFenced (s : State) (kind inst : Nat) : Bool :=
  s.log.fenced kind inst ||
  (if kind = 1 then (match cellOfInst inst with | some c => (s.comb c.site).siteFenced c.phys | none => false)
   else if kind = 3 then decide ((s.combN inst).state ≠ 0)
   else if kind = 4 then decide ((s.store inst).state ≠ 0)
   else false)

/-- A write of FENCE_CTRL: OP, KIND, two zero bytes, INSTANCE. FENCE logs a contained OPERATOR_FENCE and acts; RELEASE is noted for the next
cold start, and changes nothing where the domain has no service fence. -/
def State.fenceCtrl (s : State) (d : List Byte) (fails : List Nat) : Nat × State :=
  let op := fieldAt d 0 1
  let kind := fieldAt d 1 1
  let inst := fieldAt d 4 4
  if (op ≠ 1 ∧ op ≠ 2) ∨ fieldAt d 2 2 ≠ 0 ∨ !domainExists kind inst then (coRange, s)
  else if op = 1 then
    if s.isFenced kind inst then (coBusy, s)
    else (coOk, s.logRecord (mkErr 0x0001 1 kind inst (s.eid (0xF0 + s.lead.code) 0) 0 0 0) fails)
  else
    (coOk, { s with log := { s.log with
      released := s.log.released ++ s.log.fences.filter (fun e => decide (e.kind = kind ∧ e.inst = inst) && !s.log.released.contains e) } })

/-- OPERATOR_FENCE: a write of FENCE_CTRL whose OP is not RELEASE. -/
def execOperatorFence (r : Req) (d : List Byte) (fails : List Nat) (s : State) : Host.Outcome State Fault Refusal :=
  .next (if fieldAt d 0 1 = 2 then s else s.writeReq r (oref 0x9011 0 0) d (fun s => s.fenceCtrl d fails))

/-- FENCE_RELEASE: a write of FENCE_CTRL whose OP is RELEASE. -/
def execFenceRelease (r : Req) (d : List Byte) (s : State) : Host.Outcome State Fault Refusal :=
  .next (if fieldAt d 0 1 ≠ 2 then s else s.writeReq r (oref 0x9011 0 0) d (fun s => s.fenceCtrl d []))

end Sys2Proof.Machine
end

