-- ==== Sys2Proof/Machine/Ciard.lean ====
section
/-!
DEFINITION. What a READ of each Ciard object returns (R524–R540 and the rules that they name).
-/
namespace Sys2Proof.Machine

/-! ### Values built from the state -/

/-- F32 values as bytes, and a whole list of them. -/
def f32s (l : List W32) : List Byte := l.flatMap wordBytes

/-- A temperature in 1/16 °C as F32. -/
def degF32 (v : BitVec 16) : W32 :=
  if v.toInt < 0 then ratF32 v.toInt.natAbs 16 ||| 0x80000000 else ratF32 v.toNat 16

/-- The canonical NaN (R66): what a faulted sensor reads (R441). -/
def f32NaN : W32 := 0x7FC00000

/-- The birth defect map (R32). Positions that the model does not list are good. -/
def State.birthBytes (s : State) : List Byte :=
  let b := s.birth
  let comb (n : Nat) : List Byte :=
    toLe 1 n ++ toLe 1 (b2n (b.combs.contains n)) ++ [0, 0] ++
      (List.range 16).flatMap (fun f => toLe 2 (Tbl.get 0xFFF b.good (n * 16 + f)).toNat) ++ toLe 4 (Tbl.get 0 b.defects n).toNat ++ List.replicate 8 0
  let store (n : Nat) : List Byte :=
    toLe 1 n ++ toLe 1 (b2n (b.stores.contains n)) ++ [0, 0] ++ toLe 4 (Tbl.get 0 b.defects (0x1000 + n)).toNat ++ List.replicate 8 0
  toLe 4 0x4D44424B ++ toLe 2 1 ++ toLe 1 ((List.range 224).filter (fun n => !b.combs.contains n)).length ++
    toLe 1 ((List.range 112).filter (fun n => !b.stores.contains n)).length ++ fitTo 0 16 b.serial ++ toLe 8 b.built.toNat ++
    List.replicate 32 0 ++ (List.range 224).flatMap comb ++ (List.range 112).flatMap store ++ fitTo 0 64 b.sig

/-- BOOT_REPORT (R470); empty before a start. -/
def State.bootReport (s : State) : List Byte :=
  if s.boot.state = 0 then []
  else
    (List.range 224).map (fun n => BitVec.ofNat 8 (Tbl.get 0 s.boot.combs n)) ++
      (List.range 112).map (fun n => BitVec.ofNat 8 (Tbl.get 0 s.boot.stores n)) ++ toLe 8 s.boot.reference.toNat

/-- IMAGE_INFO of a set of a half (R472). -/
def State.imageInfo (s : State) (h : Half) (b : Bool) : List Byte :=
  let k := s.keeper h
  let x := if b then k.setB else k.setA
  toLe 4 x.keeper.version.toNat ++ toLe 2 x.keeper.svn.toNat ++ toLe 1 (b2n x.valid) ++ toLe 1 (b2n (decide (k.health = 0) && k.activeB == b)) ++
    toLe 4 x.steward.version.toNat ++ [0, 0, 0, 0]

/-- CIARD_SESSIONS (R523); a provisional session has ROLE 0 (log 57). -/
def State.sessionList (s : State) : List Byte :=
  s.mgmt.sessions.flatMap (fun m =>
    toLe 4 m.id.toNat ++ toLe 1 (if m.provisional then 0 else m.role) ++ [0] ++ toLe 2 (min 65535 ((s.leadTime.toNat - m.last.toNat) / 1000000000)))

/-- CAN_NODE_ID (R498): 63 where a strap reads open or the halves differ. -/
def State.canNode (s : State) : Nat :=
  if (s.keeper s.lead).strapOpen ∨ s.west.straps.toNat % 64 ≠ s.east.straps.toNat % 64 then 63 else (s.keeper s.lead).straps.toNat % 64

/-- A CAN controller by its subindex: West 0 and 1, East 0 and 1 (R523). -/
def State.canBus (s : State) (n : Nat) : CanBus :=
  let k := if n < 2 then s.west else s.east
  if n % 2 = 0 then k.can0 else k.can1

/-- CAN_STATUS (R523). -/
def CanBus.bytes (b : CanBus) : List Byte := toLe 1 b.state ++ toLe 1 (b2n b.inverted) ++ toLe 1 b.tec ++ toLe 1 b.rec_

/-- COLONY_CTRL_REGION: a page reference to the region's first page (R227, R255). -/
def ColonyWork.regionRef (w : ColonyWork) : Nat :=
  match w.region with
  | some (site, st, u) => 2 ^ 63 + site * 2 ^ 49 + st * 2 ^ 42 + u * 2 ^ 22
  | none => 0

/-- SESSIONS_OPEN: the open sessions that hold the colony, as home or peer (log 42). -/
def State.sessionsOpen (s : State) (c : Nat) : Nat := (s.sessions.filter (fun x => x.live.contains c)).length

/-- WEIGHT_SET_ID of a bank (R259, R276). -/
def Bank.setId (b : Bank) : Nat := if b.valid then fieldAt b.manifest 16 8 else 0

/-- STORE_FREE_64K: the units in no extent and outside the dump area (R381, R396). -/
def State.storeFree (s : State) (n : Nat) : Nat :=
  let used := (List.range 64).foldl (fun a c => a + ((s.colony c).extents.filter (fun x => x.1 = n)).foldl (fun a x => a + x.2.2) 0) 0
  (if n = 0 ∨ n = 111 then 720896 else 786432) - used

/-- STORE_EXTENTS: each enabled STB_EXT, in colony order. -/
def Store.extents (x : Store) : List Byte := (List.range 64).flatMap (fun c => if bit (x.extent c) 63 then toLe 8 (x.extent c).toNat else [])

/-- LOG_STATUS (R494). -/
def Log.status (l : Log) : List Byte :=
  toLe 4 (match l.recs with | r :: _ => r.serial | [] => 0) ++ toLe 4 (match l.recs.getLast? with | some r => r.serial | none => 0) ++
    toLe 4 l.overwritten ++ toLe 4 l.opens.length

/-- FENCE_MAP (R494). -/
def Log.fenceBytes (l : Log) : List Byte := l.fences.flatMap (fun e => toLe 1 e.kind ++ [0] ++ toLe 4 e.inst ++ toLe 2 e.code)

/-- The link end whose state a link number reports: an octet's is its first lane's (log 57). -/
def linkEnd (n : Nat) : Option LinkAt :=
  match linkOfNo n with
  | some (.comb site i) => if h : site < 224 ∧ i < 12 then some (.comb ⟨site, h.1⟩ ⟨i, h.2⟩) else none
  | some (.octet o) => (octetLanes o).head?
  | some (.keeper h) => some (.keeper h)
  | none => none

/-- The link end of an instance. -/
def State.linkI (s : State) (n : Nat) : Link :=
  match linkEnd n with
  | some l => s.linkAt l
  | none => Link.reset

/-- SVC_PORT_STATE (R293). -/
def State.portState (s : State) (p : Nat) : Nat :=
  if s.octetMode (p / 2) ≠ 3 then 0 else if (s.vport p).linkUp then 2 else 1

/-- Half by subindex. -/
def halfOfSub (n : Nat) : Half := if n = 0 then .west else .east

/-! ### Values that the panel gives -/

/-- 1000h, 2000h: identity, sessions, images, the panel. None: a value that software writes. -/
def State.read12 (s : State) (idx sub : Nat) : Option (List Byte) :=
  let k := s.keeper (halfOfSub sub)
  if idx = 0x1001 then some [0x46, 0x4A, 0x58, 0x2D, 0x50, 0x32, 0x32, 0x34]
  else if idx = 0x1002 then some [0x41, 0x31]
  else if idx = 0x1003 then some (fitTo 0 16 s.birth.serial)
  else if idx = 0x1004 ∨ idx = 0x1006 then some [1, 1]
  else if idx = 0x1005 then some (fitTo 0 6 s.ident.macBase)
  else if idx = 0x1010 then some s.sessionList
  else if idx = 0x1012 then
    some (toLe 8 s.mgmt.requests.toNat ++ toLe 8 s.mgmt.failures.toNat ++ toLe 8 s.mgmt.tagDrops.toNat ++ toLe 8 s.mgmt.otherDrops.toNat)
  else if idx = 0x1013 then some (s.canBus sub).bytes
  else if idx = 0x1015 then some (toLe 1 s.canNode)
  else if idx = 0x1018 then some (s.ident.macBase.take 5 ++ [nth 0 s.ident.macBase 5 + BitVec.ofNat 8 sub])
  else if idx = 0x1020 then some (s.imageInfo (halfOfSub (sub / 2)) (sub % 2 == 1))
  else if idx = 0x1022 then some (toLe 1 k.setState)
  else if idx = 0x1025 then some (toLe 1 s.mgmt.rollState ++ toLe 1 s.mgmt.rollSite ++ toLe 2 s.mgmt.rollDone)
  else if idx = 0x2001 then some (toLe 1 s.boot.state)
  else if idx = 0x2002 then some (toLe 1 s.boot.wave)
  else if idx = 0x2004 then some s.bootReport
  else if idx = 0x2006 then some (s.mgmt.storedLost.flatMap (fun o => toLe 2 o.idx.toNat ++ toLe 2 o.inst.toNat ++ [o.sub, 0, 0, 0]))
  else if idx = 0x2010 then some s.birthBytes
  else if idx = 0x2021 then
    some (toLe 4 s.mgmt.epoch.committed ++ toLe 1 (b2n s.mgmt.epoch.committing) ++ toLe 1 s.mgmt.epoch.last ++ toLe 2 s.mgmt.epoch.pending.length)
  else if idx = 0x2024 then some (fitTo 0 8 s.mgmt.digest)
  else if idx = 0x2040 then some [k.straps]
  else if idx = 0x2041 then some [if k.health = 0 ∨ k.health = 3 then s.discreteNow (halfOfSub sub) else k.discrete]
  else none

/-- 3000h, 4000h: combs and cells. -/
def State.read34 (s : State) (idx inst sub : Nat) : Option (List Byte) :=
  let cell (off : Nat) : Option (List Byte) := (s.cellInstance inst).map (fun c => toLe 8 (s.cellRegRead c off).toNat)
  if idx = 0x3001 then some (toLe 1 (s.combN inst).state)
  else if idx = 0x3010 then some (toLe 8 ((s.combN inst).mapWord sub).toNat)
  else if idx = 0x3020 then some (toLe 8 (s.combN inst).netCounters.toNat)
  else if idx = 0x4001 then cell 0x0000
  else if idx = 0x4002 then cell 0x0008
  else if idx = 0x4003 then cell 0x0018
  else if idx = 0x4004 then cell 0x0020
  else if idx = 0x4010 then cell 0x2000
  else if idx = 0x4020 then cell 0x0108
  else if idx = 0x4021 then cell 0x0110
  else none

/-- 5000h, 7000h: colonies, weights, stores. -/
def State.read57 (s : State) (idx inst sub : Nat) : Option (List Byte) :=
  let k := s.colony inst
  let w := s.work inst
  let x := s.store inst
  if idx = 0x5001 then some (toLe 1 k.state)
  else if idx = 0x5003 then some (toLe 1 k.reason)
  else if idx = 0x5004 then some (toLe 4 k.restarts.toNat)
  else if idx = 0x5013 then some (bytes64 k.placement)
  else if idx = 0x5015 then some (toLe 4 (w.slotBase.getD 0xFFFFFFFF))
  else if idx = 0x5017 then some (toLe 8 w.regionRef)
  else if idx = 0x5020 then some (toLe 8 (if inst = 0xFF then s.overhead else k.energy).toNat)
  else if idx = 0x5030 then some (toLe 4 (s.sessionsOpen inst))
  else if idx = 0x5033 then some (toLe 8 (s.rg64 inst rgAdmit))
  else if idx = 0x5052 then some (toLe 1 w.imageState)
  else if idx = 0x7001 then some (toLe 1 x.state)
  else if idx = 0x7002 then some (toLe 8 x.eccTotal.toNat)
  else if idx = 0x7003 then some x.testMap
  else if idx = 0x7005 then some (toLe 4 (s.storeFree inst))
  else if idx = 0x7006 then some x.extents
  else if idx = 0x7101 then some (toLe 1 w.load.state)
  else if idx = 0x7102 then some (toLe 1 w.load.reason)
  else if idx = 0x7103 then some (toLe 4 w.load.progress)
  else if idx = 0x7106 then some (toLe 8 (w.bank sub).setId)
  else if idx = 0x7107 then some (toLe 4 w.mismatches.toNat ++ toLe 4 w.passes.toNat)
  else none

/-- 6000h, B000h: links, lasers, service ports. -/
def State.read6B (s : State) (idx inst : Nat) : Option (List Byte) :=
  let l := s.linkI inst
  if idx = 0x6001 then some (toLe 1 l.state)
  else if idx = 0x6002 then some (toLe 1 l.reason)
  else if idx = 0x6004 then some (bytes64 l.totals)
  else if idx = 0x6005 then some (fitTo 0 35 l.peer)
  else if idx = 0x6020 then some (toLe 1 (s.laser inst).state)
  else if idx = 0x6021 then some (f32s (fitTo 0 4 (s.laser inst).tele))
  else if idx = 0x6032 then some (toLe 1 s.mgmt.census)
  else if idx = 0x6033 then some l.census
  else if idx = 0xB001 then some (toLe 1 (s.portState inst))
  else if idx = 0xB010 then some (bytes64 (fitTo 0 8 (s.vport inst).counters))
  else none

/-- 8000h: power, clock, thermal. -/
def State.read8 (s : State) (idx inst sub : Nat) : Option (List Byte) :=
  let w := (s.combN inst).pw
  let h := halfOfSub sub
  let p := s.halfPower h
  if idx = 0x8001 then some (wordBytes p.volt ++ wordBytes p.amp ++ toLe 4 (s.convCount h) ++ toLe 4 (s.halfLimit h))
  else if idx = 0x8002 then some (toLe 1 (s.conv inst).state)
  else if idx = 0x8003 then some (f32s (fitTo 0 5 (s.conv inst).tele))
  else if idx = 0x8004 then some (toLe 1 (s.blade inst).state)
  else if idx = 0x8005 then some (wordBytes (s.blade inst).volt ++ wordBytes (s.blade inst).amp ++ toLe 8 (s.blade inst).energy.toNat)
  else if idx = 0x8006 then some (toLe 8 s.power.input.toNat)
  else if idx = 0x8010 then some (toLe 1 (w.dom sub).state)
  else if idx = 0x8011 then some (toLe 8 (w.reg sub).statusReg.toNat)
  else if idx = 0x8012 then some (toLe 8 (w.reg sub).energy.toNat)
  else if idx = 0x8013 then some (wordBytes (ratF32 (s.store inst).zoneCurrent 10))
  else if idx = 0x8021 then some (wordBytes s.power.watts)
  else if idx = 0x8022 then some (wordBytes (Tbl.get 0 s.power.colWatts inst))
  else if idx = 0x8025 then some ((List.range 192).map (fun n => BitVec.ofNat 8 (w.fmaxOf n)))
  else if idx = 0x8030 then some (wordBytes (if Tbl.get false w.sensFault sub then f32NaN else degF32 (Tbl.get 0 w.temp sub)))
  else if idx = 0x8032 then some (toLe 2 w.heat.toNat)
  else if idx = 0x8033 then some (wordBytes (degF32 (Tbl.get 0 (s.store inst).temps sub)))
  else if idx = 0x8040 then some (fitTo 0 16 s.ident.energyCoeff)
  else if idx = 0x8050 then some (toLe 1 p.refState)
  else if idx = 0x8052 then some (toLe 8 (s.keeper h).time.toNat)
  else if idx = 0x8053 then some (toLe 1 w.clkSel.toNat)
  else none

/-- 9000h, A000h: log, fences, dumps, keepers, keys. `report`: the session's attestation report (R548). A dump is read in place, by offset
and length. -/
def State.read9A (s : State) (idx inst sub : Nat) (report : List Byte) : Option (List Byte) :=
  let k := s.keeper (halfOfSub sub)
  if idx = 0x9001 then some s.log.status
  else if idx = 0x9002 then some (toLe 4 s.log.cursor.toNat)
  else if idx = 0x9003 then some (((s.log.recs.filter (fun r => decide (r.serial ≥ s.log.cursor.toNat))).take 1024).flatMap recBytes)
  else if idx = 0x9004 then some (s.log.persistent.flatMap recBytes)
  else if idx = 0x9010 then some s.log.fenceBytes
  else if idx = 0x9022 then some ((List.range 16).flatMap (fun f => toLe 8 ((s.combN inst).guardReg f).toNat))
  else if idx = 0x9030 then some (toLe 1 k.dumpState)
  else if idx = 0x9032 then some (k.summaries.reverse.flatMap id)
  else if idx = 0x9040 then some (toLe 1 s.lead.code)
  else if idx = 0x9042 then some (toLe 1 k.health)
  else if idx = 0xA001 then some (fitTo 0 32 s.ident.devicePub)
  else if idx = 0xA002 then some s.ident.deviceCert
  else if idx = 0xA003 then some (fitTo 0 32 s.ident.mfgPub)
  else if idx = 0xA010 then some (fitTo 0 32 (if sub = 1 then s.ident.keeperKey else s.ident.stewardKey))
  else if idx = 0xA032 then some (fitTo 0 32 s.ident.vendorKey)
  else if idx = 0xA041 then some report
  else none

/-- The value of an object other than DUMP_DATA: what the panel gives, or what software last wrote. -/
def State.objRead (s : State) (idx inst sub : Nat) (report : List Byte) : List Byte :=
  let v :=
    if idx < 0x3000 then s.read12 idx sub
    else if idx < 0x5000 then s.read34 idx inst sub
    else if idx < 0x6000 ∨ (0x7000 ≤ idx ∧ idx < 0x8000) then s.read57 idx inst sub
    else if idx < 0x7000 ∨ idx ≥ 0xB000 then s.read6B idx inst
    else if idx < 0x9000 then s.read8 idx inst sub
    else s.read9A idx inst sub report
  match v with
  | some b => b
  | none => s.objGet idx inst sub

/-- How long an object's value is, and some of its bytes. DUMP_DATA is the dump in the half's store while one is held (R489, R508). -/
def State.objLen (s : State) (o : ObjRef) (report : List Byte) : Nat :=
  if o.idx = 0x9031 then (if (s.keeper (halfOfSub o.sub.toNat)).dumpState = 2 then 0xF0000000 else 0)
  else (s.objRead o.idx.toNat o.inst.toNat o.sub.toNat report).length

def State.objBytes (s : State) (o : ObjRef) (report : List Byte) (off n : Nat) : List Byte :=
  if o.idx = 0x9031 then (s.store (dumpStore (halfOfSub o.sub.toNat))).bytes (dumpBase + off) n
  else slice (s.objRead o.idx.toNat o.inst.toNat o.sub.toNat report) off n

/-! ### READ (R508, R514) -/

/-- READ's data: TYPE, TOTAL, SNAP, and the bytes. -/
def readData (type total : Nat) (snap : W32) (bs : List Byte) : List Byte :=
  toLe 1 type ++ [0, 0, 0] ++ toLe 4 total ++ toLe 4 snap.toNat ++ [0, 0, 0, 0] ++ bs

/-- The snapshot that a session holds; SESSION 0 holds one too (log 58). -/
def State.snapOf (s : State) (session : W32) : Option Snap :=
  if session = 0 then s.mgmt.snap0 else (s.mgmtSession session).bind (fun m => m.snap)

/-- A session with its snapshot set. -/
def State.setSnap (s : State) (session : W32) (x : Option Snap) : State :=
  if session = 0 then s.modMgmt (fun m => { m with snap0 := x }) else s.modSession session (fun m => { m with snap := x })

/-- How many bytes of a value one response carries (R500, R508): 1,024 less header, STATUS, data prefix, and TAG in a session. -/
def readRoom (session : W32) : Nat := if session = 0 then 988 else 972

/-- A read of BOOT_REPORT or STORED_LOST ends what its entries assert (R470, R529). -/
def State.noteReadOf (s : State) (o : ObjRef) : State :=
  if o.idx = 0x2004 then { s with boot := { s.boot with alertRead := true } }
  else if o.idx = 0x2006 then s.modMgmt (fun m => { m with lostRead := true })
  else s

/-- What a READ answers after checks 1–7: a snapshot is taken at OFFSET 0 and named at any other; larger values are read in place. -/
def State.readValue (s : State) (session : W32) (row : ObjRow) (b : ReadBody) : Nat × List Byte × State :=
  let o := b.obj
  let report := ((s.mgmtSession session).map (fun m => m.report)).getD []
  let staged := if b.staged ∧ row.cls = .epoch then Tbl.get none s.mgmt.epoch.pending (objKey o.idx.toNat o.inst.toNat o.sub.toNat) else none
  let total := match staged with | some v => v.length | none => s.objLen o report
  let off := b.offset.toNat
  let n := min (total - off) (min b.maxLen.toNat (readRoom session))
  let s1 := s.noteReadOf o
  if total > 1048576 then (coOk, readData row.type total 0 (s.objBytes o report off n), s1)
  else if off = 0 then
    let v := match staged with | some v => v | none => s.objBytes o report 0 total
    let d := s1.draw
    let id : W32 := loW d.1
    (coOk, readData row.type total id (v.take n), d.2.setSnap session (some { id := id, obj := o, data := v }))
  else
    match s.snapOf session with
    | some p =>
      if p.id = b.snap ∧ p.obj = o then
        (coOk, readData row.type p.data.length p.id (slice p.data off (min (p.data.length - off) (min b.maxLen.toNat (readRoom session)))), s1)
      else (coSegment, [], s)
    | none => (coSegment, [], s)

/-- CIARD_READ. -/
def execCiardRead (r : Req) (b : ReadBody) (s : State) : Host.Outcome State Fault Refusal :=
  .next (s.request r false (fun role s =>
    match s.objCheck role false b.obj with
    | .error e => (e, [], s)
    | .ok row => if row.access = .wo then (coAccess, [], s) else s.readValue r.session row b))

/-- SNAPSHOT_EXPIRY: a session's snapshot has not been used for 10 s. -/
def execSnapshotExpiry (session : W32) (s : State) : Host.Outcome State Fault Refusal := .next (s.setSnap session none)

end Sys2Proof.Machine
end

