-- ==== Sys2Proof/Machine/CiardWrite.lean ====
section
/-!
DEFINITION. WRITE of a Ciard object without a command row of its own: ranges, change classes, segments (R506–R514, R522–R527).
-/
namespace Sys2Proof.Machine

/-! ### Ranges -/

/-- A non-negative F32 in tenths, rounded to nearest; none for a negative value, an infinity or a NaN (R420, R421; log 59). -/
def f32Tenths (w : Nat) : Option Nat :=
  if w = 2 ^ 31 then some 0
  else if w / 2 ^ 31 = 1 ∨ w / 2 ^ 23 % 256 = 255 then none
  else some ((f32Scaled w * 10 + 2 ^ 148) / 2 ^ 149)

/-- The objects whose writes are commands of their own. -/
def rowObjs : List Nat :=
  [0x1021, 0x1023, 0x1024, 0x2003, 0x2020, 0x2023, 0x5002, 0x5010, 0x5011, 0x5040, 0x5051, 0x6006, 0x6031, 0x7100, 0x7104, 0x8051, 0x8052,
   0x9011, 0x9033, 0x9041, 0xA020, 0xA030, 0xA031, 0xA040, 0xB020]

/-- The values of those objects that no command has: they are out of range (R218, R373, R472, R494, R523). -/
def rowRange (idx n : Nat) : Bool :=
  if idx = 0x1023 ∨ idx = 0x1024 ∨ idx = 0x2003 then n == 1
  else if idx = 0x2020 ∨ idx = 0x9033 then decide (1 ≤ n ∧ n ≤ 2)
  else if idx = 0x2023 then decide (n ≤ 0x41)
  else if idx = 0x5002 then decide (1 ≤ n ∧ n ≤ 5)
  else if idx = 0x6006 then decide (1 ≤ n ∧ n ≤ 4)
  else true

/-- COLONY_IMAGE and IMAGE_UPDATE: SOURCE at most 15, and the other bytes but OBJECT zero; byte 1 as `drain` allows (R517, R518). -/
def imageRefOk (drain : Bool) (d : List Byte) : Bool :=
  decide (fieldAt d 0 1 < 16) && (if drain then decide (fieldAt d 1 1 < 2) else decide (fieldAt d 1 1 = 0)) && allZero (slice d 2 6) && allZero (slice d 13 3)

/-- Check 9 of R510: is a value in the range that the object's rule gives it? -/
def valueOk (idx : Nat) (d : List Byte) : Bool :=
  let n := leBytes d
  if idx = 0x1011 then decide (10 ≤ n ∧ n ≤ 3600)
  else if idx = 0x1014 then [1, 2, 4, 5].contains n
  else if idx = 0x2005 ∨ idx = 0x501A ∨ idx = 0x6003 then decide (n ≤ 1)
  else if idx = 0x2022 then decide (1 ≤ n ∧ n ≤ 1000)
  else if idx = 0x5014 ∨ idx = 0x7121 then decide (n ≤ 131072)
  else if idx = 0x5016 then decide (n ≤ 1024)
  else if idx = 0x5018 then samplingOk d
  else if idx = 0x5050 then imageRefOk false d
  else if idx = 0x6010 then decide (n ≤ 3)
  else if idx = 0x6030 then decide (10 ≤ n ∧ n ≤ 1440)
  else if idx = 0x7004 then decide (600 ≤ n ∧ n ≤ 86400)
  else if idx = 0x7105 then weightRefOk d
  else if idx = 0x7120 then decide (1 ≤ n ∧ n ≤ 393216)
  else if idx = 0x7130 then decide (n = 0 ∨ n ≥ 60)
  else if idx = 0x8014 then decide (1 ≤ n ∧ n ≤ 1000)
  else if idx = 0x8015 then (match f32Tenths n with | some t => decide (t ≤ 1000) | none => false)
  else if idx = 0x8020 then decide (5000 ≤ n ∧ n ≤ 30000)
  else if idx = 0x8023 then decide (n ≤ 16 ∨ n = 255)
  else if idx = 0x8024 then decide (n ≤ 3)
  else if idx = 0x8031 then decide (70 ≤ n ∧ n ≤ 100)
  else if idx = 0x9020 then decide (60 ≤ n ∧ n ≤ 600)
  else if idx = 0xB006 then decide (n ≤ 4094)
  else if idx = 0xB031 then allZero (slice d 5 3)
  else rowRange idx n

/-- The value as it is kept: `gen-rsvd` bits are ignored and read zero (R9, R258). -/
def keptValue (idx : Nat) (d : List Byte) : List Byte :=
  if idx = 0x7110 then [nth 0 d 0] ++ List.replicate 7 0 ++ slice d 8 14 ++ [0, 0] else d

/-! ### Effects of live objects (R512) -/

/-- Every comb takes a change of its latches. -/
def State.everyComb (s : State) (f : Comb → Comb) : State := (List.finRange 224).foldl (fun s i => s.modComb i f) s

/-- PWR_INRUSH as the two objects give it (R420, R421). -/
def State.inrushWord (s : State) : W64 :=
  BitVec.ofNat 64 ((f32Tenths (s.objU 0x8015 0 0)).getD 0 * 2 ^ 16 + s.objU 0x8014 0 0)

/-- The link ends that a link number's policy covers. -/
def policyEnds (n : Nat) : List LinkAt :=
  match linkOfNo n with
  | some (.octet o) => octetLanes o
  | _ => (linkEnd n).toList

/-- CAN_DATA_RATE at a keeper's buses. -/
def Keeper.setRate (k : Keeper) (n : Nat) : Keeper := { k with can0 := { k.can0 with rate := n }, can1 := { k.can1 with rate := n } }

/-- What a live object that has just been latched does beside holding its value: it is copied to the blocks that use it (R364, R373, R396,
R421, R427, R439, R441, R494, R523). -/
def State.applyLive (s : State) (idx inst sub : Nat) (d : List Byte) : State :=
  let n := leBytes d
  if idx = 0x1014 then { s with west := s.west.setRate n, east := s.east.setRate n }
  else if idx = 0x6003 then (policyEnds inst).foldl (fun s l => s.modLinkAt l (fun x => { x with policyNext := some (n == 1) })) s
  else if idx = 0x7004 then (List.range 112).foldl (fun s st => s.modStore st (fun x => { x with scrubLatch := some (BitVec.ofNat 32 n) })) s
  else if idx = 0x8014 ∨ idx = 0x8015 then
    let v := s.inrushWord
    s.everyComb (fun k => { k with pw := { k.pw with inrushLatch := some v } })
  else if idx = 0x8023 then (s.boundCells inst).foldl (fun s c => s.setCap c (clockCap n)) s
  else if idx = 0x8024 then (s.boundCells inst).foldl (fun s c => s.setDeepest c n) s
  else if idx = 0x8031 then s.everyComb (fun k => { k with pw := { k.pw with throttleLatch := some (BitVec.ofNat 8 n) } })
  else if idx = 0x9020 then s.everyComb (fun k => { k with guardLatch := some (BitVec.ofNat 16 n) })
  else if idx = 0xB031 then s.modVoice (fun v => { v with exchanges := Tbl.put Exchange.reset v.exchanges sub Exchange.reset, events := v.events.filter (fun e => e.exch != sub) })
  else s

/-! ### Change classes (R512, R514) -/

/-- An epoch-class write joins the pending set, which is itself stored (R513, R514). -/
def State.pend (s : State) (key : Nat) (v : List Byte) : Nat × State :=
  if s.bothUp then
    (coOk, s.modMgmt (fun m => { m with epoch := { m.epoch with pending := Tbl.put none m.epoch.pending key (some v) } }))
  else (coStoreFail, s)

/-- Checks 9 and 10 of a WRITE, and its effect under the object's class. -/
def State.ciardEffect (s : State) (row : ObjRow) (o : ObjRef) (d : List Byte) : Nat × State :=
  let inst := o.inst.toNat
  let sub := o.sub.toNat
  let key := objKey row.idx inst sub
  let v := keptValue row.idx d
  if (row.type = 1 ∧ leBytes d > 1) ∨ !valueOk row.idx d then (coRange, s)
  else
    match row.cls with
    | .immediate => (coOk, { s with log := { s.log with cursor := BitVec.ofNat 32 (leBytes d) } })
    | .live => s.putStored key v (fun s => s.applyLive row.idx inst sub v)
    | .epoch => s.pend key v
    | .static => if s.colonyStatic inst then s.putStored key v id else (coBusy, s)

/-! ### Segments (R509) -/

/-- A session's segmented write is discarded. -/
def State.dropSeg (s : State) (session : W32) : State := s.modSession session (fun m => { m with seg := none })

/-- A WRITE of one or more segments. `step` acts on each segment as it comes, with what came before it; `last` has the effect of the whole
value. -/
def State.segWrite (s : State) (role : Nat) (session : W32) (w : WriteBody) (d : List Byte)
    (step : List Byte → State → Nat × State) (last : ObjRow → List Byte → State → Nat × State) : Nat × List Byte × State :=
  let total := w.total.toNat
  let fits (before : Nat) : Bool := if w.more then decide (before + d.length < total) else decide (before + d.length = total)
  let go (row : ObjRow) (before : List Byte) (s : State) : Nat × List Byte × State :=
    let a := step before s
    if a.1 ≠ coOk then (a.1, [], a.2.dropSeg session)
    else if w.more then
      (coOk, [], a.2.modSession session (fun m => { m with seg := some { obj := w.obj, total := total, data := before ++ d } }))
    else
      let e := last row (before ++ d) a.2
      (e.1, [], if before.isEmpty then e.2 else e.2.dropSeg session)
  let open_ := (s.mgmtSession session).bind (fun m => m.seg)
  if w.offset = 0 then
    if w.more ∧ open_.isSome then (coSegment, [], s.dropSeg session)
    else
      match s.writeCheck role session w.obj total with
      | .error e => (e, [], s)
      | .ok row => if fits 0 then go row [] s else (coSegment, [], s)
  else
    match open_ with
    | none => (coSegment, [], s)
    | some g =>
      if g.obj = w.obj ∧ g.total = total ∧ w.offset.toNat = g.data.length ∧ fits g.data.length then
        match s.objCheck role true w.obj with
        | .error e => (e, [], s.dropSeg session)
        | .ok row => go row g.data s
      else (coSegment, [], s.dropSeg session)

/-- CIARD_WRITE. A value that has a command row is that row's, and changes nothing here; any other value of such an object is out of
range (log 60). -/
def execCiardWrite (r : Req) (w : WriteBody) (d : List Byte) (s : State) : Host.Outcome State Fault Refusal :=
  .next (if rowObjs.contains w.obj.idx.toNat && rowRange w.obj.idx.toNat (leBytes d) then s
    else s.request r true (fun role s =>
      s.segWrite role r.session w d (fun _ s => (coOk, s)) (fun row v s => s.ciardEffect row w.obj v)))

/-- SEGMENT_TIMEOUT: 10 s have passed without a segment. -/
def execSegmentTimeout (session : W32) (s : State) : Host.Outcome State Fault Refusal := .next (s.dropSeg session)

end Sys2Proof.Machine
end

