-- ==== Sys2Proof/Machine/Services.lean ====
section
/-!
DEFINITION. Ciard sessions, operator keys, security versions, attestation (R501–R507, R541–R549).
-/
namespace Sys2Proof.Machine

/-! ### HELLO and sessions (R501, R504, R507) -/

/-- Takes a PDU of an open session, when it is one: its TAG and COUNTER are checked first (R505). -/
def State.helloIn (s : State) (r : Req) (body : State → State) : State :=
  match s.mgmtSession r.session with
  | some m =>
    if m.provisional then body s
    else if !r.tagOk then s.badTag m
    else if r.counter ≤ m.ctrIn then s.dropTag
    else body (s.modSession m.id (fun x => { x with ctrIn := r.counter, last := s.leadTime }))
  | none => body s

/-- HELLO: with any VERSION and any SESSION; the highest common version, or status VERSION. -/
def execHello (r : Req) (vmin vmax : Byte) (s : State) : Host.Outcome State Fault Refusal :=
  .next (if !s.serves then s
    else s.helloIn r (fun s =>
      if vmin ≤ 1 ∧ 1 ≤ vmax then
        s.answer r.session r.txn coOk
          ([1, 0] ++ toLe 2 1024 ++ toLe 1 s.canNode ++ toLe 1 s.lead.code ++ [0, 0] ++ fitTo 0 16 s.birth.serial)
      else s.answer r.session r.txn coVersion [1, 1]))

/-- The X25519 base point (RFC 7748). -/
def basePoint : List Byte := 9 :: List.replicate 31 0

/-- A session id that is not in use, from a free value on (log 61). -/
def State.newSession (s : State) (v : Nat) : W32 :=
  match (List.range 64).find? (fun k => (BitVec.ofNat 32 (v + k) : W32) ≠ 0 && (s.mgmtSession (BitVec.ofNat 32 (v + k))).isNone) with
  | some k => BitVec.ofNat 32 (v + k)
  | none => 0

/-- SESSION_OPEN: a provisional session with a fresh challenge, whose secret is a free value; RESOURCE with 32 held. -/
def execSessionOpen (r : Req) (role : Byte) (s : State) : Host.Outcome State Fault Refusal :=
  .next (if !s.serves then s
    else if r.version ≠ 1 then s.answer r.session r.txn coVersion [1, 1]
    else if r.session ≠ 0 then s.answer r.session r.txn coNoSession []
    else if role.toNat < 1 ∨ role.toNat > 3 then s.answer 0 r.txn coRange []
    else if s.mgmt.sessions.length ≥ 32 then s.answer 0 r.txn coResource []
    else
      let d0 := s.draw
      let d1 := d0.2.draw
      let d2 := d1.2.draw
      let d3 := d2.2.draw
      let d4 := d3.2.draw
      let secret := [d0.1, d1.1, d2.1, d3.1].flatMap (fun v => toLe 8 v.toNat)
      let challenge := fitTo 0 32 (Config.x25519 secret basePoint)
      let id := d4.2.newSession d4.1.toNat
      let m : MgmtSession :=
        { id := id, provisional := true, role := role.toNat, keySet := 0, keySlot := 0, challenge := challenge, secret := secret, key := [],
          ctrIn := 0, ctrOut := 0, badTags := 0, cache := [], snap := none, seg := none, report := [], last := s.leadTime }
      (d4.2.modMgmt (fun g => { g with sessions := g.sessions ++ [m] })).answer 0 r.txn coOk (toLe 4 id.toNat ++ challenge))

/-- The value of an operator key slot; a keeper in rescue uses its own flash copy, none where it cannot be read (R547). -/
def State.operatorKey (s : State) (set slot : Nat) : List Byte :=
  let k := s.keeper s.lead
  if set = 2 then s.ident.vendorKey
  else if k.health = 3 then (Tbl.get none k.flash (objKey (0xA030 + set) 0 slot)).getD []
  else s.objGet (0xA030 + set) 0 slot

/-- Is every ADMIN_KEY slot zero? -/
def State.noAdmin (s : State) : Bool := (List.range 8).all (fun k => allZero (s.operatorKey 1 k))

/-- Does a set of keys permit a role (R545)? -/
def setPermits (set role : Nat) : Bool :=
  (set == 0 && role == 1) || (set == 1 && (role == 1 || role == 2)) || (set == 2 && role == 3)

/-- The transcript that a proof signs (R544). -/
def State.transcript (s : State) (m : MgmtSession) (proof : List Byte) : List Byte :=
  [0x46, 0x4A, 0x58, 0x2D, 0x41, 0x55, 0x54, 0x48, 0x31] ++ fitTo 0 16 s.birth.serial ++ toLe 4 m.id.toNat ++ toLe 1 m.role ++ m.challenge ++
    slice proof 0 32 ++ slice proof 32 1

/-- Is a proof well formed: 132 bytes, its zero fields zero (R544, R545)? -/
def proofForm (proof : List Byte) : Bool :=
  let slot := fieldAt proof 32 1
  decide (proof.length = 132) && allZero (slice proof 33 3) && decide (slot / 8 % 8 = 0) &&
  (if slot / 64 = 3 then decide (slot = 0xC0) else allZero (slice proof 36 32)) && (slot / 64 != 2 || slot % 8 == 0)

/-- Is a proof accepted (R545, R546)? -/
def State.proofOk (s : State) (m : MgmtSession) (proof : List Byte) (path : MgmtPath) : Bool :=
  let set := fieldAt proof 32 1 / 64
  let slot := fieldAt proof 32 1 % 8
  let key := if set = 3 then slice proof 36 32 else s.operatorKey set slot
  proofForm proof && !allZero key &&
  (if set = 3 then
      decide (m.role = 2) && s.noAdmin && (match path with | .can => true | .eth ll => ll) && decide ((s.keeper s.lead).health = 0)
    else setPermits set m.role) &&
  Config.ed25519Verify key (s.transcript m proof) (slice proof 68 64) && !allZero (Config.x25519 m.secret (slice proof 0 32))

/-- SESSION_AUTH: verifies a proof and opens the session; a failed one ends it with ROLE. A bootstrap proof installs the first administer
key, and is logged as a corrected SUPPLY record. -/
def execSessionAuth (r : Req) (proof : List Byte) (s : State) : Host.Outcome State Fault Refusal :=
  .next (if !s.serves then s
    else if r.version ≠ 1 then s.answer r.session r.txn coVersion [1, 1]
    else
      match s.mgmtSession r.session with
      | none => s.answer r.session r.txn coNoSession []
      | some m =>
        if !m.provisional then s.answer r.session r.txn coNoSession []
        else if !s.proofOk m proof r.path then (s.closeSession m.id).answer r.session r.txn coRole []
        else
          let boot := decide (fieldAt proof 32 1 / 64 = 3)
          let z := Config.x25519 m.secret (slice proof 0 32)
          let key := Config.hmacSha256 z ([0x46, 0x4A, 0x58, 0x2D, 0x4B, 0x45, 0x59, 0x31] ++ toLe 4 m.id.toNat ++ m.challenge ++ slice proof 0 32)
          let e := if boot then s.putStored (objKey 0xA031 0 0) (slice proof 36 32) (fun s => s.supplyRec s.lead 0) else (coOk, s)
          if e.1 ≠ coOk then (e.2.closeSession m.id).answer r.session r.txn e.1 []
          else
            (e.2.modSession m.id (fun x =>
              { x with provisional := false, keySet := if boot then 1 else fieldAt proof 32 1 / 64, keySlot := fieldAt proof 32 1 % 8,
                       secret := [], key := key, last := s.leadTime })).answer r.session r.txn coOk
              (toLe 1 m.role ++ [0] ++ toLe 2 (s.objU 0x1011 0 0)))

/-- SESSION_CLOSE. -/
def execSessionClose (r : Req) (s : State) : Host.Outcome State Fault Refusal :=
  .next (s.request r true (fun _ s => (coOk, [], s.closeSession r.session)))

/-- PROVISIONAL_TIMEOUT: 10 s have passed without an accepted proof. -/
def execProvisionalTimeout (session : W32) (s : State) : Host.Outcome State Fault Refusal :=
  .next (match s.mgmtSession session with
    | some m => if m.provisional then s.closeSession session else s
    | none => s)

/-- SESSION_IDLE_TIMEOUT: CIARD_IDLE_S seconds have passed without a valid PDU. -/
def execSessionIdleTimeout (session : W32) (s : State) : Host.Outcome State Fault Refusal :=
  .next (match s.mgmtSession session with
    | some m => if m.provisional then s else s.closeSession session
    | none => s)

/-! ### Keys and security versions (R543, R546, R547) -/

/-- Every session authenticated under a slot closes (R547). -/
def State.closeUnder (s : State) (set slot : Nat) : State :=
  s.modMgmt (fun m => { m with sessions := m.sessions.filter (fun x => x.provisional || !decide (x.keySet = set ∧ x.keySlot = slot)) })

/-- A write of an operator key slot: BUSY where it would leave every ADMIN_KEY slot zero. -/
def State.keyWrite (s : State) (set slot : Nat) (v : List Byte) : Nat × State :=
  if set = 1 ∧ allZero v ∧ ((List.range 8).all (fun k => k == slot || allZero (s.objGet 0xA031 0 k))) then (coBusy, s)
  else
    s.putStored (objKey (0xA030 + set) 0 slot) v (fun t => if s.objGet (0xA030 + set) 0 slot = v then t else t.closeUnder set slot)

/-- KEY_SLOT_WRITE: OPERATE_KEY (set 0) or ADMIN_KEY (set 1). -/
def execKeySlotWrite (r : Req) (set : Fin 2) (slot : Fin 8) (v : List Byte) (s : State) : Host.Outcome State Fault Refusal :=
  .next (s.writeReq r (oref (0xA030 + set.val) 0 slot.val) v (fun s => s.keyWrite set.val slot.val v))

/-- The SVN of every image of a KIND that runs now: on either keeper, on any steward, in any colony not FREE (R543). -/
def State.runningSvns (s : State) (kind : Nat) : List Nat :=
  if kind = 1 then ([s.west, s.east].filter (fun k => k.health = 0)).map (fun k => k.running.keeper.svn.toNat)
  else if kind = 2 then ((List.range 224).filter (fun i => (s.combN i).router.tablesUp)).map (fun i => (s.combN i).stewardSvn.toNat)
  else (List.range 64).filterMap (fun c => if (s.colony c).state = csFree then none else (s.work c).image.map (fun m => m.svn.toNat))

/-- A write of SVN_FLOOR (R543, R549). -/
def State.svnWrite (s : State) (kind : Nat) (v : BitVec 16) : Nat × State :=
  let n := v.toNat
  if n < s.svnFloor kind then (coRange, s)
  else if (s.runningSvns kind).any (fun x => decide (n > x)) then (coBusy, s)
  else if kind ≤ 2 ∧ n > s.svnFloor kind ∧ (!s.bothUp ∨ Tbl.get 0 s.mgmt.raises kind ≥ 32) then (coBusy, s)
  else
    s.putStored (objKey 0xA020 0 kind) (toLe 2 n) (fun t =>
      if kind ≤ 2 ∧ n > s.svnFloor kind then t.modMgmt (fun m => { m with raises := Tbl.put 0 m.raises kind (Tbl.get 0 m.raises kind + 1) }) else t)

/-- SVN_FLOOR_WRITE. -/
def execSvnFloorWrite (r : Req) (kind : Byte) (v : BitVec 16) (s : State) : Host.Outcome State Fault Refusal :=
  .next (s.writeReq r (oref 0xA020 0 kind.toNat) (toLe 2 v.toNat) (fun s => s.svnWrite kind.toNat v))

/-! ### Attestation (R548) -/

/-- A keeper's record. -/
def State.keeperRecord (s : State) (h : Half) : List Byte :=
  let k := s.keeper h
  let up := decide (k.health = 0)
  let x := k.running
  toLe 4 (if up then x.keeper.version.toNat else 0) ++ toLe 2 (if up then x.keeper.svn.toNat else 0) ++
    toLe 1 (if up then b2n k.activeB else 0xFF) ++ toLe 1 k.health ++
    (if up then fitTo (0 : Byte) 64 x.keeper.digest ++ fitTo 0 64 x.steward.digest else List.replicate 128 (0 : Byte))

/-- A digest's sixteen bytes, byte 0 most significant (R516). -/
def digestBytes (d : BitVec 128) : List Byte := toBe 16 d.toNat

/-- The active bank of a colony: the one that new admissions use, if it is valid (R228). -/
def State.activeBank (s : State) (c : Nat) : Option Nat :=
  let k := s.rg64 c rgAdmit % 2
  if ((s.work c).bank k).valid then some k else none

/-- A colony's record. -/
def State.colonyRecord (s : State) (c : Nat) : List Byte :=
  let w := s.work c
  let bank := s.activeBank c
  toLe 1 c ++ toLe 1 (s.colony c).state ++ toLe 1 (bank.getD 0xFF) ++ [(0 : Byte)] ++
    toLe 4 (match w.image with | some m => m.version.toNat | none => 0) ++
    (match w.image with | some m => fitTo (0 : Byte) 64 m.digest | none => List.replicate 64 (0 : Byte)) ++
    toLe 8 (match bank with | some k => (w.bank k).setId | none => 0) ++ digestBytes (s.keeperDigest s.lead c)

/-- The report for a session's nonce. -/
def State.report (s : State) (m : MgmtSession) (nonce : List Byte) : List Byte :=
  let cols := (List.range 64).filter (fun c => decide ((s.colony c).state ≠ csFree))
  let b := toLe 4 0x54545441 ++ toLe 2 1 ++ toLe 1 cols.length ++ toLe 1 s.lead.code ++ fitTo 0 16 s.birth.serial ++ toLe 8 s.leadTime.toNat ++
    fitTo 0 32 nonce ++ toLe 4 m.id.toNat ++ [0, 0, 0, 0] ++ fitTo 0 32 m.challenge ++ toLe 4 s.mgmt.epoch.committed ++
    toLe 2 (s.svnFloor 1) ++ toLe 2 (s.svnFloor 2) ++ toLe 2 (s.svnFloor 3) ++ List.replicate 14 0 ++
    digestBytes (s.keeperDigest s.lead 0x40) ++ fitTo 0 64 (Config.sha512 s.birthBytes) ++ s.keeperRecord .west ++ s.keeperRecord .east ++
    cols.flatMap s.colonyRecord
  b ++ fitTo 0 64 (Config.ed25519Sign s.ident.deviceSeed b)

/-- ATTEST_NONCE. -/
def execAttestNonce (r : Req) (nonce : List Byte) (s : State) : Host.Outcome State Fault Refusal :=
  .next (s.writeReq r (oref 0xA040 0 0) nonce (fun s => (coOk, s.modSession r.session (fun m => { m with report := s.report m nonce }))))

end Sys2Proof.Machine
end

