-- ==== Sys2Proof/Machine/Change.lean ====
section
/-!
DEFINITION. Configuration epochs, digests, live firmware update, and the counters that are published each second (R320, R334–R337, R396,
R514–R523).
-/
namespace Sys2Proof.Machine

/-! ### Digests (R336, R516) -/

/-- Does a comb's steward serve: its tables written, no whole-comb reset in progress? -/
def Comb.serves (k : Comb) : Bool := k.router.tablesUp && k.resetRun.isNone

/-- Is a unit of a comb in service: a store base whose store is enabled, a sampler of an enabled comb? -/
def State.unitLive (s : State) (i : Site) (u : Nat) : Bool :=
  (s.comb i).serves &&
  (if u = 0xB8 then decide ((s.store (storeOf i)).state = 0) else if u ≥ 0xBA then decide ((s.comb i).state = 0) else true)

/-- The units of a comb whose digest of a domain differs from the lead keeper's, one bit for each endpoint code from 0xB0 on. -/
def State.differing (s : State) (i : Site) (dom : Nat) : Nat :=
  (unitCodes.filter (fun u => s.unitLive i u && s.holdsDomain i dom && decide (s.unitDigest i u dom ≠ s.keeperDigest s.lead dom))).foldl
    (fun a u => a + 2 ^ (u - 0xB0)) 0

/-- A check of a domain: a difference between the keepers is the lead keeper's error; otherwise every comb with a differing unit is named,
each with a record. DIGEST_RESULT holds the domain, AGREE, the combs named and the serial of the first record (R336, R516, R523). -/
def State.digestCheck (s : State) (dom : Nat) (fails : List Nat) : State :=
  let result (s : State) (agree named serial : Nat) : State :=
    s.modMgmt (fun m => { m with digest := toLe 1 dom ++ toLe 1 agree ++ toLe 2 named ++ toLe 4 serial })
  if s.bothUp ∧ s.keeperDigest .west dom ≠ s.keeperDigest .east dom then
    (result s 0 0 0).sendErr (0xF0 + s.lead.code) (mkErr 0x0701 1 7 (0xF0 + s.lead.code) (s.eid (0xF0 + s.lead.code) 0) 0 0 0)
  else
    let bad := (List.finRange 224).filter (fun i => s.differing i dom != 0)
    let s1 := result s (b2n bad.isEmpty) bad.length (if bad.isEmpty then 0 else s.log.next)
    (bad.map (fun i => (i, s.differing i dom))).foldl (fun s e =>
      s.logRecord (mkErr 0x020B 1 3 e.1.val (s.eid (0xF0 + s.lead.code) 0) 0 (BitVec.ofNat 64 e.2) 0) fails) s1

/-- DIGEST_CHECK: a domain 0x00–0x41. -/
def execDigestCheck (r : Req) (dom : Byte) (fails : List Nat) (s : State) : Host.Outcome State Fault Refusal :=
  .next (s.writeReq r (oref 0x2023 0 0) [dom] (fun s => if dom.toNat > 0x41 then (coRange, s) else (coOk, s.digestCheck dom.toNat fails)))

/-! ### Commit (R337, R514, R515) -/

/-- A value written to the flash of every keeper that is up. -/
def State.burnUp (s : State) (key : Nat) (v : List Byte) : State :=
  [Half.west, Half.east].foldl (fun s h => if (s.keeper h).health = 0 then s.setKeeper h ((s.keeper h).burn key v) else s) s

/-- A unit's epoch after a commit. -/
def UnitEpoch.at_ (n : Nat) : UnitEpoch := { epoch := n, staged := none, commit := none }

/-- Every unit in service runs an epoch, but for those of the combs that missed it. -/
def State.unitsTo (s : State) (e : Nat) (late : List Site) : State :=
  let s1 := (List.finRange 224).foldl (fun s i =>
    if late.contains i then s
    else unitCodes.foldl (fun s u => if s.unitLive i u then s.modUnitEpoch i u (fun _ => UnitEpoch.at_ e) else s) s) s
  [Half.west, Half.east].foldl (fun s h =>
    if (s.keeper h).health = 0 then s.setKeeper h { s.keeper h with epoch := UnitEpoch.at_ e } else s) s1

/-- The lanes of an octet whose mode has changed train in the new mode; its service ports are down until they link (R277, R346). -/
def State.modeChanged (s : State) (o : Nat) : State :=
  ((s.octetChange o).modPortV (2 * o) (fun p => { p with linkUp := false })).modPortV (2 * o + 1) (fun p => { p with linkUp := false })

/-- P1–P4: the pending set becomes the committed values, in flash and at every unit; octets and swarm lanes follow. -/
def State.commitEpoch (s : State) (e last : Nat) (late : List Site) : State :=
  let s1 := s.mgmt.epoch.pending.foldl (fun s x => match x.2 with
    | some v => (s.setObj x.1 v).burnUp x.1 v
    | none => s) s
  let s2 := (s1.modMgmt (fun m => { m with epoch := { pending := [], committed := e, committing := false, last := last } })).unitsTo e late
  let s3 := (List.range 112).foldl (fun t o => if s.octetMode o = s1.octetMode o then t else t.modeChanged o) s2
  if s.swarmPanel = s1.swarmPanel then s3 else s3.swarmChange

/-- Does the pending set change SWARM_PANEL while a colony is past DEFINED (R214, R514)? -/
def State.swarmHeld (s : State) : Bool :=
  (match Tbl.get none s.mgmt.epoch.pending (objKey 0x2030 0 0) with
    | some v => decide (leBytes v ≠ s.swarmPanel.toNat)
    | none => false) &&
  (List.range 64).any (fun c => decide ((s.colony c).state > csDefined))

/-- COMMIT: `abort`, whether the stage aborts; the cells and combs that miss their safe point, each reported and then fenced. -/
def State.commit (s : State) (abort : Bool) (late : List CellAt) (lateCombs : List Site) (fails : List Nat) : Nat × State :=
  if s.boot.state ≠ 6 ∨ s.mgmt.epoch.committing ∨ s.swarmHeld then (coBusy, s)
  else if abort then (coBusy, s.modMgmt (fun m => { m with epoch := { m.epoch with last := 2 } }))
  else
    let s1 := late.foldl (fun s c => s.sendErr c.site.val (mkErr 0x020A 1 1 (cellInst c) (s.eid c.site.val 0xB9) 0 0 0)) s
    let s2 := lateCombs.foldl (fun s i => s.sendErr i.val (mkErr 0x020A 1 3 i.val (s.eid i.val 0xB9) 0 0 0)) s1
    let last := if late.isEmpty ∧ lateCombs.isEmpty then 1 else 3
    (coOk, (s2.commitEpoch (s.mgmt.epoch.committed + 1) last lateCombs).digestCheck 0x40 fails)

/-- EPOCH_COMMIT: EPOCH_CTRL = 1. -/
def execEpochCommit (r : Req) (abort : Bool) (late : List CellAt) (lateCombs : List Site) (fails : List Nat) (s : State) :
    Host.Outcome State Fault Refusal :=
  .next (s.writeReq r (oref 0x2020 0 0) [1] (fun s => s.commit abort late lateCombs fails))

/-- EPOCH_DISCARD: EPOCH_CTRL = 2. -/
def execEpochDiscard (r : Req) (s : State) : Host.Outcome State Fault Refusal :=
  .next (s.writeReq r (oref 0x2020 0 0) [2] (fun s => (coOk, s.modMgmt (fun m => { m with epoch := { m.epoch with pending := [] } }))))

/-! ### IMAGE_UPDATE (R517, R518) -/

/-- The image check of a running colony. On success COLONY_IMAGE is the new reference and the colony restarts; with DRAIN it is stopped
first and restarts, with a pending START, when DRAINING ends. -/
def State.imageUpdate (s : State) (c : Nat) (d : List Byte) (img : Option (List Byte)) (delivered : Bool) : Nat × State :=
  let st := (s.colony c).state
  let w := s.work c
  if !imageRefOk true d then (coRange, s)
  else if st < csReady ∨ st > csDraining ∨ w.loading ∨ w.updateDrain then (coBusy, s)
  else
    match (if s.sourceValid d then img else none) with
    | none => (coOk, s.modWork c (fun w => { w with imageState := 4 }))
    | some bs =>
      match s.checkColImage c bs with
      | none => (coOk, s.modWork c (fun w => { w with imageState := 3 }))
      | some m =>
        let key := objKey 0x5050 c 0
        let ref := [nth 0 d 0, 0] ++ d.drop 2
        let s1 := ((s.setObj key ref).burnUp key ref).modWork c (fun w => { w with imageState := 2, image := some m })
        if bit (nth 0 d 1) 0 ∧ st ≠ csReady then
          (coOk, (s1.modWork c (fun w => { w with updateDrain := true })).modColony c (fun k => { k with state := csDraining }))
        else (coOk, s1.restartColony c delivered)

/-- IMAGE_UPDATE, with the image as its super gives it (none: it cannot be fetched). -/
def execImageUpdate (r : Req) (c : ColonyId) (d : List Byte) (img : Option (List Byte)) (delivered : Bool) (s : State) :
    Host.Outcome State Fault Refusal :=
  .next (s.writeReq r (oref 0x5051 c.val 0) d (fun s => s.imageUpdate c.val d img delivered))

/-! ### IMAGE_SET (R460, R519) -/

/-- The set that a keeper does not run, replaced. -/
def Keeper.setIdle (k : Keeper) (x : ImgSet) : Keeper := if k.activeB then { k with setA := x } else { k with setB := x }

/-- A segment is programmed as it arrives; the first makes the set invalid. -/
def Keeper.program (k : Keeper) (before d : List Byte) : Keeper :=
  { (if before.isEmpty then k.setIdle ImgSet.none else k) with setState := 1, prog := before ++ d }

/-- The set in a value, under R460: the keeper image at byte 0, the steward image at byte 0x0200_0000. -/
def State.imageSet (s : State) (v : List Byte) : ImgSet :=
  let k := v.take (256 + fieldAt v 16 8)
  let t := v.drop 0x2000000
  let st := t.take (256 + fieldAt t 16 8)
  if decide (k.length ≤ 0x2000000) && s.firmwareOk 1 33554176 s.ident.keeperKey k && s.firmwareOk 2 1048320 s.ident.stewardKey st then
    { valid := true, keeper := imageOf k, steward := imageOf st }
  else ImgSet.none

/-- IMAGE_SET: a segment of the set for half `h`. BUSY while that keeper is not UP. -/
def execImageSet (r : Req) (h : Half) (w : WriteBody) (d : List Byte) (s : State) : Host.Outcome State Fault Refusal :=
  let b : WriteBody := { w with obj := oref 0x1021 0 h.code }
  .next (s.request r true (fun role s =>
    s.segWrite role r.session b d
      (fun before s => if (s.keeper h).health ≠ 0 then (coBusy, s) else (coOk, s.setKeeper h ((s.keeper h).program before d)))
      (fun _ v s =>
        let x := s.imageSet v
        (coOk, s.setKeeper h { (s.keeper h).setIdle x with setState := if x.valid then 3 else 4 }))))

/-! ### KEEPER_CTRL and STEWARD_ROLL (R520, R521) -/

/-- KEEPER_RESTART: KEEPER_CTRL = 1 for a half. BUSY where it names the lead, while the other keeper is not UP, or while a roll runs. -/
def execKeeperRestart (r : Req) (h : Half) (s : State) : Host.Outcome State Fault Refusal :=
  .next (s.writeReq r (oref 0x1023 0 h.code) [1] (fun s =>
    if h = s.lead ∨ (s.keeper h.other).health ≠ 0 ∨ s.mgmt.rollState = 1 then (coBusy, s) else (coOk, s.keeperBoot h)))

/-- One comb of a roll: its steward takes the image of the lead keeper's running set; one whose reload fails twice ends the roll and is
fenced, and the colonies with state there restart. -/
def State.rollStep (s : State) (i : Site) (fail : Bool) (fails : List Nat) : State :=
  if s.mgmt.rollState = 3 ∨ s.birth.combs.contains i.val then s
  else if fail then
    let s1 := (s.modMgmt (fun m => { m with rollState := 3, rollSite := i.val })).fenceDomain 3 i.val 0x0201
    (s1.logRecord (mkErr 0x0201 1 3 i.val (s.eid i.val 0xB9) 0 0 0) fails).checkMinimum
  else (s.bootSteward i).modMgmt (fun m => { m with rollSite := i.val, rollDone := m.rollDone + 1 })

/-- STEWARD_ROLL: `bad`, the combs whose reload fails twice. -/
def State.stewardRoll (s : State) (bad : List Site) (fails : List Nat) : Nat × State :=
  if s.mgmt.rollState = 1 ∨ s.mgmt.epoch.committing ∨ (s.keeper .west).health = 1 ∨ (s.keeper .east).health = 1 then (coBusy, s)
  else
    let s1 := s.modMgmt (fun m => { m with rollState := 1, rollSite := 0, rollDone := 0 })
    let s2 := (List.finRange 224).foldl (fun s i => s.rollStep i (bad.contains i) fails) s1
    (coOk, s2.modMgmt (fun m => { m with rollState := if m.rollState = 3 then 3 else 2 }))

/-- STEWARD_ROLL. -/
def execStewardRoll (r : Req) (bad : List Site) (fails : List Nat) (s : State) : Host.Outcome State Fault Refusal :=
  .next (s.writeReq r (oref 0x1024 0 0) [1] (fun s => s.stewardRoll bad fails))

/-! ### Each second (R320, R396, R440, R493) -/

/-- Packed counts added field by field, each saturating: [63:32], [31:16], [15:0]. -/
def addCounts (a b : W64) : W64 :=
  BitVec.ofNat 64 (satAdd 32 (fld a 63 32) (fld b 63 32) * 2 ^ 32 + satAdd 16 (fld a 31 16) (fld b 31 16) * 2 ^ 16 +
    satAdd 16 (fld a 15 0) (fld b 15 0))

/-- A second of a comb: the ages of its characterisations and of its frames' last patrol, and the echo replies of its service port. -/
def Comb.second (k : Comb) : Comb :=
  { k with
    pw := { k.pw with charAge := (List.range 192).foldl (fun t p => Tbl.put 0 t p (satAdd 32 (Tbl.get 0 t p) 1)) k.pw.charAge }
    guards := (List.range 16).foldl (fun t f =>
      Tbl.put Guard.reset t f { (Tbl.get Guard.reset t f) with lastS := satInc (Tbl.get Guard.reset t f).lastS }) k.guards }

/-- The service port whose lanes are a comb's (R277). -/
def portOf (i : Site) : Nat := 2 * octetOf i + b2n (!isOuter i)

/-- COUNTER_PUBLISH: the steward of a comb reads RTR_COUNTERS into NET_COUNTERS, and the store base's STB_ECC into STORE_ECC_COUNTS. -/
def execCounterPublish (i : Site) (s : State) : Host.Outcome State Fault Refusal :=
  .next (if !(s.comb i).serves then s
    else
      let c := (s.comb i).router.counters
      let s1 := s.modComb i (fun k =>
        { k.second with netCounters := addCounts k.netCounters c, router := { k.router with crcDiscards := 0, nacksSent := 0, unpaired := 0 } })
      let s2 := s1.modPortV (portOf i) (fun p => { p with echoes := 0 })
      if s.storeSteward (storeOf i) = i.val then
        s2.modStore (storeOf i) (fun x => { x with eccTotal := addCounts x.eccTotal x.eccReg, corrected := 0, uncorrectable := 0, repaired := 0 })
      else s2)

end Sys2Proof.Machine
end

