-- ==== Sys2Proof/Machine/Boot.lean ====
section
/-!
DEFINITION. Cold start, warm panel restart, reset hold (R464–R471, R484, R498, R529, R556). A start is one step: what it meets on its way is
the command's operand (log 62).
-/
namespace Sys2Proof.Machine

/-! ### What both starts share -/

/-- Both halves in turn. -/
def State.halves (s : State) (f : Half → State → State) : State := f .east (f .west s)

/-- A half is started where it is powered and its keeper is up (R467). -/
def State.started (s : State) (h : Half) : Bool := (s.halfPower h).on && decide ((s.keeper h).health = 0)

/-- The combs and the stores of the halves that are started. -/
def State.liveSites (s : State) : List Site := (List.finRange 224).filter (fun i => s.started (halfOf i))
def State.liveStores (s : State) : List Nat := (List.range 112).filter (fun n => s.started (if n % 8 < 4 then .west else .east))

/-- A failure of the start is logged and its unit fenced: its handling is complete with the entry (R467, R479). -/
def State.startFence (s : State) (code kind inst : Nat) : State :=
  let s1 := s.addFence kind inst code
  let r := s1.stamp (mkErr code 1 kind inst (s1.eid (0xF0 + s1.lead.code) 0) 0 0 0) none
  { s1 with log := s1.log.add { r with flags := r.flags ||| 4 } }

/-- The sites that fail the self-test: those named, and those whose new FMAX is below code 8 (R466). -/
def badCells (f : StartFinds) : List CellAt :=
  f.cells ++ (f.fmax.filter (fun e => decide (e.2.val < 8))).map (·.1)

/-- Domains of a comb that a start switches on: a fenced comb keeps its transit, steward, store port and lanes (R31, R408, R465). -/
def State.startDoms (s : State) (i : Site) (st : Nat) : List Nat :=
  let frames := List.range 16
  frames.map dWatch ++ frames.map dTransit ++ [dSteward] ++ (List.range 10).map (69 + ·) ++
    (if st = 0 then
      (List.range 4).map dSampler ++ [dTest] ++
        (frames.filter (fun f => !s.log.fenced 2 (i.val * 256 + f))).flatMap (fun f => [dArray f, dLogic f])
     else [])

/-- COMB_STATE at a start (R34). -/
def State.startState (s : State) (i : Site) : Nat := if s.birth.combs.contains i.val then 1 else if s.log.fenced 3 i.val then 2 else 0

/-- SITE_MAP_FRAME at a cold start (R19): nothing is mapped in a fenced frame or comb. -/
def State.startMap (s : State) (i : Site) (st f : Nat) : W64 :=
  if st ≠ 0 ∨ s.log.fenced 2 (i.val * 256 + f) then mapOf [] else mapOf (s.goodPositions i f)

/-- Its sites come into service, its steward runs, its tables are written (W2, W3, W6). -/
def State.openComb (s : State) (i : Site) : State :=
  let s1 := s.bootSteward i
  if (s1.comb i).state = 0 then (List.range 16).foldl (fun s f => s.openFrame i f) s1 else s1

/-- W1–W6 of a cold start for one comb, after its failing sites have been entered in the fence map. -/
def State.coldComb (s : State) (i : Site) (fmax : List (CellAt × Fin 16)) : State :=
  let st := s.startState i
  let clk := clkDefaults i
  let on : Tbl Dom := ((List.range 80).filter (fun d => (s.startDoms i st).contains d)).map (fun d => (d, { on := true, state := 3, reason := 0 }))
  let off : List Nat := (List.range 80).filter (fun d => !(s.startDoms i st).contains d)
  let new := (fmax.filter (fun e => decide (e.1.site = i))).map (fun e => (e.1.phys.val, e.2.val))
  let s1 := s.modComb i (fun k =>
    let k := k.unpowered
    { k with
      state := st
      siteMap := (List.range 16).foldl (fun t f => Tbl.put siteMapDefault t f (s.startMap i st f)) []
      smpInit := { Sampler.reset with ready := decide (st = 0) }
      router := { Router.reset with tablesUp := true }
      pw := { k.pw with
        doms := off.foldl (fun t d => Tbl.put Dom.reset t d { on := false, state := 5, reason := 4 }) on
        fmax := new.foldl (fun t e => Tbl.put 8 t e.1 e.2) k.pw.fmax, charAge := new.foldl (fun t e => Tbl.put 0 t e.1 0) k.pw.charAge
        heat := 0, heatCount := []
        clkPrimary := BitVec.ofNat 3 clk.1, clkAlt1 := BitVec.ofNat 3 clk.2.1, clkAlt2 := BitVec.ofNat 3 clk.2.2, clkSel := BitVec.ofNat 3 clk.1 } })
  s1.openComb i

/-- A comb that fails W1–W4 twice is fenced; where its transit is at fault, routes avoid it (R467). -/
def State.combFails (s : State) (i : Site) (transit : Bool) : State := (s.fenceComb i transit).startFence 0x0201 3 i.val

/-- Every link end of the started halves trains: comb edges and the keeper link at once, as they are found to; lanes when their training
ends. An edge whose other end is not started hears nothing (W2, C8, K6). -/
def State.startLinks (s : State) (f : StartFinds) : State :=
  let up (l : LinkAt) : Bool := match l with
    | .comb i _ => s.started (halfOf i)
    | .keeper h => s.started h
  let ls := allLinks.filter up
  let s1 := ls.foldl (fun s l => (s.linkDown l 1 0).startTraining l) s
  ls.foldl (fun s l =>
    if l.lane then s
    else if !((l.peer.map up).getD true) then s.trainFail l 3 false
    else
      match f.edges.find? (fun e => e.1 = l) with
      | some e => s.train l e.2
      | none => s.trainUp l false) s1

/-- BOOT_REPORT's entry of a comb (R470). -/
def State.bootComb (s : State) (f : StartFinds) (i : Site) : Nat :=
  if !s.started (halfOf i) then 0
  else if (s.comb i).state = 1 then 2
  else if (s.comb i).state = 2 then 3
  else if (badCells f).any (fun c => decide (c.site = i)) then 4 else 1

/-- BOOT_REPORT's entry of a store: `skipped`, where its test was not run. -/
def State.bootStore (s : State) (n : Nat) (skipped : Bool) : Nat :=
  if !s.liveStores.contains n then 0 else if (s.store n).stb = 3 then 3 else if skipped then 2 else 1

/-- BOOT_REPORT as a start leaves it. `ref`: the start's reference in lead keeper time. -/
def State.report_ (s : State) (f : StartFinds) (skipped : List Nat) (ref : W64) : State :=
  let combs : List Nat := (List.finRange 224).map (fun i => s.bootComb f i)
  let stores : List Nat := (List.range 112).map (fun n => s.bootStore n (skipped.contains n))
  let failed := combs.any (fun n => decide (n = 0 ∨ n ≥ 3)) || stores.any (fun n => decide (n = 0)) ||
    f.stores.any (fun e => !e.2.1)
  { s with boot := { s.boot with
    combs := (List.range 224).foldl (fun t n => Tbl.put 0 t n (nth 0 combs n)) [], reference := ref, alertRead := !failed
    stores := (List.range 112).foldl (fun t n => Tbl.put 0 t n (nth 0 stores n)) [] } }

/-- The last step of a start: READY, and DEPLOY for the colonies named and those with COLONY_AUTO_DEPLOY and a stored layout, in ascending id
(C9, K7). A shortfall against R1 is recorded first. A SAFE_STOP_L that is low takes the safe state (R488, R557). -/
def State.ready (s : State) (f : StartFinds) (again : List Nat) : State :=
  let s0 := s.checkMinimum
  let s1 := { s0 with boot := { s0.boot with state := 6, wave := 0xFF, redeploy := [] } }
  if s1.west.safeStop ∨ s1.east.safeStop then s1.safeState none
  else
    let cs := (List.range 64).filter (fun c => (again.contains c || decide (s1.objU 0x5019 c 0 = 1)) && !(s1.layout c).isEmpty)
    cs.foldl (fun s c => (s.colonyCtrl c 1 ((f.images.find? (fun e => e.1.val = c)).map (·.2)) true).2) s1

/-- The epoch of a start is staged and committed, or takes the panel to its safe state where it aborts twice (C8, K6, R467, R471). -/
def State.startEpoch (s : State) (f : StartFinds) (then_ : State → State) : State :=
  if f.aborts then s.logRecord (mkErr 0x0803 2 9 0 (s.eid (0xF0 + s.lead.code) 0) 0 0 0) []
  else then_ ((s.commitEpoch 1 1 []).startLinks f)

/-! ### Cold start -/

/-- C2: the keepers start, and read the straps (R460, R498, R556). -/
def State.coldKeepers (s : State) (f : StartFinds) : State :=
  let s1 := s.halves (fun h s => s.setKeeper h { s.keeper h with resetLow := false, straps := if h = .west then f.strapsW else f.strapsE,
                                                                  strapOpen := if h = .west then f.openW else f.openE, time := 0 })
  let s2 := s1.halves (fun h s => s.keeperBoot h)
  let s3 := s2.halves (fun h s => if (s.keeper h).strapOpen then s.supplyRec h 0 else s)
  if f.strapsW.toNat % 64 ≠ f.strapsE.toNat % 64 then s3.supplyRec .west 0 else s3

/-- The object of a key. -/
def keyObj (k : Nat) : ObjRef := oref (k / 2 ^ 24) (k / 2 ^ 8 % 2 ^ 16) (k % 2 ^ 8)

/-- Stored values at C3 (R529): the lead's own copy, else the other's; where they differ the lead's is written to the other flash; one that
neither gives back takes its default and is listed. -/
def State.readStored (s : State) (f : StartFinds) : State :=
  let own := s.keeper s.lead
  let oth := s.keeper s.lead.other
  let get (h : Half) (k : Keeper) (key : Nat) : Option (List Byte) :=
    if (s.halfPower h).on ∧ !f.unreadable.any (fun e => decide (e.1 = h ∧ e.2 = keyObj key)) then Tbl.get none k.flash key else none
  let has (k : Keeper) (key : Nat) : Bool := (Tbl.get none k.flash key).isSome
  let keys := own.flash.map (·.1) ++ (oth.flash.map (·.1)).filter (fun k => !has own k)
  let start := s.modMgmt (fun m => { m with objs := [], storedLost := [], lostRead := true })
  keys.foldl (fun s key =>
    match get s.lead own key, get s.lead.other oth key with
    | some v, some w => let s1 := s.setObj key v; if v = w then s1 else s1.setKeeper s.lead.other ((s1.keeper s.lead.other).burn key v)
    | some v, none => s.setObj key v
    | none, some w => s.setObj key w
    | none, none => s.modMgmt (fun m => { m with storedLost := m.storedLost ++ [keyObj key], lostRead := false })) start

/-- The panel log that a start reads: the persistent log, with nothing open (R468 K4, R479). -/
def Log.atStart (l : Log) : Log :=
  { l with recs := l.persistent, next := (match l.persistent.getLast? with | some r => r.serial + 1 | none => 1), opens := [] }

/-- The panel log and the fence map at a cold start: released fences, and frames fenced for heat, are lifted (R435, R479, R484). -/
def Log.cold (l : Log) : Log :=
  { l.atStart with
    overwritten := 0, cursor := 1, released := []
    fences := l.fences.filter (fun e => !l.released.contains e && !decide (e.kind = 2 ∧ e.code = 0x0304)) }

/-- The rest of C3: what is volatile starts anew; colonies with a stored layout are DEFINED, the others FREE. -/
def State.coldClear (s : State) (f : StartFinds) : State :=
  let s1 : State :=
    { s with mgmt := { Mgmt.reset with epoch := { Mgmt.reset.epoch with pending := s.mgmt.epoch.pending }, raises := s.mgmt.raises }
             voice := Voice.reset, sessions := [], works := [], overhead := 0, energyMarks := [], log := s.log.cold
             swarmEpoch := 0, swarmMembers := [], swarmSerial := 0
             power := { s.power with input := 0, inputMark := 0, marks := [], watts := 0, colWatts := [] }
             boot := { Boot.reset with state := 1 } }
  let s2 := s1.readStored f
  { s2 with colonies := (List.range 64).foldl (fun t c =>
      if (s2.layout c).isEmpty then t else Tbl.put Colony.free t c { Colony.free with state := csDefined }) [] }

/-- C4 for one store: fenced ones stay so; the others are tested, and fenced where they fail (R391, R392). -/
def State.coldStore (s : State) (f : StartFinds) (n : Nat) : State :=
  let x := (s.store n).unpowered
  if s.birth.stores.contains n then s.setStore n { x with state := 1, stb := 3 }
  else
    let x1 := { x with state := 0, domBase := { on := true, state := 3, reason := 0 }, domDram := { on := true, state := 3, reason := 0 } }
    if s.log.fenced 4 n then s.setStore n { x1 with state := 2, stb := 3 }
    else
      let o := ((f.stores.find? (fun e => e.1.val = n)).map (·.2)).getD (true, [])
      let x2 := { x1 with stb := 2, testMap := testMap n o.1 (s.leadTime.toNat / 1000000000) (o.2.take 3072) }
      if o.1 then s.setStore n x2
      else ((s.setStore n { x2 with stb := 3, err := setBit x2.err sbFenced true }).fenceStoreUnit n).startFence 0x0402 4 n

/-- C4–C9. -/
def State.coldRun (s : State) (f : StartFinds) : State :=
  let s1 := s.liveStores.foldl (fun s n => s.coldStore f n) s
  let s2 := ((badCells f).filter (fun c => s1.liveSites.contains c.site)).foldl (fun s c => s.startFence 0x0107 1 (cellInst c)) s1
  let s3 := s2.liveSites.foldl (fun s i => s.coldComb i f.fmax) s2
  let s4 := (f.combs.filter (fun e => s3.liveSites.contains e.1)).foldl (fun s e => s.combFails e.1 e.2) s3
  let s5 := s4.mgmt.objs.foldl (fun s e => match e.2 with
    | some v => s.applyLive (e.1 / 2 ^ 24) (e.1 / 2 ^ 8 % 2 ^ 16) (e.1 % 2 ^ 8) v
    | none => s) s4
  let s6 := (s5.censusOf allLinks f.census.onDie f.census).modMgmt (fun m => { m with census := 2 })
  ((s6.report_ f [] 0).retree).startEpoch f (fun s => s.ready f [])

/-- A cold start from C2 on. West leads, or East where West does not answer (R467). -/
def State.coldStart (s : State) (f : StartFinds) : State :=
  let s1 := s.coldKeepers f
  let up (h : Half) : Bool := decide ((s1.keeper h).health = 0)
  let rescue (h : Half) : Bool := decide ((s1.keeper h).health = 3)
  if !up .west ∧ !up .east then
    if rescue .west ∨ rescue .east then { s1 with boot := { Boot.reset with state := 9 }, lead := if rescue .west then .west else .east } else s1
  else
    let s2 := ({ s1 with lead := if up .west ∧ (f.westAnswers ∨ !up .east) then .west else .east }).coldClear f
    if !s2.birth.ok then s2.logRecord (mkErr 0x0802 2 9 0 (s2.eid (0xF0 + s2.lead.code) 0) 0 0 0) [] else s2.coldRun f

/-- COLD_START: both buses have been up, or PANEL_RESET_L is released after a hold. Ignored while a keeper serves. -/
def execColdStart (f : StartFinds) (s : State) : Host.Outcome State Fault Refusal :=
  let s0 := s.halves (fun h s => if (s.halfPower h).stop = 5 then s.halfUp h else s)
  let idle (h : Half) : Bool := decide ((s0.keeper h).health = 1 ∨ (s0.keeper h).health = 2)
  .next (if ((s0.halfPower .west).on ∨ (s0.halfPower .east).on) ∧ idle .west ∧ idle .east then s0.coldStart f else s)

/-- PANEL_RESET_HOLD: PANEL_RESET_L of a connector has been low for 100 ms: the converters of both halves stop (R464, R433, R557). -/
def execPanelResetHold (h : Half) (s : State) : Host.Outcome State Fault Refusal :=
  let s1 := s.setKeeper h { s.keeper h with resetLow := true }
  let s2 := s1.halves (fun h s => if (s.halfPower h).on ∨ (s.halfPower h).stop ≥ 3 then s.halfStop h 5 else s)
  .next { s2 with boot := { s2.boot with state := 0, wave := 0xFF } }

/-! ### Warm panel restart -/

/-- May a warm restart skip a store's test: a map less than 24 h old, and the same repairs (R391)? -/
def State.skipTest (s : State) (f : StartFinds) (n : Nat) : Bool :=
  let x := s.store n
  !x.testMap.isEmpty && !f.stores.any (fun e => decide (e.1.val = n)) &&
  decide (s.leadTime.toNat / 1000000000 < fieldAt x.testMap 8 8 + 86400)

/-- K1, K2 for one comb: reset with its power, its site map and its links' policy kept; nothing is bound. It goes on through K5 where its half is started. -/
def State.warmComb (s : State) (i : Site) : State :=
  let s1 := (List.finRange 192).foldl (fun s p =>
    (s.modCell ⟨i, p⟩ (fun c => { c with colony := 0xFF, clk := { c.clk with changing := false } })).cellReset ⟨i, p⟩) s
  let s2 := s1.modComb i (fun k =>
    { k with
      detour := false, netCounters := 0, ranks := Ranks.reset, samplers := [], smpInit := { Sampler.reset with ready := decide (k.state = 0) }
      router := { Router.reset with tablesUp := s.started (halfOf i) }, waggle := Waggle.reset, ports := [], loader := Loader.reset
      pw := { k.pw with runChange := [] }
      erq := [], erqErr := 0, erqDropped := 0, erqPending := false, erqSent := [], guards := [], guardPaused := false, resetRun := none
      epochs := [], epochInit := UnitEpoch.reset })
  if s.started (halfOf i) then s2.openComb i else s2

/-- K4 for one store: extents disabled and content lost; tested again where the test may not be skipped. -/
def State.warmStore (s : State) (f : StartFinds) (n : Nat) : State :=
  let x := s.store n
  let x1 := { x with mem := [], ecc := [], unreadable := [], ext := [], kvq := [], chunks := [], kv := [], kvTaken := [], kvDone := []
                     zeroBusy := false, digBusy := [false, false], epoch := UnitEpoch.reset }
  if x.stb = 3 ∨ s.skipTest f n then s.setStore n x1
  else
    let o := ((f.stores.find? (fun e => e.1.val = n)).map (·.2)).getD (true, [])
    let x2 := { x1 with stb := 2, scrubAt := 0, testMap := testMap n o.1 (s.leadTime.toNat / 1000000000) (o.2.take 3072) }
    if o.1 then s.setStore n x2
    else ((s.setStore n { x2 with stb := 3, err := setBit x2.err sbFenced true }).fenceStoreUnit n).startFence 0x0402 4 n

/-- K1 and K2 above the combs: sessions end with REASON 2, colonies are taken off the panel, packets in flight are discarded. -/
def State.warmStop (s : State) : State :=
  let s1 := s.sessions.foldl (fun s x => s.endSession x 2) s
  let s2 := (List.range 64).foldl (fun s c =>
    if (s.colony c).state < csPlaced then s else (((s.abortLoad c).dropSessions c).unplace c).setCol c csDefined crNone) s1
  { s2 with sessions := [], works := [], boot := { s2.boot with state := 7, wave := 0xFF }
            net := { Net.reset with lane := s2.net.lane, err := s2.net.err.filter (fun e => decide (e.site ≥ 0xF0)) }
            mgmt := { s2.mgmt with sessions := [], snap0 := none, epoch := { s2.mgmt.epoch with committing := false } } }

/-- K1–K7, from acceptance on. -/
def State.warmStart (s : State) (f : StartFinds) : State :=
  let again := (List.range 64).filter (fun c => decide (csReady ≤ (s.colony c).state ∧ (s.colony c).state ≤ csDraining))
  let ref := s.leadTime
  let s1 : State := { s.warmStop with boot := { s.warmStop.boot with redeploy := again } }
  let s2 : State := s1.halves (fun h s => s.keeperBoot h)
  let up (h : Half) : Bool := decide ((s2.keeper h).health = 0)
  if !up .west ∧ !up .east then { s2 with boot := { s2.boot with state := 9 } }
  else
    let s3 : State := { s2 with lead := if up s.lead then s.lead else s.lead.other, log := s2.log.atStart }
    let skipped := s3.liveStores.filter (fun n => s3.skipTest f n)
    let s4 := s3.liveStores.foldl (fun s n => s.warmStore f n) s3
    let s5 := (List.finRange 224).foldl (fun s i => if (s.halfPower (halfOf i)).on then s.warmComb i else s) s4
    let s6 := ((badCells f).filter (fun c => s5.liveSites.contains c.site)).foldl (fun s c =>
      (s.fenceCell c).startFence 0x0107 1 (cellInst c)) s5
    let s7 := (f.combs.filter (fun e => s6.liveSites.contains e.1)).foldl (fun s e => s.combFails e.1 e.2) s6
    ((s7.report_ f skipped ref).retree).startEpoch f (fun s => s.ready f again)

/-- WARM_RESTART: PANEL_CTRL = 1, or (with no request) a short low pulse on PANEL_RESET_L. In READY alone: otherwise BUSY, or ignored. -/
def execWarmRestart (r : Option Req) (f : StartFinds) (s : State) : Host.Outcome State Fault Refusal :=
  .next (match r with
    | some r => s.writeReq r (oref 0x2003 0 0) [1] (fun s => if s.boot.state ≠ 6 then (coBusy, s) else (coOk, s.warmStart f))
    | none => if s.boot.state = 6 then s.warmStart f else s)

end Sys2Proof.Machine
end

