-- ==== Sys2Proof/Machine/Control.lean ====
section
/-!
DEFINITION. Control transfer, tile issue, counts, waits and the misc group of the worker (R108–R114).
-/
namespace Sys2Proof.Machine

/-! ### Control transfer (R108) -/

/-- The target of a branch: (pc + sext(off)) mod 2^20, or mod 2^24 on a privileged core (log 5). -/
def relPc {n : Nat} (i : CoreId) (pc : BitVec 24) (off : BitVec n) : BitVec 24 :=
  pcWrap i ((off.signExtend 24).toNat + pc.toNat)

/-- A branch on a condition over the task (R108). -/
def State.branch (s : State) (a : At) (reads : List Reg) (illegal : Bool) (cond : Task → Bool) (off : BitVec 16) : State :=
  s.issue a reads illegal (fun s => s.modTask a (fun t =>
    { t with pc := if cond t then relPc a.core t.pc off else nextPc a.core t.pc }))

/-- A branch that compares two registers. -/
def State.branchRR (s : State) (a : At) (f : OpBR) (cond : W64 → W64 → Bool) : State :=
  s.branch a [f.rs1, f.rs2] false (fun t => cond (t.x f.rs1) (t.x f.rs2)) f.off

/-- beq. -/
def execBeq (a : At) (f : OpBR) (s : State) : Host.Outcome State Fault Refusal := .next (s.branchRR a f (· == ·))
/-- bne. -/
def execBne (a : At) (f : OpBR) (s : State) : Host.Outcome State Fault Refusal := .next (s.branchRR a f (· != ·))
/-- blt. -/
def execBlt (a : At) (f : OpBR) (s : State) : Host.Outcome State Fault Refusal := .next (s.branchRR a f (fun x y => x.slt y))
/-- bge. -/
def execBge (a : At) (f : OpBR) (s : State) : Host.Outcome State Fault Refusal := .next (s.branchRR a f (fun x y => !x.slt y))
/-- bltu. -/
def execBltu (a : At) (f : OpBR) (s : State) : Host.Outcome State Fault Refusal := .next (s.branchRR a f (fun x y => x.ult y))
/-- bgeu. -/
def execBgeu (a : At) (f : OpBR) (s : State) : Host.Outcome State Fault Refusal := .next (s.branchRR a f (fun x y => !x.ult y))
/-- bp: taken where the predicate is set; bits [25:24] and [19:16] must be zero. -/
def execBp (a : At) (f : OpBP) (s : State) : Host.Outcome State Fault Refusal :=
  .next (s.branch a [] (f.top != 0 || f.z != 0) (fun t => t.p f.pn) f.off)
/-- bnp: taken where the predicate is clear. -/
def execBnp (a : At) (f : OpBP) (s : State) : Host.Outcome State Fault Refusal :=
  .next (s.branch a [] (f.top != 0 || f.z != 0) (fun t => !t.p f.pn) f.off)

/-- jal. -/
def execJal (a : At) (f : OpLI) (s : State) : Host.Outcome State Fault Refusal :=
  .next (s.issue a [] false (fun s => s.modTask a (fun t =>
    { (t.set f.rd ((nextPc a.core t.pc).setWidth 64)) with pc := relPc a.core t.pc f.imm })))

/-- jalr: reads rs1 before it writes rd. -/
def execJalr (a : At) (f : OpRI) (s : State) : Host.Outcome State Fault Refusal :=
  .next (s.issue a [f.rs1] false (fun s => s.modTask a (fun t =>
    { (t.set f.rd ((nextPc a.core t.pc).setWidth 64)) with pc := pcWrap a.core (t.x f.rs1 + sext64 f.imm).toNat })))

/-! ### Tile issue (R109, R110) -/

/-- The fields of tq that R109 forbids. -/
def tqIllegal (i : CoreId) (f : OpRRf) : Bool :=
  let u := fld f.fn 2 0
  f.rd != 0 || f.rs2 != 0 || decide (fld f.fn 10 3 ≠ 0) || decide (f.rs1.toNat % 4 ≠ 0) || f.rs1 == 0 || decide (u ≥ 5) ||
  (!isCell i && decide (u ≠ 2 ∧ u ≠ 3))

/-- The descriptor enters the queue: the four registers are read and its operands checked and translated in this step; a failing
check traps and queues nothing (R110). -/
def State.tqEnter (s : State) (a : At) (rs1 : Reg) (unit : Nat) : State :=
  match s.translate a unit ((s.task a).descriptor a.task (s.core a.core).serial rs1) with
  | .error (c, va) => s.trap a c (BitVec.ofNat 64 va)
  | .ok q => (s.enqueue a.core unit q).endWait a 0 0

/-- Is a unit's queue full? -/
def State.queueFull (s : State) (i : CoreId) (unit : Nat) : Bool := decide (s.queueLen i unit ≥ queueDepth unit)

/-- tq: waits while the queue is full, else the descriptor enters it. -/
def execTq (a : At) (f : OpRRf) (s : State) : Host.Outcome State Fault Refusal :=
  .next (s.issue a [f.rs1, f.rs1 + 1, f.rs1 + 2, f.rs1 + 3] (tqIllegal a.core f) (fun s =>
    if s.queueFull a.core (fld f.fn 2 0) then s.waitFor a (.tq f.rs1 (bits f.fn 0 3))
    else s.tqEnter a f.rs1 (fld f.fn 2 0)))

/-- TQ_QUEUE_ROOM: a tq that waits on a queue that is no longer full enters it. -/
def execTqQueueRoom (a : At) (s : State) : Host.Outcome State Fault Refusal :=
  .next (match (s.task a).wait with
    | .tq rs1 unit =>
      if (s.task a).st = .waiting ∧ s.coreRuns a.core ∧ s.queueFull a.core unit.toNat = false then s.tqEnter a rs1 unit.toNat
      else s
    | _ => s)

/-! ### Counts (R111) -/

/-- tcount: the exact count. -/
def execTcount (a : At) (f : OpCnt) (s : State) : Host.Outcome State Fault Refusal :=
  .next (s.issue a [] (f.fh != 0 || f.imm != 0 || f.unit == 5 || f.unit == 6)
    (fun s => s.setRd a f.rd (BitVec.ofNat 64 (s.count a f.unit.toNat))))

/-- twait: waits until the exact count is at most IMM8. -/
def execTwait (a : At) (f : OpCnt) (s : State) : Host.Outcome State Fault Refusal :=
  .next (s.issue a [] (f.fh != 0 || f.rd != 0 || f.unit == 5 || f.unit == 6) (fun s =>
    if s.count a f.unit.toNat ≤ f.imm.toNat then s.step1 a (fun t => t) else s.waitFor a (.twait f.unit f.imm)))

/-! ### Waits (R112, R114) -/

/-- waitw: the address is checked, and the first evaluation made, at issue. -/
def execWaitw (a : At) (f : OpRRf) (s : State) : Host.Outcome State Fault Refusal :=
  .next (s.issue a [f.rs1, f.rs2] (decide (fld f.fn 10 5 ≠ 0)) (fun s =>
    let va := (s.task a).x f.rs1
    let v := loW ((s.task a).x f.rs2)
    match s.dataCheck a va 1 rightR with
    | .error c => s.trap a c va
    | .ok p =>
      match s.memRead a.core p 1 with
      | (.error _, s1) => s1.trap a cDataUe va
      | (.ok ws, s1) =>
        if nth 0 ws 0 = v then s1.waitFor a (.waitw f.rd p v (decide (fld f.fn 4 0 ≠ 31))) else s1.setRd a f.rd 0))

/-- WAITW_TIMEOUT: a waitw with a timeout ends with rd := 1. -/
def execWaitwTimeout (a : At) (s : State) : Host.Outcome State Fault Refusal :=
  .next (match (s.task a).wait with
    | .waitw rd _ _ true => if (s.task a).st = .waiting ∧ s.coreRuns a.core then s.endWait a rd 1 else s
    | _ => s)

/-- yield. -/
def execYield (a : At) (f : OpMS) (s : State) : Host.Outcome State Fault Refusal :=
  .next (s.issue a [] (f.rd != 0 || f.rs1 != 0 || f.imm != 0) (fun s => s.waitFor a .yield))

/-- YIELD_END: the wait of a yield ends. -/
def execYieldEnd (a : At) (s : State) : Host.Outcome State Fault Refusal :=
  .next (if (s.task a).wait = .yield ∧ (s.task a).st = .waiting ∧ s.coreRuns a.core then s.endWait a 0 0 else s)

/-! ### Misc group (R114) -/

/-- stop: TSK_PC := next_pc, the task enters STOPPING. -/
def execStop (a : At) (f : OpMS) (s : State) : Host.Outcome State Fault Refusal :=
  .next (s.issue a [] (f.rd != 0 || f.rs1 != 0 || f.imm != 0)
    (fun s => (s.step1 a (fun t => { t with st := .stopping })).settleStop a))

/-- tid. -/
def execTid (a : At) (f : OpMS) (s : State) : Host.Outcome State Fault Refusal :=
  .next (s.issue a [] (f.rs1 != 0 || f.imm != 0) (fun s => s.setRd a f.rd (BitVec.ofNat 64 a.task.val)))

/-- rdp. -/
def execRdp (a : At) (f : OpMS) (s : State) : Host.Outcome State Fault Refusal :=
  .next (s.issue a [] (f.rs1 != 0 || f.imm != 0) (fun s => s.setRd a f.rd (zext64 (s.task a).preds)))

/-- wrp. -/
def execWrp (a : At) (f : OpMS) (s : State) : Host.Outcome State Fault Refusal :=
  .next (s.issue a [f.rs1] (f.rd != 0 || f.imm != 0)
    (fun s => s.step1 a (fun t => { t with preds := (t.x f.rs1).setWidth 8 })))

/-- swtrap: cause 0x80 + IMM8[6:0]; IMM8[7] must be zero. -/
def execSwtrap (a : At) (f : OpMS) (s : State) : Host.Outcome State Fault Refusal :=
  .next (s.issue a [] (f.rd != 0 || f.rs1 != 0 || bit f.imm 7) (fun s => s.trap a (0x80 + f.imm) 0))

end Sys2Proof.Machine
end

