-- ==== Sys2Proof/Machine/Transport.lean ====
section
/-!
DEFINITION. How management PDUs reach the panel: Ethernet frames, CAN frames, the form of a PDU (R495–R500, R505). A PDU that is whole and
good is held for its service, whose own command performs it (log 64).
-/
namespace Sys2Proof.Machine

/-! ### PDUs (R500, R505) -/

/-- Have the fixed parts of a service's body their size, and are their zero fields zero (R501, R508, R509)? -/
def bodyOk (service : Nat) (b : List Byte) : Bool :=
  if service = 0x01 then decide (b.length = 4) && allZero (b.drop 2)
  else if service = 0x02 then decide (b.length = 4) && allZero (b.drop 1)
  else if service = 0x04 then b.isEmpty
  else if service = 0x10 then decide (b.length = 16) && decide (fieldAt b 5 1 < 2)
  else if service = 0x11 then decide (b.length ≥ 16) && decide (fieldAt b 5 1 < 2) && allZero (slice b 6 2)
  else true

/-- Do the sizes of a PDU agree, and are its zero fields zero? A request has RESPONSE clear. -/
def pduOk (p : List Byte) : Bool :=
  let flags := fieldAt p 14 1
  decide (16 ≤ p.length ∧ p.length ≤ 1024) && decide (p.length = 16 + fieldAt p 12 2 + 16 * (flags / 2 % 2)) &&
    decide (flags = 0 ∨ flags = 2) && decide (fieldAt p 15 1 = 0) && (decide (flags = 2) || decide (fieldAt p 8 4 = 0)) &&
    bodyOk (fieldAt p 1 1) (slice p 16 (fieldAt p 12 2))

/-- A request as its header gives it. -/
def pduReq (p : List Byte) (tagOk : Bool) (path : MgmtPath) : Req :=
  { version := nth 0 p 0, session := BitVec.ofNat 32 (fieldAt p 4 4), txn := BitVec.ofNat 16 (fieldAt p 2 2)
    counter := BitVec.ofNat 32 (fieldAt p 8 4), tagOk := tagOk, path := path }

/-- A PDU arrives: dropped where its form or, in an open session, its TAG or COUNTER is bad; an unknown service is answered SERVICE;
any other is held for its service. -/
def State.pdu (s : State) (from_ : MgmtFrom) (path : MgmtPath) (p : List Byte) : State :=
  if !s.serves then s
  else if !pduOk p then s.dropOther
  else
    let tagged := decide (fieldAt p 14 1 = 2)
    let tagOk (m : MgmtSession) : Bool :=
      tagged && decide (p.drop (p.length - 16) = (Config.hmacSha256 m.key (p.take (p.length - 16))).take 16)
    let hold (ok : Bool) : State :=
      if fieldAt p 0 1 = 1 ∧ ([0x01, 0x02, 0x03, 0x04, 0x10, 0x11] : List Nat).contains (fieldAt p 1 1) = false then
        s.request (pduReq p ok path) false (fun _ s => (coService, [], s))
      else s.modMgmt (fun m => { m with received := some (from_, p) })
    match s.mgmtSession (BitVec.ofNat 32 (fieldAt p 4 4)) with
    | none => hold false
    | some m =>
      if m.provisional then hold false
      else if !tagOk m then s.badTag m
      else if fieldAt p 8 4 ≤ m.ctrIn.toNat then s.dropTag
      else hold true

/-! ### Management ports (R495) -/

/-- A management port as a station. The link-local address is always there. -/
def State.mgmtStation (s : State) (h : Half) : Station :=
  let mac := s.ident.macBase.take 5 ++ [nth 0 s.ident.macBase 5 + BitVec.ofNat 8 h.code]
  let ip6 := s.objGet 0x1017 0 h.code
  let v6 := (if ip6 = noAddr6 then [] else [ip6]) ++ [linkLocal mac]
  { mac := mac, vlan := 0, ip4 := if s.objU 0x1016 0 h.code = 0 then none else some (toBe 4 (s.objU 0x1016 0 h.code))
    ip6 := v6, resolve6 := v6 }

/-- Echo replies of a management port in the present second. -/
def Mgmt.echoes (m : Mgmt) : Half → Nat
  | .west => m.echoW
  | .east => m.echoE

/-- A management port sends a frame; `echo` counts it against the limit of 100 per second. -/
def State.mgmtSend (s : State) (h : Half) (f : List Byte) (echo : Bool) : State :=
  s.modMgmt (fun m => { m with frames := m.frames ++ [(h.code, f)]
                               echoW := m.echoW + b2n (echo && decide (h = .west)), echoE := m.echoE + b2n (echo && decide (h = .east)) })

/-- MGMT_FRAME_RECEIVE: ARP, Neighbor Solicitations and echo requests are answered; a UDP datagram to port 29450 carries one PDU; every other
frame is dropped and counted. A keeper that neither runs nor is in rescue hears nothing. -/
def execMgmtFrameReceive (h : Half) (bs : List Byte) (s : State) : Host.Outcome State Fault Refusal :=
  let w := s.mgmtStation h
  .next (if (s.keeper h).health ≠ 0 ∧ (s.keeper h).health ≠ 3 then s
    else
      match readFrame w bs with
      | .arp mac sip tip => s.mgmtSend h (arpReply w mac mac sip tip) false
      | .solicit mac src target => s.mgmtSend h (advertise w mac src target) false
      | .echo v6 mac src dst rest =>
        if s.mgmt.echoes h ≥ 100 then s.dropOther
        else let x := s.draw; x.2.mgmtSend h (echoReply w mac v6 src dst rest (fld x.1 7 0) (fld x.1 23 8)) true
      | .udp mac d =>
        if d.dst.udp ≠ 29450 then s.dropOther
        else s.pdu (.eth h mac d.src.v6 d.src.addr d.src.udp) (.eth (decide (d.dst.addr = linkLocal w.mac))) d.payload
      | .other => s.dropOther)

/-! ### CAN (R496–R498) -/

/-- The panel with a CAN controller of a keeper changed. -/
def State.modCan (s : State) (h : Half) (bus : Fin 2) (f : CanBus → CanBus) : State :=
  let k := s.keeper h
  s.setKeeper h (if bus = 0 then { k with can0 := f k.can0 } else { k with can1 := f k.can1 })
def State.can (s : State) (h : Half) (bus : Fin 2) : CanBus := if bus = 0 then (s.keeper h).can0 else (s.keeper h).can1

/-- Data lengths of a frame: 0–8, and on FD the larger ones. -/
def canLenOk (fd : Bool) (n : Nat) : Bool := decide (n ≤ 8) || (fd && [12, 16, 20, 24, 32, 48, 64].contains n)

/-- The PDU in the bytes of a last frame: what is left beyond it is zero. -/
def canPdu (bs : List Byte) : List Byte :=
  let n := 16 + fieldAt bs 12 2 + 16 * (fieldAt bs 14 1 / 2 % 2)
  if allZero (bs.drop n) then bs.take n else bs

/-- CAN_FRAME_RECEIVE: a request frame to this panel joins its client's partial PDU; FIRST begins one anew, and an unexpected SEQ discards it.
LAST completes it. Other identifiers are ignored. -/
def execCanFrameReceive (h : Half) (bus : Fin 2) (id : BitVec 11) (fd : Bool) (data : List Byte) (s : State) : Host.Outcome State Fault Refusal :=
  let client := fld id 2 0
  let t := nth 0 data 0
  let seq := fld t 5 0
  let put (s : State) (v : Option (Nat × Bool × List Byte)) : State :=
    s.modCan h bus (fun b => { b with partials := Tbl.put none b.partials client v })
  .next (if ((s.keeper h).health ≠ 0 ∧ (s.keeper h).health ≠ 3) ∨ (s.can h bus).state = 3 then s
    else if !bit id 10 ∨ bit id 9 ∨ fld id 8 3 ≠ s.canNode ∨ !canLenOk fd data.length ∨ data.isEmpty then s
    else
      let held := Tbl.get none (s.can h bus).partials client
      let start : Option (Nat × Bool × List Byte) := if bit t 7 then some (0, fd, []) else held
      match start with
      | none => s
      | some (next, fmt, sofar) =>
        if seq ≠ next then put s none
        else
          let all := sofar ++ data.drop 1
          if bit t 6 then (put s none).pdu (.can h bus ⟨client % 8, Nat.mod_lt _ (by decide)⟩ fmt) .can (canPdu all)
          else put s (some ((next + 1) % 64, fmt, all)))

/-- CAN_REASSEMBLY_TIMEOUT: a gap of more than 10 ms discards the partial PDU. -/
def execCanReassemblyTimeout (h : Half) (bus : Fin 2) (client : Fin 8) (s : State) : Host.Outcome State Fault Refusal :=
  .next (s.modCan h bus (fun b => { b with partials := Tbl.put none b.partials client.val none }))

/-- CAN_BUS_OFF_RECOVERY: BUS_OFF becomes ERROR_ACTIVE, with both error counts at zero (ISO 11898-1). -/
def execCanBusOffRecovery (h : Half) (bus : Fin 2) (s : State) : Host.Outcome State Fault Refusal :=
  .next (if (s.can h bus).state = 3 then s.modCan h bus (fun b => { b with state := 1, tec := 0, rec_ := 0 }) else s)

end Sys2Proof.Machine
end

