-- ==== Sys2Proof/Machine/Voice.lean ====
section
/-!
DEFINITION. The voice service ports: frames, RTP and SRTP in and out, reorder rings, RTCP (R277–R287, R293).
-/
namespace Sys2Proof.Machine

/-! ### Ports -/

/-- SVC_PORT_COUNTERS (R293), by place. -/
def vcFrames : Nat := 0
def vcDelivered : Nat := 1
def vcNoMatch : Nat := 2
def vcMalformed : Nat := 3
def vcAuth : Nat := 4
def vcLate : Nat := 5
def vcUnsupported : Nat := 6
def vcEgress : Nat := 7

/-- The panel with one of a port's counts raised. -/
def State.vcount (s : State) (p k : Nat) : State :=
  s.modPortV p (fun x => { x with counters := setNth x.counters k (nth 0 x.counters k + 1) })

/-- The site byte of a port's comb, and its endpoint PR4 (R277). -/
def State.voiceEid (s : State) (p : Nat) : Eid := s.eid (portSite p) 0xB4

/-- The panel with one entry of a port changed. -/
def State.modStream (s : State) (p index : Nat) (out : Bool) (f : Stream → Stream) : State :=
  s.modPortV p (fun x => { x with streams := x.streams.map (fun t => if t.index = index ∧ t.out = out then f t else t) })

/-- SERVICE_PORT_LINK_CHANGE: the Ethernet link of a port in service mode comes up or goes down. -/
def execServicePortLinkChange (p : PortId) (up : Bool) (s : State) : Host.Outcome State Fault Refusal :=
  .next (if s.octetMode (p.val / 2) ≠ 3 then s else s.modPortV p.val (fun x => { x with linkUp := up }))

/-! ### RTP (R281) -/

/-- An RTP packet with padding, CSRCs and header extension stripped. -/
structure Rtp where
  marker : Bool
  pt : Nat
  seq : Nat
  timestamp : Nat
  ssrc : Nat
  payload : List Byte

/-- The length of an RTP header with CSRCs and extension; none where it is cut short. -/
def rtpHead (b : List Byte) : Option Nat :=
  let h := 12 + 4 * (beAt b 0 1 % 16)
  if b.length < h then none
  else if beAt b 0 1 / 16 % 2 = 0 then some h
  else
    let e := h + 4 + 4 * beAt b (h + 2) 2
    if b.length < h + 4 ∨ b.length < e then none else some e

/-- Reads an RTP packet; none where it is malformed. -/
def readRtp (b : List Byte) : Option Rtp :=
  match rtpHead b with
  | none => none
  | some h =>
    let body := b.drop h
    let pad := if beAt b 0 1 / 32 % 2 = 0 then 0 else (body.getLast?.getD 0).toNat
    if beAt b 0 1 / 64 ≠ 2 ∨ pad > body.length ∨ (beAt b 0 1 / 32 % 2 = 1 ∧ pad = 0) then none
    else some { marker := decide (beAt b 1 1 ≥ 128), pt := beAt b 1 1 % 128, seq := beAt b 2 2, timestamp := beAt b 4 4, ssrc := beAt b 8 4
                payload := body.take (body.length - pad) }

/-- The value of a 16-bit sequence number nearest to a reference (R283, RFC 3711 section 3.3.1). -/
def nearest (h : Int) (seq : Nat) : Int :=
  let base := h - h % 65536 + Int.ofNat seq
  if base - h > 32768 then base - 65536 else if h - base > 32768 then base + 65536 else base

/-- The SRTP index of a packet: roll-over count 0 at first, then the nearest to the highest index (R285). -/
def srtpIndex (high : Option Nat) (seq : Nat) : Nat :=
  match high with
  | none => seq
  | some h => (nearest (Int.ofNat h) seq % 2 ^ 48).toNat

/-! ### Inbound media (R280–R284) -/

/-- The inbound entry of a port that a datagram with an SSRC matches (R280). -/
def VoicePort.matching (x : VoicePort) (d : Datagram) (ssrc : Nat) : Option Stream :=
  x.streams.find? (fun t => !t.out && decide (t.remote = d.src ∧ t.localUdp = d.dst.udp) && (t.anySsrc || decide (t.ssrc = ssrc)))

/-- Sends a word to a ring (R283, R284). -/
def State.ringSend (s : State) (p : Nat) (t : Stream) (word : Nat) (v : W32) : State :=
  let tag := (s.vport p).nextTag
  (s.modPortV p (fun x => { x with nextTag := x.nextTag + 1 })).sendData
    (mkData 0x02 t.ring.1 (s.voiceEid p) (BitVec.ofNat 8 t.home) (s.epochOf (portSite p) 0xB4) (t.ring.2 + word) tag [v, 0, 0])

/-- A packet that checks 2–5 refuse: counted, and in the ring's DROPPED. -/
def State.refuseRtp (s : State) (p : Nat) (t : Stream) (k : Nat) : State :=
  ((s.vcount p k).modStream p t.index false (fun x => { x with dropped := x.dropped + 1 })).ringSend p t 33 (t.dropped + 1)

/-- The two lines of a slot at most: header and payload (R283). -/
def slotBytes (x : Int) (r : Rtp) (arrival : W32) : List Byte :=
  toLe 8 (x % 2 ^ 64).toNat ++ toLe 4 r.timestamp ++ toLe 4 (r.payload.length * 65536 + b2n r.marker * 256 + r.pt) ++ toLe 4 arrival.toNat ++
    toLe 4 r.ssrc ++ List.replicate 8 0 ++ r.payload

/-- Check 5 and delivery: the slot lines go out as one bulk write (R283, R284). -/
def State.acceptRtp (s : State) (p : Nat) (t : Stream) (r : Rtp) (arrival : W32) : State :=
  let x := match t.high with | none => Int.ofNat r.seq | some h => nearest h r.seq
  let h := match t.high with | none => x | some h => max h x
  if (match t.high with | none => false | some h => decide (x ≤ h - 32)) || t.accepted.contains x then s.refuseRtp p t vcLate
  else
    let k := (x % 32).toNat
    let bs := slotBytes x r arrival
    let n := cdiv bs.length 256
    let tag := (s.vport p).nextTag
    let s1 := s.modStream p t.index false (fun y => { y with high := some h, accepted := (x :: y.accepted).filter (fun z => decide (z > h - 32)) })
    (s1.modPortV p (fun y => { y with nextTag := y.nextTag + 1, deliveries := y.deliveries ++ [{ entry := t.index, tag := tag, x := (x % 2 ^ 32).toNat }] })).sendData
      (mkData 0x01 t.ring.1 (s.voiceEid p) (BitVec.ofNat 8 t.home) (s.epochOf (portSite p) 0xB4) (t.ring.2 + 64 + 128 * k) tag
        (wordsOfBytes (fitTo 0 (256 * n) bs)))

/-- Checks 3–5 of R281. -/
def State.checkRtp (s : State) (p : Nat) (t : Stream) (r : Rtp) (arrival : W32) : State :=
  if r.pt ≠ t.pt ∧ r.pt ≠ 13 then s.refuseRtp p t vcUnsupported
  else if r.payload.length > 480 then s.refuseRtp p t vcUnsupported
  else s.acceptRtp p t r arrival

/-- An entry with SSRC_ANY takes an SSRC (R280). -/
def State.takeSsrc (s : State) (p : Nat) (t : Stream) (ssrc : Nat) : State :=
  if t.anySsrc then s.modStream p t.index false (fun y => { y with anySsrc := false, ssrc := ssrc }) else s

/-- A packet that an entry of SRTP matches: authenticated, then held against the replay window of 128 (R281, R285). -/
def State.srtpIn (s : State) (p : Nat) (t : Stream) (b : List Byte) (ssrc seq : Nat) (arrival : W32) : State :=
  let i := srtpIndex t.srtpHigh seq
  match Config.srtpUnprotect t.key t.salt i b with
  | none => s.refuseRtp p t vcAuth
  | some c =>
    let hi := match t.srtpHigh with | none => i | some h => max h i
    if i + 128 ≤ hi ∨ t.srtpSeen.contains i then s.refuseRtp p t vcAuth
    else
      let s1 := (s.takeSsrc p t ssrc).modStream p t.index false (fun y =>
        { y with srtpHigh := some hi, srtpSeen := (i :: y.srtpSeen).filter (fun z => decide (hi < z + 128)) })
      match readRtp c with
      | none => s1.vcount p vcMalformed
      | some r => s1.checkRtp p t r arrival

/-- A datagram of media. -/
def State.media (s : State) (p : Nat) (d : Datagram) (arrival : W32) : State :=
  let b := d.payload
  match (if b.length < 12 then none else (s.vport p).matching d (beAt b 8 4)) with
  | none => s.vcount p vcNoMatch
  | some t =>
    if beAt b 0 1 / 64 ≠ 2 ∨ (rtpHead b).isNone then s.vcount p vcMalformed
    else if t.srtp then s.srtpIn p t b (beAt b 8 4) (beAt b 2 2) arrival
    else
      match readRtp b with
      | none => s.vcount p vcMalformed
      | some r => (s.takeSsrc p t r.ssrc).checkRtp p t r arrival

/-- RING_DELIVERY_ACK: the answer to a slot write reaches the port. Acknowledged, SEQ_k and DELIVERED are written; refused, the packet is
dropped. Answers to other writes of the port change nothing. -/
def execRingDeliveryAck (p : PortId) (k : CtlPkt) (s : State) : Host.Outcome State Fault Refusal :=
  let ack := decide (k.cls = 0x04)
  .next (if (k.cls ≠ 0x04 ∧ k.cls ≠ 0x05) ∨ k.dst ≠ s.voiceEid p.val then s
    else
      s.arriveCtl (portSite p.val) 0xB4 k (fun s =>
        let tag : BitVec 16 := if ack then bits k.payload 0 16 else bits k.payload 32 16
        match (s.vport p.val).deliveries.find? (fun e => e.tag = tag) with
        | none => s
        | some e =>
          let s1 := s.modPortV p.val (fun x => { x with deliveries := x.deliveries.filter (fun y => y.tag != tag) })
          match (s1.vport p.val).streams.find? (fun t => decide (t.index = e.entry ∧ t.out = false)) with
          | none => s1
          | some t =>
            if !ack then s1
            else
              let s2 := (s1.vcount p.val vcDelivered).modStream p.val t.index false (fun y => { y with delivered := y.delivered + 1 })
              (s2.ringSend p.val t (e.x % 32) (BitVec.ofNat 32 e.x)).ringSend p.val t 32 (t.delivered + 1)))

/-! ### RTCP (R286) -/

/-- The session's event of a direction, to the exchange that opened it. -/
def State.streamEvent (s : State) (t : Stream) (kind : Nat) : State :=
  match s.sessions.find? (fun x => decide (x.slot = t.slot ∧ x.home = t.home)) with
  | some x =>
    match x.opener with
    | some e => s.svcEvent e kind (b2n t.out) t.home t.slot x.ext
    | none => s
  | none => s

/-- The packets of a compound: type and bytes; what follows a broken header is one packet of type 0. -/
def compound : Nat → List Byte → List (Nat × List Byte)
  | 0, _ => []
  | k + 1, b =>
    if b.isEmpty then []
    else
      let n := 4 + 4 * beAt b 2 2
      if b.length < 4 ∨ beAt b 0 1 / 64 ≠ 2 ∨ n > b.length then [(0, b)]
      else (beAt b 1 1, b.take n) :: compound k (b.drop n)

/-- One packet of a compound: SR and RR update the statistics, BYE posts MEDIA_BYE, every other one is counted and dropped. -/
def State.rtcpOne (s : State) (p : Nat) (t : Stream) (e : Nat × List Byte) : State :=
  if e.1 = 200 then s.modStream p t.index t.out (fun y => { y with reports := y.reports + 1, lastSr := part e.2 8 8 })
  else if e.1 = 201 then s.modStream p t.index t.out (fun y => { y with reports := y.reports + 1 })
  else if e.1 = 203 then s.streamEvent t 3
  else s.vcount p (if e.1 = 0 then vcMalformed else vcUnsupported)

/-- The entry whose RTCP a datagram is, an inbound one first: one port above the media ports, or on them with RTCP_MUX (RFC 5761). -/
def VoicePort.rtcpOf (x : VoicePort) (d : Datagram) : Option Stream :=
  let fits (t : Stream) : Bool :=
    if t.rtcpMux then decide (t.remote = d.src ∧ t.localUdp = d.dst.udp) && decide (192 ≤ beAt d.payload 1 1 ∧ beAt d.payload 1 1 ≤ 223)
    else decide ({ t.remote with udp := t.remote.udp + 1 } = d.src ∧ t.localUdp + 1 = d.dst.udp)
  match x.streams.find? (fun t => !t.out && fits t) with
  | some t => some t
  | none => x.streams.find? (fun t => t.out && fits t)

/-- A datagram of RTCP. -/
def State.rtcpIn (s : State) (p : Nat) (t : Stream) (b : List Byte) : State :=
  match (if t.srtp then Config.srtcpUnprotect t.key t.salt b else some b) with
  | none => s.vcount p vcAuth
  | some c => (compound c.length c).foldl (fun s e => s.rtcpOne p t e) s

/-- A 64-bit number as 16 lowercase hexadecimal digits. -/
def hex16 (v : W64) : List Byte :=
  (List.range 16).map (fun k => let n := v.toNat / 16 ^ (15 - k) % 16; BitVec.ofNat 8 (if n < 10 then 48 + n else 87 + n))

/-- A compound report of a direction: SR or RR, and SDES CNAME. `v`: free values for what the spec does not give (log 65): NTP time and the
RTP time that goes with it, reception statistics, the SSRC that an inbound direction reports under. -/
def reportBytes (t : Stream) (ext : W64) (v : List W64) : List Byte :=
  let own := if t.out then t.ssrc else fld (nth 0 v 0) 31 0
  let rep :=
    if t.out then
      toBe 4 0x80C80006 ++ toBe 4 own ++ toBe 8 (nth 0 v 1).toNat ++ toBe 4 (fld (nth 0 v 2) 31 0) ++ toBe 4 t.sent ++ toBe 4 t.octets
    else
      let high := match t.high with | some h => (h % 2 ^ 32).toNat | none => 0
      toBe 4 0x81C90007 ++ toBe 4 own ++ toBe 4 t.ssrc ++ toBe 4 (fld (nth 0 v 1) 31 0) ++ toBe 4 high ++ toBe 4 (fld (nth 0 v 1) 63 32) ++
        toBe 4 (beAt t.lastSr 2 4) ++ toBe 4 (fld (nth 0 v 2) 31 0)
  rep ++ toBe 4 0x81CA0006 ++ toBe 4 own ++ [1, 16] ++ hex16 ext ++ [0, 0]

/-- RTCP_REPORT_TIMER: a bound direction's interval ends: one compound packet goes to the remote end. -/
def execRtcpReportTimer (p : PortId) (entry : Fin 16384) (out : Bool) (s : State) : Host.Outcome State Fault Refusal :=
  .next (match (s.vport p.val).streams.find? (fun t => decide (t.index = entry.val ∧ t.out = out)) with
    | none => s
    | some t =>
      let ext := match s.sessions.find? (fun x => decide (x.slot = t.slot ∧ x.home = t.home)) with | some x => x.ext | none => 0
      let d0 := s.draw
      let d1 := d0.2.draw
      let d2 := d1.2.draw
      let b := reportBytes t ext [d0.1, d1.1, d2.1]
      let c := if t.srtp then Config.srtcpProtect t.key t.salt t.srtcp b else b
      let off := if t.rtcpMux then 0 else 1
      (d2.2.modStream p.val t.index out (fun y => { y with srtcp := y.srtcp + 1 })).udpSend p.val
        { src := { v6 := t.remote.v6, addr := s.portAddr p.val t.remote.v6, udp := t.localUdp + off }
          dst := { t.remote with udp := t.remote.udp + off }, payload := c })

/-! ### Frames (R278, R280, R288) -/

/-- Is a session-control datagram good: MAGIC, VERSION, LENGTH, an exchange that is configured, its MAC, an OP to the panel with its length?
The exchange's number (R288, R289). -/
def State.ctlOk (s : State) (b : List Byte) : Option Nat :=
  let op := beAt b 5 1
  if b.length < 48 ∨ beAt b 0 4 ≠ 0x4B534344 ∨ beAt b 4 1 ≠ 1 ∨ beAt b 6 2 ≠ b.length then none
  else
    match s.exchOf (beAt b 8 4) with
    | none => none
    | some n =>
      let m := b.length - 16
      if b.drop m ≠ (Config.hmacSha256 (exchKey (s.exchange n)) (b.take m)).take 16 then none
      else if (op = 1 ∧ b.length = 56) ∨ (op = 2 ∧ b.length = 112) ∨ ((op = 3 ∨ op = 4) ∧ b.length = 48) then some n else none

/-- A datagram to SVC_CTRL_PORT reaches the lead keeper, or is dropped and counted; the latest good one says where events go (R290). -/
def State.ctlIn (s : State) (p : Nat) (d : Datagram) : State :=
  match s.ctlOk d.payload with
  | none => s.vcount p vcMalformed
  | some n => (s.modExch n (fun x => { x with from_ := some (p, d.src) })).modVoice (fun v => { v with ctl := v.ctl ++ [(p, d)] })

/-- SERVICE_FRAME_RECEIVE: ARP, Neighbor Solicitations and echo requests are answered through the gateway; UDP goes to the lead keeper, to
RTCP or to the media entry it matches; every other frame is dropped and counted. `arrival`: the port's watch clock. -/
def execServiceFrameReceive (p : PortId) (bs : List Byte) (arrival : W32) (s : State) : Host.Outcome State Fault Refusal :=
  let w := s.portStation p.val
  let gw := s.objGet 0xB005 p.val 0
  .next (if s.octetMode (p.val / 2) ≠ 3 ∨ !(s.vport p.val).linkUp then s
    else
      let s1 := s.vcount p.val vcFrames
      match readFrame w bs with
      | .arp mac sip tip => s1.portSend p.val (arpReply w gw mac sip tip)
      | .solicit _ src target => s1.portSend p.val (advertise w gw src target)
      | .echo v6 _ src dst rest =>
        if (s.vport p.val).echoes ≥ 1000 then s1.vcount p.val vcUnsupported
        else
          let x := s1.draw
          (x.2.modPortV p.val (fun y => { y with echoes := y.echoes + 1 })).portSend p.val
            (echoReply w gw v6 src dst rest (fld x.1 7 0) (fld x.1 23 8))
      | .udp _ d =>
        if d.dst.udp = s.objU 0xB030 0 0 then s1.ctlIn p.val d
        else
          match (s.vport p.val).rtcpOf d with
          | some t => s1.rtcpIn p.val t d.payload
          | none => s1.media p.val d arrival
      | .other => s1.vcount p.val vcUnsupported)

/-! ### Egress (R287) -/

/-- Is an egress record well-formed: its length and the lines it came in, and its zero fields? -/
def egressOk (k : DataPkt) : Bool :=
  let n := fld (plWord k 0) 31 16
  decide (1 ≤ n ∧ n ≤ 480) && decide (k.payload.length = 64 * cdiv (32 + n) 256) && decide (k.addr = 0) &&
    decide (fld (plWord k 0) 15 14 = 0) && decide ((plWord k 2).toNat < 2) && (List.range 5).all (fun i => plWord k (3 + i) == 0)

/-- The record is sent as RTP; an SRTP stream stops at 2^31 packets and says so (R285, R287). -/
def State.egressSend (s : State) (p : Nat) (t : Stream) (k : DataPkt) : State :=
  if t.spent then s
  else
    let n := fld (plWord k 0) 31 16
    let ts := (plWord k 1).toNat
    let body := (part (k.payload.flatMap wordBytes) 32 n)
    let b := toBe 1 0x80 ++ toBe 1 (b2n (bit (plWord k 2) 0) * 128 + t.pt) ++ toBe 2 t.seq.toNat ++ toBe 4 ts ++ toBe 4 t.ssrc ++ body
    let first := (t.seq - BitVec.ofNat 16 t.sent).toNat
    let c := if t.srtp then Config.srtpProtect t.key t.salt (first + t.sent) b else b
    let spent := t.srtp && decide (t.sent + 1 = 2 ^ 31)
    let s1 := ((s.vcount p vcEgress).modStream p t.index true (fun y =>
      { y with seq := y.seq + 1, sent := y.sent + 1, octets := y.octets + n, timestamp := BitVec.ofNat 32 ts, spent := spent })).udpSend p
      { src := { v6 := t.remote.v6, addr := s.portAddr p t.remote.v6, udp := t.localUdp }, dst := t.remote, payload := c }
    if spent then s1.streamEvent t 4 else s1

/-- EGRESS_RECORD: a PUT of a colony's cell arrives at a port. It names an entry that is bound as outbound to the sender's colony, or is
refused; a record with a bad length or non-zero reserved words is acknowledged, dropped and counted. -/
def execEgressRecord (p : PortId) (k : DataPkt) (s : State) : Host.Outcome State Fault Refusal :=
  let ep := s.voiceEid p.val
  .next (if k.type ≠ 0x01 ∨ k.dst ≠ ep ∨ s.octetMode (p.val / 2) ≠ 3 then s
    else
      s.arriveData (portSite p.val) 0xB4 k (fun s =>
        match (s.vport p.val).streams.find? (fun t => decide (t.index = fld (plWord k 0) 13 0 ∧ t.home = k.colony.toNat) && t.out) with
        | none => s.nackData ep k nkNotPermitted
        | some t => if egressOk k then (s.ackData ep k).egressSend p.val t k else (s.ackData ep k).vcount p.val vcMalformed))

end Sys2Proof.Machine
end

