-- ==== Sys2Proof/Machine/VoiceCtl.lean ====
section
/-!
DEFINITION. Session control by datagram: OPEN, BIND, END, EVENT_ACK, events sent again, and the media map (R282, R288–R293).
-/
namespace Sys2Proof.Machine

/-! ### Requests and their answers (R288–R290) -/

/-- STATUS values of an ACK (R290). -/
def vsOk : Nat := 0
def vsBusy : Nat := 1
def vsRange : Nat := 2
def vsKeyInUse : Nat := 3
def vsTableFull : Nat := 4
def vsUnsupported : Nat := 5
def vsNoSession : Nat := 6

/-- Fields of a datagram's header. -/
def dgSeq (b : List Byte) : W32 := BitVec.ofNat 32 (beAt b 12 4)
def dgSlot (b : List Byte) : Nat := beAt b 16 4
def dgHome (b : List Byte) : Nat := beAt b 20 1
def dgExt (b : List Byte) : W64 := BitVec.ofNat 64 (beAt b 24 8)

/-- Are a request's fields in range: a slot of 24 bits, a colony, zeros? -/
def dgOk (b : List Byte) : Bool := decide (dgSlot b < 2 ^ 24 ∧ dgHome b < 64) && decide (beAt b 21 3 = 0)

/-- How far a serial lies behind the latest of an exchange, counted modulo 2^32. -/
def Exchange.behind (x : Exchange) (seq : W32) : Nat :=
  match x.answers with
  | [] => 0
  | e :: _ => (e.1 - seq).toNat

/-- An answer is kept with those to the last 4,096 SEQ values, the latest first. -/
def Exchange.keepAnswer (x : Exchange) (seq : W32) (bs : List Byte) : Exchange :=
  let late := decide (0 < x.behind seq ∧ x.behind seq < 2 ^ 31)
  match x.answers with
  | [] => { x with answers := [(seq, bs)] }
  | e :: t => { x with answers := if late then e :: (seq, bs) :: t else ((seq, bs) :: e :: t).filter (fun a => decide ((seq - a.1).toNat < 4096)) }

/-- The oldest waiting datagram, where its OP is the one asked for, is taken and performed: a repeated SEQ is answered again, one before the
window is dropped, and any other is acted on and answered. `act`: status and new state. -/
def State.ctlRequest (s : State) (op : Nat) (act : Nat → List Byte → State → Nat × State) : State :=
  match s.voice.ctl with
  | [] => s
  | (p, d) :: rest =>
    let b := d.payload
    if beAt b 5 1 ≠ op then s
    else
      let s1 := s.modVoice (fun v => { v with ctl := rest })
      match s.exchOf (beAt b 8 4) with
      | none => s1
      | some n =>
        let x := Tbl.get Exchange.reset s.voice.exchanges n
        match x.answers.find? (fun a => a.1 = dgSeq b) with
        | some a => s1.svcSend p d.src a.2
        | none =>
          if 4096 ≤ x.behind (dgSeq b) ∧ x.behind (dgSeq b) < 2 ^ 31 then s1
          else
            let r := if dgOk b then act n b s1 else (vsRange, s1)
            let bs := svcBytes (exchKey (s.exchange n)) 0x81 (beAt b 8 4) (dgSeq b).toNat (dgSlot b) (dgHome b) r.1 (dgExt b) []
            (r.2.modExch n (fun x => x.keepAnswer (dgSeq b) bs)).svcSend p d.src bs

/-- A session of a home colony. -/
def State.homeSession (s : State) (home slot : Nat) : Option Session := s.sessions.find? (fun x => decide (x.slot = slot ∧ x.home = home))

/-- CONTROL_DATAGRAM_OPEN: as SESSION_CTRL's OPEN (R232). -/
def execControlDatagramOpen (s : State) : Host.Outcome State Fault Refusal :=
  .next (s.ctlRequest 1 (fun n b s =>
    let r := s.openSession (dgHome b) (dgSlot b) (BitVec.ofNat 64 (beAt b 32 8)) (dgExt b) (some n)
    (if r.1 = coOk then vsOk else if r.1 = coBusy then vsBusy else vsRange, r.2)))

/-- CONTROL_DATAGRAM_END: as SESSION_CTRL's END (R234). -/
def execControlDatagramEnd (s : State) : Host.Outcome State Fault Refusal :=
  .next (s.ctlRequest 3 (fun _ b s =>
    match s.homeSession (dgHome b) (dgSlot b) with
    | none => (vsNoSession, s)
    | some x => (vsOk, s.endSession x 0)))

/-! ### BIND (R291, R292) -/

/-- The fields of a BIND body. -/
def bdOut (b : List Byte) : Bool := beAt b 0 1 == 1
def bdPort (b : List Byte) : Nat := beAt b 2 2
def bdLocal (b : List Byte) : Nat := beAt b 22 2
def bdFlags (b : List Byte) : Nat := beAt b 28 1
def bdRemote (b : List Byte) : UdpAddr :=
  { v6 := beAt b 1 1 == 6, addr := if beAt b 1 1 = 6 then part b 4 16 else part b 4 4, udp := beAt b 20 2 }

/-- Are the fields of a body in range? -/
def State.bindRange (s : State) (b : List Byte) : Bool :=
  let f := bdFlags b
  decide (beAt b 0 1 ≤ 1) && decide (beAt b 1 1 = 4 ∨ beAt b 1 1 = 6) && decide (bdPort b < 224) && decide (s.octetMode (bdPort b / 2) = 3) &&
    (beAt b 1 1 == 6 || allZero (part b 8 12)) && decide ((bdRemote b).udp ≠ 0) &&
    decide (bdLocal b % 2 = 0 ∧ 1024 ≤ bdLocal b ∧ bdLocal b ≠ s.objU 0xB030 0 0) && decide (f < 8) && !(bdOut b && f % 2 == 1) &&
    decide (beAt b 30 1 < 128) && (bdOut b || beAt b 31 1 == 0) && (f / 2 % 2 == 1 || allZero (part b 32 30)) && allZero (part b 62 2)

/-- Are codec, PT and packet interval among those of R292? -/
def bindCodec (b : List Byte) : Bool :=
  let pt := beAt b 30 1
  let ms := beAt b 31 1
  let ten := decide (10 ≤ ms ∧ ms ≤ 60 ∧ ms % 10 = 0) || !bdOut b
  let dyn := decide (96 ≤ pt ∧ pt ≤ 127)
  match beAt b 29 1 with
  | 0 => decide (pt = 0) && ten
  | 1 => decide (pt = 8) && ten
  | 2 => decide (pt = 9) && ten
  | 3 => dyn && (decide (10 ≤ ms ∧ ms ≤ 60) || !bdOut b)
  | 4 => dyn && (decide (ms = 10) || !bdOut b)
  | _ => false

/-- Does another session hold the key of an inbound entry (R280)? -/
def State.keyInUse (s : State) (home slot : Nat) (b : List Byte) : Bool :=
  (s.vport (bdPort b)).streams.any (fun t =>
    !t.out && !decide (t.slot = slot ∧ t.home = home) && decide (t.remote = bdRemote b ∧ t.localUdp = bdLocal b) &&
    (t.anySsrc || bdFlags b % 2 == 1 || decide (t.ssrc = beAt b 24 4)))

/-- The entry of a session's direction, with its port. -/
def State.boundAt (s : State) (home slot : Nat) (out : Bool) : Option (Nat × Stream) :=
  s.voice.ports.findSome? (fun e => (e.2.streams.find? (fun t => decide (t.slot = slot ∧ t.home = home ∧ t.out = out))).map (fun t => (e.1, t)))

/-- The entry number a BIND takes: that of the binding it replaces on the port, or the lowest free one (log 66). -/
def State.bindIndex (s : State) (home slot : Nat) (b : List Byte) : Option Nat :=
  let p := bdPort b
  let used := (s.vport p).streams.map (·.index)
  let total := s.voice.ports.foldl (fun a e => a + (e.2.streams.filter (fun t => t.out = bdOut b)).length) 0
  match s.boundAt home slot (bdOut b) with
  | some (q, t) => if q = p then some t.index else (List.range 16384).find? (fun n => !used.contains n)
  | none => if total ≥ 131072 then none else (List.range 16384).find? (fun n => !used.contains n)

/-- A binding starts: acceptance, SRTP and numbering afresh; the counts of a ring that stays run on. -/
def newStream (index slot home : Nat) (b : List Byte) (ring : Eid × Nat) (seq : BitVec 16) (old : Option Stream) : Stream :=
  let f := bdFlags b
  { index := index, slot := slot, home := home, out := bdOut b, body := b, remote := bdRemote b, localUdp := bdLocal b, ssrc := beAt b 24 4
    anySsrc := f % 2 == 1, srtp := f / 2 % 2 == 1, rtcpMux := f / 4 % 2 == 1, pt := beAt b 30 1, key := part b 32 16, salt := part b 48 14
    ring := ring, high := none, accepted := [], srtpHigh := none, srtpSeen := []
    delivered := (old.map (·.delivered)).getD 0, dropped := (old.map (·.dropped)).getD 0
    seq := seq, sent := 0, octets := 0, spent := false, timestamp := 0, reports := 0, lastSr := [], srtcp := 0 }

/-- The entry is installed, the egress words of the ring are written for an outbound one, and OPEN is posted again with the latest bodies. -/
def State.bind (s : State) (x : Session) (b : List Byte) (index : Nat) (ring : Eid × Nat) : State :=
  let p := bdPort b
  let out := bdOut b
  let old := s.boundAt x.home x.slot out
  let s1 := s.modVoice (fun v =>
    { v with ports := Tbl.mapVal VoicePort.reset (fun _ y =>
        { y with streams := y.streams.filter (fun t => !decide (t.slot = x.slot ∧ t.home = x.home ∧ t.out = out)) }) v.ports })
  let d := s1.draw
  let t := newStream index x.slot x.home b ring (bits d.1 0 16) (old.map (·.2))
  let s2 := d.2.modPortV p (fun y => { y with streams := y.streams ++ [t] })
  let s3 := if out then (s2.ringWord ring.1 (ring.2 + 40) (BitVec.ofNat 32 (2 ^ 31 + 0xFFF00 + p))).ringWord ring.1 (ring.2 + 41) (BitVec.ofNat 32 index)
    else s2
  let y := if out then { x with bindOut := b } else { x with bindIn := b }
  let s4 := s3.modSess x.slot (fun z => if z.home = x.home then { z with bindIn := y.bindIn, bindOut := y.bindOut } else z)
  x.live.foldl (fun s c => s.postEvent c (eventLine 1 0 x.home x.slot x.ext x.peers y.bindIn y.bindOut)) s4

/-- CONTROL_DATAGRAM_BIND: range, session, codec, key, room (log 66). -/
def execControlDatagramBind (s : State) : Host.Outcome State Fault Refusal :=
  .next (s.ctlRequest 2 (fun _ g s =>
    let b := part g 32 64
    if !s.bindRange b then (vsRange, s)
    else
      match s.homeSession (dgHome g) (dgSlot g) with
      | none => (vsNoSession, s)
      | some x =>
        if x.endReason.isSome then (vsBusy, s)
        else if !bindCodec b then (vsUnsupported, s)
        else
          match s.ringOf x.home x.slot with
          | none => (vsRange, s)
          | some ring =>
            if !bdOut b && s.keyInUse x.home x.slot b then (vsKeyInUse, s)
            else
              match s.bindIndex x.home x.slot b with
              | none => (vsTableFull, s)
              | some n => (vsOk, s.bind x b n ring)))

/-! ### Events (R290) -/

/-- EVENT_ACK: the event with its SEQ is not sent again. -/
def execEventAck (s : State) : Host.Outcome State Fault Refusal :=
  .next (match s.voice.ctl with
    | [] => s
    | (_, d) :: rest =>
      if beAt d.payload 5 1 ≠ 4 then s
      else
        match s.exchOf (beAt d.payload 8 4) with
        | none => s.modVoice (fun v => { v with ctl := rest })
        | some n => s.modVoice (fun v =>
            { v with ctl := rest, events := v.events.filter (fun e => !decide (e.exch = n ∧ e.serial = dgSeq d.payload)) }))

/-- EVENT_RESEND: 100 ms after its last sending an event goes out again; after 50 sends it is discarded. -/
def execEventResend (exch : Fin 8) (serial : W32) (s : State) : Host.Outcome State Fault Refusal :=
  .next (match s.voice.events.find? (fun e => decide (e.exch = exch.val ∧ e.serial = serial)) with
    | none => s
    | some e =>
      if e.sends ≥ 50 then s.modVoice (fun v => { v with events := v.events.filter (fun y => y != e) })
      else
        (s.modVoice (fun v => { v with events := v.events.map (fun y => if y = e then { y with sends := y.sends + 1 } else y) })).exchSend
          exch.val e.bytes)

/-! ### The media map (R282, R293) -/

/-- Is a media map in range: zero, or CELLS, RINGS and RING_BASE as R282 says? -/
def mapOk (v : W64) : Bool :=
  decide (v = 0) || (decide (1 ≤ fld v 51 44 ∧ fld v 51 44 ≤ 176) && decide (1 ≤ fld v 43 37 ∧ fld v 43 37 ≤ 100) && decide (fld v 5 0 = 0))

/-- SVC_MEDIA_MAP_WRITE: in FREE and DEFINED alone; a non-zero map is out of range where the layout uses segment 4,095. RNK_DIR.PORTS follows
when the colony's tables are written (R282). -/
def execSvcMediaMapWrite (r : Req) (c : ColonyId) (v : W64) (s : State) : Host.Outcome State Fault Refusal :=
  let w := setBits v 20 17 0
  .next (s.writeReq r (oref 0xB020 c.val 0) (toLe 8 v.toNat) (fun s =>
    if !mapOk w ∨ (w ≠ 0 ∧ uses4095 (s.layout c.val)) then (coRange, s)
    else if !s.colonyStatic c.val then (coBusy, s)
    else s.putStored (objKey 0xB020 c.val 0) (toLe 8 w.toNat) id))

end Sys2Proof.Machine
end

