-- ==== Sys2Proof/Machine/Dispatch.lean ====
section
/-!
DEFINITION. What each command does: one direct call of its meaning.
-/
namespace Sys2Proof.Machine

/-- The effect of a command on the panel, apart from the queue. -/
def exec (i : Instr) (s : State) : Host.Outcome State Fault Refusal :=
  match i with
  | .add at_ f => Sys2Proof.Machine.execAdd at_ f s
  | .sub at_ f => Sys2Proof.Machine.execSub at_ f s
  | .and_ at_ f => Sys2Proof.Machine.execAnd at_ f s
  | .or_ at_ f => Sys2Proof.Machine.execOr at_ f s
  | .xor_ at_ f => Sys2Proof.Machine.execXor at_ f s
  | .andn at_ f => Sys2Proof.Machine.execAndn at_ f s
  | .sll at_ f => Sys2Proof.Machine.execSll at_ f s
  | .srl at_ f => Sys2Proof.Machine.execSrl at_ f s
  | .sra at_ f => Sys2Proof.Machine.execSra at_ f s
  | .addw at_ f => Sys2Proof.Machine.execAddw at_ f s
  | .subw at_ f => Sys2Proof.Machine.execSubw at_ f s
  | .mul at_ f => Sys2Proof.Machine.execMul at_ f s
  | .mulh at_ f => Sys2Proof.Machine.execMulh at_ f s
  | .mulhu at_ f => Sys2Proof.Machine.execMulhu at_ f s
  | .div at_ f => Sys2Proof.Machine.execDiv at_ f s
  | .divu at_ f => Sys2Proof.Machine.execDivu at_ f s
  | .rem at_ f => Sys2Proof.Machine.execRem at_ f s
  | .remu at_ f => Sys2Proof.Machine.execRemu at_ f s
  | .min at_ f => Sys2Proof.Machine.execMin at_ f s
  | .max at_ f => Sys2Proof.Machine.execMax at_ f s
  | .minu at_ f => Sys2Proof.Machine.execMinu at_ f s
  | .maxu at_ f => Sys2Proof.Machine.execMaxu at_ f s
  | .clz at_ f => Sys2Proof.Machine.execClz at_ f s
  | .ctz at_ f => Sys2Proof.Machine.execCtz at_ f s
  | .popc at_ f => Sys2Proof.Machine.execPopc at_ f s
  | .sel at_ f => Sys2Proof.Machine.execSel at_ f s
  | .addi at_ f => Sys2Proof.Machine.execAddi at_ f s
  | .andi at_ f => Sys2Proof.Machine.execAndi at_ f s
  | .ori at_ f => Sys2Proof.Machine.execOri at_ f s
  | .xori at_ f => Sys2Proof.Machine.execXori at_ f s
  | .shi at_ f => Sys2Proof.Machine.execShi at_ f s
  | .movi at_ f => Sys2Proof.Machine.execMovi at_ f s
  | .shori at_ f => Sys2Proof.Machine.execShori at_ f s
  | .bfx at_ f => Sys2Proof.Machine.execBfx at_ f s
  | .bfi at_ f => Sys2Proof.Machine.execBfi at_ f s
  | .cmp at_ f => Sys2Proof.Machine.execCmp at_ f s
  | .cmpi at_ f => Sys2Proof.Machine.execCmpi at_ f s
  | .pand at_ f => Sys2Proof.Machine.execPand at_ f s
  | .por at_ f => Sys2Proof.Machine.execPor at_ f s
  | .pxor at_ f => Sys2Proof.Machine.execPxor at_ f s
  | .pandn at_ f => Sys2Proof.Machine.execPandn at_ f s
  | .pnot at_ f => Sys2Proof.Machine.execPnot at_ f s
  | .pset at_ f => Sys2Proof.Machine.execPset at_ f s
  | .pclr at_ f => Sys2Proof.Machine.execPclr at_ f s
  | .lw at_ f => Sys2Proof.Machine.execLw at_ f s
  | .lwu at_ f => Sys2Proof.Machine.execLwu at_ f s
  | .ld at_ f => Sys2Proof.Machine.execLd at_ f s
  | .sw at_ f => Sys2Proof.Machine.execSw at_ f s
  | .sd at_ f => Sys2Proof.Machine.execSd at_ f s
  | .amoswap at_ f => Sys2Proof.Machine.execAmoswap at_ f s
  | .amoadd at_ f => Sys2Proof.Machine.execAmoadd at_ f s
  | .amoand at_ f => Sys2Proof.Machine.execAmoand at_ f s
  | .amoor at_ f => Sys2Proof.Machine.execAmoor at_ f s
  | .amoxor at_ f => Sys2Proof.Machine.execAmoxor at_ f s
  | .amomin at_ f => Sys2Proof.Machine.execAmomin at_ f s
  | .amomax at_ f => Sys2Proof.Machine.execAmomax at_ f s
  | .amominu at_ f => Sys2Proof.Machine.execAmominu at_ f s
  | .amomaxu at_ f => Sys2Proof.Machine.execAmomaxu at_ f s
  | .amocas at_ f => Sys2Proof.Machine.execAmocas at_ f s
  | .fenceTask at_ z => Sys2Proof.Machine.execFenceTask at_ z s
  | .fenceCell at_ z => Sys2Proof.Machine.execFenceCell at_ z s
  | .fenceColony at_ z => Sys2Proof.Machine.execFenceColony at_ z s
  | .fencePanel at_ z => Sys2Proof.Machine.execFencePanel at_ z s
  | .fenceSwarm at_ z => Sys2Proof.Machine.execFenceSwarm at_ z s
  | .fenceWaitEnd at_ => Sys2Proof.Machine.execFenceWaitEnd at_ s
  | .beq at_ f => Sys2Proof.Machine.execBeq at_ f s
  | .bne at_ f => Sys2Proof.Machine.execBne at_ f s
  | .blt at_ f => Sys2Proof.Machine.execBlt at_ f s
  | .bge at_ f => Sys2Proof.Machine.execBge at_ f s
  | .bltu at_ f => Sys2Proof.Machine.execBltu at_ f s
  | .bgeu at_ f => Sys2Proof.Machine.execBgeu at_ f s
  | .bp at_ f => Sys2Proof.Machine.execBp at_ f s
  | .bnp at_ f => Sys2Proof.Machine.execBnp at_ f s
  | .jal at_ f => Sys2Proof.Machine.execJal at_ f s
  | .jalr at_ f => Sys2Proof.Machine.execJalr at_ f s
  | .tq at_ f => Sys2Proof.Machine.execTq at_ f s
  | .tqQueueRoom at_ => Sys2Proof.Machine.execTqQueueRoom at_ s
  | .tcount at_ f => Sys2Proof.Machine.execTcount at_ f s
  | .twait at_ f => Sys2Proof.Machine.execTwait at_ f s
  | .waitw at_ f => Sys2Proof.Machine.execWaitw at_ f s
  | .waitwTimeout at_ => Sys2Proof.Machine.execWaitwTimeout at_ s
  | .yield at_ f => Sys2Proof.Machine.execYield at_ f s
  | .yieldEnd at_ => Sys2Proof.Machine.execYieldEnd at_ s
  | .stop at_ f => Sys2Proof.Machine.execStop at_ f s
  | .tid at_ f => Sys2Proof.Machine.execTid at_ f s
  | .rdp at_ f => Sys2Proof.Machine.execRdp at_ f s
  | .wrp at_ f => Sys2Proof.Machine.execWrp at_ f s
  | .swtrap at_ f => Sys2Proof.Machine.execSwtrap at_ f s
  | .rdreg at_ f => Sys2Proof.Machine.execRdreg at_ f s
  | .wrreg at_ f => Sys2Proof.Machine.execWrreg at_ f s
  | .cread at_ f => Sys2Proof.Machine.execCread at_ f s
  | .cwrite at_ f => Sys2Proof.Machine.execCwrite at_ f s
  | .csend at_ f => Sys2Proof.Machine.execCsend at_ f s
  | .crecv at_ f => Sys2Proof.Machine.execCrecv at_ f s
  | .prd at_ f => Sys2Proof.Machine.execPrd at_ f s
  | .pwr at_ f => Sys2Proof.Machine.execPwr at_ f s
  | .tret at_ z => Sys2Proof.Machine.execTret at_ z s
  | .interrupt core => Sys2Proof.Machine.execInterrupt core s
  | .loadDataReturn at_ => Sys2Proof.Machine.execLoadDataReturn at_ s
  | .muldivResult at_ rd => Sys2Proof.Machine.execMuldivResult at_ rd s
  | .controlAccessTimeout at_ => Sys2Proof.Machine.execControlAccessTimeout at_ s
  | .taskStart at_ v => Sys2Proof.Machine.execTaskStart at_ v s
  | .taskStop at_ v => Sys2Proof.Machine.execTaskStop at_ v s
  | .clearTrap at_ v => Sys2Proof.Machine.execClearTrap at_ v s
  | .cellReset c v => Sys2Proof.Machine.execCellReset c v s
  | .quiesce c v => Sys2Proof.Machine.execQuiesce c v s
  | .resume c v => Sys2Proof.Machine.execResume c v s
  | .cellBindWrite c v => Sys2Proof.Machine.execCellBindWrite c v s
  | .registerWrite w => Sys2Proof.Machine.execRegisterWrite w s
  | .safePointApply b => Sys2Proof.Machine.execSafePointApply b s
  | .cellScrubTick c => Sys2Proof.Machine.execCellScrubTick c s
  | .accDataAccess c w => Sys2Proof.Machine.execAccDataAccess c w s
  | .cmemErrRead c => Sys2Proof.Machine.execCmemErrRead c s
  | .cmemArbStatRead c => Sys2Proof.Machine.execCmemArbStatRead c s
  | .tskClkMonRead c => Sys2Proof.Machine.execTskClkMonRead c s
  | .undefinedDescriptor core unit => Sys2Proof.Machine.execUndefinedDescriptor core unit s
  | .mma c => Sys2Proof.Machine.execMma c s
  | .accLoad c => Sys2Proof.Machine.execAccLoad c s
  | .accStore c => Sys2Proof.Machine.execAccStore c s
  | .accZero c => Sys2Proof.Machine.execAccZero c s
  | .accScale c => Sys2Proof.Machine.execAccScale c s
  | .pack c => Sys2Proof.Machine.execPack c s
  | .vbin c => Sys2Proof.Machine.execVbin c s
  | .vun c => Sys2Proof.Machine.execVun c s
  | .vred c => Sys2Proof.Machine.execVred c s
  | .vnorm c => Sys2Proof.Machine.execVnorm c s
  | .vrope c => Sys2Proof.Machine.execVrope c s
  | .vsmxu c => Sys2Proof.Machine.execVsmxu c s
  | .tileCommandComplete c eng cycles => Sys2Proof.Machine.execTileCommandComplete c eng cycles s
  | .samplerCommandStart c => Sys2Proof.Machine.execSamplerCommandStart c s
  | .select q p => Sys2Proof.Machine.execSelect q p s
  | .score q p => Sys2Proof.Machine.execScore q p s
  | .smpFetch c p => Sys2Proof.Machine.execSmpFetch c p s
  | .smpData q p => Sys2Proof.Machine.execSmpData q p s
  | .selectionComplete q ctx serial => Sys2Proof.Machine.execSelectionComplete q ctx serial s
  | .partTimeout q ctx serial => Sys2Proof.Machine.execPartTimeout q ctx serial s
  | .smpResult c p => Sys2Proof.Machine.execSmpResult c p s
  | .smpStart q v => Sys2Proof.Machine.execSmpStart q v s
  | .smpStop q v => Sys2Proof.Machine.execSmpStop q v s
  | .smpReset q v => Sys2Proof.Machine.execSmpReset q v s
  | .smpCtxReset q v => Sys2Proof.Machine.execSmpCtxReset q v s
  | .smpCfgWrite q ctx word v => Sys2Proof.Machine.execSmpCfgWrite q ctx word v s
  | .smpGrmDescWrite q g v => Sys2Proof.Machine.execSmpGrmDescWrite q g v s
  | .smpGdataAccess q w => Sys2Proof.Machine.execSmpGdataAccess q w s
  | .smpHdataAccess q w => Sys2Proof.Machine.execSmpHdataAccess q w s
  | .smpCountsRead q => Sys2Proof.Machine.execSmpCountsRead q s
  | .smpStCountRead q ctx => Sys2Proof.Machine.execSmpStCountRead q ctx s
  | .copy m => Sys2Proof.Machine.execCopy m s
  | .nput m => Sys2Proof.Machine.execNput m s
  | .put m => Sys2Proof.Machine.execPut m s
  | .get m => Sys2Proof.Machine.execGet m s
  | .sread m => Sys2Proof.Machine.execSread m s
  | .swrite m => Sys2Proof.Machine.execSwrite m s
  | .putimm m => Sys2Proof.Machine.execPutimm m s
  | .ratom m => Sys2Proof.Machine.execRatom m s
  | .satom m => Sys2Proof.Machine.execSatom m s
  | .sgather m => Sys2Proof.Machine.execSgather m s
  | .sfetch m => Sys2Proof.Machine.execSfetch m s
  | .moverDescriptorStart m => Sys2Proof.Machine.execMoverDescriptorStart m s
  | .moverDescriptorComplete m => Sys2Proof.Machine.execMoverDescriptorComplete m s
  | .moverTimeout m tag => Sys2Proof.Machine.execMoverTimeout m tag s
  | .cellWritePacket u p => Sys2Proof.Machine.execCellWritePacket u p s
  | .writeWordPacket u p => Sys2Proof.Machine.execWriteWordPacket u p s
  | .readReqPacket u p => Sys2Proof.Machine.execReadReqPacket u p s
  | .atomicPacket c p => Sys2Proof.Machine.execAtomicPacket c p s
  | .neighbourLine c d l => Sys2Proof.Machine.execNeighbourLine c d l s
  | .readRspPacket core p => Sys2Proof.Machine.execReadRspPacket core p s
  | .atomicRspPacket core p => Sys2Proof.Machine.execAtomicRspPacket core p s
  | .ackPacket u p => Sys2Proof.Machine.execAckPacket u p s
  | .nackPacket u p => Sys2Proof.Machine.execNackPacket u p s
  | .regRd u p => Sys2Proof.Machine.execRegRd u p s
  | .regWr u head body => Sys2Proof.Machine.execRegWr u head body s
  | .regRdRsp core p => Sys2Proof.Machine.execRegRdRsp core p s
  | .regWrAck core p => Sys2Proof.Machine.execRegWrAck core p s
  | .controlMessage core p => Sys2Proof.Machine.execControlMessage core p s
  | .packetHop site phys p => Sys2Proof.Machine.execPacketHop site phys p s
  | .holdExpiry site phys p => Sys2Proof.Machine.execHoldExpiry site phys p s
  | .rtrDataWrite site v keeper => Sys2Proof.Machine.execRtrDataWrite site v keeper s
  | .rtrCountersRead site => Sys2Proof.Machine.execRtrCountersRead site s
  | .combReset x drained hold fails => Sys2Proof.Machine.execCombReset x drained hold fails s
  | .drainConfirmTimeout x => Sys2Proof.Machine.execDrainConfirmTimeout x s
  | .drainRetry x drained fails => Sys2Proof.Machine.execDrainRetry x drained fails s
  | .wgoBarrier at_ f => Sys2Proof.Machine.execWgoBarrier at_ f s
  | .wgoAnd at_ f => Sys2Proof.Machine.execWgoAnd at_ f s
  | .wgoOr at_ f => Sys2Proof.Machine.execWgoOr at_ f s
  | .wgoXor at_ f => Sys2Proof.Machine.execWgoXor at_ f s
  | .wgoAdd at_ f => Sys2Proof.Machine.execWgoAdd at_ f s
  | .wgoMaxu at_ f => Sys2Proof.Machine.execWgoMaxu at_ f s
  | .wgoMinu at_ f => Sys2Proof.Machine.execWgoMinu at_ f s
  | .wgoMax at_ f => Sys2Proof.Machine.execWgoMax at_ f s
  | .wgoMin at_ f => Sys2Proof.Machine.execWgoMin at_ f s
  | .wgoQuery at_ f => Sys2Proof.Machine.execWgoQuery at_ f s
  | .wgoDigest at_ f => Sys2Proof.Machine.execWgoDigest at_ f s
  | .wgoCommit at_ f => Sys2Proof.Machine.execWgoCommit at_ f s
  | .wgoAbortStage at_ f => Sys2Proof.Machine.execWgoAbortStage at_ f s
  | .wgoAbort at_ f => Sys2Proof.Machine.execWgoAbort at_ f s
  | .waggleUpToken site input p => Sys2Proof.Machine.execWaggleUpToken site input p s
  | .waggleDownToken site p => Sys2Proof.Machine.execWaggleDownToken site p s
  | .waggleLimitExpiry site group => Sys2Proof.Machine.execWaggleLimitExpiry site group s
  | .unitEpochSwap b => Sys2Proof.Machine.execUnitEpochSwap b s
  | .wagParentWrite site v => Sys2Proof.Machine.execWagParentWrite site v s
  | .wagGroupWrite site g v => Sys2Proof.Machine.execWagGroupWrite site g v s
  | .linkFrameReceive l ch f => Sys2Proof.Machine.execLinkFrameReceive l ch f s
  | .acknak l ch ack nak => Sys2Proof.Machine.execAcknak l ch ack nak s
  | .acknakSendTimer l ch => Sys2Proof.Machine.execAcknakSendTimer l ch s
  | .replayTimeout l ch spent => Sys2Proof.Machine.execReplayTimeout l ch spent s
  | .creditBlock l ch e0 e1 => Sys2Proof.Machine.execCreditBlock l ch e0 e1 s
  | .waggleBlock l t0 t1 => Sys2Proof.Machine.execWaggleBlock l t0 t1 s
  | .trainingRecord l bs => Sys2Proof.Machine.execTrainingRecord l bs s
  | .linkTraining l o => Sys2Proof.Machine.execLinkTraining l o s
  | .lockLoss l => Sys2Proof.Machine.execLockLoss l s
  | .routeFlipTimer l => Sys2Proof.Machine.execRouteFlipTimer l s
  | .routeRestoreTimer l => Sys2Proof.Machine.execRouteRestoreTimer l s
  | .linkRecalibration l clean => Sys2Proof.Machine.execLinkRecalibration l clean s
  | .linkRetrain l r => Sys2Proof.Machine.execLinkRetrain l r s
  | .linkDisable l r => Sys2Proof.Machine.execLinkDisable l r s
  | .linkEnable l r => Sys2Proof.Machine.execLinkEnable l r s
  | .linkRelease l r => Sys2Proof.Machine.execLinkRelease l r s
  | .lnkCountsRead x k => Sys2Proof.Machine.execLnkCountsRead x k s
  | .fetchReq x pr p => Sys2Proof.Machine.execFetchReq x pr p s
  | .fetchData x pr p => Sys2Proof.Machine.execFetchData x pr p s
  | .fetchEnd x pr p => Sys2Proof.Machine.execFetchEnd x pr p s
  | .fetchNoProgress x pr rid => Sys2Proof.Machine.execFetchNoProgress x pr rid s
  | .swarmCommand h p img delivered => Sys2Proof.Machine.execSwarmCommand h p img delivered s
  | .swarmStepDone h p img delivered => Sys2Proof.Machine.execSwarmStepDone h p img delivered s
  | .swarmSegments h p => Sys2Proof.Machine.execSwarmSegments h p s
  | .swarmEpoch h p => Sys2Proof.Machine.execSwarmEpoch h p s
  | .swarmHeartbeat h p => Sys2Proof.Machine.execSwarmHeartbeat h p s
  | .swarmAck h p => Sys2Proof.Machine.execSwarmAck h p s
  | .swarmPeerLost panel => Sys2Proof.Machine.execSwarmPeerLost panel s
  | .laserInsert n accepted tele => Sys2Proof.Machine.execLaserInsert n accepted tele s
  | .laserLoss n removed => Sys2Proof.Machine.execLaserLoss n removed s
  | .census r ctrl o => Sys2Proof.Machine.execCensus r ctrl o s
  | .storeWritePacket st p => Sys2Proof.Machine.execStoreWritePacket st p s
  | .storeReadReq st p => Sys2Proof.Machine.execStoreReadReq st p s
  | .storeAtomic st p => Sys2Proof.Machine.execStoreAtomic st p s
  | .gather st p => Sys2Proof.Machine.execGather st p s
  | .gatherRsp x p => Sys2Proof.Machine.execGatherRsp x p s
  | .shardOpen st p => Sys2Proof.Machine.execShardOpen st p s
  | .shardData st p => Sys2Proof.Machine.execShardData st p s
  | .shardEnd st p => Sys2Proof.Machine.execShardEnd st p s
  | .shardDone x p => Sys2Proof.Machine.execShardDone x p s
  | .kvDoorbell st c => Sys2Proof.Machine.execKvDoorbell st c s
  | .kvQueuePoll st c => Sys2Proof.Machine.execKvQueuePoll st c s
  | .kvEntryComplete st c entry => Sys2Proof.Machine.execKvEntryComplete st c entry s
  | .storeScrubTick st => Sys2Proof.Machine.execStoreScrubTick st s
  | .scrubNow st v => Sys2Proof.Machine.execScrubNow st v s
  | .storeTest st v => Sys2Proof.Machine.execStoreTest st v s
  | .storeTestComplete st pass rows => Sys2Proof.Machine.execStoreTestComplete st pass rows s
  | .storeFence st v => Sys2Proof.Machine.execStoreFence st v s
  | .storeChannelTimeout st => Sys2Proof.Machine.execStoreChannelTimeout st s
  | .storeZero st v => Sys2Proof.Machine.execStoreZero st v s
  | .storeZeroDone st => Sys2Proof.Machine.execStoreZeroDone st s
  | .digestStart st slot v => Sys2Proof.Machine.execDigestStart st slot v s
  | .digestDone st slot => Sys2Proof.Machine.execDigestDone st slot s
  | .stbExtWrite st c v => Sys2Proof.Machine.execStbExtWrite st c v s
  | .stbEccRead st => Sys2Proof.Machine.execStbEccRead st s
  | .colonyLayoutWrite r c bytes => Sys2Proof.Machine.execColonyLayoutWrite r c bytes s
  | .deploy r c img => Sys2Proof.Machine.execDeploy r c img s
  | .colonyStart r c => Sys2Proof.Machine.execColonyStart r c s
  | .colonyStop r c => Sys2Proof.Machine.execColonyStop r c s
  | .restart r c delivered => Sys2Proof.Machine.execRestart r c delivered s
  | .colonyRelease r c => Sys2Proof.Machine.execColonyRelease r c s
  | .drainComplete c delivered => Sys2Proof.Machine.execDrainComplete c delivered s
  | .drainTimeout c delivered => Sys2Proof.Machine.execDrainTimeout c delivered s
  | .energyCharge h frames stores other => Sys2Proof.Machine.execEnergyCharge h frames stores other s
  | .colonyBridgesWrite r c v => Sys2Proof.Machine.execColonyBridgesWrite r c v s
  | .rnkDirWrite x c v => Sys2Proof.Machine.execRnkDirWrite x c v s
  | .rnkDataAccess x w => Sys2Proof.Machine.execRnkDataAccess x w s
  | .sessionCtrlOpen r w0 w1 w2 => Sys2Proof.Machine.execSessionCtrlOpen r w0 w1 w2 s
  | .sessionCtrlEnd r w0 w1 w2 => Sys2Proof.Machine.execSessionCtrlEnd r w0 w1 w2 s
  | .openTimeout slot => Sys2Proof.Machine.execOpenTimeout slot s
  | .requestRingPoll => Sys2Proof.Machine.execRequestRingPoll s
  | .reqEnd c => Sys2Proof.Machine.execReqEnd c s
  | .reqRetired c => Sys2Proof.Machine.execReqRetired c s
  | .reqSetProfile c => Sys2Proof.Machine.execReqSetProfile c s
  | .sessionEndTimeout c slot => Sys2Proof.Machine.execSessionEndTimeout c slot s
  | .sessionIdleCheck => Sys2Proof.Machine.execSessionIdleCheck s
  | .eventQueuePost c => Sys2Proof.Machine.execEventQueuePost c s
  | .bankRelease c x => Sys2Proof.Machine.execBankRelease c x s
  | .weightLoad r c data => Sys2Proof.Machine.execWeightLoad r c data s
  | .manifestCheck c len => Sys2Proof.Machine.execManifestCheck c len s
  | .containerCheck c entry slot fetched => Sys2Proof.Machine.execContainerCheck c entry slot fetched s
  | .shardDigestCheck c bank entry how => Sys2Proof.Machine.execShardDigestCheck c bank entry how s
  | .loadComplete c => Sys2Proof.Machine.execLoadComplete c s
  | .weightLoadTimeout c => Sys2Proof.Machine.execWeightLoadTimeout c s
  | .weightActivate r c v => Sys2Proof.Machine.execWeightActivate r c v s
  | .weightRecheck c => Sys2Proof.Machine.execWeightRecheck c s
  | .streamRingPoll st c => Sys2Proof.Machine.execStreamRingPoll st c s
  | .streamRequestDone st c n how => Sys2Proof.Machine.execStreamRequestDone st c n how s
  | .serviceFrameReceive p bs arrival => Sys2Proof.Machine.execServiceFrameReceive p bs arrival s
  | .ringDeliveryAck p k => Sys2Proof.Machine.execRingDeliveryAck p k s
  | .rtcpReportTimer p entry out => Sys2Proof.Machine.execRtcpReportTimer p entry out s
  | .egressRecord p k => Sys2Proof.Machine.execEgressRecord p k s
  | .controlDatagramOpen => Sys2Proof.Machine.execControlDatagramOpen s
  | .controlDatagramBind => Sys2Proof.Machine.execControlDatagramBind s
  | .controlDatagramEnd => Sys2Proof.Machine.execControlDatagramEnd s
  | .eventAck => Sys2Proof.Machine.execEventAck s
  | .eventResend exch serial => Sys2Proof.Machine.execEventResend exch serial s
  | .svcMediaMapWrite r c v => Sys2Proof.Machine.execSvcMediaMapWrite r c v s
  | .bladeReversed b => Sys2Proof.Machine.execBladeReversed b s
  | .bladeOvercurrent b => Sys2Proof.Machine.execBladeOvercurrent b s
  | .efuseReclose b => Sys2Proof.Machine.execEfuseReclose b s
  | .busUndervolt h => Sys2Proof.Machine.execBusUndervolt h s
  | .busOvervolt h => Sys2Proof.Machine.execBusOvervolt h s
  | .bladeAbsent b => Sys2Proof.Machine.execBladeAbsent b s
  | .halfPowerUp h found => Sys2Proof.Machine.execHalfPowerUp h found s
  | .converterInsert p accepted tele => Sys2Proof.Machine.execConverterInsert p accepted tele s
  | .converterFault p => Sys2Proof.Machine.execConverterFault p s
  | .converterRemove p => Sys2Proof.Machine.execConverterRemove p s
  | .zoneFeedTrip z => Sys2Proof.Machine.execZoneFeedTrip z s
  | .phaseFailure x r p fit => Sys2Proof.Machine.execPhaseFailure x r p fit s
  | .regulatorLatch x r under => Sys2Proof.Machine.execRegulatorLatch x r under s
  | .droopCatch x r => Sys2Proof.Machine.execDroopCatch x r s
  | .domainPowerOn x d who => Sys2Proof.Machine.execDomainPowerOn x d who s
  | .domainPowerOff x d who => Sys2Proof.Machine.execDomainPowerOff x d who s
  | .inrushGrant z current => Sys2Proof.Machine.execInrushGrant z current s
  | .domainPowerGood z => Sys2Proof.Machine.execDomainPowerGood z s
  | .domainRampTimeout z => Sys2Proof.Machine.execDomainRampTimeout z s
  | .inrushWaitTimeout x d => Sys2Proof.Machine.execInrushWaitTimeout x d s
  | .vsetWrite x r v => Sys2Proof.Machine.execVsetWrite x r v s
  | .siteDuskEntry c => Sys2Proof.Machine.execSiteDuskEntry c s
  | .siteDescend c => Sys2Proof.Machine.execSiteDescend c s
  | .siteWake c => Sys2Proof.Machine.execSiteWake c s
  | .siteDawn c => Sys2Proof.Machine.execSiteDawn c s
  | .frameLimiterTick x f power reads => Sys2Proof.Machine.execFrameLimiterTick x f power reads s
  | .panelLoop m => Sys2Proof.Machine.execPanelLoop m s
  | .runDownshift x f => Sys2Proof.Machine.execRunDownshift x f s
  | .runUpshift x f => Sys2Proof.Machine.execRunUpshift x f s
  | .fmxCapWrite c v => Sys2Proof.Machine.execFmxCapWrite c v s
  | .voltageSettled x f => Sys2Proof.Machine.execVoltageSettled x f s
  | .clockRelock c => Sys2Proof.Machine.execClockRelock c s
  | .clockGo c v => Sys2Proof.Machine.execClockGo c v s
  | .sensorConversion a v fault => Sys2Proof.Machine.execSensorConversion a v fault s
  | .throttleStep x f => Sys2Proof.Machine.execThrottleStep x f s
  | .frameHeatOff x f => Sys2Proof.Machine.execFrameHeatOff x f s
  | .thermalTrip h => Sys2Proof.Machine.execThermalTrip h s
  | .heatFrameReturn x f passed => Sys2Proof.Machine.execHeatFrameReturn x f passed s
  | .powerReport m => Sys2Proof.Machine.execPowerReport m s
  | .refclkLoss h b => Sys2Proof.Machine.execRefclkLoss h b s
  | .refclkSelectWrite r h v => Sys2Proof.Machine.execRefclkSelectWrite r h v s
  | .transitInputLoss x k => Sys2Proof.Machine.execTransitInputLoss x k s
  | .clkCombWrite x v => Sys2Proof.Machine.execClkCombWrite x v s
  | .droopStretch c cycles => Sys2Proof.Machine.execDroopStretch c cycles s
  | .keeperTimeWrite r h v => Sys2Proof.Machine.execKeeperTimeWrite r h v s
  | .keeperTimeAlign dt => Sys2Proof.Machine.execKeeperTimeAlign dt s
  | .fwlArm x => Sys2Proof.Machine.execFwlArm x s
  | .fwlCheck x => Sys2Proof.Machine.execFwlCheck x s
  | .fwlCheckDone x => Sys2Proof.Machine.execFwlCheckDone x s
  | .fwlStart x keeper => Sys2Proof.Machine.execFwlStart x keeper s
  | .fwBlock x p => Sys2Proof.Machine.execFwBlock x p s
  | .coldStart f => Sys2Proof.Machine.execColdStart f s
  | .warmRestart r f => Sys2Proof.Machine.execWarmRestart r f s
  | .safeStop h low => Sys2Proof.Machine.execSafeStop h low s
  | .errRecord x r arrival => Sys2Proof.Machine.execErrRecord x r arrival s
  | .erqOverflowRecord x arrival => Sys2Proof.Machine.execErqOverflowRecord x arrival s
  | .errRecordAckTimeout x => Sys2Proof.Machine.execErrRecordAckTimeout x s
  | .errorRecordLog src closed fails => Sys2Proof.Machine.execErrorRecordLog src closed fails s
  | .erqOverflowsRead x => Sys2Proof.Machine.execErqOverflowsRead x s
  | .guardSwap x f => Sys2Proof.Machine.execGuardSwap x f s
  | .guardTestDone x f pass fmax => Sys2Proof.Machine.execGuardTestDone x f pass fmax s
  | .parkedTest x f q => Sys2Proof.Machine.execParkedTest x f q s
  | .overdueReport x => Sys2Proof.Machine.execOverdueReport x s
  | .guardPause x keeper => Sys2Proof.Machine.execGuardPause x keeper s
  | .guardResume x keeper => Sys2Proof.Machine.execGuardResume x keeper s
  | .keeperHeartbeat h => Sys2Proof.Machine.execKeeperHeartbeat h s
  | .keeperSilent fails => Sys2Proof.Machine.execKeeperSilent fails s
  | .handOver r v fails => Sys2Proof.Machine.execHandOver r v fails s
  | .dump r => Sys2Proof.Machine.execDump r s
  | .dumpRelease r => Sys2Proof.Machine.execDumpRelease r s
  | .operatorFence r d fails => Sys2Proof.Machine.execOperatorFence r d fails s
  | .fenceRelease r d => Sys2Proof.Machine.execFenceRelease r d s
  | .mgmtFrameReceive h bs => Sys2Proof.Machine.execMgmtFrameReceive h bs s
  | .canFrameReceive h bus id fd data => Sys2Proof.Machine.execCanFrameReceive h bus id fd data s
  | .canReassemblyTimeout h bus client => Sys2Proof.Machine.execCanReassemblyTimeout h bus client s
  | .hello r vmin vmax => Sys2Proof.Machine.execHello r vmin vmax s
  | .sessionOpen r role => Sys2Proof.Machine.execSessionOpen r role s
  | .sessionAuth r proof => Sys2Proof.Machine.execSessionAuth r proof s
  | .sessionClose r => Sys2Proof.Machine.execSessionClose r s
  | .provisionalTimeout session => Sys2Proof.Machine.execProvisionalTimeout session s
  | .sessionIdleTimeout session => Sys2Proof.Machine.execSessionIdleTimeout session s
  | .ciardRead r b => Sys2Proof.Machine.execCiardRead r b s
  | .ciardWrite r w d => Sys2Proof.Machine.execCiardWrite r w d s
  | .snapshotExpiry session => Sys2Proof.Machine.execSnapshotExpiry session s
  | .segmentTimeout session => Sys2Proof.Machine.execSegmentTimeout session s
  | .epochCommit r abort late lateCombs fails => Sys2Proof.Machine.execEpochCommit r abort late lateCombs fails s
  | .epochDiscard r => Sys2Proof.Machine.execEpochDiscard r s
  | .digestCheck r dom fails => Sys2Proof.Machine.execDigestCheck r dom fails s
  | .imageUpdate r c d img delivered => Sys2Proof.Machine.execImageUpdate r c d img delivered s
  | .imageSet r h w d => Sys2Proof.Machine.execImageSet r h w d s
  | .keeperRestart r h => Sys2Proof.Machine.execKeeperRestart r h s
  | .stewardRoll r bad fails => Sys2Proof.Machine.execStewardRoll r bad fails s
  | .attestNonce r nonce => Sys2Proof.Machine.execAttestNonce r nonce s
  | .keySlotWrite r keys slot v => Sys2Proof.Machine.execKeySlotWrite r keys slot v s
  | .svnFloorWrite r kind v => Sys2Proof.Machine.execSvnFloorWrite r kind v s
  | .panelResetHold h => Sys2Proof.Machine.execPanelResetHold h s
  | .refclkReturn h b => Sys2Proof.Machine.execRefclkReturn h b s
  | .transitInputReturn x k => Sys2Proof.Machine.execTransitInputReturn x k s
  | .bladeReturn b => Sys2Proof.Machine.execBladeReturn b s
  | .overvoltRecovery h => Sys2Proof.Machine.execOvervoltRecovery h s
  | .converterDegraded p deg => Sys2Proof.Machine.execConverterDegraded p deg s
  | .laserWorn n tele => Sys2Proof.Machine.execLaserWorn n tele s
  | .characterisationOverdue c => Sys2Proof.Machine.execCharacterisationOverdue c s
  | .servicePortLinkChange p up => Sys2Proof.Machine.execServicePortLinkChange p up s
  | .canBusOffRecovery h bus => Sys2Proof.Machine.execCanBusOffRecovery h bus s
  | .counterPublish x => Sys2Proof.Machine.execCounterPublish x s

end Sys2Proof.Machine
end

