-- ==== Sys2Proof/Machine/Step.lean ====
section
/-!
DEFINITION. One step of the panel: the command at the front of the queue is taken and has its effect.
-/
namespace Sys2Proof.Machine

/-- The panel without its waiting commands and with others. -/
def State.withQueue (s : State) (q : List Instr) : State := { s with pending := q }

/-- One step: the front command's effect with the queue's rest; on an empty queue the panel idles (log 11). -/
def step (s : State) : Host.Outcome State Fault Refusal :=
  match s.pending with
  | [] => .next s
  | c :: rest => exec c (s.withQueue rest)

/-- The panel with the command that a word spells put at the front of its queue; unchanged where it spells none. -/
def State.withFetchWord (s : State) (nbits w : Nat) : State :=
  match decodeTableWord nbits w with
  | some c => s.withQueue (c :: s.pending)
  | none => s

end Sys2Proof.Machine
end

