-- ==== Sys2Proof/Safety.lean ====
section
/-!
DEFINITION. What the statements about the panel are said in: a command that answers a state, a task that is ready to issue, a management
request that passes its checks, memories in canonical form.
-/
namespace Sys2Proof.Machine

/-! ### Answers -/

/-- The command answers a next state of which P holds. -/
def Answers (c : Instr) (s : State) (P : State → Prop) : Prop := ∃ t, exec c s = .next t ∧ P t

/-! ### Issue (R36, R93, R95) -/

/-- The task may issue an instruction that reads these registers, and its fetch meets no trap. -/
def Ready (s : State) (a : At) (reads : List Reg) : Prop := s.canIssue a reads = true ∧ (s.fetch a).1 = none

/-- The panel with an instruction of the task issued: its line fetched, and the round robin past the task. -/
def State.issued (s : State) (a : At) : State := ((s.fetch a).2).noteIssue a

/-- The task goes on to the next instruction. -/
def Task.next (i : CoreId) (t : Task) : Task := { t with pc := nextPc i t.pc }

/-- The task with rd written, at the next instruction. -/
def Task.wrote (i : CoreId) (rd : Reg) (v : W64) (t : Task) : Task := { t.set rd v with pc := nextPc i t.pc }

/-- The task with a predicate written, at the next instruction. -/
def Task.wroteP (i : CoreId) (n : PReg) (b : Bool) (t : Task) : Task := { t.setP n b with pc := nextPc i t.pc }

/-- The task in TRAPPED with a cause, at the same instruction (R118). -/
def Task.trapped (cause : Byte) (t : Task) : Task := { t with st := .trapped, trapCause := cause, wait := .none }

/-! ### Memories in canonical form -/

/-- A word RAM is canonical: addresses strictly rising, no zero word and no good mark listed. -/
def Ram.wf (r : Ram) : Bool := Tbl.wf Ram.unlisted r.words && Tbl.wf Ecc.good r.ecc

/-- A store's byte memory is canonical: addresses strictly rising, no byte that an unlisted address reads as. -/
def Memory.wf (m : List Host.Cell) : Bool := Tbl.wf (0 : Byte) m

/-- A store's memory and its error marks are canonical. -/
def Store.wf (x : Store) : Bool := Memory.wf x.mem && Tbl.wf Ecc.good x.ecc

/-! ### Packets that arrive (R298–R305) -/

/-- The packet is for a cell's endpoint, the cell is out of reset and awake, and the packet passes the checks of an arrival. -/
def AtCell (s : State) (c : CellAt) (p : DataPkt) : Prop :=
  p.dst = s.eid c.site.val ((s.comb c.site).logicalOf c.phys) ∧ (s.comb c.site).logicalOf c.phys ≠ 0xFF ∧ s.cellOff c = false ∧
    s.cellAsleep c = false ∧ admitData (s.epochOf c.site.val ((s.comb c.site).logicalOf c.phys)) p = .ok

/-- An answer for a mover of a core passes the checks of an arrival. -/
def AtCore (s : State) (i : CoreId) (p : DataPkt) : Prop :=
  match i with
  | .cell si ph => AtCell s ⟨si, ph⟩ p
  | .steward si => p.dst = s.eidOf i ∧ admitData (s.epochOf si.val 0xB9) p = .ok
  | .keeper h k => p.dst = s.eidOf i ∧ admitData (s.epochOf (0xF0 + h.code) k.val) p = .ok

/-- A control packet for a core passes the checks of an arrival. -/
def CtlAtCore (s : State) (i : CoreId) (p : CtlPkt) : Prop :=
  p.dst = s.eidOf i ∧ p.crc = ctlCrc6 p ∧ p.gen = 0 ∧
    match i with
    | .cell si ph => (s.comb si).logicalOf ph ≠ 0xFF ∧ s.cellOff ⟨si, ph⟩ = false ∧ s.cellAsleep ⟨si, ph⟩ = false
    | _ => True

/-- A data packet for an endpoint of a comb or keeper that is no cell passes the checks of an arrival. -/
def AtEndpoint (s : State) (site ep : Nat) (p : DataPkt) : Prop :=
  p.dst = s.eid site ep ∧ admitData (s.epochOf site ep) p = .ok

/-- A data packet for a store's port passes the checks of an arrival, and the store serves packets (R378). -/
def AtStore (s : State) (n : Nat) (p : DataPkt) : Prop :=
  pairHas n (fld p.dst 15 8) = true ∧ AtEndpoint s (fld p.dst 15 8) 0xB8 p ∧ (s.store n).stb ≠ 0 ∧ (s.store n).closed = none

/-- A swarm message of a kind for a keeper passes the checks of an arrival (R360). -/
def SwarmAt (s : State) (h : Half) (p : DataPkt) (kind : Nat) : Prop :=
  p.type = 0x1B ∧ fld (plWord p 0) 15 0 = kind ∧ fld p.dst 7 0 < 16 ∧ AtEndpoint s (0xF0 + h.code) (fld p.dst 7 0) p

/-- The panel with a swarm message taken and acknowledged (R360). -/
def State.swarmTook (s : State) (h : Half) (p : DataPkt) : State :=
  (s.takeData p).sendData (mkData 0x1C p.src p.dst 0xFF (s.keeper h).epoch.epoch 0 p.tag [plWord p 0, plWord p 1, 0])

/-- The panel with other packets on the bulk network. -/
def State.onBulk (s : State) (fs : List Flight) : State := { s with net := { s.net with bulk := fs } }

/-- The panel with other lines on the neighbour channels. -/
def State.onNbr (s : State) (fs : List NbrFlight) : State := { s with net := { s.net with nbr := fs } }

/-! ### Control datagrams (R288, R289) -/

/-- The next control datagram is a new one of this operation, well formed, from exchange entry n. -/
def CtlNext (s : State) (op n : Nat) (p : Nat) (d : Datagram) (rest : List (Nat × Datagram)) : Prop :=
  let b := d.payload
  let x := Tbl.get Exchange.reset s.voice.exchanges n
  s.voice.ctl = (p, d) :: rest ∧ beAt b 5 1 = op ∧ s.exchOf (beAt b 8 4) = some n ∧ x.answers.find? (fun a => a.1 = dgSeq b) = none ∧
    ¬(4096 ≤ x.behind (dgSeq b) ∧ x.behind (dgSeq b) < 2 ^ 31) ∧ dgOk b = true

/-- The panel once a control datagram has been answered with a status: the answer is kept and sent back. -/
def State.ctlDone (s : State) (p : Nat) (d : Datagram) (n : Nat) (r : Nat × State) : State :=
  let b := d.payload
  let bs := svcBytes (exchKey (s.exchange n)) 0x81 (beAt b 8 4) (dgSeq b).toNat (dgSlot b) (dgHome b) r.1 (dgExt b) []
  (r.2.modExch n (fun x => x.keepAnswer (dgSeq b) bs)).svcSend p d.src bs

/-- The panel with other control datagrams waiting. -/
def State.onCtl (s : State) (l : List (Nat × Datagram)) : State := s.modVoice (fun v => { v with ctl := l })

/-! ### The waggle (R325) -/

/-- The rows of wgo and the OP of their operation word. -/
def wgoRows : List ((At → OpRRf → Instr) × Nat) :=
  [(.wgoBarrier, 0), (.wgoAnd, 1), (.wgoOr, 2), (.wgoXor, 3), (.wgoAdd, 4), (.wgoMaxu, 5), (.wgoMinu, 6), (.wgoMax, 7), (.wgoMin, 8),
   (.wgoQuery, 9), (.wgoDigest, 0xA), (.wgoCommit, 0xB), (.wgoAbortStage, 0xC), (.wgoAbort, 0xD)]

/-! ### Frames of the worker's instructions (R92, R101–R108) -/

/-- The worker instructions that change one task alone: the task, the register written at once, and the predicate written. What a multiply,
a divide, a load or an atomic gives is written later (R95). -/
def valuesWrittenBy : Instr → Option (At × Option Reg × Option PReg)
  | .add a f => some (a, some f.rd, none)
  | .sub a f => some (a, some f.rd, none)
  | .and_ a f => some (a, some f.rd, none)
  | .or_ a f => some (a, some f.rd, none)
  | .xor_ a f => some (a, some f.rd, none)
  | .andn a f => some (a, some f.rd, none)
  | .sll a f => some (a, some f.rd, none)
  | .srl a f => some (a, some f.rd, none)
  | .sra a f => some (a, some f.rd, none)
  | .addw a f => some (a, some f.rd, none)
  | .subw a f => some (a, some f.rd, none)
  | .min a f => some (a, some f.rd, none)
  | .max a f => some (a, some f.rd, none)
  | .minu a f => some (a, some f.rd, none)
  | .maxu a f => some (a, some f.rd, none)
  | .clz a f => some (a, some f.rd, none)
  | .ctz a f => some (a, some f.rd, none)
  | .popc a f => some (a, some f.rd, none)
  | .sel a f => some (a, some f.rd, none)
  | .mul a _ => some (a, none, none)
  | .mulh a _ => some (a, none, none)
  | .mulhu a _ => some (a, none, none)
  | .div a _ => some (a, none, none)
  | .divu a _ => some (a, none, none)
  | .rem a _ => some (a, none, none)
  | .remu a _ => some (a, none, none)
  | .addi a f => some (a, some f.rd, none)
  | .andi a f => some (a, some f.rd, none)
  | .ori a f => some (a, some f.rd, none)
  | .xori a f => some (a, some f.rd, none)
  | .shi a f => some (a, some f.rd, none)
  | .shori a f => some (a, some f.rd, none)
  | .bfx a f => some (a, some f.rd, none)
  | .bfi a f => some (a, some f.rd, none)
  | .movi a f => some (a, some f.rd, none)
  | .jal a f => some (a, some f.rd, none)
  | .jalr a f => some (a, some f.rd, none)
  | .cmp a f => some (a, none, some f.pd)
  | .cmpi a f => some (a, none, some f.pd)
  | .pand a f => some (a, none, some f.pd)
  | .por a f => some (a, none, some f.pd)
  | .pxor a f => some (a, none, some f.pd)
  | .pandn a f => some (a, none, some f.pd)
  | .pnot a f => some (a, none, some f.pd)
  | .pset a f => some (a, none, some f.pd)
  | .pclr a f => some (a, none, some f.pd)
  | .lw a _ => some (a, none, none)
  | .lwu a _ => some (a, none, none)
  | .ld a _ => some (a, none, none)
  | .beq a _ => some (a, none, none)
  | .bne a _ => some (a, none, none)
  | .blt a _ => some (a, none, none)
  | .bge a _ => some (a, none, none)
  | .bltu a _ => some (a, none, none)
  | .bgeu a _ => some (a, none, none)
  | .bp a _ => some (a, none, none)
  | .bnp a _ => some (a, none, none)
  | .tid a f => some (a, some f.rd, none)
  | .rdp a f => some (a, some f.rd, none)
  | _ => none

/-- The worker instructions that store: the task, the virtual address, how many words, and the rights that the access needs (R94, R106,
R107). -/
def wordsStoredBy (s : State) : Instr → Option (At × W64 × Nat × Right)
  | .sw a f => some (a, dataVa (s.task a) f.rs1 f.imm, 1, rightW)
  | .sd a f => some (a, dataVa (s.task a) f.rs1 f.imm, 2, rightW)
  | .amoswap a f => some (a, (s.task a).x f.rs1, if bit f.fh 6 then 2 else 1, rightRW)
  | .amoadd a f => some (a, (s.task a).x f.rs1, if bit f.fh 6 then 2 else 1, rightRW)
  | .amoand a f => some (a, (s.task a).x f.rs1, if bit f.fh 6 then 2 else 1, rightRW)
  | .amoor a f => some (a, (s.task a).x f.rs1, if bit f.fh 6 then 2 else 1, rightRW)
  | .amoxor a f => some (a, (s.task a).x f.rs1, if bit f.fh 6 then 2 else 1, rightRW)
  | .amomin a f => some (a, (s.task a).x f.rs1, if bit f.fh 6 then 2 else 1, rightRW)
  | .amomax a f => some (a, (s.task a).x f.rs1, if bit f.fh 6 then 2 else 1, rightRW)
  | .amominu a f => some (a, (s.task a).x f.rs1, if bit f.fh 6 then 2 else 1, rightRW)
  | .amomaxu a f => some (a, (s.task a).x f.rs1, if bit f.fh 6 then 2 else 1, rightRW)
  | .amocas a f => some (a, (s.task a).x f.rs1, if bit f.fh 6 then 2 else 1, rightRW)
  | _ => none

/-- The task keeps its windows, every register but one and every predicate but one; a cell task keeps its privileged registers too, and a
privileged task those that a trap does not save into. -/
def Task.Keeps (cell : Bool) (u t : Task) (rd : Option Reg) (pd : Option PReg) : Prop :=
  (∀ r, some r ≠ rd → t.x r = u.x r) ∧ (∀ n, some n ≠ pd → t.p n = u.p n) ∧
    t.cwin0 = u.cwin0 ∧ t.cwin1 = u.cwin1 ∧ t.swin0 = u.swin0 ∧ t.swin1 = u.swin1 ∧ t.swin2 = u.swin2 ∧ t.swin3 = u.swin3 ∧
    t.prv.tvec = u.prv.tvec ∧ t.prv.scratch = u.prv.scratch ∧ (cell = true → t.prv = u.prv)

/-- The cores of one local memory: a core alone, or the sixteen cores of a keeper (R121). -/
def sameRam (i j : CoreId) : Prop :=
  match i, j with
  | .keeper h _, .keeper g _ => h = g
  | _, _ => i = j

/-- What no worker instruction of these reaches: accumulators, stores, colonies, sessions, the services, the power plane, management, the
log and the start of the panel. -/
def State.KeepsRest (s t : State) : Prop :=
  (∀ c, (t.cell c).acc = (s.cell c).acc) ∧ (∀ n, t.store n = s.store n) ∧ t.colonies = s.colonies ∧ t.sessions = s.sessions ∧
    t.voice = s.voice ∧ t.power = s.power ∧ t.mgmt = s.mgmt ∧ t.log = s.log ∧ t.boot = s.boot

/-! ### What no command changes (R33) -/

/-- The birth map, the keepers' identities and the queue of commands are as before. -/
def State.SameBirth (s t : State) : Prop := t.birth = s.birth ∧ t.ident = s.ident ∧ t.pending = s.pending

/-! ### Management requests (R500–R510) -/

/-- The panel serves the request: an open session, a TAG that verifies under its key, a COUNTER that rises, and no repeat of a cached
transaction. -/
def Admitted (s : State) (r : Req) (m : MgmtSession) : Prop :=
  s.serves = true ∧ r.version = 1 ∧ r.session ≠ 0 ∧ s.mgmtSession r.session = some m ∧ m.provisional = false ∧ r.tagOk = true ∧
    m.ctrIn < r.counter ∧ m.cache.find? (fun p => p.txn = r.txn) = none

/-- The panel once the request is admitted: the session's counter and time move. -/
def State.admitted (s : State) (r : Req) (m : MgmtSession) : State :=
  s.modSession m.id (fun x => { x with ctrIn := r.counter, last := s.leadTime })

/-- The write of an object passes checks 1–8 of R510. -/
def Granted (s : State) (r : Req) (m : MgmtSession) (o : ObjRef) (data : List Byte) : Prop :=
  Admitted s r m ∧ ∃ row, (s.admitted r m).writeCheck m.role r.session o data.length = .ok row ∧ ¬(row.type = 1 ∧ leBytes data > 1)

/-- The write is performed: `eff` gives its status and the panel after it, and the answer goes back to the session. -/
def State.performed (s : State) (r : Req) (m : MgmtSession) (eff : State → Nat × State) : State :=
  let e := eff (s.admitted r m)
  e.2.answer r.session r.txn e.1 []

end Sys2Proof.Machine
end

