-- ==== Sys2Proof/Certificates/Slice0/Obligations.lean ====
section
/-!
DEFINITION. The statements about the panel that the provers prove.
-/

open Sys2Proof Sys2Proof.Machine

/-! ### The worker's integer instructions (R101–R105) -/

/-- R101: each operation of the ALU group whose result the next instruction may read gives the panel in which rd holds that operation of
x[rs1] and x[rs2] (nothing is written where rd is w0) and the task is at the next instruction. FN[10:8] is zero, but for `sel`, which
reads it as its predicate; `clz`, `ctz` and `popc` have RS2 zero. -/
def Obligations.AluGroupWritesItsResult : Prop :=
  ∀ (s : State) (a : At) (f : OpRR), Ready s a [f.rs1, f.rs2] →
    let x := (s.task a).x f.rs1
    let y := (s.task a).x f.rs2
    let gives (v : W64) : Host.Outcome State Fault Refusal := .next ((s.issued a).modTask a (Task.wrote a.core f.rd v))
    (f.fh = 0 →
      exec (.add a f) s = gives (x + y) ∧
      exec (.sub a f) s = gives (x - y) ∧
      exec (.and_ a f) s = gives (x &&& y) ∧
      exec (.or_ a f) s = gives (x ||| y) ∧
      exec (.xor_ a f) s = gives (x ^^^ y) ∧
      exec (.andn a f) s = gives (x &&& ~~~y) ∧
      exec (.sll a f) s = gives (x <<< (y.toNat % 64)) ∧
      exec (.srl a f) s = gives (x >>> (y.toNat % 64)) ∧
      exec (.sra a f) s = gives (x.sshiftRight (y.toNat % 64)) ∧
      exec (.addw a f) s = gives (((x + y).setWidth 32).signExtend 64) ∧
      exec (.subw a f) s = gives (((x - y).setWidth 32).signExtend 64) ∧
      exec (.min a f) s = gives (if x.toInt < y.toInt then x else y) ∧
      exec (.max a f) s = gives (if x.toInt < y.toInt then y else x) ∧
      exec (.minu a f) s = gives (if x.toNat < y.toNat then x else y) ∧
      exec (.maxu a f) s = gives (if x.toNat < y.toNat then y else x) ∧
      (f.rs2 = 0 →
        exec (.clz a f) s = gives (clz64 x) ∧ exec (.ctz a f) s = gives (ctz64 x) ∧ exec (.popc a f) s = gives (popc64 x))) ∧
    exec (.sel a f) s = gives (if (s.task a).p f.fh then x else y)

/-- R95, R101, R103: a multiply or divide gives the panel in which its result is on its way to rd and the task is at the next instruction:
the low or high half of the product, the quotient and remainder of the signed (toward zero) or unsigned division; a zero divisor gives all
ones as quotient and the dividend as remainder. MULDIV_RESULT then writes the register whose result is on its way. -/
def Obligations.MultiplyAndDivideGiveTheirResults : Prop :=
  (∀ (s : State) (a : At) (f : OpRR), Ready s a [f.rs1, f.rs2] → f.fh = 0 →
    let x := (s.task a).x f.rs1
    let y := (s.task a).x f.rs2
    let gives (v : W64) : Host.Outcome State Fault Refusal := .next ((s.issued a).modTask a (fun t => { t.defer f.rd v with pc := nextPc a.core t.pc }))
    exec (.mul a f) s = gives (x * y) ∧
    exec (.mulh a f) s = gives (BitVec.ofInt 64 (x.toInt * y.toInt / 2 ^ 64)) ∧
    exec (.mulhu a f) s = gives (BitVec.ofNat 64 (x.toNat * y.toNat / 2 ^ 64)) ∧
    exec (.div a f) s = gives (if y = 0 then BitVec.allOnes 64 else BitVec.ofInt 64 (x.toInt.tdiv y.toInt)) ∧
    exec (.divu a f) s = gives (if y = 0 then BitVec.allOnes 64 else BitVec.ofNat 64 (x.toNat / y.toNat)) ∧
    exec (.rem a f) s = gives (if y = 0 then x else BitVec.ofInt 64 (x.toInt.tmod y.toInt)) ∧
    exec (.remu a f) s = gives (if y = 0 then x else BitVec.ofNat 64 (x.toNat % y.toNat))) ∧
  (∀ (s : State) (a : At) (rd : Reg) (e : Reg × W64), (s.task a).pend.find? (fun e => e.1 = rd) = some e →
    exec (.muldivResult a rd) s = .next (s.modTask a (fun t => t.set rd e.2)))

/-- R102: each immediate and bit-field instruction, its reserved immediate bits zero and its field inside 64 bits, gives the panel in which
rd holds its result and the task is at the next instruction. With a reserved bit set, or a field beyond bit 63, shi, bfx and bfi trap ILLEGAL. -/
def Obligations.ImmediateInstructionsWriteTheirResults : Prop :=
  (∀ (s : State) (a : At) (f : OpRI), Ready s a [f.rs1] →
    let x := (s.task a).x f.rs1
    let gives (v : W64) : Host.Outcome State Fault Refusal := .next ((s.issued a).modTask a (Task.wrote a.core f.rd v))
    exec (.addi a f) s = gives (x + f.imm.signExtend 64) ∧
    exec (.andi a f) s = gives (x &&& f.imm.setWidth 64) ∧
    exec (.ori a f) s = gives (x ||| f.imm.setWidth 64) ∧
    exec (.xori a f) s = gives (x ^^^ f.imm.setWidth 64) ∧
    exec (.shori a f) s = gives ((x <<< 16) ||| f.imm.setWidth 64) ∧
    (fld f.imm 13 6 = 0 → fld f.imm 15 14 ≠ 3 → exec (.shi a f) s = gives
      (if fld f.imm 15 14 = 0 then x <<< fld f.imm 5 0 else if fld f.imm 15 14 = 1 then x >>> fld f.imm 5 0 else x.sshiftRight (fld f.imm 5 0))) ∧
    (fld f.imm 14 12 = 0 → fld f.imm 11 6 + (fld f.imm 5 0 + 1) ≤ 64 → exec (.bfx a f) s = gives (bfxVal f.imm x))) ∧
  (∀ (s : State) (a : At) (f : OpRI), Ready s a [f.rd, f.rs1] → fld f.imm 15 12 = 0 → fld f.imm 11 6 + (fld f.imm 5 0 + 1) ≤ 64 →
    exec (.bfi a f) s = .next ((s.issued a).modTask a (Task.wrote a.core f.rd
      (setBits ((s.task a).x f.rd) (fld f.imm 11 6) (fld f.imm 5 0 + 1) ((s.task a).x f.rs1).toNat)))) ∧
  (∀ (s : State) (a : At) (f : OpLI), Ready s a [] →
    exec (.movi a f) s = .next ((s.issued a).modTask a (Task.wrote a.core f.rd (f.imm.signExtend 64)))) ∧
  (∀ (s : State) (a : At) (f : OpRI),
    (Ready s a [f.rs1] → fld f.imm 13 6 ≠ 0 ∨ fld f.imm 15 14 = 3 → exec (.shi a f) s = .next ((s.issued a).trap a 0x01 0)) ∧
    (Ready s a [f.rs1] → fld f.imm 14 12 ≠ 0 ∨ 64 < fld f.imm 11 6 + (fld f.imm 5 0 + 1) → exec (.bfx a f) s = .next ((s.issued a).trap a 0x01 0)) ∧
    (Ready s a [f.rd, f.rs1] → fld f.imm 15 12 ≠ 0 ∨ 64 < fld f.imm 11 6 + (fld f.imm 5 0 + 1) → exec (.bfi a f) s = .next ((s.issued a).trap a 0x01 0)))

/-- R104, R105: a compare and each predicate operation, their reserved fields zero, write one predicate and go on; with a reserved field or
condition they trap ILLEGAL, and operation 7 is no instruction. -/
def Obligations.ComparesAndPredicateLogicWriteOnePredicate : Prop :=
  (∀ (s : State) (a : At) (f : OpPC), Ready s a [f.rs1, f.rs2] → f.top = 0 → fld f.fn 10 3 = 0 → fld f.fn 2 0 < 6 →
    let x := (s.task a).x f.rs1
    let y := (s.task a).x f.rs2
    let c := fld f.fn 2 0
    exec (.cmp a f) s = .next ((s.issued a).modTask a (Task.wroteP a.core f.pd
      (if c = 0 then decide (x = y) else if c = 1 then decide (x ≠ y) else if c = 2 then decide (x.toInt < y.toInt)
       else if c = 3 then decide (y.toInt ≤ x.toInt) else if c = 4 then decide (x.toNat < y.toNat) else decide (y.toNat ≤ x.toNat))))) ∧
  (∀ (s : State) (a : At) (f : OpPI), Ready s a [f.rs1] →
    let x := (s.task a).x f.rs1
    let y := f.imm.signExtend 64
    let c := f.cc.toNat
    exec (.cmpi a f) s = .next ((s.issued a).modTask a (Task.wroteP a.core f.pd
      (if c = 0 then decide (x = y) else if c = 1 then decide (x ≠ y) else if c = 2 then decide (x.toInt < y.toInt)
       else decide (x.toNat < y.toNat))))) ∧
  (∀ (s : State) (a : At) (f : OpPL), Ready s a [] → f.z = 0 →
    let x := (s.task a).p f.pa
    let y := (s.task a).p f.pb
    let gives (b : Bool) : Host.Outcome State Fault Refusal := .next ((s.issued a).modTask a (Task.wroteP a.core f.pd b))
    exec (.pand a f) s = gives (x && y) ∧ exec (.por a f) s = gives (x || y) ∧ exec (.pxor a f) s = gives (x != y) ∧
    exec (.pandn a f) s = gives (x && !y) ∧
    (f.pb = 0 → exec (.pnot a f) s = gives (!x)) ∧
    (f.pa = 0 → f.pb = 0 → exec (.pset a f) s = gives true ∧ exec (.pclr a f) s = gives false)) ∧
  (∀ (s : State) (a : At) (f : OpPC), Ready s a [f.rs1, f.rs2] → f.top ≠ 0 ∨ fld f.fn 10 3 ≠ 0 ∨ 6 ≤ fld f.fn 2 0 →
    exec (.cmp a f) s = .next ((s.issued a).trap a 0x01 0)) ∧
  (∀ (s : State) (a : At) (f : OpPL), Ready s a [] →
    (f.z ≠ 0 → ∀ i ∈ [Instr.pand a f, .por a f, .pxor a f, .pandn a f], exec i s = .next ((s.issued a).trap a 0x01 0)) ∧
    (f.z ≠ 0 ∨ f.pb ≠ 0 → exec (.pnot a f) s = .next ((s.issued a).trap a 0x01 0)) ∧
    (f.z ≠ 0 ∨ f.pa ≠ 0 ∨ f.pb ≠ 0 → exec (.pset a f) s = .next ((s.issued a).trap a 0x01 0) ∧ exec (.pclr a f) s = .next ((s.issued a).trap a 0x01 0))) ∧
  (∀ (x : Reg → W64) (a : At) (w : BitVec 32), fld w 31 26 = 0x0D → fld w 2 0 = 7 → decodeWorker x a w = none)

/-- R94, R95, R106: where the access passes its checks and meets no uncorrectable word, a load puts the words at the virtual address
x[rs1] + sext(imm) on their way to rd, and a store writes the low word or both words of x[rs2] there; the task is at the next instruction.
LOAD_DATA_RETURN then writes rd. -/
def Obligations.LoadsAndStoresAccessTheirAddress : Prop :=
  (∀ (s : State) (a : At) (f : OpRI) (p : Nat), Ready s a [f.rs1] →
    let va := (s.task a).x f.rs1 + f.imm.signExtend 64
    let m := s.ram a.core
    let loads (v : W64) (t : State) : Prop := t.task a = { (s.task a).next a.core with load := some (f.rd, v) }
    (s.dataCheck a va 1 rightR = .ok p → m.firstUe p 1 = none →
      Answers (.lw a f) s (loads ((m.word p).signExtend 64)) ∧ Answers (.lwu a f) s (loads ((m.word p).setWidth 64))) ∧
    (s.dataCheck a va 2 rightR = .ok p → m.firstUe p 2 = none → Answers (.ld a f) s (loads (m.word (p + 1) ++ m.word p)))) ∧
  (∀ (s : State) (a : At) (f : OpST) (p : Nat), Ready s a [f.rs1, f.rs2] →
    let va := (s.task a).x f.rs1 + f.imm.signExtend 64
    let v := (s.task a).x f.rs2
    (s.dataCheck a va 1 rightW = .ok p →
      exec (.sw a f) s = .next (((s.issued a).modTask a (Task.next a.core)).memWrite a.core p [v.setWidth 32])) ∧
    (s.dataCheck a va 2 rightW = .ok p →
      exec (.sd a f) s = .next (((s.issued a).modTask a (Task.next a.core)).memWrite a.core p [v.setWidth 32, v.extractLsb' 32 32]))) ∧
  (∀ (s : State) (a : At) (rd : Reg) (v : W64), (s.task a).load = some (rd, v) → (s.task a).stopReq = false →
    exec (.loadDataReturn a) s = .next (s.modTask a (fun t => { t.set rd v with load := none })))

/-- R107, R191: where its FN[7:4] is zero, its address passes the checks with R and W, no uncorrectable word is met and (with REL) nothing of
the task is outstanding, each atomic writes its new value at x[rs1] and puts the old one on its way to rd, sign-extended where it is one
word; the task is at the next instruction. The new value, at the width W64 selects: the operand, the sum, the bitwise operations, the signed and
unsigned minimum and maximum, and for amocas the operand where the old value equals the compare value. -/
def Obligations.AtomicsExchangeOldForNew : Prop :=
  (∀ (s : State) (a : At) (f : OpAmo) (p : Nat),
      let n := if bit f.fh 6 then 2 else 1
      let va := (s.task a).x f.rs1
      let m := s.ram a.core
      let old : W64 := if bit f.fh 6 then m.word (p + 1) ++ m.word p else (m.word p).setWidth 64
      let back : W64 := if bit f.fh 6 then old else (m.word p).signExtend 64
      let x := (s.task a).x f.rs2
      let cmp := (s.task a).x f.rd
      fld f.fh 3 0 = 0 → (bit f.fh 4 = true → s.outstanding a = 0) → s.dataCheck a va n rightRW = .ok p → m.firstUe p n = none →
      let does (i : Instr) (code : Nat) : Prop :=
        Answers i s (fun t => ∃ u : State, t = u.memWrite a.core p (amoWords code (bit f.fh 6) old x cmp) ∧ u.ram a.core = m ∧
          u.task a = { (s.task a).next a.core with load := some (f.rd, back) })
      (Ready s a [f.rs1, f.rs2] →
        does (.amoswap a f) 0 ∧ does (.amoadd a f) 1 ∧ does (.amoand a f) 2 ∧ does (.amoor a f) 3 ∧ does (.amoxor a f) 4 ∧
        does (.amomin a f) 5 ∧ does (.amomax a f) 6 ∧ does (.amominu a f) 7 ∧ does (.amomaxu a f) 8) ∧
      (Ready s a [f.rs1, f.rs2, f.rd] → does (.amocas a f) 9)) ∧
  (∀ (old x cmp : W32),
      amoOp 0 old x cmp = x ∧ amoOp 1 old x cmp = old + x ∧ amoOp 2 old x cmp = old &&& x ∧ amoOp 3 old x cmp = old ||| x ∧
      amoOp 4 old x cmp = old ^^^ x ∧
      (amoOp 5 old x cmp).toInt = min old.toInt x.toInt ∧ (amoOp 6 old x cmp).toInt = max old.toInt x.toInt ∧
      (amoOp 7 old x cmp).toNat = min old.toNat x.toNat ∧ (amoOp 8 old x cmp).toNat = max old.toNat x.toNat ∧
      amoOp 9 old x cmp = (if old = cmp then x else old))

/-- R108: a branch goes to pc plus the sign-extended offset where its condition holds, else to the next instruction; jal and jalr write the
address of the next instruction to rd and go to their target. On a cell task a relative target is the pc plus the
signed offset, and next_pc the pc plus 1, modulo 2^20. -/
def Obligations.BranchesAndJumpsGoToTheirTarget : Prop :=
  (∀ (s : State) (a : At) (f : OpBR), Ready s a [f.rs1, f.rs2] →
    let x := (s.task a).x f.rs1
    let y := (s.task a).x f.rs2
    let goes (c : Prop) [Decidable c] : Host.Outcome State Fault Refusal :=
      .next ((s.issued a).modTask a (fun t => { t with pc := if c then relPc a.core t.pc f.off else nextPc a.core t.pc }))
    exec (.beq a f) s = goes (x = y) ∧ exec (.bne a f) s = goes (x ≠ y) ∧ exec (.blt a f) s = goes (x.toInt < y.toInt) ∧
    exec (.bge a f) s = goes (y.toInt ≤ x.toInt) ∧ exec (.bltu a f) s = goes (x.toNat < y.toNat) ∧
    exec (.bgeu a f) s = goes (y.toNat ≤ x.toNat)) ∧
  (∀ (s : State) (a : At) (f : OpBP), Ready s a [] → f.top = 0 → f.z = 0 →
    let goes (c : Prop) [Decidable c] : Host.Outcome State Fault Refusal :=
      .next ((s.issued a).modTask a (fun t => { t with pc := if c then relPc a.core t.pc f.off else nextPc a.core t.pc }))
    exec (.bp a f) s = goes ((s.task a).p f.pn = true) ∧ exec (.bnp a f) s = goes ((s.task a).p f.pn = false)) ∧
  (∀ (s : State) (a : At) (f : OpLI), Ready s a [] →
    exec (.jal a f) s = .next ((s.issued a).modTask a (fun t =>
      { t.set f.rd ((nextPc a.core t.pc).setWidth 64) with pc := relPc a.core t.pc f.imm }))) ∧
  (∀ (s : State) (a : At) (f : OpRI), Ready s a [f.rs1] →
    exec (.jalr a f) s = .next ((s.issued a).modTask a (fun t =>
      { t.set f.rd ((nextPc a.core t.pc).setWidth 64) with pc := pcWrap a.core (t.x f.rs1 + f.imm.signExtend 64).toNat }))) ∧
  (∀ (i : Site) (p : Phys) (pc : BitVec 24) (off : BitVec 16), pc.toNat < 2 ^ 20 →
      ((relPc (.cell i p) pc off).toNat : Int) = ((pc.toNat : Int) + off.toInt) % 2 ^ 20 ∧
      (nextPc (.cell i p) pc).toNat = (pc.toNat + 1) % 2 ^ 20)

/-! ### Tile issue, waits and traps (R109–R120) -/

/-- R109, R110: with its fields legal, tq waits while the unit's queue is full, and else its descriptor, checked and translated, enters the
queue and the task goes on; TQ_QUEUE_ROOM does the same for a tq that waits. R111: tcount writes the exact count, and twait goes on where
the count is at most IMM8, else waits. -/
def Obligations.TileIssueQueuesOrWaits : Prop :=
  (∀ (s : State) (a : At) (f : OpRRf) (q : Queued), Ready s a [f.rs1, f.rs1 + 1, f.rs1 + 2, f.rs1 + 3] →
    f.rd = 0 → f.rs2 = 0 → fld f.fn 10 3 = 0 → f.rs1.toNat % 4 = 0 → f.rs1 ≠ 0 → fld f.fn 2 0 < 5 →
    (isCell a.core = false → fld f.fn 2 0 = 2 ∨ fld f.fn 2 0 = 3) →
    let u := s.issued a
    (u.queueFull a.core (fld f.fn 2 0) = true → exec (.tq a f) s = .next (u.waitFor a (.tq f.rs1 (f.fn.extractLsb' 0 3)))) ∧
    (u.queueFull a.core (fld f.fn 2 0) = false →
      u.translate a (fld f.fn 2 0) ((u.task a).descriptor a.task (u.core a.core).serial f.rs1) = .ok q →
      exec (.tq a f) s = .next ((u.enqueue a.core (fld f.fn 2 0) q).endWait a 0 0))) ∧
  (∀ (s : State) (a : At) (rs1 : Reg) (n : BitVec 3) (q : Queued), (s.task a).wait = .tq rs1 n → (s.task a).st = .waiting →
    s.coreRuns a.core = true → s.queueFull a.core n.toNat = false →
    s.translate a n.toNat ((s.task a).descriptor a.task (s.core a.core).serial rs1) = .ok q →
    exec (.tqQueueRoom a) s = .next ((s.enqueue a.core n.toNat q).endWait a 0 0)) ∧
  (∀ (s : State) (a : At) (f : OpCnt), Ready s a [] → f.fh = 0 → f.unit ≠ 5 → f.unit ≠ 6 →
    let u := s.issued a
    (f.imm = 0 → exec (.tcount a f) s = .next (u.modTask a (Task.wrote a.core f.rd (BitVec.ofNat 64 (u.count a f.unit.toNat))))) ∧
    (f.rd = 0 → exec (.twait a f) s = .next (if u.count a f.unit.toNat ≤ f.imm.toNat then u.modTask a (Task.next a.core)
      else u.waitFor a (.twait f.unit f.imm))))

/-- R113, R189: a fence whose condition already holds goes on at once; else its task waits, and FENCE_WAIT_END ends the wait once the
condition holds. FENCE.TASK never waits here: narrow accesses are performed at issue. R112: where its address passes the checks and meets no uncorrectable word, waitw waits while the word equals the low word of x[rs2], and
else writes 0 to rd and goes on; WAITW_TIMEOUT ends a wait that has a timeout with rd := 1. R114: yield waits, and YIELD_END ends it. -/
def Obligations.FencesWordWaitsAndYieldsBeginAndEnd : Prop :=
  (∀ (s : State) (a : At), Ready s a [] →
    let does (i : Instr) (sc : Nat) : Prop :=
      exec i s = .next (if (s.issued a).fenceMet a sc then (s.issued a).modTask a (Task.next a.core)
        else (s.issued a).modTask a (fun t => { t with st := .waiting, wait := .fence (BitVec.ofNat 3 sc) }))
    s.fenceMet a 0 = true ∧ does (.fenceTask a 0) 0 ∧ does (.fenceCell a 0) 1 ∧ does (.fenceColony a 0) 2 ∧ does (.fencePanel a 0) 3 ∧ does (.fenceSwarm a 0) 4) ∧
  (∀ (s : State) (a : At) (sc : BitVec 3), (s.task a).wait = .fence sc → (s.task a).st = .waiting → s.coreRuns a.core = true →
    s.fenceMet a sc.toNat = true → exec (.fenceWaitEnd a) s = .next (s.endWait a 0 0)) ∧
  (∀ (s : State) (a : At) (f : OpRRf) (p : Nat), Ready s a [f.rs1, f.rs2] → fld f.fn 10 5 = 0 →
    s.dataCheck a ((s.task a).x f.rs1) 1 rightR = .ok p → (s.ram a.core).firstUe p 1 = none →
    let v : W32 := ((s.task a).x f.rs2).setWidth 32
    Answers (.waitw a f) s (fun t => t.task a =
      if (s.ram a.core).word p = v then { s.task a with st := .waiting, wait := .waitw f.rd p v (decide (fld f.fn 4 0 ≠ 31)) }
      else (s.task a).wrote a.core f.rd 0)) ∧
  (∀ (s : State) (a : At) (rd : Reg) (p : Nat) (v : W32), (s.task a).wait = .waitw rd p v true → (s.task a).st = .waiting →
    s.coreRuns a.core = true → exec (.waitwTimeout a) s = .next (s.endWait a rd 1)) ∧
  (∀ (s : State) (a : At), Ready s a [] →
    exec (.yield a ⟨0, 0, 0⟩) s = .next ((s.issued a).modTask a (fun t => { t with st := .waiting, wait := .yield }))) ∧
  (∀ (s : State) (a : At), (s.task a).wait = .yield → (s.task a).st = .waiting → s.coreRuns a.core = true →
    exec (.yieldEnd a) s = .next (s.modTask a (fun t => { t with st := .active, wait := .none, pc := nextPc a.core t.pc })))

/-- R42, R114: stop leaves the task at the next instruction, STOPPED where nothing of it is outstanding and else STOPPING; tid writes the
task's number, rdp the predicates, and wrp sets them from the low byte of x[rs1]. -/
def Obligations.StopAndTaskValuesAct : Prop :=
  ∀ (s : State) (a : At), Ready s a [] →
    Answers (.stop a ⟨0, 0, 0⟩) s (fun t => t.task a =
      { s.task a with pc := nextPc a.core (s.task a).pc, st := if (s.issued a).outstanding a = 0 then .stopped else .stopping }) ∧
    ∀ rd : Reg,
      exec (.tid a ⟨rd, 0, 0⟩) s = .next ((s.issued a).modTask a (Task.wrote a.core rd (BitVec.ofNat 64 a.task.val))) ∧
      exec (.rdp a ⟨rd, 0, 0⟩) s = .next ((s.issued a).modTask a (Task.wrote a.core rd ((s.task a).preds.setWidth 64))) ∧
      (Ready s a [rd] → exec (.wrp a ⟨0, rd, 0⟩) s = .next ((s.issued a).modTask a (fun t =>
        { t with preds := ((s.task a).x rd).setWidth 8, pc := nextPc a.core t.pc })))

/-- R114, R118, R119, R126: swtrap with IMM8[7] zero traps with cause 0x80 + IMM8: on a cell the task is TRAPPED at its own pc with that
cause; on a privileged core outside a trap the task goes to PRV_TVEC with its pc and the cause saved and IN_TRAP set. Every
trap of a privileged core outside a trap saves the address that it names, the cause and the faulting address, sets IN_TRAP and goes to PRV_TVEC. -/
def Obligations.SwtrapTakesItsTrap : Prop :=
  (∀ (s : State) (a : At) (n : Byte), Ready s a [] → n.toNat < 128 →
    (isCell a.core = true → Answers (.swtrap a ⟨0, 0, n⟩) s (fun t => t.task a = (s.task a).trapped (0x80 + n))) ∧
    (isCell a.core = false → bit (s.task a).prv.tstatus 0 = false →
      exec (.swtrap a ⟨0, 0, n⟩) s = .next ((s.issued a).modTask a (fun t => t.enterTrap (0x80 + n) t.pc 0)))) ∧
  (∀ (s : State) (a : At) (cause : Byte) (pc : BitVec 24) (addr : W64), isCell a.core = false → bit (s.task a).prv.tstatus 0 = false →
    let t := (s.trapAt a cause pc addr).task a
    t.prv.tpc = pc ∧ t.prv.tcause = cause ∧ t.prv.tval = addr ∧ bit t.prv.tstatus 0 = true ∧ t.pc = (s.task a).prv.tvec ∧ t.st = .active)

/-- R36, R100, R117, R118: a task that may not issue is left as it is, a fetch trap is taken with the pc as its address, and an instruction
with a field that must be zero set traps ILLEGAL; here of the ALU group, the loads and stores' neighbours `tid`, `rdp` and `yield`, and
the predicate group. -/
def Obligations.IllegalFieldsTrapAndStoppedTasksWait : Prop :=
  ∀ (s : State) (a : At),
    (∀ f : OpRR, s.canIssue a [f.rs1, f.rs2] = false → exec (.add a f) s = .next s ∧ exec (.sub a f) s = .next s ∧ exec (.sel a f) s = .next s) ∧
    (∀ (f : OpRR) (cause : Byte), s.canIssue a [f.rs1, f.rs2] = true → (s.fetch a).1 = some cause →
      exec (.add a f) s = .next ((s.fetch a).2.trap a cause ((s.task a).pc.setWidth 64)) ∧
      exec (.xor_ a f) s = .next ((s.fetch a).2.trap a cause ((s.task a).pc.setWidth 64))) ∧
    (∀ f : OpRR, Ready s a [f.rs1, f.rs2] → f.fh ≠ 0 →
      exec (.add a f) s = .next ((s.issued a).trap a 0x01 0) ∧ exec (.sub a f) s = .next ((s.issued a).trap a 0x01 0) ∧
      exec (.mul a f) s = .next ((s.issued a).trap a 0x01 0)) ∧
    (∀ f : OpMS, Ready s a [] → f.rs1 ≠ 0 ∨ f.imm ≠ 0 →
      exec (.tid a f) s = .next ((s.issued a).trap a 0x01 0) ∧ exec (.rdp a f) s = .next ((s.issued a).trap a 0x01 0) ∧
      exec (.yield a f) s = .next ((s.issued a).trap a 0x01 0)) ∧
    (∀ f : OpPL, Ready s a [] → f.z ≠ 0 →
      exec (.pand a f) s = .next ((s.issued a).trap a 0x01 0) ∧ exec (.pxor a f) s = .next ((s.issued a).trap a 0x01 0)) ∧
    (isCell a.core = true → ∀ (c : Byte) (va : W64), ((s.trap a c va).task a) = (s.task a).trapped c)

/-- R45, R115, R116: rdreg puts a register's value in rd. wrreg of TSK_CTRL of another task of its core acts as that write; of TSK_PC of
another task that is STOPPED it sets its pc. -/
def Obligations.WorkersReadAndWriteRegisters : Prop :=
  (∀ (s : State) (a : At) (f : OpRI), Ready s a [] → f.rs1 = 0 →
    let r := (s.issued a).workerRead a.core (f.imm.toNat / 8 * 8)
    exec (.rdreg a f) s = .next (r.2.modTask a (Task.wrote a.core f.rd r.1))) ∧
  (∀ (s : State) (a : At) (f : OpRI) (k : TaskId), Ready s a [f.rs1] → f.rd = 0 → k ≠ a.task →
    let u := (s.issued a).modTask a (Task.next a.core)
    (f.imm.toNat / 8 * 8 = 0x1000 + 0x200 * k.val →
      exec (.wrreg a f) s = .next (u.taskCtrl ⟨a.core, k⟩ ((s.task a).x f.rs1))) ∧
    (f.imm.toNat / 8 * 8 = 0x1000 + 0x200 * k.val + 0x10 → (s.task ⟨a.core, k⟩).st = .stopped →
      exec (.wrreg a f) s = .next (u.modTask ⟨a.core, k⟩ (fun t => { t with pc := pcWrap a.core ((s.task a).x f.rs1).toNat }))))

/-! ### The privileged extension (R121–R127) -/

/-- R122, R124: on a steward or keeper core, cread and cwrite send their request and wait, csend sends a message of class 0x40–0x7F and goes on,
and crecv takes the oldest message into rd and rd + 1 or waits. The end of an access by CONTROL_ACCESS_TIMEOUT clears p[PD] and, for a
cread, sets rd to all ones. -/
def Obligations.PrivilegedAccessesSendAndReceive : Prop :=
  (∀ (s : State) (a : At) (f : OpRRf), isCell a.core = false → fld f.fn 10 3 = 0 →
    let u := s.issued a
    let pd := f.fn.extractLsb' 0 3
    let dst : Eid := ((s.task a).x f.rs1).setWidth 24
    let req : W64 := BitVec.ofNat 64 (a.task.val * 2 ^ 16 + fld ((s.task a).x f.rs2) 15 0)
    (Ready s a [f.rs1, f.rs2] →
      exec (.cread a f) s = .next ((u.sendCtl (mkCtl 0x01 dst (u.eidOf a.core) req)).modTask a (fun t => { t with st := .waiting, wait := .cread f.rd pd }))) ∧
    (Ready s a [f.rd, f.rs1, f.rs2] →
      exec (.cwrite a f) s = .next (((u.sendCtl (mkCtl 0x02 dst (u.eidOf a.core) req)).sendCtl
        (mkCtl 0x03 dst (u.eidOf a.core) ((s.task a).x f.rd))).modTask a (fun t => { t with st := .waiting, wait := .cwrite pd }))) ∧
    (Ready s a [f.rs1, f.rs2] → f.rd = 0 → fld ((s.task a).x f.rs1) 63 32 = 0 →
      0x40 ≤ fld ((s.task a).x f.rs1) 31 24 → fld ((s.task a).x f.rs1) 31 24 < 0x80 →
      exec (.csend a f) s = .next ((u.sendCtl (mkCtl (fld ((s.task a).x f.rs1) 31 24) dst (u.eidOf a.core) ((s.task a).x f.rs2))).modTask a
        (Task.next a.core))) ∧
    (Ready s a [] → f.rd ≠ 0 → bit f.rd 0 = false →
      (∀ p ps, (s.core a.core).rx = p :: ps → exec (.crecv a f) s = .next (u.takeRx a f.rd p)) ∧
      ((s.core a.core).rx = [] → exec (.crecv a f) s = .next (u.waitFor a (.crecv f.rd (u.nextRxOrder a.core)))))) ∧
  (∀ (s : State) (a : At), (s.task a).st = .waiting →
    (∀ rd pd, (s.task a).wait = .cread rd pd →
      exec (.controlAccessTimeout a) s = .next ((s.modTask a (fun t => t.setP pd false)).endWait a rd (BitVec.allOnes 64))) ∧
    (∀ pd, (s.task a).wait = .cwrite pd → exec (.controlAccessTimeout a) s = .next ((s.modTask a (fun t => t.setP pd false)).endWait a 0 0)))

/-- R124–R127: prd reads and pwr writes a privileged register below 0x800; the peripheral registers above, which the spec does not describe,
are refused by name; tret goes to PRV_TPC with IN_TRAP clear; an interrupt whose conditions hold goes to PRV_TVEC with cause 0x40 + the
lowest enabled pending bit. On a cell every one of them traps PRIVILEGED. -/
def Obligations.PrivilegedRegistersTrapsAndInterrupts : Prop :=
  (∀ (s : State) (a : At) (f : OpRI), isCell a.core = false → fld f.imm 15 12 = 0 →
    let u := s.issued a
    let n := fld f.imm 11 0
    (Ready s a [] → f.rs1 = 0 → n < 0x800 → n ≠ 6 → n ≠ 9 → exec (.prd a f) s = .next (u.modTask a (Task.wrote a.core f.rd (u.prvRead a n)))) ∧
    (Ready s a [f.rs1] → f.rd = 0 → n < 0x800 →
      exec (.pwr a f) s = .next ((u.prvWrite a n ((s.task a).x f.rs1)).modTask a (Task.next a.core))) ∧
    (Ready s a [] → f.rs1 = 0 → 0x800 ≤ n → exec (.prd a f) s = .refused .peripheral)) ∧
  (∀ (s : State) (a : At), isCell a.core = false → Ready s a [] →
    exec (.tret a 0) s = .next ((s.issued a).modTask a (fun t =>
      { t with pc := t.prv.tpc, prv := { t.prv with tstatus := setBit t.prv.tstatus 0 false } }))) ∧
  (∀ (s : State) (i : CoreId), isCell i = false → let u := s.passTime i; u.intReady i = true →
    exec (.interrupt i) s = .next (u.modTask (u.itaskOf i) (fun t =>
      t.enterTrap (BitVec.ofNat 8 (0x40 + lowBit (u.prvIp i &&& (u.core i).ie))) t.pc 0))) ∧
  (∀ (s : State) (a : At) (f : OpRRf) (g : OpRI), isCell a.core = true → Ready s a [] →
    exec (.crecv a f) s = .next ((s.issued a).trap a 0x02 0) ∧ exec (.prd a g) s = .next ((s.issued a).trap a 0x02 0) ∧
    exec (.tret a 0) s = .next ((s.issued a).trap a 0x02 0))

/-! ### Task and cell control (R42–R45, R57–R63, R169) -/

/-- R43, R44, R120: START makes a STOPPED task ACTIVE with TRAP_CAUSE 0; STOP takes an ACTIVE task with no pending load to STOPPING, and at
once to STOPPED with nothing outstanding; CLEAR_TRAP takes a TRAPPED task with nothing outstanding to STOPPED. -/
def Obligations.TaskControlMovesTaskStates : Prop :=
  ∀ (s : State) (a : At),
    ((s.task a).st = .stopped → exec (.taskStart a 1) s = .next (s.modTask a (fun t => { t with st := .active, trapCause := 0 }))) ∧
    ((s.task a).st = .active → (s.task a).load = none → s.outstanding a = 0 →
      Answers (.taskStop a 2) s (fun t => t.task a = { s.task a with st := .stopped, wait := .none })) ∧
    ((s.task a).st = .active → (s.task a).load ≠ none →
      exec (.taskStop a 2) s = .next (s.modTask a (fun t => { t with stopReq := true }))) ∧
    ((s.task a).st = .trapped → s.outstanding a = 0 → exec (.clearTrap a 4) s = .next (s.modTask a (fun t => { t with st := .stopped })))

/-- R57, R58, R62: a write of TSK_CELL_CTRL that reaches a cell in Noon with its clock running resets it, quiesces it or resumes it. A reset
cell has every task STOPPED, its memory zero and its colony as before; a quiesced one reads QUIESCED; a resumed one no longer does. -/
def Obligations.CellControlResetsQuiescesAndResumes : Prop :=
  ∀ (s : State) (c : CellAt), (s.comb c.site).siteSt c.phys = 0 → (s.cell c).clk.changing = false →
    exec (.cellReset c 1) s = .next (s.cellReset c) ∧
    Answers (.cellReset c 1) s (fun t =>
      (t.cell c).core.tasks = Vector.replicate 8 Task.reset ∧ (t.cell c).cmem = { words := [], ecc := [] } ∧
      (t.cell c).colony = (s.cell c).colony ∧ (t.cell c).ready = true ∧ (t.cell c).inReset = false) ∧
    ((s.cell c).inReset = false →
      (Answers (.quiesce c 2) s (fun t => (t.cell c).quiesced = true ∧ ((s.cell c).quiesced = true → t = s))) ∧
      ((s.cell c).quiesced = true → exec (.resume c 4) s = .next (s.resume c)) ∧
      ((s.cell c).quiesced = false → exec (.resume c 4) s = .next s))

/-- R8, R48, R49, R62, R63, R169, R454: the cell registers that have a command of their own. TSK_CELL_BIND takes a colony where the cell-wide block
is stopped; MXE_ACC_DATA of a quiesced cell reads and writes a pair of words; the counters clear when read; the scrubber corrects single-bit errors of
one line of each bank and moves on. R59, R60, R195, R244, R391, R419, R493: REGISTER_WRITE writes the register at its offset where the block can take
the access, and SAFE_POINT_APPLY gives the writes that wait at a block's safe point their effect. -/
def Obligations.RegisterCommandsAct : Prop :=
  (∀ (s : State) (c : CellAt), (s.cell c).inReset = false →
    (∀ col : Byte, col.toNat < 64 ∨ col = 0xFF → (s.cell c).stopped = true →
      exec (.cellBindWrite c (BitVec.ofNat 64 (col.toNat * 65536 + (s.comb c.site).logicalOf c.phys))) s =
        .next (s.modCell c (fun x => { x with colony := col }))) ∧
    ((s.cell c).quiesced = true →
      (∀ v : W64, exec (.accDataAccess c (some v)) s = .next (s.modCell c (fun x =>
        ({ x with acc := x.acc.write (2 * x.accPair.toNat) [v.setWidth 32, v.extractLsb' 32 32] }).accStep))) ∧
      ((s.cell c).acc.firstUe (2 * (s.cell c).accPair.toNat) 2 = none → exec (.accDataAccess c none) s = .next (s.modCell c Cell.accStep))) ∧
    exec (.cmemErrRead c) s = .next (s.modCell c (fun x => { x with ceCount := 0, ueCount := 0 })) ∧
    exec (.cmemArbStatRead c) s = .next (s.modCell c (fun x => { x with arbWide := 0, arbNarrow := 0 })) ∧
    exec (.tskClkMonRead c) s = .next (s.modCell c (fun x => { x with clk := { x.clk with relocks := 0, longest := 0, episodes := 0 } })) ∧
    ((s.cell c).quiesced = false → (s.comb c.site).siteSt c.phys = 0 →
      Answers (.cellScrubTick c) s (fun t =>
        (t.cell c).scrubRow = ((s.cell c).scrubRow + 1) % 448 ∧ (t.cell c).cmem.words = (s.cell c).cmem.words ∧
        (t.cell c).passes = (if (s.cell c).scrubRow = 447 then (s.cell c).passes + 1 else (s.cell c).passes)))) ∧
  (∀ (s : State) (w : RegWr), s.regOpen w.unit true (off8 w.off) w.val = true →
    exec (.registerWrite w) s = .next ((s.regWake w.unit).regWrite w.unit (off8 w.off) w.val (if w.keeper then some (unitHalf w.unit) else none))) ∧
  (∀ (s : State) (a : At) (v : W64), (s.task a).st = .stopped → isCell a.core = false →
    exec (.registerWrite ⟨.core a.core, BitVec.ofNat 16 (0x1000 + 0x200 * a.task.val + 0x10), v, true⟩) s =
      .next (s.modTask a (fun t => { t with pc := BitVec.ofNat 24 v.toNat }))) ∧
  (∀ (s : State) (i : Site) (p : Phys) (k : SamplerId) (st : StoreId),
    exec (.safePointApply (.moverBlk (.cell i p))) s = .next (s.modCore (.cell i p) Core.takeTimeout) ∧
    exec (.safePointApply (.cellBlk i p)) s = .next (s.modCell ⟨i, p⟩ (fun x => { x with clk := x.clk.takeThresh })) ∧
    exec (.safePointApply (.samplerBlk i k)) s = .next (s.modSmp ⟨i, k⟩ Sampler.safePoint) ∧
    exec (.safePointApply (.storeBlk st)) s = .next (s.modStore st.val (fun x => { x with scrubS := x.scrubLatch.getD x.scrubS, scrubLatch := none })) ∧
    exec (.safePointApply (.engine i p .mxe)) s = .next (s.modCell ⟨i, p⟩ (fun x => x.setEng .mxe (x.eng .mxe).takeSeed)) ∧
    Answers (.safePointApply (.combBlk i)) s (fun t => (t.comb i).guardPeriod = (s.comb i).guardLatch.getD (s.comb i).guardPeriod ∧
      (t.comb i).guardLatch = none))

/-! ### Tile engines (R128, R131, R134, R136) -/

/-- R131, R136: where the head of an engine's queue is an opcode's descriptor that may start, the command of that opcode takes it as the
engine's running command. A field error makes it BAD_FIELD with the field's bit as its DETAIL, and nothing is read or written. -/
def Obligations.TileCommandsTakeTheHeadOfTheQueue : Prop :=
  ∀ (s : State) (c : CellAt) (q : Queued),
    let takes (i : Instr) (e : Eng) (op : Nat) (check : Queued → Option Nat) : Prop :=
      s.engHead c e = some q → q.opcode = op →
        (Answers i s (fun t => ∃ r, ((t.cell c).eng e).running = some r ∧ r.q = q)) ∧
        (∀ b, check q = some b → exec i s = .next (s.modCell c (fun k => k.setEng e
          { k.eng e with queue := (k.eng e).queue.drop 1, running := some ⟨q, 0x02, 0, b⟩ })))
    takes (.mma c) .mxe 1 mmaCheck ∧ takes (.accLoad c) .mxe 2 accLoadCheck ∧ takes (.accStore c) .mxe 3 accStoreCheck ∧
    takes (.accZero c) .mxe 4 accZeroCheck ∧ takes (.accScale c) .mxe 5 accScaleCheck ∧ takes (.pack c) .mxe 6 packCheck ∧
    takes (.vbin c) .vxe 0x40 vbinCheck ∧ takes (.vun c) .vxe 0x41 vunCheck ∧ takes (.vred c) .vxe 0x42 vredCheck ∧
    takes (.vnorm c) .vxe 0x43 vnormCheck ∧ takes (.vrope c) .vxe 0x44 vropeCheck ∧ takes (.vsmxu c) .vxe 0x45 vsmxuCheck

/-- R128, R131, R134, R148: the running command of an engine that is neither parked nor stopped completes: the engine is idle and counts it. A head
descriptor that its idle unit does not define leaves the queue and is counted. ACC_ZERO without a field error sets the sixteen tiles its mask names to zero, and leaves every other word of the
accumulators as it is. -/
def Obligations.EnginesCompleteAndDropUndefinedDescriptors : Prop :=
  (∀ (s : State) (c : CellAt) (e : Eng) (n : BitVec 30) (r : Running), ((s.cell c).eng e).running = some r →
    ((s.cell c).eng e).parked = false → s.coreRuns (.cell c.site c.phys) = true →
    Answers (.tileCommandComplete c e n) s (fun t => ((t.cell c).eng e).running = none ∧ ((t.cell c).eng e).done = ((s.cell c).eng e).done + 1)) ∧
  (∀ (s : State) (c : CellAt) (q : Queued) (tl : List Queued), let i : CoreId := .cell c.site c.phys
    s.coreRuns i = true →
    (∀ e : Eng, ((s.cell c).eng e).running = none → ((s.cell c).eng e).queue = q :: tl → ((s.cell c).eng e).parked = false →
      opcodeDefined (engUnit e) q.opcode = false → s.mayStart i (engUnit e) q = true →
      Answers (.undefinedDescriptor i (BitVec.ofNat 3 (engUnit e))) s (fun t =>
        ((t.cell c).eng e).queue = tl ∧ ((t.cell c).eng e).done = ((s.cell c).eng e).done + 1)) ∧
    ((s.core i).mov0.queue = q :: tl → (s.core i).mov0.started = [] → (s.core i).mov0.parked = false →
      opcodeDefined 2 q.opcode = false → s.mayStart i 2 q = true →
      Answers (.undefinedDescriptor i 2) s (fun t => (t.core i).mov0.queue = tl ∧ (t.core i).movDone = (s.core i).movDone + 1))) ∧
  (∀ (s : State) (c : CellAt) (q : Queued), s.engHead c .mxe = some q → q.opcode = 4 → accZeroCheck q = none →
      Answers (.accZero c) s (fun t => ∀ n : Nat, n < 65536 →
        (t.cell c).acc.word n = if (fld q.w0 59 44) / 2 ^ (n / 4096) % 2 = 1 then 0 else (s.cell c).acc.word n))

/-! ### Samplers (R161–R170, R244–R254) -/

/-- R162, R163: the head of a cell's sampler queue, where it may start and has no field error, is sent to its sampler as SMP_CMD. A part that
arrives at a ready, running sampler with room, for a context that is configured and has no open selection of its serial, opens a selection and asks
for its lines; a stopped sampler, or one with four selections open, answers SMP_BUSY. -/
def Obligations.SamplerCommandsReachTheirSampler : Prop :=
  (∀ (s : State) (c : CellAt) (q : Queued) (tl : List Queued), let i : CoreId := .cell c.site c.phys
    (s.cell c).smpQ = q :: tl → opcodeDefined 4 q.opcode = true → s.mayStart i 4 q = true → s.coreRuns i = true → smpCheck q = none →
    exec (.samplerCommandStart c) s = .next ((s.modCell c (fun k =>
      { k with smpQ := tl, smpOut := k.smpOut ++ [⟨q, (s.core i).nextTag, none⟩], core := { k.core with nextTag := k.core.nextTag + 1 } })).sendData
        (mkData 0x10 (s.eid c.site.val (0xBA + fld q.w0 45 44)) (s.eidOf i) (s.cell c).colony (s.epochOf c.site.val 0) 0 (s.core i).nextTag q.words))) ∧
  (∀ (s : State) (a : SmpAt) (p : DataPkt) (ctx : Ctx), AtEndpoint s a.site.val (0xBA + a.smp.val) p → p.type = 0x10 → (s.smp a).ready = true →
    fld (plW64 p 0) 53 46 = ctx.val →
    let serial : W32 := BitVec.ofNat 32 (fld (plW64 p 4) 51 20)
    (s.smp a).open_.find? (fun y => decide (y.ctx = ctx ∧ y.serial = serial)) = none →
    let does (i : Instr) : Prop :=
      ((s.smp a).stopped = false → (s.smp a).open_.length < 4 → bit ((s.smp a).ctx ctx.val).mode 63 = true →
        exec i s = .next ((((s.takeData p).modSmp a (fun x => { x with open_ := x.open_ ++ [⟨ctx, serial, [partOf p]⟩] })).smpFetches a (partOf p)))) ∧
      ((s.smp a).stopped = true ∨ 4 ≤ (s.smp a).open_.length →
        exec i s = .next ((((s.takeData p).modSmp a (fun x => { x with busyRefused := satInc x.busyRefused })).setSmpErr a 0).smpAnswer a p.src p.tag 0x06 0 0 0))
    (fld (plW64 p 0) 7 0 = 0xA0 → does (.select a p)) ∧ (fld (plW64 p 0) 7 0 = 0xA1 → does (.score a p)))

/-- R162–R164, R166: a sampler's fetch is served from the command its TAG names; fetched lines are held at the part they are for; the first selection of a
context, once complete, is computed, committed and answered and is no longer open; one with a part missing ends PART_TIMEOUT for every part
received; and a result that comes OK is written to the result address of its command, which then ends. -/
def Obligations.SelectionsFetchCompleteAndAnswer : Prop :=
  (∀ (s : State) (c : CellAt) (p : DataPkt) (o : SmpOut), AtCell s c p → s.cellHolds c = false →
    (s.cell c).smpOut.find? (fun o => o.tag = p.tag && o.done.isNone) = some o →
    let i : CoreId := .cell c.site c.phys
    let first := (plWord p 0).toNat
    let n := fld (plWord p 1) 15 0
    (p.type = 0x11 → first + n ≤ o.q.sLines → (s.cell c).cmem.firstUe (o.q.a + first * 64) (n * 64) = none →
      exec (.smpFetch c p) s = .next (((s.takeData p).noteRead c ((s.cell c).cmem.ceIn (o.q.a + first * 64) (n * 64)) none).sendData
        (mkData 0x12 p.src (s.eidOf i) (s.cell c).colony (s.epochOf c.site.val 0) first p.tag
          ((s.cell c).cmem.read (o.q.a + first * 64) (n * 64))))) ∧
    (p.type = 0x13 → fld (plWord p 2) 7 0 = 0 →
      let d := ((s.takeData p).memWrite i o.q.d [plWord p 0, plWord p 1]).draw
      exec (.smpResult c p) s = .next (d.2.smpEnd c o 0 ((plWord p 2).extractLsb' 8 4) d.1.toNat))) ∧
  (∀ (s : State) (a : SmpAt) (p : DataPkt), AtEndpoint s a.site.val (0xBA + a.smp.val) p → p.type = 0x12 →
    exec (.smpData a p) s = .next ((s.takeData p).modSmp a (fun x => { x with open_ := x.open_.map (fun y => { y with parts := y.parts.map (fun q =>
      if q.src = p.src ∧ q.tag = p.tag then q.addLines p.addr.toNat (linesOf (p.payload.length / 64) p.payload) else q) }) }))) ∧
  (∀ (s : State) (a : SmpAt) (ctx : Ctx) (y : Selection),
    ((s.smp a).open_.find? (fun y => decide (y.ctx = ctx)) = some y → y.complete = true → (s.smp a).ready = true →
      Answers (.selectionComplete a ctx y.serial) s (fun t => ∀ z ∈ (t.smp a).open_, ¬(z.ctx = ctx ∧ z.serial = y.serial))) ∧
    ((s.smp a).open_.find? (fun z => decide (z.ctx = ctx ∧ z.serial = y.serial)) = some y → y.parts.length < ((y.parts.map (·.parts)).headD 0) →
      exec (.partTimeout a ctx y.serial) s = .next (((s.smpFinish a y 0x07 0 0 0).setSmpErr a 2).smpSettle a)))

/-- R166, R170, R244–R247, R254: the registers of a ready sampler that have a command of their own: RESET ends every open selection SAMPLER_RESET and leaves
the sampler running; START lets it run; STOP of an idle sampler stops it at once; a context reset leaves an empty history; configuration words are
held for the safe point; grammar descriptors, grammar words and history words are written where their owner is stopped; counters clear when read. -/
def Obligations.SamplerRegisterCommandsAct : Prop :=
  ∀ (s : State) (a : SmpAt), (s.smp a).ready = true →
    exec (.smpReset a 1) s = .next ((s.smpAbandon a (s.smp a).open_).modSmp a (fun x => { x with ready := true, stopped := false, stopReq := false })) ∧
    exec (.smpStart a 4) s = .next (s.modSmp a (fun x => { x with stopped := false, stopReq := false })) ∧
    ((s.smp a).open_ = [] → (s.smp a).stopped = false → Answers (.smpStop a 2) s (fun t => (t.smp a).stopped = true)) ∧
    (∀ ctx : Ctx, Answers (.smpCtxReset a (BitVec.ofNat 64 ctx.val)) s (fun t =>
      ((t.smp a).ctx ctx.val).head = 0 ∧ ((t.smp a).ctx ctx.val).total = 0 ∧ ∀ k : Nat, k < 1024 → Tbl.get 0 (t.smp a).history (ctx.val * 1024 + k) = 0)) ∧
    (∀ (ctx : Ctx) (w : Fin 4) (v : W64), w ≠ 0 → (s.smp a).cfgLegal w.val v = true →
      exec (.smpCfgWrite a ctx w v) s = .next (s.modSmp a (fun x => x.modCtx ctx.val (fun k => { k with staged := k.staged ++ [(w.val, v)] })))) ∧
    (∀ (g : Fin 16) (v : W64), grmLegal v = true → (s.smp a).grammarRuns g.val = false →
      Answers (.smpGrmDescWrite a g v) s (fun t => Tbl.get 0 (t.smp a).grmDesc g.val = keep v grmMask)) ∧
    (∀ v : W64, (s.smp a).gWordRuns (s.smp a).gIndex.toNat = false →
      Answers (.smpGdataAccess a (some v)) s (fun t => Tbl.get 0 (t.smp a).grammar (s.smp a).gIndex.toNat = v)) ∧
    (∀ v : W64, (s.smp a).ctxStopped ((s.smp a).hIndex.toNat / 1024) = true →
      Answers (.smpHdataAccess a (some v)) s (fun t => Tbl.get 0 (t.smp a).history (s.smp a).hIndex.toNat = v.setWidth 21)) ∧
    exec (.smpGdataAccess a none) s = .next (s.modSmp a Sampler.gStep) ∧
    exec (.smpHdataAccess a none) s = .next (s.modSmp a Sampler.hStep) ∧
    exec (.smpCountsRead a) s = .next (s.modSmp a (fun x => { x with completed := 0, busyRefused := 0, dropped := 0 })) ∧
    (∀ ctx : Ctx, exec (.smpStCountRead a ctx) s =
      .next (s.modSmp a (fun x => x.modCtx ctx.val (fun k => { k with selections := 0, empties := 0, refused := 0 }))))

/-! ### Movers (R171–R184) -/

/-- R171, R176, R178, R184: a mover that is ready takes its head descriptor as started, or ends it BAD_FIELD with the bit of its field; a descriptor whose
work is done and whose answers are in completes, first in, first out; an answer given up makes its descriptor TIMEOUT. -/
def Obligations.MoversStartCompleteAndTimeOut : Prop :=
  ∀ (s : State) (m : MovAt),
    (∀ (q : Queued) (tl : List Queued), (s.mov m).queue = q :: tl → s.movReady m q = true →
      (firstBad (moverChecks (isCell m.core) q) = none → q.opcode ≠ 0x87 → q.opcode ≠ 0x88 →
        exec (.moverDescriptorStart m) s = .next (s.movPush m (Started.new q))) ∧
      (∀ b, firstBad (moverChecks (isCell m.core) q) = some b →
        exec (.moverDescriptorStart m) s = .next (s.movPush m { Started.new q with status := 0x02, detail := b, ran := true }))) ∧
    (∀ (d : Started) (tl : List Started), (s.mov m).started = d :: tl → d.ran = true → d.expect = [] → (s.mov m).parked = false →
      s.coreRuns m.core = true →
      Answers (.moverDescriptorComplete m) s (fun t => (t.mov m).started = tl ∧ (t.core m.core).movDone = (s.core m.core).movDone + 1)) ∧
    (∀ (tag : BitVec 16) (d : Started) (e : Expect), s.coreRuns m.core = true →
      (s.core m.core).expecting (fun _ e => e.has tag) = some (m.mov, d, e) →
      exec (.moverTimeout m tag) s = .next ((s.setExpect m d.q.serial e []).failDesc m d.q.serial 0x17 0 0))

/-- R175, R177–R181: the started descriptor of a running mover does its opcode's work: COPY moves its lines; PUT and SWRITE send them by packets of up
to 16 lines; GET and SREAD ask for them; PUTIMM, RATOM and SATOM send one packet; NPUT sends them to the neighbour, or ends NO_NEIGHBOUR; SGATHER sends its
requests, or ends WINDOW at an entry that fails; SFETCH sends its request, and on a cell task ends NOT_PERMITTED. -/
def Obligations.MoverOpcodesDoTheirWork : Prop :=
  ∀ (s : State) (m : MovAt) (d : Started), (s.mov m).parked = false → s.coreRuns m.core = true → (s.mov m).cur = some d →
    let rem : State → Option Eid := fun s => s.remTarget m.core d.q.w2
    let remAddr (i : Nat) : Nat := fld d.q.w2 23 0 + 64 * i
    let sto : State → Option Eid := fun s => some (s.eid d.q.sto.via.toNat 0xB8)
    let stoAddr (i : Nat) : Nat := (d.q.sto.addr + 256 * i) / 64
    (d.q.opcode = 0x80 → (s.ram m.core).firstUe d.q.a (64 * d.q.lines) = none →
      exec (.copy m) s = .next (((s.memRead m.core d.q.a (64 * d.q.lines)).2.memWrite m.core d.q.b ((s.ram m.core).read d.q.a (64 * d.q.lines))).curDone m)) ∧
    (d.q.opcode = 0x81 → ∀ si p, m.core = .cell si p →
      (s.neighbour ⟨si, p⟩ (dirOf d.q.sub) = none → exec (.nput m) s = .next (s.curFail m 0x10 0 0)) ∧
      (∀ n, s.neighbour ⟨si, p⟩ (dirOf d.q.sub) = some n → (s.cell n).inReset = false → (s.ram m.core).firstUe d.q.a (64 * d.q.lines) = none →
        exec (.nput m) s = .next (State.nputLines m p n (dirOf d.q.sub) d.q (numbered d.q.lines 0 ((s.ram m.core).read d.q.a (64 * d.q.lines)))
          (s.memRead m.core d.q.a (64 * d.q.lines)).2))) ∧
    (d.q.opcode = 0x82 → exec (.put m) s = .next (State.sendLines m d.q.a rem remAddr (packetsOf d.q.lines) s)) ∧
    (d.q.opcode = 0x83 → exec (.get m) s = .next (State.askLines m d.q.a rem remAddr (packetsOf d.q.lines) s)) ∧
    (d.q.opcode = 0x84 → exec (.sread m) s = .next (State.askLines m d.q.a sto stoAddr (packetsOf d.q.lines) s)) ∧
    (d.q.opcode = 0x85 → exec (.swrite m) s = .next (State.sendLines m d.q.a sto stoAddr (packetsOf d.q.lines) s)) ∧
    (∀ e, rem s = some e →
      (d.q.opcode = 0x86 → exec (.putimm m) s = .next ((s.movSend m 0x02 e (remAddr 0)
        [d.q.w1.setWidth 32, d.q.w1.extractLsb' 32 32, if d.q.w64 then 1 else 0] .ack).curDone m)) ∧
      (d.q.opcode = 0x87 → exec (.ratom m) s = .next ((s.movSend m 0x05 e (remAddr 0) (atomicWords d) .old).curDone m))) ∧
    (d.q.opcode = 0x88 → exec (.satom m) s = .next ((s.movSend m 0x05 (s.eid d.q.sto.via.toNat 0xB8) (d.q.sto.addr / 64) (atomicWords d) .old).curDone m)) ∧
    (d.q.opcode = 0x89 → let n := 2 * (fld d.q.w3 7 0 + 1)
      (s.ram m.core).firstUe d.q.b n = none →
      let r := gatherAll (isCell m.core) d.q 0 (pairsOf ((s.ram m.core).read d.q.b n))
      let u := State.sendGroups m d.q.lines (gatherGroups r.1) (s.memRead m.core d.q.b n).2
      exec (.sgather m) s = .next (if r.2 then u.curFail m 0x19 0 0 else u.curDone m)) ∧
    (d.q.opcode = 0x8A →
      (isCell m.core = true → exec (.sfetch m) s = .next (s.curFail m 0x14 0 0)) ∧
      (isCell m.core = false → exec (.sfetch m) s = .next ((s.movSend m 0x18 (BitVec.ofNat 24 (fld d.q.w1 23 0)) 0 (fetchWords s d.q) .shard).curDone m)))

/-! ### Packets at memories and cores (R41, R54, R122, R123, R173, R177–R183, R299–R303) -/

/-- R54, R173, R178, R181, R302: at a cell that takes traffic, an inbound write, read or atomic that passes its checks acts on the words at its physical
address and is answered; one that a receive window refuses is refused OUTSIDE_WINDOW and sets RX_WIN. -/
def Obligations.InboundPacketsReadAndWriteMemory : Prop :=
  ∀ (s : State) (c : CellAt) (p : DataPkt), AtCell s c p → s.cellHolds c = false →
    let i : CoreId := .cell c.site c.phys
    let u : RegUnit := .core i
    let s1 := s.takeData p
    let n := if bit (plWord p 2) 0 then 2 else 1
    let lines := (fld (plWord p 0) 3 0 + 1) * 64
    let m := if bit (plWord p 4) 4 then 2 else 1
    (∀ a, p.type = 0x01 → s1.rxCheck c p p.payload.length rightW true = .ok a →
      let w := s1.memWrite i a p.payload
      exec (.cellWritePacket u p) s = .next (w.ackData (w.eidOf i) p)) ∧
    (∀ r, p.type = 0x01 → s1.rxCheck c p p.payload.length rightW true = .refuse r true →
      let w := s1.setCellErr c 4
      exec (.cellWritePacket u p) s = .next (w.nackData (w.eidOf i) p r)) ∧
    (∀ a, p.type = 0x02 → s1.rxCheck c p n rightW false = .ok a →
      let w := s1.memWrite i a (p.payload.take n)
      exec (.writeWordPacket u p) s = .next (w.ackData (w.eidOf i) p)) ∧
    (∀ a, p.type = 0x03 → s1.rxCheck c p lines rightR true = .ok a → (s.ram i).firstUe a lines = none →
      let w := (s1.memRead i a lines).2
      exec (.readReqPacket u p) s = .next (w.sendData (mkData 0x04 p.src (w.eidOf i) (w.coreColony i) (w.coreEpoch i) p.addr.toNat p.tag ((s.ram i).read a lines)))) ∧
    (∀ a, p.type = 0x05 → fld (plWord p 4) 3 0 ≤ 9 → s1.rxCheck c p m rightRW false = .ok a → (s.ram i).firstUe a m = none →
      let w := (s1.memRead i a m).2
      let old := wordsVal ((s.ram i).read a m) m
      Answers (.atomicPacket c p) s (fun t => ∃ x : DataPkt, x.type = 0x06 ∧ x.dst = p.src ∧ x.tag = p.tag ∧
        t = (w.memWrite i a (amoWords (fld (plWord p 4) 3 0) (bit (plWord p 4) 4) old (plW64 p 0) (plW64 p 2))).sendData x))

/-- R39–R41, R58: a line that reaches a running cell on a neighbour channel leaves the channel and is delivered; a quiesced cell holds it. R177, R181: an
answer lands where its descriptor asked for it and is no longer expected. -/
def Obligations.LinesAndAnswersLand : Prop :=
  (∀ (s : State) (c : CellAt) (d : Dir) (l : NbrLine), s.cellOff c = false → s.cellAsleep c = false →
    let u := s.onNbr (s.net.nbr.erase ⟨c.site, c.phys, d, l⟩)
    ((s.cell c).quiesced = false → (s.cell c).quiescing = false → exec (.neighbourLine c d l) s = .next (u.nbrDeliver c l)) ∧
    ((s.cell c).quiesced = true → exec (.neighbourLine c d l) s = .next (u.modCell c (fun k => { k with elastic := k.elastic ++ [(d, l)] })))) ∧
  (∀ (s : State) (i : CoreId) (p : DataPkt) (mv : Fin 2) (d : Started) (e : Expect), AtCore s i p →
    (∀ a n, p.type = 0x04 → (s.core i).expecting (fun _ e => e.has p.tag) = some (mv, d, e) → e.answer = .lines a n →
      exec (.readRspPacket i p) s = .next ((((s.takeData p).memWrite i a (p.payload.take (64 * n))).addRx i p).setExpect ⟨i, mv⟩ d.q.serial e [])) ∧
    (p.type = 0x06 → (s.core i).expecting (fun _ e => e.has p.tag && decide (e.answer = .old)) = some (mv, d, e) →
      exec (.atomicRspPacket i p) s = .next ((((s.takeData p).memWrite i d.q.a (p.payload.take d.q.nWords)).addRx i p).setExpect ⟨i, mv⟩ d.q.serial e []))) ∧
  (∀ (s : State) (i : CoreId) (p : CtlPkt) (mv : Fin 2) (d : Started) (e : Expect), CtlAtCore s i p →
    (p.cls = 0x04 → (s.core i).expecting (fun _ e => e.has (p.payload.extractLsb' 0 16) && decide (e.answer = .ack)) = some (mv, d, e) →
      exec (.ackPacket (.core i) p) s = .next ((s.takeCtl p).setExpect ⟨i, mv⟩ d.q.serial e [])) ∧
    (p.cls = 0x05 → bit p.payload 16 = false → (s.core i).expecting (fun _ e => e.has (p.payload.extractLsb' 32 16)) = some (mv, d, e) →
      let r := fld p.payload 7 0
      exec (.nackPacket (.core i) p) s = .next (((s.takeCtl p).setExpect ⟨i, mv⟩ d.q.serial e []).failDesc ⟨i, mv⟩ d.q.serial (nackStatus r) 0 r)))

/-- R60, R122, R123, R299, R300: a register read that reaches its block, from a source that may make it, is answered with the register's value, and a linked
pair writes the register and is acknowledged; a source that may not is refused NOT_PERMITTED. The answers end the access of the task that their class names.
A message enters the receive queue of a privileged core, and is refused NO_RECEIVER at a cell. -/
def Obligations.ControlPacketsReachRegistersAndQueues : Prop :=
  (∀ (s : State) (u : RegUnit) (p b : CtlPkt) (site ep : Nat), s.regPlace u p.dst = some (site, ep) →
    p.crc = ctlCrc6 p → p.gen = 0 →
    let off := fld p.payload 15 0 / 8 * 8
    let k := fld p.payload 18 16
    (p.cls = 0x01 → s.regSource u p.src = true → s.regOpen u false off 0 = true →
      let r := (((s.takeCtl p).regWake u).regRead u off)
      exec (.regRd u p) s = .next (r.2.sendCtl (mkCtl (0x08 + k) p.src p.dst r.1))) ∧
    (p.cls = 0x01 → s.regSource u p.src = false →
      exec (.regRd u p) s = .next ((s.takeCtl p).regNack u p.dst p nkNotPermitted)) ∧
    (p.cls = 0x02 → b.cls = 0x03 → b.dst = p.dst → b.crc = ctlCrc6 b → s.regSource u p.src = true → s.regOpen u true off b.payload = true →
      exec (.regWr u p b) s = .next (((((s.takeCtl b).takeCtl p).regWake u).regWrite u off b.payload (s.srcKeeper p.src)).sendCtl
        (mkCtl (0x10 + k) p.src p.dst 0)))) ∧
  (∀ (s : State) (i : CoreId) (p : CtlPkt) (t : TaskId), CtlAtCore s i p → (s.task ⟨i, t⟩).st = .waiting →
    (∀ rd pd, p.cls.toNat = 0x08 + t.val → (s.task ⟨i, t⟩).wait = .cread rd pd →
      exec (.regRdRsp i p) s = .next ((s.takeCtl p).endAccess ⟨i, t⟩ pd true rd p.payload)) ∧
    (∀ pd, p.cls.toNat = 0x10 + t.val → (s.task ⟨i, t⟩).wait = .cwrite pd →
      exec (.regWrAck i p) s = .next ((s.takeCtl p).endAccess ⟨i, t⟩ pd true 0 0))) ∧
  (∀ (s : State) (i : CoreId) (p : CtlPkt), CtlAtCore s i p → 0x40 ≤ p.cls.toNat → p.cls.toNat < 0x80 →
    exec (.controlMessage i p) s = .next (if isCell i then (s.takeCtl p).nackCtl (s.eidOf i) p nkNoReceiver else (s.takeCtl p).rxPush i p))

/-! ### Routers (R294–R319) -/

/-- R296, R306, R311, R314, R363: a packet in flight at a router whose header is good moves to the next router, is held, or is refused with the reason its lookup
gives; when the limit of its hold has passed it is refused with the hold's reason. R308, R319: RTR_DATA writes the entry that RTR_ADDR names where
it is legal; a local entry is not a keeper's to write; RTR_COUNTERS clears when read. -/
def Obligations.RoutersForwardHoldAndRefuse : Prop :=
  (∀ (s : State) (i : Site) (ph : Phys) (p : DataPkt) (fl : Flight), s.net.bulk.find? (Flight.atRouter i ph p) = some fl →
    p.hcrc = dataHcrc p → p.gen = 0 →
    (∀ si n dl, s.hopOf i ph p.dst = .move si n dl →
      exec (.packetHop i ph (.bulk p)) s = .next (s.onBulk (modFirst (Flight.atRouter i ph p)
        (fun f => { f with at_ := some (si, n), held := false, high := f.high || dl }) s.net.bulk))) ∧
    (∀ r, s.hopOf i ph p.dst = .hold r →
      exec (.packetHop i ph (.bulk p)) s = .next (s.onBulk (modFirst (Flight.atRouter i ph p)
        (fun f => { f with at_ := some (i.val, ph.val), held := true }) s.net.bulk)) ∧
      (s.net.bulk.any (fun f => f.atRouter i ph p && f.held) = true → exec (.holdExpiry i ph (.bulk p)) s = .next (s.routerNackData i p r))) ∧
    (∀ r, s.hopOf i ph p.dst = .nack r → exec (.packetHop i ph (.bulk p)) s = .next (s.routerNackData i p r))) ∧
  (∀ (s : State) (i : Site) (v : W64), let n := (s.comb i).router.index.toNat
    ((s.comb i).router.table = 1 → siteLegal i n v = true → ∀ k, Answers (.rtrDataWrite i v k) s (fun t =>
      Tbl.get none (t.comb i).router.siteTbl n = some (keep v siteMask))) ∧
    ((s.comb i).router.table = 2 → n < 0xB0 → Answers (.rtrDataWrite i v true) s (fun t =>
      (t.comb i).router.badWr = true ∧ (t.comb i).router.localTbl = (s.comb i).router.localTbl)) ∧
    exec (.rtrCountersRead i) s = .next (s.modRouter i (fun r => { r with crcDiscards := 0, nacksSent := 0, unpaired := 0 })))

/-- R316, R317: the reset of an enabled comb with no detour is refused where some other endpoints would have no route; else its routes are detoured, and the
reset is done at once where the drain is confirmed and waits where it is not. The limit ends the wait with DRAIN_FAIL; a confirmed retry resets the
comb, and a second failure restores its routes. -/
def Obligations.CombResetsDrainOrFail : Prop :=
  ∀ (s : State) (x : Site) (fails : List Nat),
    ((s.comb x).detour = false → (s.comb x).state = 0 →
      (s.resetRefused x = true → exec (.combReset x true false fails) s = .next s) ∧
      (s.resetRefused x = false → ∀ hold, exec (.combReset x true hold fails) s = .next ((s.detourComb x).resetDrained x hold fails)) ∧
      (s.resetRefused x = false → ∀ hold, Answers (.combReset x false hold fails) s (fun t => (t.comb x).resetRun = some ⟨1, true⟩))) ∧
    (∀ r : ResetRun, (s.comb x).resetRun = some r →
      (r.waiting = true → exec (.drainConfirmTimeout x) s =
        .next ((s.modComb x (fun k => { k with resetRun := some { r with waiting := false } })).combErr x 0x0207 1 0 0)) ∧
      (r.waiting = false → r.tries = 1 → (s.comb x).router.drain ≠ 0x1FFFF →
        exec (.drainRetry x true fails) s = .next (s.resetDrained x false fails) ∧
        exec (.drainRetry x false fails) s = .next (((s.modComb x (fun k => { k with resetRun := some ⟨2, false⟩ })).undetour x).combErr x 0x0207 1 0 0)))

/-! ### The waggle network (R321–R340) -/

/-- R325–R327: a well-formed member operation of an idle member interface sends the member's contribution and waits for the result; a further one waits
without sending; one whose operation word has an unclaimed result takes that result. The lead keeper's solicited operation is broadcast from the
panel root and waits; its ABORT is broadcast and is over at once. A malformed word gives BAD_OP, an issuer that is no member NOT_MEMBER, and nothing is sent. -/
def Obligations.WaggleOperationsWaitForTheirResults : Prop :=
  ∀ (s : State) (a : At) (f : OpRRf), f.fn = 0 → Ready s a [f.rs1, f.rs2] →
    let u := s.issued a
    let w := loW ((s.task a).x f.rs1)
    let x := (s.task a).x f.rs2
    let g := u.wgoGroup a.core w
    ∀ c ∈ wgoRows, fld w 29 26 = c.2 →
      (u.wgoBad a.core w x = true → exec (c.1 a f) s = .next (u.modTask a (Task.wrote a.core f.rd (1 <<< 32)))) ∧
      (u.wgoBad a.core w x = false → u.wgoMember a.core c.2 g = false → exec (c.1 a f) s = .next (u.modTask a (Task.wrote a.core f.rd (2 <<< 32)))) ∧
      (u.wgoBad a.core w x = false → u.wgoMember a.core c.2 g = true →
        let m := u.wagMember a.core g
        (c.2 < 9 → m.unclaimed = none → m.openOp = none → exec (c.1 a f) s =
          .next (((u.modMember a.core g (fun m => { m with openOp := some w })).wgoSend a.core g c.2 (if c.2 = 0 then [] else [loW x])).waitFor a (.wgo f.rd g))) ∧
        (c.2 < 9 → m.unclaimed = none → m.openOp ≠ none → exec (c.1 a f) s = .next (u.waitFor a (.wgo f.rd g))) ∧
        (∀ st v, c.2 < 9 → m.unclaimed = some (w, st, v) → exec (c.1 a f) s =
          .next ((u.modMember a.core g (fun m => { m with unclaimed := none })).modTask a (Task.wrote a.core f.rd (wgoResult st.toNat v)))) ∧
        (∀ h k, 9 ≤ c.2 → c.2 < 0xD → a.core = .keeper h k → ∀ r, u.wagRoot 225 (keeperComb h) = some r → (u.wagMember a.core (wagKey true g)).openOp = none →
          exec (c.1 a f) s = .next (((u.modMember a.core (wagKey true g) (fun m => { m with openOp := some w })).waitFor a (.wgo f.rd (wagKey true g))).sendWag r.val 0
            (mkWag c.2 true g (u.wagMember a.core (wagKey true g)).seq.toNat 0 [loW x, hiW x]))) ∧
        (∀ h k, c.2 = 0xD → a.core = .keeper h k → ∀ r, u.wagRoot 225 (keeperComb h) = some r →
          exec (c.1 a f) s = .next ((u.sendWag r.val 0 (mkWag 0xD true g 0 0 [])).modTask a (Task.wrote a.core f.rd 0))))

/-- R324, R328, R329: a good contribution of the open operation that its comb root awaits is combined, and the token goes up once nothing is awaited; a
status other than OK is sent on at once; the limit ends an open operation TIMEOUT. A good down token of a member operation is passed on and closes the
operation at every member here; ABORT clears both entries and aborts at every member. A bad packet is discarded with its WAG_ERR bit. -/
def Obligations.WagglePacketsCombineAndClose : Prop :=
  ∀ (s : State) (i : Site) (input : BitVec 3) (p : WagPkt), let g := p.group.toNat; let op := p.op.toNat; let key := wagKey (isSolicited op) g
    let u := s.takeWag i.val input p
    let v := s.takeWag i.val 0 p
    (p.gen ≠ 0 → exec (.waggleUpToken i input p) s = .next (u.wagErr i weGen) ∧ exec (.waggleDownToken i p) s = .next (v.wagErr i weGen)) ∧
    (p.gen = 0 → (4 < p.len.toNat ∨ 0xE ≤ op) → exec (.waggleUpToken i input p) s = .next (u.wagErr i weLen) ∧
      exec (.waggleDownToken i p) s = .next (v.wagErr i weLen)) ∧
    (p.gen = 0 → p.len.toNat ≤ 4 → op < 0xE → p.crc ≠ wagCrc p → exec (.waggleUpToken i input p) s = .next (u.wagErr i weCrc) ∧
      exec (.waggleDownToken i p) s = .next (v.wagErr i weCrc)) ∧
    (p.gen = 0 → p.len.toNat ≤ 4 → op < 0xE → p.crc = wagCrc p → bit (s.wagGroup i g) 63 = true →
      (∀ o, p.down = false → s.wagOpen i key = some o →
        (p.status = 0 → o.op = p.op → o.seq = p.seq → input = 0 → 0 < o.members → exec (.waggleUpToken i input p) s =
          .next ((u.setOpen i key (some ({ o with members := o.members - 1 }.add p.data))).wagTry i g key)) ∧
        (p.status = 0 → o.op = p.op → o.seq = p.seq → input ≠ 0 → o.inputs.contains input.toNat = true → exec (.waggleUpToken i input p) s =
          .next ((u.setOpen i key (some ({ o with inputs := o.inputs.erase input.toNat }.add p.data))).wagTry i g key)) ∧
        (p.status = 0 → (o.op ≠ p.op ∨ o.seq ≠ p.seq) → exec (.waggleUpToken i input p) s = .next ((u.wagErr i weConflict).wagFail i g key o 3)) ∧
        (p.status ≠ 0 → exec (.waggleUpToken i input p) s = .next (u.wagFail i g key o p.status.toNat))) ∧
      (p.down = true → isSolicited op = false → op ≠ 0xD → exec (.waggleDownToken i p) s =
        .next (let t := (v.setOpen i g none).wagPass i p
          (t.wagHere i g).foldl (fun s m => s.wagClose m op g p.status.toNat (nth 0 p.data 0)) t)) ∧
      (p.down = true → isSolicited op = true → p.len = 2 → exec (.waggleDownToken i p) s = .next (v.wagRequest i p)) ∧
      (p.down = true → op = 0xD → exec (.waggleDownToken i p) s =
        .next (let t := ((v.setOpen i g none).setOpen i (wagKey true g) none).wagPass i p
          (t.wagHere i g).foldl (fun s m => s.wagAbort m op g) t))) ∧
    (∀ o, s.wagOpen i g = some o → o.sent = false → ¬(g < 64 ∧ (s.comb i).waggle.colonyLimit = 0) →
      exec (.waggleLimitExpiry i p.group) s = .next ((s.wagErr i weTimeout).wagFail i g g o 5))

/-- R337: a unit of a keeper swaps to its committed epoch, and so does a comb's. R339, R340: WAG_PARENT and WAG_GROUP are written while no group is open, and a
value that is not legal is discarded with BAD_WR. R203–R206: RNK_DIR and rank memory take a legal value while the colony is stopped on the comb, and discard one that is not legal. -/
def Obligations.EpochsSwapAndWaggleAndRankRegistersAreWritten : Prop :=
  (∀ (s : State) (h : Half) (n : Nat), (s.keeper h).epoch.commit = some n →
    Answers (.unitEpochSwap (.keeperBlk h)) s (fun t => (t.keeper h).epoch = { epoch := n, staged := none, commit := none })) ∧
  (∀ (s : State) (i : Site) (k : Fin 8), exec (.unitEpochSwap (.portBlk i k)) s = .next (s.swapUnit i (0xB0 + k.val))) ∧
  (∀ (s : State) (i : Site) (v : W64),
    (fld v 2 0 = 0 → (s.comb i).waggle.anyOpen = false → Answers (.wagParentWrite i v) s (fun t =>
      (t.comb i).waggle = { (s.comb i).waggle with parent := 0, upPanel := bits v 8 8 })) ∧
    (5 ≤ fld v 2 0 → exec (.wagParentWrite i v) s = .next (s.wagErr i weBadWr))) ∧
  (∀ (s : State) (i : Site) (g : Fin 66) (v : W64),
    (fld v 55 54 = 0 → fld v 41 40 ≠ 3 → s.wagOpen i g.val = none → s.wagOpen i (wagKey true g.val) = none → Answers (.wagGroupWrite i g v) s (fun t =>
      t.wagGroup i g.val = keep v wagGroupMask)) ∧
    (fld v 55 54 ≠ 0 → exec (.wagGroupWrite i g v) s = .next (s.wagErr i weBadWr))) ∧
  (∀ (s : State) (i : Site),
      (∀ (c : ColonyId) v, (rnkDirLegal v = true → s.colonyStoppedAt i c.val = true → Answers (.rnkDirWrite i c v) s (fun t =>
          Tbl.get 0 (t.comb i).ranks.dir c.val = keep v rnkDirMask)) ∧
        (rnkDirLegal v = false → exec (.rnkDirWrite i c v) s = .next (s.rnkBad i false)) ∧
        (rnkDirLegal v = true → s.colonyStoppedAt i c.val = false → exec (.rnkDirWrite i c v) s = .next (s.rnkBad i true))) ∧
      (∀ v, let n := (s.comb i).ranks.index.toNat
        rnkLegal v = true → s.rnkFree i n v = true → Answers (.rnkDataAccess i (some v)) s (fun t => Tbl.get 0 (t.comb i).ranks.mem n = keep v rnkMask)) ∧
      exec (.rnkDataAccess i none) s = .next (s.rnkDataRead i).2)

/-! ### Links and light (R341–R373) -/

/-- R347–R351: on a link end that is up, a whole frame with the next SEQ is accepted and will be acknowledged, any other is discarded with a NAK; ACK frees the
frames before it; NAK and the replay timeout send the others again; a credit block gives its credits back; a preemptive beat waits for the rest of
its packet. -/
def Obligations.FramesAreAcceptedAcknowledgedAndReplayed : Prop :=
  ∀ (s : State) (l : LinkAt) (ch : Fin 16), l.ok = true → (s.linkAt l).isUp = true →
    (∀ f : LinkFrame, ch.val < l.chans → l.external = false → f.crc = f.crcOf → f.blockErr = false → f.uncorrected = false →
      (f.seq = ((s.linkAt l).ch ch.val).rxSeq → exec (.linkFrameReceive l ch f) s =
        .next (s.modLinkAt l (fun x => x.modCh ch.val (fun c => { c with rxSeq := c.rxSeq + 1, rxPending := true, nakSent := false })))) ∧
      (f.seq ≠ ((s.linkAt l).ch ch.val).rxSeq → exec (.linkFrameReceive l ch f) s =
        .next (s.modLinkAt l (fun x => x.modCh ch.val (fun c => { c with nakSent := true }))))) ∧
    (∀ f : LinkFrame, ch.val < l.chans → f.crc ≠ f.crcOf → f.uncorrected = false → exec (.linkFrameReceive l ch f) s =
      .next (s.modLinkAt l (fun x => let y := x.modCh ch.val (fun c => { c with nakSent := true }); { y with crcFails := satInc y.crcFails }.total 1))) ∧
    (∀ n, exec (.acknak l ch n false) s = .next (s.modLinkAt l (fun x => x.modCh ch.val (fun c => c.ack n)))) ∧
    (∀ n, exec (.acknak l ch n true) s = .next ((s.modLinkAt l (fun x => x.modCh ch.val (fun c => c.ack n))).resend l ch.val)) ∧
    exec (.acknakSendTimer l ch) s = .next (s.modLinkAt l (fun x => x.modCh ch.val (fun c => { c with rxPending := false }))) ∧
    exec (.replayTimeout l ch false) s = .next (s.resend l ch.val) ∧
    (∀ e0 e1, exec (.creditBlock l ch e0 e1) s = .next (s.modLinkAt l (fun x => x.modCh ch.val (fun c => l.credit (l.credit c e0) e1)))) ∧
    (∀ i k t0 t1, l = .comb i k → 8 ≤ k.val → s.octetMode (octetOf i) = 1 →
      let ts := (((s.comb i).link k.val).ch 0).tokens ++ [t0, t1]
      ts.length < 1 + wagLen (fld (nth 0 ts 0) 13 11) →
        exec (.waggleBlock l t0 t1) s = .next (s.modLink i k.val (fun x => x.modCh 0 (fun c => { c with tokens := ts }))))

/-- R352–R354, R363, R365: a link end in TRAINING keeps a valid record it hears; training without a signal leaves it DOWN with NO_SIGNAL; an on-die link with good
wires, equalisation and error rate comes UP at full width; a link end that is up and loses block lock retrains; a link out of UP has its
routes flipped after 1 ms, and back 1 s after it is UP again; a quarantined link that recalibrates clean leaves quarantine, one that fails counts. -/
def Obligations.LinksTrainFlipAndRecalibrate : Prop :=
  ∀ (s : State) (l : LinkAt), l.ok = true →
    (∀ bs : List Byte, (s.linkAt l).state = 2 → l.lane = true → fieldAt (fitTo 0 35 bs) 31 4 = (crc32 ((fitTo 0 35 bs).take 31)).toNat →
      exec (.trainingRecord l bs) s = .next (s.modLinkAt l (fun x => { x with heard := some (fitTo 0 35 bs), peer := fitTo 0 35 bs }))) ∧
    (∀ o : TrainOut, (s.linkAt l).state = 2 → l.lane = false →
      let u := s.modLinkAt l (fun x => { x with wires := o.wires.foldl (fun t e => Tbl.put 0 t e.1.val e.2) [] })
      (o.signal = false → exec (.linkTraining l o) s = .next (u.trainFail l 3 false)) ∧
      (o.signal = true → o.wires = [] → o.eqOk = true → o.berOk = true → exec (.linkTraining l o) s = .next (u.trainUp l false))) ∧
    ((s.linkAt l).isUp = true → exec (.lockLoss l) s = .next (s.retrain l false)) ∧
    ((s.linkAt l).isUp = false → (s.linkAt l).flipped = false →
      exec (.routeFlipTimer l) s = .next (s.modLinkAt l (fun x => { x with flipped := true })).resel.reselPanels) ∧
    ((s.linkAt l).isUp = true → (s.linkAt l).flipped = true →
      exec (.routeRestoreTimer l) s = .next (s.modLinkAt l (fun x => { x with flipped := false })).resel.reselPanels) ∧
    ((s.linkAt l).state = 5 →
      exec (.linkRecalibration l true) s = .next ((s.modLinkAt l (fun x => { x with history := [], recalFails := 0 })).startTraining l) ∧
      ((s.linkAt l).recalFails ≠ 23 → exec (.linkRecalibration l false) s = .next (s.modLinkAt l (fun x => { x with recalFails := x.recalFails + 1 }))))

/-- R28, R366–R371: DISABLE turns a link end OFF with its reason, RETRAIN trains an end that is DOWN, ENABLE one that is OFF, RELEASE one in quarantine; LNK_COUNTS
clears when read. A laser module in an empty socket is OK or INCOMPATIBLE, and one that is OK may wear, fail or be removed. A census of a scope whose
condition holds is performed. A command on a link end that R14 does not provide stops. -/
def Obligations.LinkAndLightCommandsAct : Prop :=
  (∀ (s : State) (l : LinkAt), l.ok = true →
    exec (.linkDisable (.one l) none) s = .next (s.linkDown l 0 13) ∧
    ((s.linkAt l).state = 1 → exec (.linkRetrain (.one l) none) s = .next (s.startTraining l)) ∧
    ((s.linkAt l).isUp = true → exec (.linkRetrain (.one l) none) s = .next (s.retrain l true)) ∧
    ((s.linkAt l).state = 0 → exec (.linkEnable (.one l) none) s = .next (s.startTraining l)) ∧
    ((s.linkAt l).state = 5 → exec (.linkRelease (.one l) none) s =
      .next ((s.modLinkAt l (fun x => { x with history := [], recalFails := 0 })).startTraining l))) ∧
  (∀ (s : State) (l : LinkAt) (r : Req) (m : MgmtSession), l.ok = true → Granted s r m (oref 0x6006 l.no 0) [2] →
    exec (.linkDisable (.one l) (some r)) s = .next (s.performed r m (fun t => (0, t.linkDown l 0 13)))) ∧
  (∀ (s : State) (i : Site) (k : Fin 12), linkExists i k = true → Answers (.lnkCountsRead i k) s (fun t =>
    ((t.comb i).link k.val).replays = 0 ∧ ((t.comb i).link k.val).crcFails = 0 ∧ ((t.comb i).link k.val).uncorrected = 0 ∧
      ((t.comb i).link k.val).retrains = 0)) ∧
  (∀ (s : State) (n : Fin 56) (tele : List W32),
    ((s.laser n.val).state = 0 → exec (.laserInsert n true tele) s = .next ((s.setLaser n.val 2 (fitTo 0 4 tele)).relight n.val) ∧
      Answers (.laserInsert n false tele) s (fun t => (t.laser n.val).state = 5)) ∧
    ((s.laser n.val).state = 2 → Answers (.laserWorn n tele) s (fun t => (t.laser n.val).state = 3) ∧
      exec (.laserLoss n false) s = .next ((s.setLaser n.val 4 (s.laser n.val).tele).relight n.val) ∧
      exec (.laserLoss n true) s = .next ((s.setLaser n.val 0 [0, 0, 0, 0]).relight n.val))) ∧
  (∀ (s : State) (r : Req) (m : MgmtSession) (ctrl : List Byte) (o : CensusOut) (ls : List LinkAt), Granted s r m (oref 0x6031 0 0) ctrl → fieldAt ctrl 0 2 = 2 →
    (s.admitted r m).censusScope 2 (fieldAt ctrl 2 2) = some ls →
    exec (.census r ctrl o) s = .next (s.performed r m (fun t => (0, (t.censusOf ls o.onDie o).modMgmt (fun x => { x with census := 2 }))))) ∧
  (∀ (s : State) (l : LinkAt) (ch : Fin 16), l.ok = false → ∀ c ∈ ([.linkFrameReceive l ch ⟨0, [], 0, false, false⟩, .acknak l ch 0 false, .acknakSendTimer l ch,
        .replayTimeout l ch false, .creditBlock l ch 0 0, .waggleBlock l 0 0, .trainingRecord l [], .lockLoss l, .routeFlipTimer l, .routeRestoreTimer l,
        .linkRecalibration l true, .linkRetrain (.one l) none, .linkDisable (.one l) none, .linkEnable (.one l) none, .linkRelease (.one l) none] : List Instr),
      exec c s = .fault .noSuchUnit)

/-! ### Fetches between panels and the swarm (R356–R360, R516) -/

/-- R357–R359: a port router in super mode with its lane up takes a well-formed FETCH_REQ of a free request id as an open fetch; FETCH_DATA of an open fetch
goes on to the store base once that has acknowledged; FETCH_END ends the fetch; a fetch without progress ends SUPER_ERROR and keeps its request id back. -/
def Obligations.FetchesOpenForwardAndEnd : Prop :=
  ∀ (s : State) (i : Site) (pr : Fin 8) (p : DataPkt), s.superPort i pr.val = true → ((s.comb i).link (laneLink pr.val)).isUp = true →
    (∀ rid, AtEndpoint s i.val (0xB0 + pr.val) p → p.type = 0x18 → fetchReqOk (p.payload.flatMap wordBytes) = true → ((s.comb i).port pr.val).newRid = some rid →
      Answers (.fetchReq i pr p) s (fun t => ∃ f ∈ ((t.comb i).port pr.val).fetches, f.rid = rid ∧ f.src = p.src ∧ f.tag = p.tag)) ∧
    (∀ f, p.type = 0x19 → superOk p = true → ((s.comb i).port pr.val).fetch p.tag.toNat = some f → f.opened = true →
      let idx := (List.range (p.payload.length / 64)).map (p.addr.toNat + ·)
      let g : Fetch := { f with seen := f.seen ++ idx, dup := f.dup || idx.any (fun k => f.seen.contains k || decide (k ≥ f.lines)) }
      exec (.fetchData i pr p) s = .next ((s.setFetch i pr.val f g).forward i pr.val g (p.addr.toNat, p.payload))) ∧
    (∀ f, p.type = 0x1A → superOk p = true → ((s.comb i).port pr.val).fetch p.tag.toNat = some f → f.opened = true →
      exec (.fetchEnd i pr p) s = .next (s.endFetch i pr.val f (f.finish (fld (plWord p 0) 7 0)))) ∧
    (∀ (rid : Fin 64) f, ((s.comb i).port pr.val).fetch rid.val = some f → exec (.fetchNoProgress i pr rid) s =
      .next ((s.endFetch i pr.val f 4).modPort i pr.val (fun x => { x with quarantined := x.quarantined ++ [rid.val] })))

/-- R214, R215, R360, R516: every swarm message that arrives is acknowledged. A panel other than the coordinator does a COMMAND and reports it; the coordinator takes
a restart another panel asks for, notes STEP_DONE, and undoes a step that failed; SEGMENTS of the sender's panel are stored; EPOCH is taken over; a panel
that is lost leaves the swarm. -/
def Obligations.SwarmMessagesAreAnsweredAndDone : Prop :=
  (∀ (s : State) (h : Half) (p : DataPkt) (img : Option (List Byte)) (dl : Bool),
    let c := fld (plWord p 0) 23 16
    let u := s.swarmTook h p
    let cmd := (swarmBody p 0).toNat
    (SwarmAt s h p 1 → c < 64 → s.coordinates = false → 1 ≤ cmd → cmd ≤ 5 →
      exec (.swarmCommand h p img dl) s = .next ((u.swarmAct c cmd img dl).2.stepDone c cmd (b2n (u.swarmAct c cmd img dl).1))) ∧
    (SwarmAt s h p 1 → c < 64 → s.coordinates = true → cmd = 4 → exec (.swarmCommand h p img dl) s = .next (u.restartColony c dl)) ∧
    (∀ left, SwarmAt s h p 2 → c < 64 → s.coordinates = true → cmd ≠ 7 → (s.work c).swarm = some (cmd, left) →
      ((swarmBody p 1).toNat = 1 → exec (.swarmStepDone h p img dl) s = .next (u.undoSwarm c cmd)) ∧
      ((swarmBody p 1).toNat ≠ 1 → left.filter (· != fromPanel p) = [] → exec (.swarmStepDone h p img dl) s = .next (u.swarmLast c cmd img dl)) ∧
      ((swarmBody p 1).toNat ≠ 1 → left.filter (· != fromPanel p) ≠ [] → exec (.swarmStepDone h p img dl) s =
        .next (u.modWork c (fun w => { w with swarm := some (cmd, left.filter (· != fromPanel p)) })))) ∧
    (SwarmAt s h p 3 → c < 64 → cmd < laySegs (s.layout c) → fld (joinW (swarmBody p 1) (swarmBody p 2)) 23 16 = fromPanel p →
      rnkLegal (joinW (swarmBody p 1) (swarmBody p 2)) = true → exec (.swarmSegments h p) s =
      .next (let t := u.modColony c (fun k => { k with placement := setNth k.placement cmd (keep (joinW (swarmBody p 1) (swarmBody p 2)) rnkMask) })
        (t.hostSites c).foldl (fun s i => s.writeTable c i) t)) ∧
    (SwarmAt s h p 4 → exec (.swarmEpoch h p) s =
      .next { u with swarmEpoch := swarmBody p 0, swarmMembers := membersOf (min 32 (swarmBody p 1).toNat) (p.payload.drop 4) }) ∧
    (SwarmAt s h p 5 → exec (.swarmHeartbeat h (some p)) s = .next u) ∧
    (p.type = 0x1C → fld p.dst 7 0 < 16 → AtEndpoint s (0xF0 + h.code) (fld p.dst 7 0) p → exec (.swarmAck h p) s = .next (s.takeData p))) ∧
  (∀ (s : State) (panel : Fin 32), s.coordinates = true → panel.val ≠ s.swarmPanel.toNat → (∀ c < 64, layPanels (s.layout c) ≤ 1) →
    s.swarmMembers.any (fun m => m.1 == panel.val) = true →
    exec (.swarmPeerLost panel) s = .next (s.swarmCommit (s.swarmMembers.filter (fun m => m.1 != panel.val))))

/-! ### Stores (R262–R266, R374–R395) -/

/-- R181, R377, R380, R384: an access of a store that passes the checks of range and ownership: a write stores its lines and is acknowledged; a read
is answered with the bytes at its address; an atomic is answered with the old value and stores the new one; a gather is answered with the lines of its
entries. One that fails a check is refused with its reason. -/
def Obligations.StorePacketsAccessTheStore : Prop :=
  ∀ (s : State) (st : StoreId) (p : DataPkt), AtStore s st.val p →
    let ep := s.eid (fld p.dst 15 8) 0xB8
    let u := s.takeData p
    let x := s.store st.val
    let n := (fld (plWord p 0) 3 0 + 1) * 256
    (p.type = 0x01 → x.access p.colony (stoAddr p) (4 * p.payload.length) = none → exec (.storeWritePacket st p) s =
      .next ((u.modStore st.val (fun x => x.write (stoAddr p) (p.payload.flatMap wordBytes))).ackData ep p)) ∧
    (∀ r, p.type = 0x01 → x.access p.colony (stoAddr p) (4 * p.payload.length) = some r →
      exec (.storeWritePacket st p) s = .next (u.nackData ep p r)) ∧
    (p.type = 0x03 → x.access p.colony (stoAddr p) n = none → (∀ g ∈ granules (stoAddr p) n, x.badGranule g = false) →
      let v := (u.storeTouch st.val (stoAddr p) n).2
      exec (.storeReadReq st p) s = .next (v.sendData
        (mkData 0x04 p.src ep p.colony (v.store st.val).epoch.epoch p.addr.toNat p.tag (wordsOfBytes ((v.store st.val).bytes (stoAddr p) n))))) ∧
    (p.type = 0x05 → fld (plWord p 4) 3 0 ≤ 9 → x.access p.colony (stoAddr p) 64 = none → (∀ g ∈ granules (stoAddr p) 64, x.badGranule g = false) →
      let v := (u.storeTouch st.val (stoAddr p) 64).2
      let k := if bit (plWord p 4) 4 then 2 else 1
      let old := wordsVal (wordsOfBytes (((v.store st.val).bytes (stoAddr p) 64).take (4 * k))) k
      exec (.storeAtomic st p) s = .next ((v.modStore st.val (fun x =>
          x.write (stoAddr p) ((amoWords (fld (plWord p 4) 3 0) (bit (plWord p 4) 4) old (plW64 p 0) (plW64 p 2)).flatMap wordBytes))).sendData
        (mkData 0x06 p.src ep p.colony (v.store st.val).epoch.epoch p.addr.toNat p.tag [loW old, hiW old]))) ∧
    (∀ bs v, p.type = 0x08 → gatherOk p = true → (gatherAddrs p).findSome? (fun a => x.access p.colony a (256 * (fld (plWord p 0) 5 0 + 1))) = none →
      State.gatherRead st.val (fld (plWord p 0) 5 0 + 1) (gatherAddrs p) u = (some bs, v) →
      exec (.gather st p) s = .next (State.sendLinesOf st.val ep p 256 0 bs v))

/-- R266, R386–R390: a port router's SHARD_OPEN opens a chunk; SHARD_DATA of an open chunk adds its lines; SHARD_END of a chunk that is whole lands it, and one
with a status ends it. SHARD_DONE ends the SFETCH that asked, and GATHER_RSP lands the lines of a gather. -/
def Obligations.ShardsOpenLandAndAreReported : Prop :=
  (∀ (s : State) (st : StoreId) (p : DataPkt), AtStore s st.val p →
    let ep := s.eid (fld p.dst 15 8) 0xB8
    let u := s.takeData p
    (p.type = 0x0A → (s.store st.val).chunks.length < 8 →
      (isLanePort p.src = true → Answers (.shardOpen st p) s (fun t => ∃ c : Chunk, c.router = p.src ∧ c.got = [] ∧
        t = (u.modStore st.val (fun x => { x with chunks := x.chunks ++ [c] })).ackData ep p)) ∧
      (isLanePort p.src = false → exec (.shardOpen st p) s = .next (u.nackData ep p nkNotPermitted))) ∧
    (p.type = 0x0B → exec (.shardData st p) s =
      .next ((linesFrom (fld p.addr 11 0) 16 p.payload).foldl (fun s l => s.shardLine st.val p.src (fld p.addr 17 12) l) u)) ∧
    (∀ c, p.type = 0x0C → (s.store st.val).chunk p.src (fld (plWord p 0) 5 0) = some c →
      let v := u.modStore st.val (fun x => { x with chunks := x.chunks.erase c })
      (fld (plWord p 0) 15 8 ≠ 0 → exec (.shardEnd st p) s = .next (v.shardDone st.val c 2)) ∧
      (fld (plWord p 0) 15 8 = 0 → c.dup = false → c.got.length = c.lines → exec (.shardEnd st p) s = .next (v.landChunk st.val c)))) ∧
  (∀ (s : State) (i : CoreId) (p : DataPkt) (mv : Fin 2) (d : Started) (e : Expect), AtCore s i p →
    (p.type = 0x0D → (s.core i).expecting (fun _ e => e.has p.tag && decide (e.answer = .shard)) = some (mv, d, e) →
      (fld (plWord p 0) 7 0 = 0 → exec (.shardDone i p) s = .next ((s.takeData p).setExpect ⟨i, mv⟩ d.q.serial e [])) ∧
      (fld (plWord p 0) 7 0 ≠ 0 → exec (.shardDone i p) s =
        .next (((s.takeData p).setExpect ⟨i, mv⟩ d.q.serial e []).failDesc ⟨i, mv⟩ d.q.serial stSuperError 0 0))) ∧
    (∀ entries left, p.type = 0x09 → (s.core i).expecting (fun _ e => e.has p.tag) = some (mv, d, e) → e.answer = .gather entries left →
      left ≤ p.payload.length / 64 → exec (.gatherRsp i p) s =
      .next (((State.landGather i d.q.a d.q.lines entries 16 p.payload (fld p.addr 17 0) (s.takeData p)).addRx i p).setExpect ⟨i, mv⟩ d.q.serial e []))) ∧
  (∀ (s : State) (st : StoreId) (c : ColonyId),
    exec (.kvDoorbell st c) s = .next (s.kvPoll st.val c.val) ∧ exec (.kvQueuePoll st c) s = .next (s.kvPoll st.val c.val) ∧
    (∀ (e : W64) (k : KvOpen), (s.store st.val).kv.find? (fun k => k.colony = c.val ∧ k.entry = e.toNat) = some k → k.expect = [] → (s.store st.val).stb = 2 →
      bit k.w4 31 = false → Answers (.kvEntryComplete st c e) s (fun t =>
        Tbl.get 0 (t.store st.val).kvDone c.val = (Tbl.get 0 (s.store st.val).kvDone c.val + 1) % 2 ^ 64 ∧
        (t.store st.val).kv = (s.store st.val).kv.erase k)))

/-- R382, R384, R385, R387, R391–R394: the commands of a store base: scrub moves on by one granule; SCRUB_NOW starts the pass again; TEST with no extent
enabled begins a test, which loses the content; a failed test, a channel that does not answer, and FENCE fence the store; zeroing makes its units
read zero; a digest is SHA-512 of its range; STB_EXT is written where it is legal; STB_ECC clears when read. -/
def Obligations.StoreBaseCommandsAct : Prop :=
  ∀ (s : State) (st : StoreId), let x := s.store st.val
    (x.stb = 2 → let g := x.scrubAt
      exec (.storeScrubTick st) s = .next (((s.storeTouch st.val (g * 64) 64).2).modStore st.val (fun x =>
        { x with scrubAt := (g + 1) % storeGranules, passes := if g + 1 = storeGranules then x.passes + 1 else x.passes }))) ∧
    (x.stb = 2 → Answers (.scrubNow st 1) s (fun t => (t.store st.val).scrubAt = 0)) ∧
    (x.stb = 2 → x.anyExtent = false → exec (.storeTest st 2) s = .next (s.storeTest st.val)) ∧
    (x.anyExtent = true → exec (.storeTest st 2) s = .next (s.setStbErr st.val sbStaticWr)) ∧
    exec (.storeFence st 4) s = .next (s.fenceStore st.val) ∧
    (x.stb ≠ 0 → exec (.storeChannelTimeout st) s = .next (s.fenceStore st.val)) ∧
    (∀ rows, x.stb = 1 → Answers (.storeTestComplete st true rows) s (fun t => (t.store st.val).stb = 2) ∧
      Answers (.storeTestComplete st false rows) s (fun t => (t.store st.val).stb = 3)) ∧
    (∀ v, x.zeroBusy = false → Answers (.storeZero st v) s (fun t => (t.store st.val).zeroBusy = true ∧
      ∀ a, x.zeroBase.toNat * 65536 ≤ a → a < (x.zeroBase.toNat + min (fld v 19 0) (786432 - x.zeroBase.toNat)) * 65536 →
        Tbl.get 0 (t.store st.val).mem a = 0)) ∧
    Answers (.storeZeroDone st) s (fun t => (t.store st.val).zeroBusy = false) ∧
    (∀ (slot : Fin 2) v, nth false x.digBusy slot.val = false → exec (.digestStart st slot v) s =
      .next (s.modStore st.val (fun x => { x with digLen := setNth x.digLen slot.val (bits v 0 28), digBusy := setNth x.digBusy slot.val true }))) ∧
    (∀ (slot : Fin 2), nth false x.digBusy slot.val = true →
      let a := (nth 0 x.digAddr slot.val).toNat / 256 * 256
      let n := (nth 0 x.digLen slot.val).toNat * 256
      (∀ g ∈ granules a n, x.badGranule g = false) →
      let u := (s.storeTouch st.val a n).2
      exec (.digestDone st slot) s = .next (u.modStore st.val (fun x =>
        { x with digBusy := setNth x.digBusy slot.val false, digResult := setNth x.digResult slot.val (Config.sha512 ((u.store st.val).bytes a n)) }))) ∧
    (∀ (c : ColonyId) v, (x.extLegal st.val c.val v = true → x.colonyStopped c.val = true → Answers (.stbExtWrite st c v) s (fun t =>
        (t.store st.val).extent c.val = keep v 0x800000FFFFFFFFFF)) ∧
      (x.extLegal st.val c.val v = false → exec (.stbExtWrite st c v) s = .next (s.setStbErr st.val sbBadWr))) ∧
    Answers (.stbEccRead st) s (fun t => (t.store st.val).corrected = 0 ∧ (t.store st.val).uncorrectable = 0 ∧ (t.store st.val).repaired = 0)

/-! ### Colonies (R200–R217, R518) -/

/-- R202, R205, R210, R213, R217: the writes of a colony's objects that pass the checks. A legal layout of a colony in FREE or DEFINED is stored and makes it DEFINED;
DEPLOY of a DEFINED colony, and RESTART of one that serves, do their transactions; START makes a READY colony SERVING with its tasks started; STOP makes
a SERVING one DRAINING; RELEASE gives everything back; a command that R210 has no row for is BUSY. -/
def Obligations.ColonyCommandsFollowTheStateTable : Prop :=
  ∀ (s : State) (r : Req) (m : MgmtSession) (c : ColonyId) (img : Option (List Byte)) (dl : Bool),
    (∀ bytes, Granted s r m (oref 0x5010 c.val 0) bytes → layoutOk c.val bytes = true → uses4095 (words64 bytes) = false → s.colonyStatic c.val = true → s.bothUp = true →
      exec (.colonyLayoutWrite r c bytes) s = .next (s.performed r m (fun t => (0,
        ((t.setObj (objKey 0x5010 c.val 0) (bytes64 (layMask (words64 bytes)))).burn (objKey 0x5010 c.val 0) (bytes64 (layMask (words64 bytes)))).setCol c.val csDefined
          (s.colony c.val).reason)))) ∧
    (layPanels (s.layout c.val) ≤ 1 → s.boot.state = 6 →
      (Granted s r m (oref 0x5002 c.val 0) [1] → (s.colony c.val).state = csDefined →
        exec (.deploy r c img) s = .next (s.performed r m (fun t => (0, t.deploy c.val img)))) ∧
      (Granted s r m (oref 0x5002 c.val 0) [2] → (s.colony c.val).state = csReady →
        exec (.colonyStart r c) s = .next (s.performed r m (fun t => (0, (t.setCol c.val csServing crNone).startTasks c.val)))) ∧
      (Granted s r m (oref 0x5002 c.val 0) [3] → (s.colony c.val).state = csServing →
        exec (.colonyStop r c) s = .next (s.performed r m (fun t => (0, t.modColony c.val (fun k => { k with state := csDraining }))))) ∧
      (Granted s r m (oref 0x5002 c.val 0) [4] → (s.colony c.val).state = csServing →
        exec (.restart r c dl) s = .next (s.performed r m (fun t => (0, (t.modColony c.val (fun k => { k with reason := crNone })).restartHere c.val dl)))) ∧
      (Granted s r m (oref 0x5002 c.val 0) [5] → (s.colony c.val).state = csFailed →
        exec (.colonyRelease r c) s = .next (s.performed r m (fun t => (0, t.release c.val)))) ∧
      (Granted s r m (oref 0x5002 c.val 0) [2] → (s.colony c.val).state = csServing → exec (.colonyStart r c) s = .next (s.performed r m (fun t => (coBusy, t))))) ∧
    ((s.colony c.val).state = csDraining → exec (.drainTimeout c dl) s = .next (s.drained c.val dl) ∧
      (s.batchesDone c.val = true → exec (.drainComplete c dl) s = .next (s.drained c.val dl))) ∧
    (∀ v : W64, Granted s r m (oref 0x5011 c.val 0) (toLe 8 v.toNat) → exec (.colonyBridgesWrite r c v) s = .next (s.performed r m (fun t => t.bridgesWrite c.val v)))

/-! ### Sessions of colonies (R232–R236, R243) -/

/-- R232–R235, R243: SESSION_CTRL with OP OPEN opens the session where the checks hold, and is answered BUSY where a colony does not serve; END ends it
with REASON 0; an OPEN that a colony has not taken up in time ends with REASON 3. A request of a colony's ring is done and taken; a late retirement is a
contained error of the colony; a session idle for its limit ends with REASON 1; an event that waits is posted once
the colony's ring has room. -/
def Obligations.SessionsOpenEndAndTimeOut : Prop :=
  (∀ (s : State) (r : Req) (m : MgmtSession) (w0 w1 w2 : W64), Granted s r m (oref 0x5040 0 0) (toLe 8 w0.toNat ++ toLe 8 w1.toNat ++ toLe 8 w2.toNat) →
    let home := fld w0 55 48
    let slot := fld w0 23 0
    (fld w0 63 56 = 1 → exec (.sessionCtrlOpen r w0 w1 w2) s = .next (s.performed r m (fun t => t.openSession home slot w1 w2 none))) ∧
    (fld w0 63 56 = 1 → s.slotIn home slot = true → (s.colony home).state ≠ csServing → exec (.sessionCtrlOpen r w0 w1 w2) s =
      .next (s.performed r m (fun t => (coBusy, t)))) ∧
    (∀ x, fld w0 63 56 = 2 → s.session slot = some x → x.home = home → exec (.sessionCtrlEnd r w0 w1 w2) s = .next (s.performed r m (fun t => (0, t.endSession x 0))))) ∧
  (∀ (s : State) (slot : BitVec 24) (x : Session), s.session slot.toNat = some x →
    (x.live.any (fun c => decide (s.seqState c x.slot = 1)) = true → exec (.openTimeout slot) s = .next (s.endSession x 3)) ∧
    (∀ c : ColonyId, x.endReason ≠ none → x.live.contains c.val = true → exec (.sessionEndTimeout c slot) s = .next (s.sendErr (0xF0 + s.lead.code)
      (mkErr 0x0602 1 6 c.val (s.eid (0xF0 + s.lead.code) 0) 0 (BitVec.ofNat 64 x.slot) 0)))) ∧
  (∀ (s : State) (c : ColonyId) (bs : List Byte), s.nextRequest c.val = some bs →
    let k := fld (reqWord bs 0) 63 56
    (k = 0x81 → exec (.reqEnd c) s = .next ((s.doReqEnd c.val bs).takeRequest c.val)) ∧
    (k = 0x82 → exec (.reqRetired c) s = .next ((s.doReqRetired c.val bs).takeRequest c.val)) ∧
    (k = 0x83 → exec (.reqSetProfile c) s = .next ((s.doReqProfile c.val bs).takeRequest c.val))) ∧
  (∀ s : State, (∀ c < 64, ringCount (s.rg64 c rgRqHead) (s.rg64 c rgRqTail) = 0) → exec .requestRingPoll s = .next s.applyEnds) ∧
  (∀ (s : State) (x : Session), s.sessions = [x] → exec .sessionIdleCheck s = .next (s.idleCheck x)) ∧
  (∀ (s : State) (c : ColonyId) (e : List Byte), (s.work c.val).events = [e] → s.eventsFull c.val = false →
    exec (.eventQueuePost c) s = .next ((s.modWork c.val (fun w => { w with events := [] })).ringEvent c.val e))

/-! ### Weights (R255–R276) -/

/-- R267–R276: WEIGHT_LOAD of a well-formed reference on a colony that is placed starts a load; a manifest, a container or a shard that cannot be fetched ends it
FAILED with its reason, and so does its timeout; a whole load of a colony on one panel completes; WEIGHT_ACTIVATE of a valid bank activates it; a valid bank that
nothing uses is released; a recheck counts a pass. Streamed requests are taken while fewer than four are open, and end with their status. -/
def Obligations.WeightsLoadActivateAndStream : Prop :=
  (∀ (s : State) (r : Req) (m : MgmtSession) (c : ColonyId) (d : List Byte), Granted s r m (oref 0x7100 c.val 0) d → weightRefOk d = true →
    csLoading ≤ (s.colony c.val).state → (s.colony c.val).state ≤ csDraining → (s.work c.val).loading = false → (s.work c.val).bankA.valid = false →
    exec (.weightLoad r c d) s = .next (s.performed r m (fun t => (0, t.startLoad c.val d false)))) ∧
  (∀ (s : State) (c : ColonyId), let l := (s.work c.val).load
    (l.state = 1 → exec (.manifestCheck c none) s = .next (s.loadFails c.val 1)) ∧
    (∀ (entry : BitVec 15) (slot : Fin 16), l.state = 2 → l.left.contains entry.toNat = true →
      exec (.containerCheck c entry slot false) s = .next (s.loadFails c.val 6)) ∧
    (∀ (bank : Fin 2) (entry : BitVec 15), l.state = 2 → l.bank = bank.val → l.left.contains entry.toNat = true →
      exec (.shardDigestCheck c bank entry .landed) s = .next (s.loadShard c.val bank.val entry.toNat) ∧
      exec (.shardDigestCheck c bank entry .source) s = .next (s.loadFails c.val 6) ∧
      exec (.shardDigestCheck c bank entry .container) s = .next (s.loadFails c.val 7)) ∧
    (l.state = 2 → l.left = [] → layPanels (s.layout c.val) ≤ 1 → exec (.loadComplete c) s = .next (s.completeLoad c.val)) ∧
    ((s.work c.val).loading = true → exec (.weightLoadTimeout c) s = .next (s.loadFails c.val 9)) ∧
    (∀ x : Fin 2, ((s.work c.val).bank x.val).valid = true → s.bankInUse c.val x.val = false → exec (.bankRelease c x) s = .next (s.releaseBank c.val x.val)) ∧
    (s.objU 0x7130 0 0 ≠ 0 → (s.work c.val).bankA.valid = true → manShards (s.work c.val).bankA.manifest = 0 → (s.work c.val).bankB.valid = false →
      Answers (.weightRecheck c) s (fun t => (t.work c.val).passes = BitVec.ofNat 32 (satAdd 32 (s.work c.val).passes.toNat 1)))) ∧
  (∀ (s : State) (r : Req) (m : MgmtSession) (c : ColonyId) (v : Byte), Granted s r m (oref 0x7104 c.val 0) [v] → v.toNat ≤ 1 →
    (((s.work c.val).bank v.toNat).valid = true → exec (.weightActivate r c v) s = .next (s.performed r m (fun t => (0, t.activate c.val v.toNat)))) ∧
    (((s.work c.val).bank v.toNat).valid = false → exec (.weightActivate r c v) s = .next (s.performed r m (fun t => (coBusy, t))))) ∧
  (∀ (s : State) (st : StoreId) (c : ColonyId) (a : Nat), s.streamAt c.val st.val = some a → s.streamUnits c.val ≠ 0 →
    let tail := s.sr64 st.val a 0x40
    let opened := ((s.work c.val).openAt st.val).length
    let n := min (4 - opened) (ringCount (s.sr64 st.val a 0) tail - opened)
    exec (.streamRingPoll st c) s = .next (s.modWork c.val (fun w =>
      { w with streams := w.streams ++ (List.range n).map (fun k => (st.val, (tail + opened + k) % 2 ^ 64, false)) })) ∧
    (∀ (q : W64) x, (s.work c.val).streams.find? (fun x => decide (x.1 = st.val ∧ x.2.1 = q.toNat)) = some x →
      let at_ := 0x1000 + q.toNat % 64 * 256
      (s.streamBad c.val st.val (s.sr64 st.val a at_) (s.sr64 st.val a (at_ + 8)) = true →
        exec (.streamRequestDone st c q .landed) s = .next (s.streamDone c.val st.val a q.toNat 4)) ∧
      (s.streamBad c.val st.val (s.sr64 st.val a at_) (s.sr64 st.val a (at_ + 8)) = false →
        exec (.streamRequestDone st c q .source) s = .next (s.streamDone c.val st.val a q.toNat 3))))

/-! ### The voice service (R277–R293) -/

/-- R278–R284: a frame on a port in service mode is counted, and answered (ARP), taken as media (a datagram of no RTCP) or counted unsupported; an acknowledged delivery is awaited no
longer; an egress record of a bound outbound entry is acknowledged and sent, and one of no entry is refused NOT_PERMITTED; at its interval a bound
direction reports by one datagram to the remote end. -/
def Obligations.ServicePortsReceiveDeliverAndSend : Prop :=
  ∀ (s : State) (p : PortId), s.octetMode (p.val / 2) = 3 →
    (∀ up : Bool, Answers (.servicePortLinkChange p up) s (fun t => (t.vport p.val).linkUp = up)) ∧
    (∀ bs arrival, (s.vport p.val).linkUp = true → readFrame (s.portStation p.val) bs = .other →
      exec (.serviceFrameReceive p bs arrival) s = .next ((s.vcount p.val vcFrames).vcount p.val vcUnsupported)) ∧
    (∀ bs arrival mac sip tip, (s.vport p.val).linkUp = true → readFrame (s.portStation p.val) bs = .arp mac sip tip →
      exec (.serviceFrameReceive p bs arrival) s = .next ((s.vcount p.val vcFrames).portSend p.val
        (arpReply (s.portStation p.val) (s.objGet 0xB005 p.val 0) mac sip tip))) ∧
    (∀ bs arrival o d, (s.vport p.val).linkUp = true → readFrame (s.portStation p.val) bs = .udp o d → d.dst.udp ≠ s.objU 0xB030 0 0 →
      (s.vport p.val).rtcpOf d = none → exec (.serviceFrameReceive p bs arrival) s = .next ((s.vcount p.val vcFrames).media p.val d arrival)) ∧
    (∀ (k : CtlPkt) e, k.cls = 0x05 → k.dst = s.voiceEid p.val → k.crc = ctlCrc6 k → k.gen = 0 →
      (s.vport p.val).deliveries.find? (fun e => e.tag = bits k.payload 32 16) = some e →
      Answers (.ringDeliveryAck p k) s (fun t => (t.vport p.val).deliveries = (s.vport p.val).deliveries.filter (fun y => y.tag != bits k.payload 32 16))) ∧
    (∀ (k : DataPkt), k.type = 0x01 → AtEndpoint s (portSite p.val) 0xB4 k → k.dst = s.voiceEid p.val →
      let ep := s.voiceEid p.val
      let found := (s.vport p.val).streams.find? (fun t => decide (t.index = fld (plWord k 0) 13 0 ∧ t.home = k.colony.toNat) && t.out)
      (∀ t, found = some t → egressOk k = true → exec (.egressRecord p k) s = .next (((s.takeData k).ackData ep k).egressSend p.val t k)) ∧
      (found = none → exec (.egressRecord p k) s = .next ((s.takeData k).nackData ep k nkNotPermitted))) ∧
    (∀ (entry : Fin 16384) (out : Bool) t, (s.vport p.val).streams.find? (fun t => decide (t.index = entry.val ∧ t.out = out)) = some t → t.srtp = false →
      Answers (.rtcpReportTimer p entry out) s (fun v => ∃ (u : State) (bs : List Byte),
        v = u.udpSend p.val { src := { v6 := t.remote.v6, addr := s.portAddr p.val t.remote.v6, udp := t.localUdp + (if t.rtcpMux then 0 else 1) }
                              dst := { t.remote with udp := t.remote.udp + (if t.rtcpMux then 0 else 1) }, payload := bs }))

/-- R282, R288–R291: a new well-formed control datagram of a configured exchange is acted on and answered: OPEN as SESSION_CTRL's, END of a session
of its home, BIND with its entry installed, and BIND of a session there is none of is NO_SESSION. EVENT_ACK removes its event, and an event that was sent fewer
than 50 times is sent again. SVC_MEDIA_MAP of a static colony is stored where it is legal. -/
def Obligations.ControlDatagramsAreActedOnAndAnswered : Prop :=
  (∀ (s : State) (n p : Nat) (d : Datagram) (rest : List (Nat × Datagram)), let b := d.payload
    let u := s.onCtl rest
    (CtlNext s 1 n p d rest → exec .controlDatagramOpen s = .next (s.ctlDone p d n
      (let r := u.openSession (dgHome b) (dgSlot b) (BitVec.ofNat 64 (beAt b 32 8)) (dgExt b) (some n)
       (if r.1 = coOk then vsOk else if r.1 = coBusy then vsBusy else vsRange, r.2)))) ∧
    (∀ x, CtlNext s 3 n p d rest → s.homeSession (dgHome b) (dgSlot b) = some x → exec .controlDatagramEnd s = .next (s.ctlDone p d n (vsOk, u.endSession x 0))) ∧
    (CtlNext s 2 n p d rest → s.bindRange (part b 32 64) = true → s.homeSession (dgHome b) (dgSlot b) = none →
      exec .controlDatagramBind s = .next (s.ctlDone p d n (vsNoSession, u))) ∧
    (∀ x ring k, CtlNext s 2 n p d rest → s.bindRange (part b 32 64) = true → s.homeSession (dgHome b) (dgSlot b) = some x → x.endReason = none →
      bindCodec (part b 32 64) = true → s.ringOf x.home x.slot = some ring → s.keyInUse x.home x.slot (part b 32 64) = false →
      s.bindIndex x.home x.slot (part b 32 64) = some k →
      exec .controlDatagramBind s = .next (s.ctlDone p d n (vsOk, u.bind x (part b 32 64) k ring))) ∧
    (s.voice.ctl = (p, d) :: rest → beAt b 5 1 = 4 → s.exchOf (beAt b 8 4) = some n → Answers .eventAck s (fun t =>
      t.voice.ctl = rest ∧ t.voice.events = s.voice.events.filter (fun e => !decide (e.exch = n ∧ e.serial = dgSeq b))))) ∧
  (∀ (s : State) (exch : Fin 8) (serial : W32) (e : SvcEvent), s.voice.events.find? (fun e => decide (e.exch = exch.val ∧ e.serial = serial)) = some e →
    (e.sends < 50 → exec (.eventResend exch serial) s = .next ((s.modVoice (fun v =>
      { v with events := v.events.map (fun y => if y = e then { y with sends := y.sends + 1 } else y) })).exchSend exch.val e.bytes)) ∧
    (50 ≤ e.sends → Answers (.eventResend exch serial) s (fun t => t.voice.events = s.voice.events.filter (fun y => y != e)))) ∧
  (∀ (s : State) (r : Req) (m : MgmtSession) (c : ColonyId) (v : W64), Granted s r m (oref 0xB020 c.val 0) (toLe 8 v.toNat) → let w := setBits v 20 17 0
    mapOk w = true → uses4095 (s.layout c.val) = false → s.colonyStatic c.val = true → s.bothUp = true →
    exec (.svcMediaMapWrite r c v) s = .next (s.performed r m (fun t =>
      (0, (t.setObj (objKey 0xB020 c.val 0) (toLe 8 w.toNat)).burn (objKey 0xB020 c.val 0) (toLe 8 w.toNat)))))

/-! ### Power delivery (R397–R421) -/

/-- R397–R405: blades, the half buses and converters change state by what happens to them, and what is lost is recorded; an undervolted or overvolted half stops; a half
powers up once its bus is back; a pair zone whose feed trips is dark and its store fenced. -/
def Obligations.BladesHalvesAndConvertersFollowTheirEvents : Prop :=
  ∀ (s : State),
    (∀ b : Fin 8, let x := s.blade b.val
      (x.state = 0 → (bladesOf (bladeHalf b.val)).any (fun k => k != b.val && decide ((s.blade k).state = 1)) = true →
        exec (.bladeReversed b) s = .next (s.bladeTo b.val 4)) ∧
      (x.state = 1 → exec (.bladeOvercurrent b) s = .next (s.bladeTo b.val 5)) ∧
      (x.state = 5 → x.recloses < 3 → exec (.efuseReclose b) s = .next (s.setBlade b.val { x with state := 1, recloses := x.recloses + 1 })) ∧
      (x.state = 5 → 3 ≤ x.recloses → exec (.efuseReclose b) s = .next s) ∧
      (x.state ≠ 0 → exec (.bladeAbsent b) s = .next ((s.setBlade b.val { x with state := 0, recloses := 0 }).supplyRec (bladeHalf b.val) 0)) ∧
      (x.state = 0 → exec (.bladeReturn b) s = .next (s.setBlade b.val { x with state := 1 }))) ∧
    (∀ h : Half,
      ((s.halfPower h).on = true → exec (.busUndervolt h) s = .next (((s.busState h 1 2).halfStop h 1).supplyRec h 2) ∧
        exec (.busOvervolt h) s = .next (((s.busState h 1 3).halfStop h 2).supplyRec h 3)) ∧
      ((s.halfPower h).on = false → (s.halfPower h).stop ≤ 1 → exec (.halfPowerUp h []) s = .next ((s.busState h 2 1).halfUp h)) ∧
      ((s.halfPower h).on = false → (s.halfPower h).stop = 2 → exec (.overvoltRecovery h) s = .next ((s.busState h 3 1).halfUp h))) ∧
    (∀ (p : Fin 64) (tele : List W32), let x := s.conv p.val
      (x.state = 0 → exec (.converterInsert p true tele) s = .next (s.setConv p.val { state := 2, tele := fitTo 0 5 tele }) ∧
        exec (.converterInsert p false tele) s = .next (s.setConv p.val { state := 5, tele := fitTo 0 5 tele })) ∧
      (x.state = 2 → exec (.converterFault p) s = .next (((s.setConv p.val { x with state := 4 }).supplyRec (convHalf p.val) 4).planeCheck (convHalf p.val)) ∧
        exec (.converterDegraded p true) s = .next (s.setConv p.val { x with state := 3 })) ∧
      (x.state = 3 → exec (.converterDegraded p false) s = .next (s.setConv p.val { x with state := 2 })) ∧
      exec (.converterRemove p) s = .next ((s.setConv p.val Converter.reset).planeCheck (convHalf p.val))) ∧
    (∀ z : StoreId, (s.store z.val).zoneOpen = false → Answers (.zoneFeedTrip z) s (fun t => ∃ u : State, t = u.zoneStoreFence z.val))

/-- R406–R421: PWR_DOM turns an entitled domain on, in the order of power-up, by joining the queue of its pair zone, and off again; the zone grants its token to the
first that waits where its headroom allows; power good and the ramp's limit end the ramp, and a wait that is too long is given up. A regulator that
latches or loses its phases is lost; one failed phase is covered by the spare; a droop catch is counted; VSET takes a legal code at its safe point. -/
def Obligations.DomainsAndRegulatorsFollowTheirCommands : Prop :=
  ∀ (s : State),
    (∀ (i : Site) (d : Fin 80) (who : Option Half), let w := (s.comb i).pw
      (domEntitled i d.val who = false → exec (.domainPowerOn i d who) s = .next (s.pwrErr i peBadWr) ∧ exec (.domainPowerOff i d who) s = .next (s.pwrErr i peBadWr)) ∧
      (domEntitled i d.val who = true → (w.dom d.val).state = 0 → (w.dom d.val).on = false → w.onOrder d.val = true → exec (.domainPowerOn i d who) s =
        .next ((s.setDom i d.val { on := true, state := 1, reason := 0 }).modStore (storeOf i) (fun z => { z with waiting := z.waiting ++ [(i, d.val)] }))) ∧
      (domEntitled i d.val who = true → (w.dom d.val).state = 3 → (w.dom d.val).on = true → w.offOrder d.val = true →
        exec (.domainPowerOff i d who) s = .next (s.domOff i d.val 0 0)) ∧
      ((w.dom d.val).state = 1 → exec (.inrushWaitTimeout i d) s =
        .next (((s.withdraw i d.val).setDom i d.val { on := false, state := 0, reason := 1 }).pwrErr i peInrush))) ∧
    (∀ (z : StoreId) (i : Site) (d : Nat),
      (∀ rest current, (s.store z.val).waiting = (i, d) :: rest → (s.store z.val).token = none → (s.store z.val).zoneOpen = false →
        let u := s.modStore z.val (fun x => { x with zoneCurrent := current })
        rampNeed d + u.zoneGuard z.val ≤ (u.store z.val).headroom → exec (.inrushGrant z current) s =
        .next ((u.modStore z.val (fun x => { x with token := some (i, d), waiting := rest })).setDom i d { on := true, state := 2, reason := 0 })) ∧
      ((s.store z.val).token = some (i, d) →
        (d < 65 ∨ 68 < d → exec (.domainPowerGood z) s =
          .next ((s.modStore z.val (fun x => { x with token := none })).setDom i d { on := true, state := 3, reason := 0 })) ∧
        exec (.domainRampTimeout z) s = .next ((s.modStore z.val (fun x => { x with token := none })).domOff i d 4 2))) ∧
    (∀ (i : Site) (r : Fin 49), let x := (s.comb i).pw.reg r.val; let k := regKind i r.val
      (∀ fit, exec (.phaseFailure i r none fit) s = .next (s.regLost i r.val 4 false)) ∧
      (∀ fit (p : Fin 13), x.phaseFail = 0 → exec (.phaseFailure i r (some p) fit) s = .next ((s.modReg i r.val (fun x =>
        { x with phaseFail := setBit x.phaseFail p.val true, spareInUse := !bit (setBit x.phaseFail p.val true) 12 })).setPwrErr i pePhase k.1 k.2)) ∧
      exec (.regulatorLatch i r false) s = .next (s.regLost i r.val 1 true) ∧ exec (.regulatorLatch i r true) s = .next (s.regLost i r.val 2 true) ∧
      exec (.droopCatch i r) s = .next ((s.modReg i r.val (fun x => { x with catches := satInc x.catches })).setPwrErr i peCatch k.1 k.2) ∧
      (∀ v, r.val < 48 → r.val % 3 = 1 → 600 ≤ fld v 15 0 → fld v 15 0 ≤ 900 → exec (.vsetWrite i r v) s =
        .next (s.modReg i r.val (fun x => { x with vsetLatch := some (bits v 0 16) }))) ∧
      (∀ v, fld v 15 0 < 600 → exec (.vsetWrite i r v) s = .next (s.pwrErr i peBadWr)))

/-! ### Power states, heat and clocks (R216, R422–R457) -/

/-- R216, R422–R440: an idle site goes down the ladder and wakes; CAP and the limits change RUN; the limiter takes its meter's power; a frame at CRITICAL goes to LEVEL 8; a
half whose sensor trips stops; a cooled frame returns; the report reads the meters; energy is charged to the colonies that use it and the rest to the panel. -/
def Obligations.SitesFramesAndHalvesFollowPowerAndHeat : Prop :=
  (∀ (s : State) (c : CellAt), let st := (s.comb c.site).siteSt c.phys
    (st = 0 → s.siteIdle c = true → exec (.siteDuskEntry c) s = .next (s.deeper c)) ∧
    (1 ≤ st → st ≤ 4 → s.siteIdle c = true → exec (.siteDescend c) s = .next (s.deeper c)) ∧
    (st ≤ 3 → exec (.siteWake c) s = .next (s.dawn c)) ∧
    (((s.comb c.site).pw.dom (dLogic (frameOf c.phys))).state = 3 → (s.comb c.site).siteFenced c.phys = false → exec (.siteDawn c) s = .next (s.dawn c)) ∧
    (∀ v, (fld v 20 16 ≤ 16 → exec (.fmxCapWrite c v) s = .next (s.setCap c (fld v 20 16))) ∧
      (16 < fld v 20 16 → exec (.fmxCapWrite c v) s = .next (s.setPstErr c.site psBadWr))) ∧
    ((s.comb c.site).pw.overdue c.phys.val = true → exec (.characterisationOverdue c) s = .next (s.retune c)) ∧
    ((s.cell c).clk.changing = true → exec (.clockRelock c) s =
      .next (State.advanceFrame c.site (frameOf c.phys) 13 ((s.clockLocked c).lowerVset c.site (frameOf c.phys)))) ∧
    (∀ v, bit v 8 = true → s.cellReach c = true → (s.cell c).inReset = false → exec (.clockGo c v) s = .next ((s.accessWake c).clkCtrlWrite c v)) ∧
    (∀ n, st = 0 → (s.cell c).clk.changing = false → Answers (.droopStretch c n) s (fun t =>
      (t.cell c).clk.stretch = (s.cell c).clk.stretch + BitVec.ofNat 64 n ∧ (t.cell c).cycles = (s.cell c).cycles + BitVec.ofNat 64 n))) ∧
  (∀ (s : State) (i : Site) (f : Frame), let w := (s.comb i).pw
    exec (.voltageSettled i f) s = .next (State.advanceFrame i f.val 13 (s.modReg i (3 * f.val + 1) (fun r => { r with vout := r.vset }))) ∧
    (∀ power, power ≤ 65535 → Answers (.frameLimiterTick i f power []) s (fun t => Tbl.get 0 (t.comb i).pw.power f.val = power)) ∧
    (6 ≤ w.levelOf f.val → exec (.runDownshift i f) s = .next (s.shiftFrame i f.val false)) ∧
    (w.levelOf f.val = 0 → exec (.runUpshift i f) s = .next (s.shiftFrame i f.val true)) ∧
    (degrees (Tbl.get 0 w.temp f.val) < (Int.ofNat w.throttleC.toNat - 5) * 16 → Answers (.throttleStep i f) s (fun t => (t.comb i).pw.tlimitOf f.val = 2000)) ∧
    (2 ≤ Tbl.get 0 w.sensLevel f.val → bit w.heat f.val = false → degrees (Tbl.get 0 w.temp f.val) < 110 * 16 →
      Answers (.frameHeatOff i f) s (fun t => (t.comb i).pw.levelOf f.val = 8 ∧ bit (t.comb i).pw.heat f.val = true)) ∧
    (∀ passed, bit w.heat f.val = true → Tbl.get 0 w.heatCount f.val < 3 → s.log.fenced 2 (i.val * 256 + f.val) = true →
      degrees (Tbl.get 0 w.temp f.val) < (Int.ofNat w.throttleC.toNat - 10) * 16 → (w.dom (dTransit f.val)).state = 3 →
      Answers (.heatFrameReturn i f passed) s (fun t => ∃ u : State, t = u.openFrame i f.val))) ∧
  (∀ (s : State) (h : Half), (s.halfPower h).on = true → exec (.thermalTrip h) s =
    .next ((s.halfStop h 3).sendErr (0xF0 + (s.halfStop h 3).lead.code) (mkErr 0x0804 2 8 h.code (s.eid (0xF0 + h.code) 0) 0 0 0))) ∧
  (∀ (s : State) (h : Half) (n : Fin 2) (v : BitVec 16), exec (.sensorConversion (.keeper h n) v false) s =
    .next (s.setKeeper h { s.keeper h with temps := Tbl.put 0 (s.keeper h).temps n.val v })) ∧
  (∀ (s : State) (m : PowerMeas), (s.halfPower .west).on = true → (s.halfPower .east).on = false → ((s.loopHalf .west m.inWest (m.inWest + m.inEast) m.otherWest).halfPower .east).on = false →
    exec (.panelLoop m) s = .next (s.loopHalf .west m.inWest (m.inWest + m.inEast) m.otherWest)) ∧
  (∀ (s : State) (m : Meter), Answers (.powerReport m) s (fun t =>
    t.power.input = s.power.input + BitVec.ofNat 64 (m.blades.foldl (fun a b => a + b.2.2.2) 0) ∧ t.power.inputMark = t.power.input)) ∧
  (∀ (s : State) (h : Half) (i : Site) (f : Frame) (st : StoreId) (n k other : Nat), halfOf i = h →
    exec (.energyCharge h [(i, f, n)] [(st, k)] other) s = .next (((s.chargeFrame i f.val n).chargeStore st.val k).charge none other))

/-- R442–R456: a half whose selected reference is lost takes the other, or holdover; one that returns is taken from holdover; the operator selects a valid one. A comb notes
an unselected transit input that it loses, and one that returns; CLK_COMB takes inputs that the comb has. KEEPER_TIME is one count of both keepers. -/
def Obligations.ReferencesInputsAndTimeAreKept : Prop :=
  (∀ (s : State) (h : Half),
    (s.halfPower h).refState = 1 →
      ((s.halfPower h).refB = true → exec (.refclkLoss h false) s = .next ((s.modHalf h (fun p => { p with refA := false })).refTo h 2)) ∧
      ((s.halfPower h).refB = false → exec (.refclkLoss h false) s = .next ((s.modHalf h (fun p => { p with refA := false })).refTo h 3)) ∧
      exec (.refclkReturn h true) s = .next (s.modHalf h (fun p => { p with refB := true }))) ∧
  (∀ (s : State) (h : Half), (s.halfPower h).refState = 3 →
    exec (.refclkReturn h false) s = .next ((s.modHalf h (fun p => { p with refA := true })).refTo h 1)) ∧
  (∀ (s : State) (r : Req) (m : MgmtSession) (h : Half) (v : Byte), Granted s r m (oref 0x8051 0 h.code) [v] → v.toNat ≤ 1 →
    ((s.halfPower h).refOk (v == 1) = false → exec (.refclkSelectWrite r h v) s = .next (s.performed r m (fun t => (coBusy, t)))) ∧
    ((s.halfPower h).refOk (v == 1) = true → s.bothUp = true → exec (.refclkSelectWrite r h v) s = .next (s.performed r m (fun t =>
      (0, ((t.setObj (objKey 0x8051 0 h.code) [v]).burn (objKey 0x8051 0 h.code) [v]).refTo h (1 + v.toNat)))))) ∧
  (∀ (s : State) (i : Site) (k : Fin 5), hasInput i k.val = true →
    ((s.comb i).pw.clkSel.toNat ≠ k.val → exec (.transitInputLoss i k) s = .next (s.modPw i (fun w => { w with clkLost := setBit w.clkLost k.val true }))) ∧
    (bit (s.comb i).pw.clkLost (s.comb i).pw.clkSel.toNat = false →
      exec (.transitInputReturn i k) s = .next (s.modPw i (fun w => { w with clkLost := setBit w.clkLost k.val false })))) ∧
  (∀ (s : State) (i : Site) (v : W64),
    ([fld v 10 8, fld v 14 12, fld v 18 16].all (hasInput i) = true → exec (.clkCombWrite i v) s = .next (s.modPw i (fun w => { w with clkLatch := some v }))) ∧
    ([fld v 10 8, fld v 14 12, fld v 18 16].all (hasInput i) = false → exec (.clkCombWrite i v) s = .next (s.setClkErr i ceBadWr))) ∧
  (∀ (s : State) (r : Req) (m : MgmtSession) (h : Half) (v : W64), Granted s r m (oref 0x8052 0 h.code) (toLe 8 v.toNat) →
    exec (.keeperTimeWrite r h v) s = .next (s.performed r m (fun t => (0, (t.setTime .west v).setTime .east v)))) ∧
  (∀ (s : State) (dt : W64), Answers (.keeperTimeAlign dt) s (fun t => (t.keeper .west).time = s.leadTime + dt ∧ (t.keeper .east).time = s.leadTime + dt))

/-! ### Firmware, starts, stops and dumps (R460–R468, R488–R494) -/

/-- R460–R462: the loader of a steward is armed, takes blocks of firmware from a keeper while ARMED, is checked from ARMED, and is started by a keeper from OK alone. R464–R468,
R488, R490, R494: a cold start runs where both halves have power and no keeper serves; a warm restart runs from PANEL_STATE 6 alone; PANEL_RESET_L held low leaves
PANEL_STATE 0; the safe state is taken when SAFE_STOP_L goes low; dumps are taken and released. -/
def Obligations.LoadersStartsStopsAndDumpsAct : Prop :=
  (∀ (s : State) (i : Site), let l := (s.comb i).loader
    (l.state ≠ 2 → exec (.fwlArm i) s = .next (s.modLoader i (fun l => { l with state := 1, rx := [] }))) ∧
    (l.state = 1 → exec (.fwlCheck i) s = .next (s.modLoader i (fun l => { l with state := 2 }))) ∧
    (l.state = 2 → exec (.fwlCheckDone i) s = 
      .next (s.modLoader i (fun x => { x with
        state := if l.rx.length < l.len then 5 else if Config.sha512 ((s.comb i).stewardLines l.base l.len) = l.digestBytes then 3 else 4 }))) ∧
    (l.state = 3 → exec (.fwlStart i true) s = .next (s.modComb i (fun k => { k with steward := k.steward.boot l.entry })) ∧
      exec (.fwlStart i false) s = .next (s.setFwlErr i feBadWr)) ∧
    (∀ p : DataPkt, AtEndpoint s i.val 0xB9 p → p.type = 0x15 → (p.lenM1.toNat + 1) % 4 = 0 → let n := (p.lenM1.toNat + 1) / 4; let first := p.addr.toNat
      (l.state = 1 → s.fromKeeper p.src = true → first < 2 ^ 24 → first + n ≤ l.len → exec (.fwBlock i p) s =
        .next ((((s.takeData p).memWrite (.steward i) ((l.base + first) * 64) p.payload).modLoader i (fun x =>
          { x with rx := x.rx ++ ((List.range n).map (first + ·)).filter (fun k => !l.rx.contains k) })).ackData (s.eid i.val 0xB9) p)) ∧
      (l.state ≠ 1 → exec (.fwBlock i p) s = .next (((s.takeData p).setFwlErr i feRefused).nackData (s.eid i.val 0xB9) p nkNotPermitted)))) ∧
  (∀ (s : State) (f : StartFinds), (∀ h : Half, (s.halfPower h).on = true ∧ (s.halfPower h).stop ≠ 5 ∧ (s.keeper h).health = 2) →
    exec (.coldStart f) s = .next (s.coldStart f)) ∧
  (∀ (s : State) (r : Req) (m : MgmtSession) (f : StartFinds), s.boot.state = 6 → exec (.warmRestart none f) s = .next (s.warmStart f) ∧
    (Granted s r m (oref 0x2003 0 0) [1] → exec (.warmRestart (some r) f) s = .next (s.performed r m (fun t => (0, t.warmStart f))))) ∧
  (∀ (s : State) (r : Req) (m : MgmtSession) (f : StartFinds), s.boot.state ≠ 6 → exec (.warmRestart none f) s = .next s ∧
    (Granted s r m (oref 0x2003 0 0) [1] → exec (.warmRestart (some r) f) s = .next (s.performed r m (fun t => (coBusy, t))))) ∧
  (∀ (s : State) (h : Half), Answers (.panelResetHold h) s (fun t => t.boot.state = 0 ∧ (t.keeper h).resetLow = true)) ∧
  (∀ (s : State) (h : Half), let u (b : Bool) : State := s.setKeeper h { s.keeper h with safeStop := b }
    ((s.keeper s.lead).health = 0 → exec (.safeStop h true) s = .next ((u true).safeState none)) ∧ exec (.safeStop h false) s = .next (u false)) ∧
  (∀ (s : State) (r : Req) (m : MgmtSession),
    (Granted s r m (oref 0x9033 0 0) [1] → exec (.dump r) s = .next (s.performed r m (fun t => (0, t.dumps 1 none)))) ∧
    (Granted s r m (oref 0x9033 0 0) [2] → exec (.dumpRelease r) s = .next (s.performed r m (fun t =>
      (0, (t.setKeeper .west { t.keeper .west with dumpState := 0 }).setKeeper .east { t.keeper .east with dumpState := 0 })))))

/-! ### Errors, fences, guard patrol and the lead (R469–R494) -/

/-- R475, R477–R481, R484–R487, R492–R494: a record that waits for a comb enters its queue, and 63 entries make the next one dropped and counted; the lead keeper takes the head of a queue
into its log; a record not acknowledged goes to the other keeper. A guard swap or a parked test of a frame that is free runs, and a test that ends returns the position. A keeper
that is silent loses the lead; the operator hands it over. FENCE_CTRL fences a domain that exists, and notes a release. -/
def Obligations.ErrorsPatrolsAndTheLeadAreHandled : Prop :=
  (∀ (s : State) (i : Site) (r : ErrRec) (arrival : W32),
    (s.errWaits i.val r = true → exec (.errRecord i r arrival) s = .next ((s.takeErr i.val r).modComb i (fun k => k.enqueue r arrival))) ∧
    ((s.comb i).erq.length < 63 → ((s.comb i).enqueue r arrival).erq = (s.comb i).erq ++ [{ r with arrival := arrival.toNat }]) ∧
    (63 ≤ (s.comb i).erq.length → ((s.comb i).enqueue r arrival).erq = (s.comb i).erq ∧ ((s.comb i).enqueue r arrival).erqDropped = satInc (s.comb i).erqDropped) ∧
    ((s.comb i).erqPending = true → (s.comb i).erq.length < 64 → Answers (.erqOverflowRecord i arrival) s (fun t =>
      (t.comb i).erq.length = (s.comb i).erq.length + 1 ∧ (t.comb i).erqPending = false)) ∧
    (∀ rest, (s.comb i).erq = r :: rest → exec (.errRecordAckTimeout i) s =
      .next (s.modComb i (fun k => { k with erqSent := [((s.erqTarget i).other, r)] }))) ∧
    Answers (.erqOverflowsRead i) s (fun t => (t.comb i).erqDropped = 0) ∧
    (∀ rest closed fails, (s.comb i).erq = r :: rest → s.erqTarget i = s.lead → (s.keeper s.lead).health = 0 → exec (.errorRecordLog (.comb i) closed fails) s =
      .next (((s.closeHandling closed).modComb i (fun k => { k with erq := rest, erqSent := [] })).logRecord r fails))) ∧
  (∀ (s : State) (i : Site) (f : Frame), let w := (s.comb i).mapWord f.val
    (∀ q up qp sp, s.patrolFree i f.val = true → sparePos w < 12 → sweepNext w (sparePos w) ((s.comb i).guard f.val).dir = some (q, up) →
      sitePhys f.val q = some qp → sitePhys f.val (sparePos w) = some sp → (s.cell ⟨i, qp⟩).clk.changing = false →
      exec (.guardSwap i f) s = .next (s.guardSwap i f.val qp sp up)) ∧
    (∀ qp (fmax : Fin 17), ((s.comb i).guard f.val).testPos ≠ 0xF → ((s.comb i).guard f.val).parked = none → sitePhys f.val ((s.comb i).guard f.val).testPos.toNat = some qp →
      8 ≤ fmax.val → Answers (.guardTestDone i f true fmax) s (fun t => (t.comb i).siteSt qp = 3 ∧ ((t.comb i).guard f.val).testPos = 0xF)) ∧
    (∀ (q : Fin 12) qp slot, sitePhys f.val q.val = some qp → slotAt w q.val = some slot → s.patrolFree i f.val = true → 12 ≤ sparePos w →
      (s.cell ⟨i, qp⟩).clk.changing = false → (s.store (parkStore i)).stb = 3 → exec (.parkedTest i f q) s = .next (s.modGuard i f.val (fun g => { g with mode := 5 }))) ∧
    exec (.guardPause i true) s = .next (s.modComb i (fun k => { k with guardPaused := true })) ∧
    exec (.guardResume i true) s = .next (s.modComb i (fun k => { k with guardPaused := false })) ∧
    exec (.guardPause i false) s = .next (s.erqBadWr i) ∧ exec (.guardResume i false) s = .next (s.erqBadWr i) ∧
    ((∀ p : Phys, (s.comb i).pw.overdue p.val = false) → exec (.overdueReport i) s = .next s)) ∧
  (∀ (s : State) (h : Half) (fails : List Nat),
    ((s.keeper h).health = 0 → exec (.keeperHeartbeat h) s = .next (s.setKeeper h { s.keeper h with discrete := s.discreteNow h })) ∧
    ((s.keeper s.lead.other).health = 0 → exec (.keeperSilent fails) s = .next ((s.takeLead s.lead.other fails).sendErr (0xF0 + s.lead.other.code)
      (mkErr 0x0702 1 7 (0xF0 + s.lead.code) (s.eid (0xF0 + s.lead.other.code) 0) 0 0 0)))) ∧
  (∀ (s : State) (r : Req) (m : MgmtSession) (fails : List Nat),
    (Granted s r m (oref 0x9041 0 0) [1] → (s.keeper s.lead.other).health = 0 → exec (.handOver r 1 fails) s = .next (s.performed r m (fun t => (0, t.handOver fails)))) ∧
    (Granted s r m (oref 0x9041 0 0) [1] → (s.keeper s.lead.other).health ≠ 0 → exec (.handOver r 1 fails) s = .next (s.performed r m (fun t => (coBusy, t)))) ∧
    (∀ d, Granted s r m (oref 0x9011 0 0) d → fieldAt d 2 2 = 0 → domainExists (fieldAt d 1 1) (fieldAt d 4 4) = true →
      (fieldAt d 0 1 = 1 → s.isFenced (fieldAt d 1 1) (fieldAt d 4 4) = false → exec (.operatorFence r d fails) s = .next (s.performed r m (fun t =>
        (0, t.logRecord (mkErr 0x0001 1 (fieldAt d 1 1) (fieldAt d 4 4) (s.eid (0xF0 + s.lead.code) 0) 0 0 0) fails)))) ∧
      (fieldAt d 0 1 = 2 → exec (.fenceRelease r d) s = .next (s.performed r m (fun t => t.fenceCtrl d [])))))

/-! ### The management plane (R495–R513, R541–R549) -/

/-- R497–R507, R541–R549: a keeper that serves answers HELLO with the common version; SESSION_OPEN makes a provisional session of its role; SESSION_AUTH of a good proof opens it and a bad one ends it with
ROLE; SESSION_CLOSE and its timeouts close it; a snapshot and a segmented write expire. Frames of a management port and CAN frames are heard by what they are; keys, security
version floors and nonces are written. -/
def Obligations.SessionsOfTheManagementPlaneOpenAndClose : Prop :=
  (∀ (s : State) (r : Req) (vmin vmax : Byte), s.serves = true → s.mgmtSession r.session = none →
    (vmin ≤ 1 → 1 ≤ vmax → exec (.hello r vmin vmax) s = .next (s.answer r.session r.txn coOk
      ([1, 0] ++ toLe 2 1024 ++ toLe 1 s.canNode ++ toLe 1 s.lead.code ++ [0, 0] ++ fitTo 0 16 s.birth.serial))) ∧
    (1 < vmin → exec (.hello r vmin vmax) s = .next (s.answer r.session r.txn coVersion [1, 1]))) ∧
  (∀ (s : State) (r : Req) (role : Byte), s.serves = true → r.version = 1 →
    (r.session = 0 → 1 ≤ role.toNat → role.toNat ≤ 3 → s.mgmt.sessions.length < 32 → Answers (.sessionOpen r role) s (fun t =>
      t.mgmt.sessions.length = s.mgmt.sessions.length + 1 ∧ ∃ m ∈ t.mgmt.sessions, m.provisional = true ∧ m.role = role.toNat)) ∧
    (r.session = 0 → 1 ≤ role.toNat → role.toNat ≤ 3 → 32 ≤ s.mgmt.sessions.length → exec (.sessionOpen r role) s = .next (s.answer 0 r.txn coResource [])) ∧
    (∀ m proof, s.mgmtSession r.session = some m → m.provisional = true →
      (s.proofOk m proof r.path = false → exec (.sessionAuth r proof) s = .next ((s.closeSession m.id).answer r.session r.txn coRole [])) ∧
      (fieldAt proof 32 1 / 64 ≠ 3 → Answers (.sessionAuth r proof) s (fun t => ∃ key, t = if s.proofOk m proof r.path then
        (s.modSession m.id (fun x =>
          { x with provisional := false, keySet := fieldAt proof 32 1 / 64, keySlot := fieldAt proof 32 1 % 8, secret := [], key := key, last := s.leadTime })).answer
            r.session r.txn coOk (toLe 1 m.role ++ [0] ++ toLe 2 (s.objU 0x1011 0 0))
        else (s.closeSession m.id).answer r.session r.txn coRole [])))) ∧
  (∀ (s : State) (r : Req) (m : MgmtSession), Admitted s r m → exec (.sessionClose r) s = .next (((s.admitted r m).closeSession r.session).answer r.session r.txn coOk [])) ∧
  (∀ (s : State) (id : W32) (m : MgmtSession), s.mgmtSession id = some m →
    (m.provisional = true → exec (.provisionalTimeout id) s = .next (s.closeSession id) ∧ exec (.sessionIdleTimeout id) s = .next s) ∧
    (m.provisional = false → exec (.sessionIdleTimeout id) s = .next (s.closeSession id) ∧ exec (.provisionalTimeout id) s = .next s) ∧
    exec (.snapshotExpiry id) s = .next (s.setSnap id none) ∧ exec (.segmentTimeout id) s = .next (s.dropSeg id)) ∧
  (∀ (s : State) (h : Half) (bs : List Byte), (s.keeper h).health = 0 →
    (readFrame (s.mgmtStation h) bs = .other → exec (.mgmtFrameReceive h bs) s = .next s.dropOther) ∧
    (∀ mac sip tip, readFrame (s.mgmtStation h) bs = .arp mac sip tip → exec (.mgmtFrameReceive h bs) s =
      .next (s.mgmtSend h (arpReply (s.mgmtStation h) mac mac sip tip) false)) ∧
    (∀ mac d, readFrame (s.mgmtStation h) bs = .udp mac d → d.dst.udp = 29450 → exec (.mgmtFrameReceive h bs) s =
      .next (s.pdu (.eth h mac d.src.v6 d.src.addr d.src.udp) (.eth (decide (d.dst.addr = linkLocal (s.mgmtStation h).mac))) d.payload))) ∧
  (∀ (s : State) (h : Half) (bus : Fin 2) (id : BitVec 11) (fd : Bool) (data : List Byte) (client : Fin 8),
    ((s.keeper h).health = 0 → (s.can h bus).state ≠ 3 → bit id 10 = true → bit id 9 = false → fld id 8 3 = s.canNode → canLenOk fd data.length = true → data ≠ [] →
      fld (nth 0 data 0) 7 0 = 0x80 → exec (.canFrameReceive h bus id fd data) s =
        .next (s.modCan h bus (fun b => { b with partials := Tbl.put none b.partials (fld id 2 0) (some (1, fd, data.drop 1)) }))) ∧
    exec (.canReassemblyTimeout h bus client) s = .next (s.modCan h bus (fun b => { b with partials := Tbl.put none b.partials client.val none })) ∧
    ((s.can h bus).state = 3 → exec (.canBusOffRecovery h bus) s = .next (s.modCan h bus (fun b => { b with state := 1, tec := 0, rec_ := 0 })))) ∧
  (∀ (s : State) (r : Req) (m : MgmtSession),
    (∀ (set : Fin 2) (slot : Fin 8) v, Granted s r m (oref (0xA030 + set.val) 0 slot.val) v →
      exec (.keySlotWrite r set slot v) s = .next (s.performed r m (fun t => t.keyWrite set.val slot.val v))) ∧
    (∀ (kind : Byte) (v : BitVec 16), Granted s r m (oref 0xA020 0 kind.toNat) (toLe 2 v.toNat) → v.toNat < s.svnFloor kind.toNat →
      exec (.svnFloorWrite r kind v) s = .next (s.performed r m (fun t => (coRange, t)))) ∧
    (∀ (kind : Byte) (v : BitVec 16), Granted s r m (oref 0xA020 0 kind.toNat) (toLe 2 v.toNat) → v.toNat = s.svnFloor kind.toNat → s.bothUp = true →
      (s.runningSvns kind.toNat).any (fun x => decide (v.toNat > x)) = false →
      exec (.svnFloorWrite r kind v) s = .next (s.performed r m (fun t =>
        (0, (t.setObj (objKey 0xA020 0 kind.toNat) (toLe 2 v.toNat)).burn (objKey 0xA020 0 kind.toNat) (toLe 2 v.toNat))))) ∧
    (∀ nonce, Granted s r m (oref 0xA040 0 0) nonce → exec (.attestNonce r nonce) s = .next (s.performed r m (fun t =>
      (0, t.modSession r.session (fun x => { x with report := t.report x nonce }))))))

/-- R320, R508–R521: an admitted read of a readable object is answered with its value, and one that fails a check with that check's status; an admitted write of an object that has no command of its own is
answered with the status of its segment. A commit of the pending set, its discard, and the check of a digest domain are performed; image updates, image sets, keeper restarts and
steward rolls act, and are BUSY where they may not; a steward that serves publishes its counters. -/
def Obligations.ReadsWritesCommitsAndUpdatesAct : Prop :=
  (∀ (s : State) (r : Req) (m : MgmtSession), Admitted s r m → let u := s.admitted r m
    (∀ (b : ReadBody) (row : ObjRow), u.objCheck m.role false b.obj = .ok row → row.access ≠ .wo → exec (.ciardRead r b) s =
      .next ((u.readValue r.session row b).2.2.answer r.session r.txn (u.readValue r.session row b).1 (u.readValue r.session row b).2.1)) ∧
    (∀ (b : ReadBody) e, u.objCheck m.role false b.obj = .error e → exec (.ciardRead r b) s = .next (u.answer r.session r.txn e [])) ∧
    (∀ (w : WriteBody) (d : List Byte), rowObjs.contains w.obj.idx.toNat = false →
      let e := u.segWrite m.role r.session w d (fun _ s => (coOk, s)) (fun row v s => s.ciardEffect row w.obj v)
      exec (.ciardWrite r w d) s = .next (e.2.2.answer r.session r.txn e.1 e.2.1)) ∧
    (∀ (h : Half) (w : WriteBody) (d : List Byte), let b : WriteBody := { w with obj := oref 0x1021 0 h.code }
      let e := u.segWrite m.role r.session b d
        (fun before s => if (s.keeper h).health ≠ 0 then (coBusy, s) else (coOk, s.setKeeper h ((s.keeper h).program before d)))
        (fun _ v s => (coOk, s.setKeeper h { (s.keeper h).setIdle (s.imageSet v) with setState := if (s.imageSet v).valid then 3 else 4 }))
      exec (.imageSet r h w d) s = .next (e.2.2.answer r.session r.txn e.1 e.2.1))) ∧
  (∀ (s : State) (r : Req) (m : MgmtSession),
    (∀ (dom : Byte) fails, Granted s r m (oref 0x2023 0 0) [dom] → dom.toNat ≤ 0x41 → exec (.digestCheck r dom fails) s =
      .next (s.performed r m (fun t => (0, t.digestCheck dom.toNat fails)))) ∧
    (Granted s r m (oref 0x2020 0 0) [1] → s.boot.state = 6 → s.mgmt.epoch.committing = false → s.swarmHeld = false →
      (∀ fails, exec (.epochCommit r false [] [] fails) s = .next (s.performed r m (fun t => (0, (t.commitEpoch (t.mgmt.epoch.committed + 1) 1 []).digestCheck 0x40 fails)))) ∧
      exec (.epochCommit r true [] [] []) s = .next (s.performed r m (fun t => (coBusy, t.modMgmt (fun g => { g with epoch := { g.epoch with last := 2 } }))))) ∧
    (Granted s r m (oref 0x2020 0 0) [2] → exec (.epochDiscard r) s = .next (s.performed r m (fun t =>
      (0, t.modMgmt (fun g => { g with epoch := { g.epoch with pending := [] } }))))) ∧
    (∀ (c : ColonyId) d img dl, Granted s r m (oref 0x5051 c.val 0) d → imageRefOk true d = true → csReady ≤ (s.colony c.val).state → (s.colony c.val).state ≤ csDraining →
      (s.work c.val).loading = false → (s.work c.val).updateDrain = false → s.sourceValid d = false →
      exec (.imageUpdate r c d img dl) s = .next (s.performed r m (fun t => (0, t.modWork c.val (fun w => { w with imageState := 4 }))))) ∧
    (∀ h : Half, Granted s r m (oref 0x1023 0 h.code) [1] →
      (h ≠ s.lead → (s.keeper h.other).health = 0 → s.mgmt.rollState ≠ 1 → exec (.keeperRestart r h) s = .next (s.performed r m (fun t => (0, t.keeperBoot h)))) ∧
      (h = s.lead → exec (.keeperRestart r h) s = .next (s.performed r m (fun t => (coBusy, t))))) ∧
    (∀ bad fails, Granted s r m (oref 0x1024 0 0) [1] → exec (.stewardRoll r bad fails) s = .next (s.performed r m (fun t => t.stewardRoll bad fails)))) ∧
  (∀ (s : State) (i : Site), (s.comb i).serves = true → s.storeSteward (storeOf i) ≠ i.val → Answers (.counterPublish i) s (fun t =>
    (t.comb i).router.counters = 0 ∧ (t.comb i).netCounters = addCounts (s.comb i).netCounters (s.comb i).router.counters))

/-! ### The panel as a whole -/

/-- A step takes the command at the front of the queue and is that command's effect with the queue's rest; on an empty queue the panel
idles (log 11), and no bits spell a command, so a fetched word changes nothing. -/
def Obligations.StepRunsTheFrontCommand : Prop :=
  ∀ (s : State),
    (∀ (c : Instr) (rest : List Instr), s.pending = c :: rest → step s = exec c (s.withQueue rest)) ∧
    (∀ (c : Instr), step (s.withQueue (c :: s.pending)) = exec c s) ∧
    (s.pending = [] → step s = .next s) ∧
    (∀ nbits w : Nat, decodeTableWord nbits w = none ∧ s.withFetchWord nbits w = s)

/-- R45, R57, R61, R62, R204, R205, R209, R439: at reset every cell is in reset and unbound, every task is STOPPED with its registers, predicates, pc and
trap cause zero, every memory reads zero with good check bits, every colony is FREE, rank directories and rank memories are zero, and the
memories are canonical. What is zero by the model's choice alone is in logs 2 and 4. -/
def Obligations.ResetLeavesCellsStoppedAndMemoriesCanonical : Prop :=
  let s := State.reset
  (∀ (c : CellAt), (s.cell c).inReset = true ∧ (s.cell c).ready = false ∧ (s.cell c).colony = 0xFF ∧ (s.comb c.site).siteSt c.phys = 5) ∧
  (∀ (a : At) (r : Reg), (s.task a).st = .stopped ∧ (s.task a).pc = 0 ∧ (s.task a).trapCause = 0 ∧ (s.task a).preds = 0 ∧ (s.task a).x r = 0) ∧
  (∀ (i : CoreId) (p : Nat), (s.ram i).word p = 0 ∧ (s.ram i).eccOf p = .good ∧ (s.ram i).wf = true) ∧
  (∀ n : Nat, (s.store n).wf = true) ∧ (∀ n : Nat, s.colony n = Colony.free) ∧
  s.pending = [] ∧ s.log.recs = []

/-- R46–R48, R382–R384: a write of words or bytes puts them at its addresses, leaves every other address as it was, and keeps the memory's
canonical form; a zeroed range reads zero. -/
def Obligations.MemoryWritesAreReadBackAndCanonical : Prop :=
  (∀ (r : Ram) (p : Nat) (ws : List W32), r.wf = true →
    (r.write p ws).wf = true ∧ (r.write p ws).read p ws.length = ws ∧ (∀ k < ws.length, (r.write p ws).eccOf (p + k) = .good) ∧
    (∀ q, q < p ∨ p + ws.length ≤ q → (r.write p ws).word q = r.word q ∧ (r.write p ws).eccOf q = r.eccOf q)) ∧
  (∀ (x : Store) (p : Nat) (bs : List Byte), x.wf = true →
    (x.write p bs).wf = true ∧ (x.write p bs).bytes p bs.length = bs ∧
    (∀ q, q < p ∨ p + bs.length ≤ q → Tbl.get 0 (x.write p bs).mem q = Tbl.get 0 x.mem q)) ∧
  (∀ (x : Store) (p n : Nat), x.wf = true →
    (x.zeroRange p n).wf = true ∧ (x.zeroRange p n).bytes p n = List.replicate n 0 ∧
    (∀ q, q < p ∨ p + n ≤ q → Tbl.get 0 (x.zeroRange p n).mem q = Tbl.get 0 x.mem q)) ∧
  (∀ (s : State) (i : CoreId) (p : Nat) (ws : List W32), (∀ j, (s.ram j).wf = true) → ∀ j, ((s.memWrite i p ws).ram j).wf = true)

/-- R33: no command, whatever it is and in whatever state it comes, changes a birth map or a keeper's identity, and none adds to or takes
from the commands that wait. -/
def Obligations.NoCommandChangesBirthMapOrQueue : Prop :=
  ∀ (c : Instr) (s t : State), exec c s = .next t → s.SameBirth t

/-- R98–R114, R122, R326: the word of a worker instruction decodes to that instruction, with every operand at every value, and a word that decodes to an instruction
is that instruction's word. The operation of a wgo is read from the register it names (R326). -/
def Obligations.WorkerWordsDecodeToTheirInstruction : Prop :=
  (∀ (i : Instr) (w : BitVec 32) (x : Reg → W64), workerWord i = some w →
    (∀ e ∈ wgoRows, ∀ (a : At) (f : OpRRf), i = e.1 a f → bits (x f.rs1) 26 4 = e.2) → ∃ a : At, decodeWorker x a w = some i) ∧
  (∀ (i : Instr) (w : BitVec 32) (x : Reg → W64) (a : At), decodeWorker x a w = some i → workerWord i = some w)

/-- R36, R92–R94, R101–R108: the frame of the worker's arithmetic, memory and control instructions. Whatever the next state is, every other
task is as it was (but for a task whose waitw a store ends), and so are every register but rd, the predicates (but the one that a compare
or a predicate operation names), every accumulator and store, and every word of every memory outside the words stored. -/
def Obligations.WorkerInstructionsChangeNothingElse : Prop :=
  (∀ (s t : State) (i : Instr) (a : At) (rd : Option Reg) (pd : Option PReg), valuesWrittenBy i = some (a, rd, pd) → exec i s = .next t →
    (∀ b, b ≠ a → t.task b = s.task b) ∧ (s.task a).Keeps (isCell a.core) (t.task a) rd pd ∧ s.KeepsRest t ∧
    (∀ j p, (t.ram j).word p = (s.ram j).word p)) ∧
  (∀ (s t : State) (i : Instr) (a : At) (va : W64) (n : Nat) (q : Right), wordsStoredBy s i = some (a, va, n, q) → exec i s = .next t →
    (∀ b, b ≠ a → (∀ rd p v w, (s.task b).wait ≠ .waitw rd p v w) → t.task b = s.task b) ∧
    ((∀ rd p v w, (s.task a).wait ≠ .waitw rd p v w) → (s.task a).Keeps (isCell a.core) (t.task a) none none) ∧ s.KeepsRest t ∧
    (∀ j p, (∀ k, s.dataCheck a va n q = .ok k → ¬sameRam a.core j ∨ p < k ∨ k + n ≤ p) → (t.ram j).word p = (s.ram j).word p))
end

