-- ==== Sys2Proof/Laws/Table.lean ====
section
/-!
SUPPORT. The laws of the sparse tables: read after write, other keys, and that every operation keeps the canonical form.
-/
namespace Sys2Proof.Laws

open Sys2Proof.Machine

theorem Tbl_get_ins_same {α : Type} (d : α) (t : Tbl α) (a : Nat) (x : α) : Tbl.get d (Tbl.ins t a x) a = x := by
  induction t with
  | nil => simp [Tbl.ins, Tbl.get]
  | cons e t ih =>
    obtain ⟨k, v⟩ := e
    simp only [Tbl.ins]
    split
    · simp [Tbl.get]
    · split
      · rename_i h; subst h; simp [Tbl.get]
      · rename_i h; simp [Tbl.get, h, ih]

theorem Tbl_get_ins_other {α : Type} (d : α) (t : Tbl α) (a b : Nat) (x : α) (h : b ≠ a) :
    Tbl.get d (Tbl.ins t a x) b = Tbl.get d t b := by
  induction t with
  | nil => simp [Tbl.ins, Tbl.get, h]
  | cons e t ih =>
    obtain ⟨k, v⟩ := e
    simp only [Tbl.ins]
    split
    · simp [Tbl.get, h]
    · split
      · rename_i h2; subst h2; simp [Tbl.get, h]
      · simp [Tbl.get, ih]

theorem Tbl_get_above {α : Type} (d : α) (t : Tbl α) (k : Nat) (h : Tbl.above k t = true) : Tbl.get d t k = d := by
  induction t with
  | nil => rfl
  | cons e t ih =>
    obtain ⟨j, v⟩ := e
    simp only [Tbl.above, List.all_cons, Bool.and_eq_true, decide_eq_true_eq] at h
    have : k ≠ j := by omega
    simp only [Tbl.get, this, if_false]
    exact ih (by simpa [Tbl.above] using h.2)

theorem Tbl_get_del_other {α : Type} (d : α) (t : Tbl α) (a b : Nat) (h : b ≠ a) :
    Tbl.get d (Tbl.del t a) b = Tbl.get d t b := by
  induction t with
  | nil => rfl
  | cons e t ih =>
    obtain ⟨k, v⟩ := e
    simp only [Tbl.del]
    split
    · rename_i h2; subst h2; simp [Tbl.get, h, ih]
    · simp [Tbl.get, ih]

theorem Tbl_get_del_same {α : Type} (d : α) (t : Tbl α) (a : Nat) : Tbl.get d (Tbl.del t a) a = d := by
  induction t with
  | nil => rfl
  | cons e t ih =>
    obtain ⟨k, v⟩ := e
    simp only [Tbl.del]
    split
    · exact ih
    · rename_i h2; simp [Tbl.get, h2, ih]

/-- Reading the key just written gives the value written. -/
theorem Tbl_get_put_same {α : Type} [DecidableEq α] (d : α) (t : Tbl α) (a : Nat) (x : α) :
    Tbl.get d (Tbl.put d t a x) a = x := by
  unfold Tbl.put
  split
  · rename_i h2; rw [Tbl_get_del_same d t a, h2]
  · exact Tbl_get_ins_same d t a x

/-- A write leaves every other key alone. -/
theorem Tbl_get_put_other {α : Type} [DecidableEq α] (d : α) (t : Tbl α) (a b : Nat) (x : α) (h : b ≠ a) :
    Tbl.get d (Tbl.put d t a x) b = Tbl.get d t b := by
  unfold Tbl.put
  split
  · exact Tbl_get_del_other d t a b h
  · exact Tbl_get_ins_other d t a b x h

theorem Tbl_above_del {α : Type} (t : Tbl α) (b a : Nat) (h : Tbl.above b t = true) : Tbl.above b (Tbl.del t a) = true := by
  induction t with
  | nil => rfl
  | cons e t ih =>
    obtain ⟨k, v⟩ := e
    simp only [Tbl.above, List.all_cons, Bool.and_eq_true, decide_eq_true_eq] at h
    simp only [Tbl.del]
    split
    · exact ih (by simpa [Tbl.above] using h.2)
    · simp only [Tbl.above, List.all_cons, Bool.and_eq_true, decide_eq_true_eq]
      exact ⟨h.1, by simpa [Tbl.above] using ih (by simpa [Tbl.above] using h.2)⟩

theorem Tbl_wf_del {α : Type} [DecidableEq α] (d : α) (t : Tbl α) (a : Nat) (h : Tbl.wf d t = true) :
    Tbl.wf d (Tbl.del t a) = true := by
  induction t with
  | nil => rfl
  | cons e t ih =>
    obtain ⟨k, v⟩ := e
    simp only [Tbl.wf, Bool.and_eq_true] at h
    simp only [Tbl.del]
    split
    · exact ih h.2
    · simp only [Tbl.wf, Bool.and_eq_true]
      exact ⟨⟨Tbl_above_del t k a h.1.1, h.1.2⟩, ih h.2⟩

theorem Tbl_above_ins {α : Type} (t : Tbl α) (b a : Nat) (x : α) (h : Tbl.above b t = true) (hb : b < a) :
    Tbl.above b (Tbl.ins t a x) = true := by
  induction t with
  | nil => simp [Tbl.ins, Tbl.above, hb]
  | cons e t ih =>
    obtain ⟨k, v⟩ := e
    simp only [Tbl.above, List.all_cons, Bool.and_eq_true, decide_eq_true_eq] at h
    have h2 : Tbl.above b t = true := by simpa [Tbl.above] using h.2
    simp only [Tbl.ins]
    split
    · simp only [Tbl.above, List.all_cons, Bool.and_eq_true, decide_eq_true_eq]; exact ⟨hb, h.1, h.2⟩
    · split
      · simp only [Tbl.above, List.all_cons, Bool.and_eq_true, decide_eq_true_eq]; exact ⟨h.1, h.2⟩
      · simp only [Tbl.above, List.all_cons, Bool.and_eq_true, decide_eq_true_eq]
        exact ⟨h.1, by simpa [Tbl.above] using ih h2⟩

theorem Tbl_above_mono {α : Type} (t : Tbl α) (a b : Nat) (h : Tbl.above b t = true) (hab : a ≤ b) :
    Tbl.above a t = true := by
  unfold Tbl.above at *
  rw [List.all_eq_true] at *
  intro e he
  have := h e he
  simp only [decide_eq_true_eq] at *
  omega

theorem Tbl_wf_ins {α : Type} [DecidableEq α] (d : α) (t : Tbl α) (a : Nat) (x : α) (h : Tbl.wf d t = true)
    (hx : x ≠ d) : Tbl.wf d (Tbl.ins t a x) = true := by
  induction t with
  | nil => simp [Tbl.ins, Tbl.wf, Tbl.above, hx]
  | cons e t ih =>
    obtain ⟨k, v⟩ := e
    simp only [Tbl.wf, Bool.and_eq_true] at h
    simp only [Tbl.ins]
    split
    · rename_i hlt
      simp only [Tbl.wf, Bool.and_eq_true, Tbl.above, List.all_cons, decide_eq_true_eq]
      exact ⟨⟨⟨hlt, by simpa [Tbl.above] using Tbl_above_mono t a k h.1.1 (by omega)⟩, hx⟩, ⟨by simpa [Tbl.above] using h.1.1, by simpa using h.1.2⟩, h.2⟩
    · split
      · simp only [Tbl.wf, Bool.and_eq_true, decide_eq_true_eq]
        exact ⟨⟨h.1.1, hx⟩, h.2⟩
      · simp only [Tbl.wf, Bool.and_eq_true]
        exact ⟨⟨Tbl_above_ins t k a x h.1.1 (by omega), h.1.2⟩, ih h.2⟩

/-- A write keeps the canonical form. -/
theorem Tbl_wf_put {α : Type} [DecidableEq α] (d : α) (t : Tbl α) (a : Nat) (x : α) (h : Tbl.wf d t = true) :
    Tbl.wf d (Tbl.put d t a x) = true := by
  unfold Tbl.put
  split
  · exact Tbl_wf_del d t a h
  · rename_i hx; exact Tbl_wf_ins d t a x h hx

/-- A run of writes keeps the canonical form. -/
theorem Tbl_wf_putAll {α : Type} [DecidableEq α] (d : α) (xs : List α) :
    ∀ (t : Tbl α) (a : Nat), Tbl.wf d t = true → Tbl.wf d (Tbl.putAll d t a xs) = true := by
  induction xs with
  | nil => intro t a h; exact h
  | cons x xs ih => intro t a h; exact ih _ _ (Tbl_wf_put d t a x h)

/-- A run of writes leaves every key below it and at or past its end alone. -/
theorem Tbl_get_putAll_other {α : Type} [DecidableEq α] (d : α) (xs : List α) :
    ∀ (t : Tbl α) (a b : Nat), b < a ∨ a + xs.length ≤ b → Tbl.get d (Tbl.putAll d t a xs) b = Tbl.get d t b := by
  induction xs with
  | nil => intro t a b _; rfl
  | cons x xs ih =>
    intro t a b h
    simp only [List.length_cons] at h
    simp only [Tbl.putAll]
    rw [ih _ _ _ (by omega), Tbl_get_put_other d t a b x (by omega)]

/-- A run of writes leaves every key below it alone. -/
theorem Tbl_get_putAll_below {α : Type} [DecidableEq α] (d : α) (xs : List α) (t : Tbl α) (a b : Nat) (h : b < a) : Tbl.get d (Tbl.putAll d t a xs) b = Tbl.get d t b :=
  Tbl_get_putAll_other d xs t a b (.inl h)

/-- A run of writes reads back. -/
theorem Tbl_getAll_putAll {α : Type} [DecidableEq α] (d : α) (xs : List α) : ∀ (t : Tbl α) a, Tbl.getAll d (Tbl.putAll d t a xs) a xs.length = xs := by
  induction xs with
  | nil => intros; rfl
  | cons x xs ih =>
    intro t a
    simp only [List.length_cons, Tbl.putAll, Tbl.getAll]
    rw [ih, Tbl_get_putAll_below _ _ _ _ _ (by omega), Tbl_get_put_same]

/-- A part of a canonical table is canonical. -/
theorem Tbl_wf_filter {α : Type} [DecidableEq α] (d : α) (t : Tbl α) (q : Nat × α → Bool) (h : Tbl.wf d t = true) : Tbl.wf d (t.filter q) = true := by
  induction t with
  | nil => rfl
  | cons e t ih =>
    obtain ⟨k,v⟩ := e
    simp only [Tbl.wf, Bool.and_eq_true] at h
    simp only [List.filter]
    split
    · simp only [Tbl.wf, Bool.and_eq_true]
      refine ⟨⟨?_, h.1.2⟩, ih h.2⟩
      have := h.1.1
      simp only [Tbl.above, List.all_eq_true] at this ⊢
      exact fun e he => this e ((List.mem_filter.mp he).1)
    · exact ih h.2

/-- The value at a key of the entries that some keys keep. -/
theorem Tbl_get_filter {α : Type} [DecidableEq α] (d : α) (t : Tbl α) (q : Nat → Bool) (a : Nat) : Tbl.get d (t.filter (fun e => q e.1)) a = if q a then Tbl.get d t a else d := by
  induction t with
  | nil => simp [Tbl.get]
  | cons e t ih =>
    obtain ⟨k,v⟩ := e
    by_cases hk : a = k
    · subst hk
      cases hq : q a <;> simp [List.filter, hq, Tbl.get, ih]
    · cases hq : q k <;> simp [List.filter, hq, Tbl.get, hk, ih]

/-- A cleared range reads the default, and every other key as before. -/
theorem Tbl_get_clear {α : Type} [DecidableEq α] (d : α) (t : Tbl α) (a n b : Nat) : Tbl.get d (Tbl.clear t a n) b = if b < a ∨ a + n ≤ b then Tbl.get d t b else d := by
  rw [Tbl.clear, Tbl_get_filter d t (fun k => decide (k < a ∨ a + n ≤ k)) b]; simp

/-- A run of defaults. -/
theorem Tbl_getAll_const {α : Type} [DecidableEq α] (d : α) (t : Tbl α) (n : Nat) : ∀ a, (∀ k < n, Tbl.get d t (a+k) = d) → Tbl.getAll d t a n = List.replicate n d := by
  induction n with
  | zero => intros; rfl
  | succ n ih =>
    intro a h
    simp only [Tbl.getAll, List.replicate]
    rw [ih (a+1) (fun k hk => by have := h (k+1) (by omega); rwa [show a + (k+1) = a+1+k by omega] at this), show Tbl.get d t a = d from h 0 (by omega)]

end Sys2Proof.Laws
end

