-- ==== Sys2Proof/Laws/Reach.lean ====
section
/-!
SUPPORT. Reaching the parts of the panel: what is read after a part is replaced, and that every other part stays.
-/
namespace Sys2Proof.Laws

open Sys2Proof.Machine

/-! ### Combs, cells, stores, keepers -/

@[simp] theorem comb_setComb (s : State) (i : Site) (c : Comb) : (s.setComb i c).comb i = c := by
  simp [State.comb, State.setComb, Tbl_get_put_same]

theorem comb_setComb_ne (s : State) (i j : Site) (c : Comb) (h : j ≠ i) : (s.setComb i c).comb j = s.comb j := by
  simp only [State.comb, State.setComb]
  exact Tbl_get_put_other _ _ _ _ _ (fun e => h (Fin.ext e))

@[simp] theorem comb_modComb (s : State) (i : Site) (f : Comb → Comb) : (s.modComb i f).comb i = f (s.comb i) := comb_setComb _ _ _

theorem comb_modComb_ne (s : State) (i j : Site) (f : Comb → Comb) (h : j ≠ i) : (s.modComb i f).comb j = s.comb j :=
  comb_setComb_ne _ _ _ _ h

@[simp] theorem cell_setCell_comb (c : Comb) (p : Phys) (x : Cell) : (c.setCell p x).cell p = x := by
  simp [Comb.cell, Comb.setCell, Tbl_get_put_same]

theorem cell_setCell_comb_ne (c : Comb) (p q : Phys) (x : Cell) (h : q ≠ p) : (c.setCell p x).cell q = c.cell q := by
  simp only [Comb.cell, Comb.setCell]
  exact Tbl_get_put_other _ _ _ _ _ (fun e => h (Fin.ext e))

@[simp] theorem cell_setCell (s : State) (c : CellAt) (x : Cell) : (s.setCell c x).cell c = x := by
  simp [State.cell, State.setCell]

@[simp] theorem cell_modCell (s : State) (c : CellAt) (f : Cell → Cell) : (s.modCell c f).cell c = f (s.cell c) := cell_setCell _ _ _

theorem cell_setCell_ne (s : State) (c d : CellAt) (x : Cell) (h : d ≠ c) : (s.setCell c x).cell d = s.cell d := by
  obtain ⟨i, p⟩ := c
  obtain ⟨j, q⟩ := d
  simp only [State.cell, State.setCell]
  by_cases hi : j = i
  · subst hi
    have hq : q ≠ p := fun e => h (by rw [e])
    simp [cell_setCell_comb_ne _ _ _ _ hq]
  · rw [comb_modComb_ne _ _ _ _ hi]

theorem cell_modCell_ne (s : State) (c d : CellAt) (f : Cell → Cell) (h : d ≠ c) : (s.modCell c f).cell d = s.cell d :=
  cell_setCell_ne _ _ _ _ h

@[simp] theorem keeper_setKeeper (s : State) (h : Half) (k : Keeper) : (s.setKeeper h k).keeper h = k := by
  cases h <;> rfl

@[simp] theorem keeper_setKeeper_other (s : State) (h : Half) (k : Keeper) : (s.setKeeper h k).keeper h.other = s.keeper h.other := by
  cases h <;> rfl

@[simp] theorem keeper_setComb (s : State) (i : Site) (c : Comb) (h : Half) : (s.setComb i c).keeper h = s.keeper h := by
  cases h <;> rfl

@[simp] theorem comb_setKeeper (s : State) (h : Half) (k : Keeper) (i : Site) : (s.setKeeper h k).comb i = s.comb i := by
  cases h <;> rfl

/-! ### Cores and tasks -/

@[simp] theorem core_setCore (s : State) (i : CoreId) (x : Core) : (s.setCore i x).core i = x := by
  cases i with
  | cell si p => simp only [State.core, State.setCore]; exact congrArg Cell.core (cell_modCell s ⟨si, p⟩ _)
  | steward si => simp [State.core, State.setCore]
  | keeper h k => simp [State.core, State.setCore, Tbl_get_put_same]

theorem core_setCore_ne (s : State) (i j : CoreId) (x : Core) (h : j ≠ i) : (s.setCore i x).core j = s.core j := by
  cases i with
  | cell si p =>
    cases j with
    | cell sj q =>
      have hn : (⟨sj, q⟩ : CellAt) ≠ ⟨si, p⟩ := fun e => h (by cases e; rfl)
      exact congrArg Cell.core (cell_modCell_ne s ⟨si, p⟩ ⟨sj, q⟩ _ hn)
    | steward sj =>
      simp only [State.core, State.setCore, State.modCell, State.setCell]
      by_cases e : sj = si
      · subst e; simp [Comb.setCell]
      · rw [comb_modComb_ne _ _ _ _ e]
    | keeper hj k => simp [State.core, State.setCore, State.modCell, State.setCell, State.modComb]
  | steward si =>
    cases j with
    | cell sj q =>
      simp only [State.core, State.setCore]
      by_cases e : sj = si
      · subst e; simp [Comb.cell]
      · rw [comb_modComb_ne _ _ _ _ e]
    | steward sj =>
      have e : sj ≠ si := fun e => h (by rw [e])
      simp only [State.core, State.setCore]
      rw [comb_modComb_ne _ _ _ _ e]
    | keeper hj k => simp [State.core, State.setCore, State.modComb]
  | keeper hi k =>
    cases j with
    | cell sj q => simp [State.core, State.setCore]
    | steward sj => simp [State.core, State.setCore]
    | keeper hj l =>
      simp only [State.core, State.setCore]
      by_cases e : hj = hi
      · subst e
        have hl : l.val ≠ k.val := fun e => h (by rw [Fin.ext e])
        simp [Tbl_get_put_other _ _ _ _ _ hl]
      · have e2 : hj = hi.other := by cases hi <;> cases hj <;> first | rfl | exact absurd rfl e
        subst e2; simp

@[simp] theorem core_modCore (s : State) (i : CoreId) (f : Core → Core) : (s.modCore i f).core i = f (s.core i) := core_setCore _ _ _

theorem core_modCore_ne (s : State) (i j : CoreId) (f : Core → Core) (h : j ≠ i) : (s.modCore i f).core j = s.core j :=
  core_setCore_ne _ _ _ _ h

@[simp] theorem task_setTask (s : State) (a : At) (t : Task) : (s.setTask a t).task a = t := by
  simp only [State.task, State.setTask, core_modCore]
  exact Vector.getElem_set_self a.task.isLt

@[simp] theorem task_modTask (s : State) (a : At) (f : Task → Task) : (s.modTask a f).task a = f (s.task a) := task_setTask _ _ _

theorem task_setTask_ne (s : State) (a b : At) (t : Task) (h : b ≠ a) : (s.setTask a t).task b = s.task b := by
  obtain ⟨i, k⟩ := a
  obtain ⟨j, l⟩ := b
  simp only [State.task, State.setTask]
  by_cases e : j = i
  · subst e
    have hl : k.val ≠ l.val := fun e => h (by rw [Fin.ext e])
    simp [Vector.get, hl]
  · rw [core_modCore_ne _ _ _ _ e]

theorem task_modTask_ne (s : State) (a b : At) (f : Task → Task) (h : b ≠ a) : (s.modTask a f).task b = s.task b :=
  task_setTask_ne _ _ _ _ h

/-- A change to a core that leaves its tasks leaves every task. -/
theorem task_modCore (s : State) (i : CoreId) (f : Core → Core) (b : At) (h : ∀ c, (f c).tasks = c.tasks) :
    (s.modCore i f).task b = s.task b := by
  simp only [State.task]
  by_cases e : b.core = i
  · rw [e, core_modCore, h]
  · rw [core_modCore_ne _ _ _ _ e]

/-- A change to a cell that leaves its core leaves every core. -/
theorem core_modCell (s : State) (c : CellAt) (f : Cell → Cell) (j : CoreId) (h : ∀ x, (f x).core = x.core) :
    (s.modCell c f).core j = s.core j := by
  cases j with
  | cell sj q =>
    by_cases e : (⟨sj, q⟩ : CellAt) = c
    · subst e
      exact (congrArg Cell.core (cell_modCell s ⟨sj, q⟩ f)).trans (h _)
    · exact congrArg Cell.core (cell_modCell_ne s c ⟨sj, q⟩ f e)
  | steward sj =>
    simp only [State.core, State.modCell, State.setCell]
    by_cases e : sj = c.site
    · subst e; simp [Comb.setCell]
    · rw [comb_modComb_ne _ _ _ _ e]
  | keeper hj k => simp [State.core, State.modCell, State.setCell, State.modComb]

/-! ### Local memories -/

@[simp] theorem ram_setRam (s : State) (i : CoreId) (r : Ram) : (s.setRam i r).ram i = r := by
  cases i with
  | cell si p => exact congrArg Cell.cmem (cell_modCell s ⟨si, p⟩ _)
  | steward si => simp [State.ram, State.setRam]
  | keeper h k => simp [State.ram, State.setRam]

/-- A change to a cell that leaves its memory leaves every local memory. -/
theorem ram_modCell (s : State) (c : CellAt) (f : Cell → Cell) (j : CoreId) (h : ∀ x, (f x).cmem = x.cmem) :
    (s.modCell c f).ram j = s.ram j := by
  cases j with
  | cell sj q =>
    by_cases e : (⟨sj, q⟩ : CellAt) = c
    · subst e
      exact (congrArg Cell.cmem (cell_modCell s ⟨sj, q⟩ f)).trans (h _)
    · exact congrArg Cell.cmem (cell_modCell_ne s c ⟨sj, q⟩ f e)
  | steward sj =>
    simp only [State.ram, State.modCell, State.setCell]
    by_cases e : sj = c.site
    · subst e; simp [Comb.setCell]
    · rw [comb_modComb_ne _ _ _ _ e]
  | keeper hj k => simp [State.ram, State.modCell, State.setCell, State.modComb]

/-- A change to a core leaves every local memory. -/
@[simp] theorem ram_modCore (s : State) (i : CoreId) (f : Core → Core) (j : CoreId) : (s.modCore i f).ram j = s.ram j := by
  cases i with
  | cell si p => exact ram_modCell s ⟨si, p⟩ _ j (fun _ => rfl)
  | steward si =>
    simp only [State.modCore, State.setCore]
    cases j with
    | cell sj q =>
      simp only [State.ram]
      by_cases e : sj = si
      · subst e; simp [Comb.cell]
      · rw [comb_modComb_ne _ _ _ _ e]
    | steward sj =>
      simp only [State.ram]
      by_cases e : sj = si
      · subst e; simp
      · rw [comb_modComb_ne _ _ _ _ e]
    | keeper hj k => simp [State.ram, State.modComb]
  | keeper h k =>
    simp only [State.modCore, State.setCore]
    cases j with
    | cell sj q => simp [State.ram]
    | steward sj => simp [State.ram]
    | keeper hj l =>
      simp only [State.ram]
      cases h <;> cases hj <;> rfl

@[simp] theorem ram_modTask (s : State) (a : At) (f : Task → Task) (j : CoreId) : (s.modTask a f).ram j = s.ram j :=
  ram_modCore _ _ _ _

end Sys2Proof.Laws
end

