-- ==== Sys2Proof/Laws/Issue.lean ====
section
/-!
SUPPORT. What a fetch and an issue leave alone, and the rule of `issue` for a task that is ready.
-/
namespace Sys2Proof.Laws

open Sys2Proof.Machine

/-! ### Records, counts, fetches -/

@[simp] theorem core_sendErr (s : State) (n : Nat) (r : ErrRec) (j : CoreId) : (s.sendErr n r).core j = s.core j := by
  cases j <;> first | rfl | (rename_i h _; cases h <;> rfl)

@[simp] theorem ram_sendErr (s : State) (n : Nat) (r : ErrRec) (j : CoreId) : (s.sendErr n r).ram j = s.ram j := by
  cases j <;> first | rfl | (rename_i h _; cases h <;> rfl)

@[simp] theorem core_setCellErr (s : State) (c : CellAt) (b : Nat) (j : CoreId) : (s.setCellErr c b).core j = s.core j := by
  unfold State.setCellErr
  split
  · rfl
  · rw [core_sendErr]; exact core_modCell s c _ j (fun _ => rfl)

@[simp] theorem ram_setCellErr (s : State) (c : CellAt) (b : Nat) (j : CoreId) : (s.setCellErr c b).ram j = s.ram j := by
  unfold State.setCellErr
  split
  · rfl
  · rw [ram_sendErr]; exact ram_modCell s c _ j (fun _ => rfl)

@[simp] theorem core_noteRead (s : State) (c : CellAt) (l : List Nat) (u : Option Nat) (j : CoreId) : (s.noteRead c l u).core j = s.core j := by
  have e (s : State) (f : Cell → Cell) (h : ∀ x, (f x).core = x.core) : (s.modCell c f).core j = s.core j := core_modCell s c f j h
  unfold State.noteRead
  split <;> split <;> simp only [core_setCellErr]
  · apply e; intro x; rfl
  · apply e; intro x; rfl
  · refine (e _ _ ?_).trans (e _ _ ?_) <;> (intro x; rfl)

@[simp] theorem ram_noteRead (s : State) (c : CellAt) (l : List Nat) (u : Option Nat) (j : CoreId) : (s.noteRead c l u).ram j = s.ram j := by
  have e (s : State) (f : Cell → Cell) (h : ∀ x, (f x).cmem = x.cmem) : (s.modCell c f).ram j = s.ram j := ram_modCell s c f j h
  unfold State.noteRead
  split <;> split <;> simp only [ram_setCellErr]
  · apply e; intro x; rfl
  · apply e; intro x; rfl
  · refine (e _ _ ?_).trans (e _ _ ?_) <;> (intro x; rfl)

/-- The panel after a read: only the counts of the cell read from move. -/
theorem memRead_snd (s : State) (i : CoreId) (a n : Nat) :
    (s.memRead i a n).2 = match i with
      | .cell si p => s.noteRead ⟨si, p⟩ ((s.ram i).ceIn a n) ((s.ram i).firstUe a n)
      | _ => s := by
  unfold State.memRead
  cases i <;> (dsimp only; split <;> rfl)

/-- What a read answers. -/
theorem memRead_fst (s : State) (i : CoreId) (a n : Nat) :
    (s.memRead i a n).1 = match (s.ram i).firstUe a n with
      | some u => .error u
      | none => .ok ((s.ram i).read a n) := by
  unfold State.memRead
  dsimp only
  cases (s.ram i).firstUe a n <;> rfl

@[simp] theorem core_memRead (s : State) (i : CoreId) (a n : Nat) (j : CoreId) : ((s.memRead i a n).2).core j = s.core j := by
  rw [memRead_snd]; split <;> simp

@[simp] theorem ram_memRead (s : State) (i : CoreId) (a n : Nat) (j : CoreId) : ((s.memRead i a n).2).ram j = s.ram j := by
  rw [memRead_snd]; split <;> simp

@[simp] theorem core_fetch (s : State) (a : At) (j : CoreId) : ((s.fetch a).2).core j = s.core j := by
  unfold State.fetch
  split
  · rfl
  · rfl
  · rename_i p _
    have h := core_memRead s a.core (p / 64 * 64) 64 j
    split <;> (rename_i e; rw [e] at h; exact h)

@[simp] theorem ram_fetch (s : State) (a : At) (j : CoreId) : ((s.fetch a).2).ram j = s.ram j := by
  unfold State.fetch
  split
  · rfl
  · rfl
  · rename_i p _
    have h := ram_memRead s a.core (p / 64 * 64) 64 j
    split <;> (rename_i e; rw [e] at h; exact h)

/-! ### Issue -/

/-- An issue leaves every task. -/
@[simp] theorem task_issued (s : State) (a b : At) : (s.issued a).task b = s.task b := by
  refine (task_modCore _ a.core _ b ?_).trans ?_
  · intro c; rfl
  · simp only [State.task, core_fetch]

/-- An issue leaves every local memory. -/
@[simp] theorem ram_issued (s : State) (a : At) (j : CoreId) : (s.issued a).ram j = s.ram j := by
  simp [State.issued, State.noteIssue]

/-- A data check reads the task alone. -/
@[simp] theorem dataCheck_issued (s : State) (a b : At) (va : W64) (n : Nat) (q : Right) :
    (s.issued a).dataCheck b va n q = s.dataCheck b va n q := by
  simp [State.dataCheck, State.check]

/-- A ready task does its own work. -/
theorem issue_ready {s : State} {a : At} {reads : List Reg} (h : Ready s a reads) (body : State → State) :
    s.issue a reads false body = body (s.issued a) := by
  obtain ⟨h1, h2⟩ := h
  unfold State.issue State.issued
  rw [if_pos h1]
  split
  · rename_i e; rw [e] at h2; cases h2
  · rename_i e; rw [e]; rfl

/-- A ready task whose instruction breaks R100 traps ILLEGAL. -/
theorem issue_illegal {s : State} {a : At} {reads : List Reg} (h : Ready s a reads) (body : State → State) :
    s.issue a reads true body = (s.issued a).trap a cIllegal 0 := by
  obtain ⟨h1, h2⟩ := h
  unfold State.issue State.issued
  rw [if_pos h1]
  split
  · rename_i e; rw [e] at h2; cases h2
  · rename_i e; rw [e]; rfl

/-- A task that may not issue changes nothing. -/
theorem issue_not {s : State} {a : At} {reads : List Reg} (h : s.canIssue a reads = false) (ill : Bool) (body : State → State) :
    s.issue a reads ill body = s := by
  unfold State.issue
  rw [if_neg (by simp [h])]

end Sys2Proof.Laws
end

