-- ==== Sys2Proof/Laws/Memory.lean ====
section
/-!
SUPPORT. The laws of the memories: read after write, other addresses, the canonical form, and what a write to a local memory reaches.
-/
namespace Sys2Proof.Laws

open Sys2Proof.Machine

/-! ### Word RAMs -/

/-- A write keeps a RAM canonical. -/
theorem Ram_write_wf (r : Ram) (p : Nat) (ws : List W32) (h : r.wf = true) : (r.write p ws).wf = true := by
  simp only [Ram.wf, Bool.and_eq_true] at h ⊢
  exact ⟨Tbl_wf_putAll _ _ _ _ h.1, Tbl_wf_filter _ _ _ h.2⟩

/-- What was written reads back. -/
theorem Ram_read_write (r : Ram) (p : Nat) (ws : List W32) : (r.write p ws).read p ws.length = ws := Tbl_getAll_putAll _ _ _ _

/-- A write leaves every other word. -/
theorem Ram_word_write_other (r : Ram) (p q : Nat) (ws : List W32) (h : q < p ∨ p + ws.length ≤ q) : (r.write p ws).word q = r.word q :=
  Tbl_get_putAll_other _ _ _ _ _ h

/-- The words written have good check bits, and the others theirs. -/
theorem Ram_ecc_write (r : Ram) (p q : Nat) (ws : List W32) :
    (r.write p ws).eccOf q = if q < p ∨ p + ws.length ≤ q then r.eccOf q else .good := by
  simp only [Ram.eccOf, Ram.write, Tbl_get_clear]

/-! ### Stores -/

/-- A write keeps a store canonical. -/
theorem Store_write_wf (x : Store) (p : Nat) (bs : List Byte) (h : x.wf = true) : (x.write p bs).wf = true := by
  simp only [Store.wf, Memory.wf, Bool.and_eq_true] at h ⊢
  exact ⟨Tbl_wf_putAll _ _ _ _ h.1, Tbl_wf_filter _ _ _ h.2⟩

/-- What was written reads back. -/
theorem Store_bytes_write (x : Store) (p : Nat) (bs : List Byte) : (x.write p bs).bytes p bs.length = bs := Tbl_getAll_putAll _ _ _ _

/-- A write leaves every other byte. -/
theorem Store_byte_write_other (x : Store) (p q : Nat) (bs : List Byte) (h : q < p ∨ p + bs.length ≤ q) :
    Tbl.get 0 (x.write p bs).mem q = Tbl.get 0 x.mem q := Tbl_get_putAll_other _ _ _ _ _ h

/-- Zeroing a range keeps a store canonical. -/
theorem Store_zeroRange_wf (x : Store) (p n : Nat) (h : x.wf = true) : (x.zeroRange p n).wf = true := by
  simp only [Store.wf, Memory.wf, Bool.and_eq_true] at h ⊢
  exact ⟨Tbl_wf_filter _ _ _ h.1, Tbl_wf_filter _ _ _ h.2⟩

/-- A zeroed range reads zero, and every other byte as before. -/
theorem Store_byte_zeroRange (x : Store) (p n q : Nat) :
    Tbl.get 0 (x.zeroRange p n).mem q = if q < p ∨ p + n ≤ q then Tbl.get 0 x.mem q else 0 := Tbl_get_clear _ _ _ _ _

/-! ### Writes to local memory -/

theorem ram_sameRam (s : State) {i j : CoreId} (h : sameRam i j) : s.ram j = s.ram i := by
  cases i <;> cases j <;> simp only [sameRam] at h <;> first | (subst h; rfl) | (cases h; rfl) | cases h

theorem ram_setRam_ne (s : State) (i j : CoreId) (r : Ram) (h : ¬sameRam i j) : (s.setRam i r).ram j = s.ram j := by
  cases i with
  | cell si p =>
    cases j with
    | cell sj q =>
      exact congrArg Cell.cmem (cell_modCell_ne s ⟨si, p⟩ ⟨sj, q⟩ _ (fun e => h (by cases e; rfl)))
    | steward sj =>
      simp only [State.ram, State.setRam, State.modCell, State.setCell]
      by_cases e : sj = si
      · subst e; simp [Comb.setCell]
      · rw [comb_modComb_ne _ _ _ _ e]
    | keeper hj k => simp [State.ram, State.setRam, State.modCell, State.setCell, State.modComb]
  | steward si =>
    cases j with
    | cell sj q =>
      simp only [State.ram, State.setRam]
      by_cases e : sj = si
      · subst e; simp [Comb.cell]
      · rw [comb_modComb_ne _ _ _ _ e]
    | steward sj =>
      have e : sj ≠ si := fun e => h (by rw [e]; rfl)
      simp only [State.ram, State.setRam]
      rw [comb_modComb_ne _ _ _ _ e]
    | keeper hj k => simp [State.ram, State.setRam, State.modComb]
  | keeper hi k =>
    cases j with
    | cell sj q => simp [State.ram, State.setRam]
    | steward sj => simp [State.ram, State.setRam]
    | keeper hj l =>
      have e : hi ≠ hj := h
      simp only [State.ram, State.setRam]
      cases hi <;> cases hj <;> first | exact absurd rfl e | rfl

/-- A trap leaves every local memory. -/
@[simp] theorem ram_trap (s : State) (a : At) (c : Byte) (v : W64) (j : CoreId) : (s.trap a c v).ram j = s.ram j := by
  unfold State.trap State.trapAt
  split
  · simp
  · split <;> simp
  · split <;> simp

@[simp] theorem ram_endWait (s : State) (a : At) (rd : Reg) (v : W64) (j : CoreId) : (s.endWait a rd v).ram j = s.ram j := by
  simp [State.endWait]

/-- A waitw that looks again leaves every local memory. -/
@[simp] theorem ram_evalWaitw (s : State) (a : At) (j : CoreId) : (s.evalWaitw a).ram j = s.ram j := by
  unfold State.evalWaitw
  split
  · rename_i p _ _ _
    split
    · have h := ram_memRead s a.core p 1 j
      split
      · rename_i e; rw [e] at h; simpa using h
      · rename_i e; rw [e] at h
        split
        · exact h
        · simpa using h
    · rfl
  · rfl

/-- A fold of steps that each keep something keeps it. -/
theorem foldl_keeps {α β γ : Type} (f : β → α → β) (g : β → γ) (h : ∀ b a, g (f b a) = g b) (l : List α) (b : β) :
    g (l.foldl f b) = g b := by
  induction l generalizing b with
  | nil => rfl
  | cons a l ih => exact (ih _).trans (h _ _)

@[simp] theorem ram_wake (s : State) (i : CoreId) (a n : Nat) (j : CoreId) : (s.wake i a n).ram j = s.ram j := by
  unfold State.wake
  dsimp only
  refine foldl_keeps (γ := Ram) _ (fun u : State => u.ram j) (fun b t => ?_) _ _
  split
  · exact ram_evalWaitw _ _ _
  · rfl

/-- A write to a local memory changes the words of that memory. -/
@[simp] theorem ram_memWrite (s : State) (i : CoreId) (p : Nat) (ws : List W32) : (s.memWrite i p ws).ram i = (s.ram i).write p ws := by
  simp [State.memWrite]

/-- And no other memory. -/
theorem ram_memWrite_ne (s : State) (i j : CoreId) (p : Nat) (ws : List W32) (h : ¬sameRam i j) :
    (s.memWrite i p ws).ram j = s.ram j := by
  simp [State.memWrite, ram_setRam_ne _ _ _ _ h]

/-- A write to a local memory keeps every local memory canonical. -/
theorem ram_memWrite_wf (s : State) (i : CoreId) (p : Nat) (ws : List W32) (h : ∀ j, (s.ram j).wf = true) (j : CoreId) :
    ((s.memWrite i p ws).ram j).wf = true := by
  by_cases e : sameRam i j
  · rw [ram_sameRam _ e, ram_memWrite]; exact Ram_write_wf _ _ _ (h i)
  · rw [ram_memWrite_ne _ _ _ _ _ e]; exact h j

end Sys2Proof.Laws
end

