-- ==== Sys2Proof/Laws/Worker.lean ====
section
/-!
SUPPORT. Laws of the worker: a ready task, a read that meets no uncorrectable word, and what a change to a task leaves.
-/
namespace Sys2Proof.Laws

open Sys2Proof.Machine

/-- A read that meets no uncorrectable word answers the words. -/
theorem memRead_ok (s : State) (i : CoreId) (a n : Nat) (h : (s.ram i).firstUe a n = none) : s.memRead i a n = (.ok ((s.ram i).read a n), (s.memRead i a n).2) := by
  have := memRead_fst s i a n
  rw [h] at this
  exact Prod.ext this rfl

/-- A checked read that meets no uncorrectable word answers the words. -/
theorem rdMem_ok (s : State) (a : At) (va : W64) (n p : Nat) (hd : s.dataCheck a va n rightR = .ok p) (h : (s.ram a.core).firstUe p n = none) :
    s.rdMem a va n = (.ok ((s.ram a.core).read p n), (s.memRead a.core p n).2) := by
  unfold State.rdMem
  rw [hd]
  simp only
  rw [memRead_ok _ _ _ _ h]

/-- A task ready to read some registers is ready to read fewer. -/
theorem ready_sub {s : State} {a : At} {l l' : List Reg} (h : Ready s a l) (hs : ∀ r ∈ l', r ∈ l) : Ready s a l' := by
  refine ⟨?_, h.2⟩
  have := h.1
  simp only [State.canIssue, Bool.and_eq_true, List.all_eq_true] at this ⊢
  exact ⟨this.1, fun r hr => this.2 r (hs r hr)⟩

/-- A ready task has no load on its way. -/
theorem ready_load {s : State} {a : At} {l} (h : Ready s a l) : (s.task a).load = none := by
  have := h.1
  simp only [State.canIssue, Bool.and_eq_true, List.all_eq_true] at this
  simpa using this.1.2

/-- A change to a task leaves its movers. -/
theorem mov_modTask (s : State) (a : At) (f : Task → Task) (j : CoreId) : ((s.modTask a f).core j).mov0 = (s.core j).mov0 ∧ ((s.modTask a f).core j).mov1 = (s.core j).mov1 := by
  unfold State.modTask State.setTask
  by_cases h : j = a.core
  · subst h; simp only [core_modCore] <;> exact (by repeat' constructor)
  · rw [core_modCore_ne _ _ _ _ h] <;> exact (by repeat' constructor)

/-- A change to a task leaves every engine. -/
theorem cellq_modTask (s : State) (a : At) (f : Task → Task) (c : CellAt) : ((s.modTask a f).cell c).mxe = (s.cell c).mxe ∧ ((s.modTask a f).cell c).vxe = (s.cell c).vxe ∧ ((s.modTask a f).cell c).smpOut = (s.cell c).smpOut ∧ ((s.modTask a f).cell c).smpQ = (s.cell c).smpQ := by
  unfold State.modTask State.setTask State.modCore
  obtain ⟨i, t⟩ := a
  cases i with
  | cell si p =>
    simp only [State.setCore]
    by_cases h : c = ⟨si, p⟩
    · subst h; simp only [cell_modCell] <;> exact (by repeat' constructor)
    · rw [cell_modCell_ne _ _ _ _ h] <;> exact (by repeat' constructor)
  | steward si =>
    simp only [State.setCore, State.cell]
    by_cases h : c.site = si
    · subst h; simp only [comb_modComb] <;> exact (by repeat' constructor)
    · rw [comb_modComb_ne _ _ _ _ h] <;> exact (by repeat' constructor)
  | keeper h k => simp only [State.setCore, State.cell, comb_setKeeper] <;> exact (by repeat' constructor)

/-- A change to a task leaves the commands of every unit. -/
theorem unitAll_modTask (s : State) (a : At) (f : Task → Task) (j : CoreId) (u : Nat) : (s.modTask a f).unitAll j u = s.unitAll j u := by
  have h := mov_modTask s a f j
  unfold State.unitAll
  split
  · rw [h.1]
  · rw [h.2]
  · split
    · rename_i si p
      have g := cellq_modTask s a f ⟨si, p⟩
      simp only [State.cell] at g
      simp only [g]
    · rfl

/-- A change to a task leaves every count (R111). -/
theorem count_modTask (s : State) (a : At) (f : Task → Task) (b : At) (u : Nat) : (s.modTask a f).count b u = s.count b u := by
  simp only [State.count, unitAll_modTask]

/-- A change to a task leaves what is outstanding. -/
theorem outstanding_modTask (s : State) (a : At) (f : Task → Task) (b : At) : (s.modTask a f).outstanding b = s.outstanding b := count_modTask _ _ _ _ _

/-- A record on its way leaves every task. -/
theorem task_sendErr (s : State) (n : Nat) (r : ErrRec) (b : At) : (s.sendErr n r).task b = s.task b := by
  simp [State.task]

/-- A trap on a cell leaves the task TRAPPED (R118). -/
theorem trap_cell (s : State) (a : At) (c : Byte) (va : W64) (h : isCell a.core = true) : (s.trap a c va).task a = (s.task a).trapped c := by
  unfold State.trap State.trapAt
  split
  · simp only [task_sendErr, task_modTask]; rfl
  · rename_i e; rw [e] at h; cases h
  · rename_i e; rw [e] at h; cases h

end Sys2Proof.Laws
end

