-- ==== Sys2Proof/Laws/Arrive.lean ====
section
/-!
SUPPORT. Laws of arrivals: a packet that passes its checks is taken, and its answer made.
-/
namespace Sys2Proof.Laws

open Sys2Proof.Machine

/-- At a cell. -/
theorem atCell_ok {s : State} {c : CellAt} {p : DataPkt} (h : AtCell s c p) (b : State → State) : s.atCellIf c false p b = b (s.takeData p) := by
  obtain ⟨h1, h2, h3, h4, h5⟩ := h
  unfold State.atCellIf State.arriveData
  simp only [h1, h2, ne_eq, not_true_eq_false, or_self, Bool.false_eq_true, if_false, h5]
  have : (s.takeData p).cellOff c = false := h3
  rw [if_neg (by rw [this]; simp)]

/-- At a core. -/
theorem atCore_ok {s : State} {i : CoreId} {p : DataPkt} (h : AtCore s i p) (b : State → State) : s.atCore i p b = b (s.takeData p) := by
  cases i with
  | cell si ph =>
    have h' : AtCell s ⟨si, ph⟩ p := h
    unfold State.atCore
    simp only [h'.2.2.2.1, Bool.and_false]
    exact atCell_ok h' b
  | steward si =>
    obtain ⟨h1, h2⟩ := h
    simp only [State.atCore, h1, if_true, State.arriveData, h2]
  | keeper hh k =>
    obtain ⟨h1, h2⟩ := h
    simp only [State.atCore, h1, if_true, State.arriveData, h2]

/-- A control packet with a good CRC is admitted. -/
theorem admitCtl_ok {p : CtlPkt} (h1 : p.crc = ctlCrc6 p) (h2 : p.gen = 0) : admitCtl p = .ok := by
  unfold admitCtl; rw [if_neg (by simp [← h1]), if_neg (by simp [h2])]

/-- A control packet at a core. -/
theorem ctlAtCore_ok {s : State} {i : CoreId} {p : CtlPkt} (h : CtlAtCore s i p) (b : State → State) : s.ctlAtCore i p b = b (s.takeCtl p) := by
  obtain ⟨h1, h2, h3, h4⟩ := h
  unfold State.ctlAtCore
  rw [if_neg (by simp [h1])]
  cases i with
  | cell si ph =>
    obtain ⟨g1, g2, g3⟩ := h4
    have : (s.takeCtl p).cellOff ⟨si, ph⟩ = false := g2
    simp only [g1, g3, Bool.and_false, Bool.false_eq_true, or_self, if_false, State.arriveCtl, admitCtl_ok h2 h3, this]
  | steward si => simp only [State.arriveCtl, admitCtl_ok h2 h3]
  | keeper hh k => simp only [State.arriveCtl, admitCtl_ok h2 h3]

/-- At an endpoint that is no cell. -/
theorem endpoint_ok {s : State} {site ep : Nat} {p : DataPkt} (h : AtEndpoint s site ep p) (b : State → State) : s.arriveData site ep p b = b (s.takeData p) := by
  simp only [State.arriveData, h.2]

/-- At a store's port. -/
theorem atStore_ok {s : State} {n : Nat} {p : DataPkt} (h : AtStore s n p) (b : Eid → State → State) :
    s.atStore n p b = b (s.eid (fld p.dst 15 8) 0xB8) (s.takeData p) := by
  obtain ⟨h1, h2, h3, h4⟩ := h
  unfold State.atStore
  rw [if_neg (by simp [h1, h3]; exact h2.1), endpoint_ok h2]
  simp only [show (s.takeData p).store n = s.store n from rfl, h4]

/-- A swarm message. -/
theorem swarm_ok {s : State} {h : Half} {p : DataPkt} {k : Nat} (a : SwarmAt s h p k) (b : Nat → State → State) :
    s.swarmIn h p k b = b (fld (plWord p 0) 23 16) (s.swarmTook h p) := by
  obtain ⟨h1, h2, h3, h4⟩ := a
  unfold State.swarmIn
  rw [if_neg (by simp [h1, h2, h3]; exact h4.1), endpoint_ok h4]
  cases h <;> rfl

/-- A waggle packet. -/
theorem wagGood_ok {s : State} {i : Site} {p : WagPkt} (h : p.gen = 0) (h2 : p.len.toNat ≤ 4) (h3 : p.op.toNat < 0xE) (h4 : p.crc = wagCrc p) : s.wagGood i p = none := by
  unfold State.wagGood
  rw [if_neg (by simp [h]), if_neg (by omega), if_neg (by simp [← h4])]

/-- Granules that are not bad can be read. -/
theorem touch_ok (s : State) (n a k : Nat) (h : ∀ g ∈ granules a k, (s.store n).badGranule g = false) : (s.storeTouch n a k).1 = true := by
  unfold State.storeTouch
  simpa using h

/-- A read of granules that are not bad answers the bytes. -/
theorem read_ok (s : State) (n a k : Nat) (h : ∀ g ∈ granules a k, (s.store n).badGranule g = false) :
   s.storeRead n a k = (some (((s.storeTouch n a k).2.store n).bytes a k), (s.storeTouch n a k).2) := by
  simp only [State.storeRead, touch_ok s n a k h, if_true]

/-- A changed store. -/
@[simp] theorem store_modStore (s : State) (n : Nat) (f : Store → Store) : (s.modStore n f).store n = f (s.store n) := by
  unfold State.modStore State.setStore State.store; exact Tbl_get_put_same _ _ _ _

/-- A changed sampler. -/
theorem smp_modSmp (s : State) (a : SmpAt) (f : Sampler → Sampler) : (s.modSmp a f).smp a = f (s.smp a) := by
  unfold State.modSmp State.smp
  rw [comb_modComb]
  simp only
  rw [Tbl_get_put_same]

end Sys2Proof.Laws
end

