-- ==== Sys2Proof/Laws/FixedCell.lean ====
section
/-!
SUPPORT. No function of the panel changes a birth map, a keeper's identity or the queue (R33): the worker, the engines and the movers.
-/
set_option linter.unusedSimpArgs false

namespace Sys2Proof.Machine
/-- What no command changes (R33). -/
def State.fixed (s : State) : Birth × Ident × List Instr := (s.birth, s.ident, s.pending)
end Sys2Proof.Machine

namespace Sys2Proof.Laws

open Sys2Proof.Machine

@[simp] theorem fx_ite (c : Prop) [Decidable c] (a b : State) : (if c then a else b).fixed = if c then a.fixed else b.fixed := by split <;> rfl
@[simp] theorem fx_ite2 {α : Type} (c : Prop) [Decidable c] (a b : α × State) : (if c then a else b).2.fixed = if c then a.2.fixed else b.2.fixed := by split <;> rfl
@[simp] theorem fx_mk {v0 v1 v2 v3 v4 v5 v6 v7 v8 v9 v10 v11 v12 v13 v14 v15 v16 v17 v18 v19 v20 v21 v22 v23 v24} : (State.mk v0 v1 v2 v3 v4 v5 v6 v7 v8 v9 v10 v11 v12 v13 v14 v15 v16 v17 v18 v19 v20 v21 v22 v23 v24).fixed = (v15, v16, v24) := rfl
@[simp] theorem fx_fold (s : State) : (s.birth, s.ident, s.pending) = s.fixed := rfl
@[simp] theorem fx_foldl {α : Type} (l : List α) (g : State → α → State) (s : State) (h : ∀ s x, (g s x).fixed = s.fixed) :
    (l.foldl g s).fixed = s.fixed := by
  induction l generalizing s with
  | nil => rfl
  | cons x l ih => rw [List.foldl_cons, ih, h]
theorem fx_foldl2 {α β : Type} (l : List α) (g : β × State → α → β × State) (s : β × State) (h : ∀ s x, (g s x).2.fixed = s.2.fixed) :
    (l.foldl g s).2.fixed = s.2.fixed := by
  induction l generalizing s with
  | nil => rfl
  | cons x l ih => rw [List.foldl_cons, ih, h]
theorem fx_foldlp {α β : Type} (l : List α) (g : State × β → α → State × β) (s : State × β) (h : ∀ s x, (g s x).1.fixed = s.1.fixed) :
    (l.foldl g s).1.fixed = s.1.fixed := by
  induction l generalizing s with
  | nil => rfl
  | cons x l ih => rw [List.foldl_cons, ih, h]

/-! ### Ops.lean -/

@[simp] theorem fx_State_setComb (s : State) (i : Site) (c : Comb) : (State.setComb s i c).fixed = s.fixed := rfl
@[simp] theorem fx_State_modComb (s : State) (i : Site) (f : Comb → Comb) : (State.modComb s i f).fixed = s.fixed := rfl
@[simp] theorem fx_State_setCell (s : State) (c : CellAt) (x : Cell) : (State.setCell s c x).fixed = s.fixed := rfl
@[simp] theorem fx_State_modCell (s : State) (c : CellAt) (f : Cell → Cell) : (State.modCell s c f).fixed = s.fixed := rfl
@[simp] theorem fx_State_setKeeper (s : State) (z0 : Half) (z1 : Keeper) : (State.setKeeper s z0 z1).fixed = s.fixed := by
  unfold State.setKeeper; split <;> simp
@[simp] theorem fx_State_setCore (s : State) (z0 : CoreId) (z1 : Core) : (State.setCore s z0 z1).fixed = s.fixed := by
  unfold State.setCore; split <;> simp
@[simp] theorem fx_State_modCore (s : State) (i : CoreId) (f : Core → Core) : (State.modCore s i f).fixed = s.fixed := by
  unfold State.modCore; simp
@[simp] theorem fx_State_setTask (s : State) (a : At) (t : Task) : (State.setTask s a t).fixed = s.fixed := by
  unfold State.setTask; simp
@[simp] theorem fx_State_modTask (s : State) (a : At) (f : Task → Task) : (State.modTask s a f).fixed = s.fixed := by
  unfold State.modTask; simp
@[simp] theorem fx_State_setRam (s : State) (z0 : CoreId) (z1 : Ram) : (State.setRam s z0 z1).fixed = s.fixed := by
  unfold State.setRam; split <;> simp
@[simp] theorem fx_State_draw (s : State) : (State.draw s).2.fixed = s.fixed := rfl
theorem fe_State_draw {s : State} {e t}  (h : (State.draw s) = (e, t)) : t.fixed = s.fixed := by
  have := fx_State_draw s
  rw [h] at this; exact this
@[simp] theorem fx_State_sendErr (s : State) (site : Nat) (r : ErrRec) : (State.sendErr s site r).fixed = s.fixed := rfl
@[simp] theorem fx_State_setCellErr (s : State) (c : CellAt) (b : Nat) : (State.setCellErr s c b).fixed = s.fixed := by
  unfold State.setCellErr; simp
@[simp] theorem fx_State_noteRead (s : State) (c : CellAt) (ces : List Nat) (ue : Option Nat) : (State.noteRead s c ces ue).fixed = s.fixed := by
  unfold State.noteRead; (repeat' split) <;> simp
@[simp] theorem fx_State_memRead (s : State) (i : CoreId) (a n : Nat) : (State.memRead s i a n).2.fixed = s.fixed := by
  unfold State.memRead
  repeat' (first | with_reducible rfl | assumption | (simp only [fx_State_noteRead, fx_mk, fx_fold, fx_ite, fx_ite2, ite_self]; done) | split | (simp only [fx_State_noteRead, fx_mk, fx_fold, fx_ite, fx_ite2, ite_self]) | (intro _) | (rw [fx_foldl]) | (rw [fx_foldl2]) | (rw [fx_foldlp]) | rfl | (rename_i h; injection h with h; subst h) | (rename_i h; cases h; done) | grind | (simp_all +zetaDelta only [fx_State_noteRead, fx_mk, fx_fold, fx_ite, fx_ite2, ite_self]; done))
theorem fe_State_memRead {s : State} {i : CoreId} {a n : Nat} {e t}  (h : (State.memRead s i a n) = (e, t)) : t.fixed = s.fixed := by
  have := fx_State_memRead s i a n
  rw [h] at this; exact this
@[simp] theorem fx_State_trapAt (s : State) (a : At) (cause : Byte) (pc : BitVec 24) (addr : W64) : (State.trapAt s a cause pc addr).fixed = s.fixed := by
  unfold State.trapAt; split <;> simp
@[simp] theorem fx_State_trap (s : State) (a : At) (cause : Byte) (addr : W64) : (State.trap s a cause addr).fixed = s.fixed := by
  unfold State.trap; simp
@[simp] theorem fx_State_endWait (s : State) (a : At) (rd : Reg) (v : W64) : (State.endWait s a rd v).fixed = s.fixed := by
  unfold State.endWait; simp
@[simp] theorem fx_State_evalWaitw (s : State) (a : At) : (State.evalWaitw s a).fixed = s.fixed := by
  unfold State.evalWaitw
  repeat' (first | with_reducible rfl | assumption | (simp only [fx_State_endWait, fx_State_memRead, fx_State_trap, fx_mk, fx_fold, fx_ite, fx_ite2, ite_self]; done) | split | (simp only [fx_State_endWait, fx_State_memRead, fx_State_trap, fx_mk, fx_fold, fx_ite, fx_ite2, ite_self]) | (intro _) | exact fe_State_memRead (by assumption) | (refine Eq.trans ?_ (fe_State_memRead (by assumption))) | (rw [fx_foldl]) | (rw [fx_foldl2]) | (rw [fx_foldlp]) | rfl | (rename_i h; injection h with h; subst h) | (rename_i h; cases h; done) | grind | (simp_all +zetaDelta only [fx_State_endWait, fx_State_memRead, fx_State_trap, fx_mk, fx_fold, fx_ite, fx_ite2, ite_self]; done) | (refine (fe_State_memRead (by assumption)).trans ?_))
@[simp] theorem fx_State_wake (s : State) (i : CoreId) (a n : Nat) : (State.wake s i a n).fixed = s.fixed := by
  unfold State.wake; simp
@[simp] theorem fx_State_memWrite (s : State) (i : CoreId) (a : Nat) (ws : List W32) : (State.memWrite s i a ws).fixed = s.fixed := by
  unfold State.memWrite; simp
@[simp] theorem fx_State_settleStop (s : State) (a : At) : (State.settleStop s a).fixed = s.fixed := by
  unfold State.settleStop; simp
@[simp] theorem fx_State_evalTwait (s : State) (a : At) : (State.evalTwait s a).fixed = s.fixed := by
  unfold State.evalTwait; split <;> simp
@[simp] theorem fx_State_countFell (s : State) (a : At) : (State.countFell s a).fixed = s.fixed := by
  unfold State.countFell; simp
@[simp] theorem fx_State_sendData (s : State) (p : DataPkt) : (State.sendData s p).fixed = s.fixed := rfl
@[simp] theorem fx_State_sendCtl (s : State) (p : CtlPkt) : (State.sendCtl s p).fixed = s.fixed := rfl
@[simp] theorem fx_State_takeData (s : State) (p : DataPkt) : (State.takeData s p).fixed = s.fixed := rfl
@[simp] theorem fx_State_takeCtl (s : State) (p : CtlPkt) : (State.takeCtl s p).fixed = s.fixed := rfl
@[simp] theorem fx_State_nackData (s : State) (src : Eid) (p : DataPkt) (reason : Nat) : (State.nackData s src p reason).fixed = s.fixed := rfl
@[simp] theorem fx_State_nackCtl (s : State) (src : Eid) (p : CtlPkt) (reason : Nat) : (State.nackCtl s src p reason).fixed = s.fixed := by
  unfold State.nackCtl; simp
@[simp] theorem fx_State_ackData (s : State) (src : Eid) (p : DataPkt) : (State.ackData s src p).fixed = s.fixed := rfl

/-! ### Operands.lean -/

theorem fx_State_fetch (s : State) (a : At) : (State.fetch s a).2.fixed = s.fixed := by
  unfold State.fetch
  repeat' (first | with_reducible rfl | assumption | (simp only [fx_State_memRead, fx_mk, fx_fold, fx_ite, fx_ite2, ite_self]; done) | split | (simp only [fx_State_memRead, fx_mk, fx_fold, fx_ite, fx_ite2, ite_self]) | (intro _) | exact fe_State_memRead (by assumption) | (refine Eq.trans ?_ (fe_State_memRead (by assumption))) | (rw [fx_foldl]) | (rw [fx_foldl2]) | (rw [fx_foldlp]) | rfl | (rename_i h; injection h with h; subst h) | (rename_i h; cases h; done) | grind | (simp_all +zetaDelta only [fx_State_memRead, fx_mk, fx_fold, fx_ite, fx_ite2, ite_self]; done) | (refine (fe_State_memRead (by assumption)).trans ?_))
theorem fe_State_fetch {s : State} {a : At} {e t}  (h : (State.fetch s a) = (e, t)) : t.fixed = s.fixed := by
  have := fx_State_fetch s a
  rw [h] at this; exact this
@[simp] theorem fx_State_noteIssue (s : State) (a : At) : (State.noteIssue s a).fixed = s.fixed := by
  unfold State.noteIssue; simp
@[simp] theorem fx_State_issue (s : State) (a : At) (reads : List Reg) (illegal : Bool) (body : State → State) (h_body : ∀ y0, (body y0).fixed = State.fixed y0) : (State.issue s a reads illegal body).fixed = s.fixed := by
  unfold State.issue
  repeat' (first | with_reducible rfl | assumption | (simp only [fx_State_fetch, fx_State_noteIssue, fx_State_trap, h_body, fx_mk, fx_fold, fx_ite, fx_ite2, ite_self]; done) | split | (simp only [fx_State_fetch, fx_State_noteIssue, fx_State_trap, h_body, fx_mk, fx_fold, fx_ite, fx_ite2, ite_self]) | (intro _) | exact fe_State_fetch (by assumption) | (refine Eq.trans ?_ (fe_State_fetch (by assumption))) | (rw [fx_foldl]) | (rw [fx_foldl2]) | (rw [fx_foldlp]) | rfl | (rename_i h; injection h with h; subst h) | (rename_i h; cases h; done) | grind | (simp_all +zetaDelta only [fx_State_fetch, fx_State_noteIssue, fx_State_trap, h_body, fx_mk, fx_fold, fx_ite, fx_ite2, ite_self]; done) | (refine (fe_State_fetch (by assumption)).trans ?_))
@[simp] theorem fx_State_step1 (s : State) (a : At) (f : Task → Task) : (State.step1 s a f).fixed = s.fixed := by
  unfold State.step1; simp
@[simp] theorem fx_State_setRd (s : State) (a : At) (rd : Reg) (v : W64) : (State.setRd s a rd v).fixed = s.fixed := by
  unfold State.setRd; simp
@[simp] theorem fx_State_waitFor (s : State) (a : At) (w : Wait) : (State.waitFor s a w).fixed = s.fixed := by
  unfold State.waitFor; simp
@[simp] theorem fx_State_enqueue (s : State) (i : CoreId) (unit : Nat) (q : Queued) : (State.enqueue s i unit q).fixed = s.fixed := by
  unfold State.enqueue; (repeat' split) <;> simp

/-! ### Alu.lean -/

@[simp] theorem fx_State_aluRR (s : State) (a : At) (f : OpRR) (op : W64 → W64 → W64) : (State.aluRR s a f op).fixed = s.fixed := by
  unfold State.aluRR; simp
@[simp] theorem fx_State_aluR (s : State) (a : At) (f : OpRR) (op : W64 → W64) : (State.aluR s a f op).fixed = s.fixed := by
  unfold State.aluR; simp
@[simp] theorem fx_State_mulRR (s : State) (a : At) (f : OpRR) (op : W64 → W64 → W64) : (State.mulRR s a f op).fixed = s.fixed := by
  unfold State.mulRR; simp
@[simp] theorem fx_State_aluRI (s : State) (a : At) (f : OpRI) (op : W64 → BitVec 16 → W64) : (State.aluRI s a f op).fixed = s.fixed := by
  unfold State.aluRI; simp
@[simp] theorem fx_State_setPd (s : State) (a : At) (n : PReg) (b : Bool) : (State.setPd s a n b).fixed = s.fixed := by
  unfold State.setPd; simp
@[simp] theorem fx_State_plog2 (s : State) (a : At) (f : OpPL) (op : Bool → Bool → Bool) : (State.plog2 s a f op).fixed = s.fixed := by
  unfold State.plog2; simp

/-! ### Order.lean -/

@[simp] theorem fx_State_bumpCounter (s : State) (i : CoreId) (p : Nat) : (State.bumpCounter s i p).fixed = s.fixed := by
  unfold State.bumpCounter
  repeat' (first | with_reducible rfl | assumption | (simp only [fx_State_memRead, fx_State_memWrite, fx_mk, fx_fold, fx_ite, fx_ite2, ite_self]; done) | split | (simp only [fx_State_memRead, fx_State_memWrite, fx_mk, fx_fold, fx_ite, fx_ite2, ite_self]) | (intro _) | exact fe_State_memRead (by assumption) | (refine Eq.trans ?_ (fe_State_memRead (by assumption))) | (rw [fx_foldl]) | (rw [fx_foldl2]) | (rw [fx_foldlp]) | rfl | (rename_i h; injection h with h; subst h) | (rename_i h; cases h; done) | grind | (simp_all +zetaDelta only [fx_State_memRead, fx_State_memWrite, fx_mk, fx_fold, fx_ite, fx_ite2, ite_self]; done) | (refine (fe_State_memRead (by assumption)).trans ?_))
@[simp] theorem fx_State_signal (s : State) (i : CoreId) (q : Queued) (unit status : Nat) (flags : BitVec 4) (detail : Nat) : (State.signal s i q unit status flags detail).fixed = s.fixed := by
  unfold State.signal; simp
@[simp] theorem fx_State_unitErr (s : State) (i : CoreId) (code : Nat) (info0 : W64) : (State.unitErr s i code info0).fixed = s.fixed := by
  unfold State.unitErr; split <;> simp
@[simp] theorem fx_State_noteEng (s : State) (c : CellAt) (e : Eng) (status : Nat) : (State.noteEng s c e status).fixed = s.fixed := by
  unfold State.noteEng; split <;> simp
@[simp] theorem fx_State_noteMov (s : State) (i : CoreId) (status : Nat) (reason : Option Nat) : (State.noteMov s i status reason).fixed = s.fixed := by
  unfold State.noteMov; simp

/-! ### CellRegs.lean -/

@[simp] theorem fx_State_taskStop (s : State) (a : At) : (State.taskStop s a).fixed = s.fixed := by
  unfold State.taskStop; simp
@[simp] theorem fx_State_taskClearTrap (s : State) (a : At) : (State.taskClearTrap s a).fixed = s.fixed := by
  unfold State.taskClearTrap; simp
@[simp] theorem fx_State_taskStart (s : State) (a : At) : (State.taskStart s a).fixed = s.fixed := by
  unfold State.taskStart; simp
@[simp] theorem fx_State_taskCtrl (s : State) (a : At) (v : W64) : (State.taskCtrl s a v).fixed = s.fixed := by
  unfold State.taskCtrl; simp
@[simp] theorem fx_State_accRead (s : State) (c : CellAt) : (State.accRead s c).2.fixed = s.fixed := by
  unfold State.accRead; simp
theorem fe_State_accRead {s : State} {c : CellAt} {e t}  (h : (State.accRead s c) = (e, t)) : t.fixed = s.fixed := by
  have := fx_State_accRead s c
  rw [h] at this; exact this
@[simp] theorem fx_State_accWrite (s : State) (c : CellAt) (v : W64) : (State.accWrite s c v).fixed = s.fixed := by
  unfold State.accWrite; simp
@[simp] theorem fx_State_cmemErrRead (s : State) (c : CellAt) : (State.cmemErrRead s c).2.fixed = s.fixed := rfl
theorem fe_State_cmemErrRead {s : State} {c : CellAt} {e t}  (h : (State.cmemErrRead s c) = (e, t)) : t.fixed = s.fixed := by
  have := fx_State_cmemErrRead s c
  rw [h] at this; exact this
@[simp] theorem fx_State_arbRead (s : State) (c : CellAt) : (State.arbRead s c).2.fixed = s.fixed := rfl
theorem fe_State_arbRead {s : State} {c : CellAt} {e t}  (h : (State.arbRead s c) = (e, t)) : t.fixed = s.fixed := by
  have := fx_State_arbRead s c
  rw [h] at this; exact this
@[simp] theorem fx_State_clkMonRead (s : State) (c : CellAt) : (State.clkMonRead s c).2.fixed = s.fixed := rfl
theorem fe_State_clkMonRead {s : State} {c : CellAt} {e t}  (h : (State.clkMonRead s c) = (e, t)) : t.fixed = s.fixed := by
  have := fx_State_clkMonRead s c
  rw [h] at this; exact this
@[simp] theorem fx_State_cellRead (s : State) (c : CellAt) (off : Nat) : (State.cellRead s c off).2.fixed = s.fixed := by
  unfold State.cellRead; simp
theorem fe_State_cellRead {s : State} {c : CellAt} {off : Nat} {e t}  (h : (State.cellRead s c off) = (e, t)) : t.fixed = s.fixed := by
  have := fx_State_cellRead s c off
  rw [h] at this; exact this
@[simp] theorem fx_State_discard (s : State) (i : CoreId) (b : Nat) : (State.discard s i b).fixed = s.fixed := by
  unfold State.discard; split <;> simp
@[simp] theorem fx_State_staticTask (s : State) (a : At) (legal : Bool) (f : Task → Task) : (State.staticTask s a legal f).fixed = s.fixed := by
  unfold State.staticTask; simp
@[simp] theorem fx_State_taskRegWrite (s : State) (a : At) (o : Nat) (v : W64) : (State.taskRegWrite s a o v).fixed = s.fixed := by
  unfold State.taskRegWrite; simp
@[simp] theorem fx_State_movErrWrite (s : State) (i : CoreId) (v : W64) : (State.movErrWrite s i v).fixed = s.fixed := by
  unfold State.movErrWrite; simp
@[simp] theorem fx_State_movTimeoutWrite (s : State) (i : CoreId) (v : W64) : (State.movTimeoutWrite s i v).fixed = s.fixed := by
  unfold State.movTimeoutWrite; simp
@[simp] theorem fx_State_coreRegWrite (s : State) (i : CoreId) (off : Nat) (v : W64) : (State.coreRegWrite s i off v).fixed = s.fixed := by
  unfold State.coreRegWrite; split <;> simp
@[simp] theorem fx_State_bindWrite (s : State) (c : CellAt) (v : W64) : (State.bindWrite s c v).fixed = s.fixed := by
  unfold State.bindWrite; simp
@[simp] theorem fx_State_rwinWrite (s : State) (c : CellAt) (v : W64) (f : W64 → Cell → Cell) : (State.rwinWrite s c v f).fixed = s.fixed := by
  unfold State.rwinWrite; simp
@[simp] theorem fx_State_accAddrWrite (s : State) (c : CellAt) (v : W64) : (State.accAddrWrite s c v).fixed = s.fixed := by
  unfold State.accAddrWrite; simp
@[simp] theorem fx_State_seedWrite (s : State) (c : CellAt) (e : Eng) (v : W64) : (State.seedWrite s c e v).fixed = s.fixed := rfl
@[simp] theorem fx_State_engErrWrite (s : State) (c : CellAt) (e : Eng) (v : W64) : (State.engErrWrite s c e v).fixed = s.fixed := rfl
@[simp] theorem fx_State_droopWrite (s : State) (c : CellAt) (v : W64) : (State.droopWrite s c v).fixed = s.fixed := by
  unfold State.droopWrite; simp
@[simp] theorem fx_State_cellPlainWrite (s : State) (c : CellAt) (off : Nat) (v : W64) : (State.cellPlainWrite s c off v).fixed = s.fixed := by
  unfold State.cellPlainWrite; simp
@[simp] theorem fx_State_workerRead (s : State) (i : CoreId) (off : Nat) : (State.workerRead s i off).2.fixed = s.fixed := by
  unfold State.workerRead; split <;> simp
theorem fe_State_workerRead {s : State} {i : CoreId} {off : Nat} {e t}  (h : (State.workerRead s i off) = (e, t)) : t.fixed = s.fixed := by
  have := fx_State_workerRead s i off
  rw [h] at this; exact this
@[simp] theorem fx_State_workerWrite (s : State) (a : At) (off : Nat) (v : W64) : (State.workerWrite s a off v).fixed = s.fixed := by
  unfold State.workerWrite; split <;> simp

/-! ### Tile.lean -/

theorem fx_State_wideRead (s : State) (c : CellAt) (z0 : List (Nat × Nat)) : (State.wideRead s c z0).2.fixed = s.fixed := by
  fun_induction State.wideRead s c z0
  all_goals
    repeat' (first | with_reducible rfl | assumption | (simp only [*, fx_State_noteRead, fx_mk, fx_fold, fx_ite, fx_ite2, ite_self]; done) | (simp +zetaDelta only [*, fx_State_noteRead, fx_mk, fx_fold, fx_ite, fx_ite2, ite_self]; done) | split | (simp only [*, fx_State_noteRead, fx_mk, fx_fold, fx_ite, fx_ite2, ite_self]) | (simp +zetaDelta only [*, fx_State_noteRead, fx_mk, fx_fold, fx_ite, fx_ite2, ite_self]) | (intro _) | (rw [fx_foldl]) | (rw [fx_foldl2]) | (rw [fx_foldlp]) | rfl | (rename_i h; injection h with h; subst h) | (rename_i h; cases h; done) | grind | (simp_all +zetaDelta only [fx_State_noteRead, fx_mk, fx_fold, fx_ite, fx_ite2, ite_self]; done))
theorem fe_State_wideRead {s : State} {c : CellAt} {z0 : List (Nat × Nat)} {e t}  (h : (State.wideRead s c z0) = (e, t)) : t.fixed = s.fixed := by
  have := fx_State_wideRead s c z0
  rw [h] at this; exact this
@[simp] theorem fx_State_writeRows (s : State) (i : CoreId) (x : Opnd) (z0 : Nat) (z1 : List (List Nat × List Nat)) : (State.writeRows s i x z0 z1).fixed = s.fixed := by
  fun_induction State.writeRows s i x z0 z1
  all_goals
    repeat' (first | with_reducible rfl | assumption | (simp only [*, fx_State_memWrite, fx_mk, fx_fold, fx_ite, fx_ite2, ite_self]; done) | (simp +zetaDelta only [*, fx_State_memWrite, fx_mk, fx_fold, fx_ite, fx_ite2, ite_self]; done) | split | (simp only [*, fx_State_memWrite, fx_mk, fx_fold, fx_ite, fx_ite2, ite_self]) | (simp +zetaDelta only [*, fx_State_memWrite, fx_mk, fx_fold, fx_ite, fx_ite2, ite_self]) | (intro _) | (rw [fx_foldl]) | (rw [fx_foldl2]) | (rw [fx_foldlp]) | rfl | (rename_i h; injection h with h; subst h) | (rename_i h; cases h; done) | grind | (simp_all +zetaDelta only [fx_State_memWrite, fx_mk, fx_fold, fx_ite, fx_ite2, ite_self]; done))
@[simp] theorem fx_State_engRun (s : State) (c : CellAt) (e : Eng) (q : Queued) (status : Nat) (flags : BitVec 4) (detail : Nat) : (State.engRun s c e q status flags detail).fixed = s.fixed := rfl
@[simp] theorem fx_State_engineRow (s : State) (c : CellAt) (e : Eng) (op : Nat) (check : Queued → Option Nat) (body : Queued → State → State) (h_body : ∀ y0 y1, (body y0 y1).fixed = State.fixed y1) : (State.engineRow s c e op check body).fixed = s.fixed := by
  unfold State.engineRow; (repeat' split) <;> simp [h_body]

/-! ### Net.lean -/

@[simp] theorem fx_State_combErr (s : State) (i : Site) (code sev : Nat) (info0 info1 : W64) : (State.combErr s i code sev info0 info1).fixed = s.fixed := rfl
@[simp] theorem fx_State_modRouter (s : State) (i : Site) (f : Router → Router) : (State.modRouter s i f).fixed = s.fixed := rfl
@[simp] theorem fx_State_crcDiscard (s : State) (site : Nat) : (State.crcDiscard s site).fixed = s.fixed := by
  unfold State.crcDiscard; split <;> simp
@[simp] theorem fx_State_countNack (s : State) (i : Site) : (State.countNack s i).fixed = s.fixed := rfl
@[simp] theorem fx_State_arriveData (s : State) (site ep : Nat) (p : DataPkt) (body : State → State) (h_body : ∀ y0, (body y0).fixed = State.fixed y0) : (State.arriveData s site ep p body).fixed = s.fixed := by
  unfold State.arriveData; split <;> simp [h_body]
@[simp] theorem fx_State_arriveCtl (s : State) (site ep : Nat) (p : CtlPkt) (body : State → State) (h_body : ∀ y0, (body y0).fixed = State.fixed y0) : (State.arriveCtl s site ep p body).fixed = s.fixed := by
  unfold State.arriveCtl; split <;> simp [h_body]
@[simp] theorem fx_State_cellRefuse (s : State) (c : CellAt) (l : Nat) (p : DataPkt) : (State.cellRefuse s c l p).fixed = s.fixed := by
  unfold State.cellRefuse; simp
@[simp] theorem fx_State_atCellIf (s : State) (c : CellAt) (holds : Bool) (p : DataPkt) (body : State → State) (h_body : ∀ y0, (body y0).fixed = State.fixed y0) : (State.atCellIf s c holds p body).fixed = s.fixed := by
  unfold State.atCellIf; simp [h_body]
@[simp] theorem fx_State_atCell (s : State) (c : CellAt) (p : DataPkt) (body : State → State) (h_body : ∀ y0, (body y0).fixed = State.fixed y0) : (State.atCell s c p body).fixed = s.fixed := by
  unfold State.atCell; simp [h_body]
@[simp] theorem fx_State_atCore (s : State) (i : CoreId) (p : DataPkt) (body : State → State) (h_body : ∀ y0, (body y0).fixed = State.fixed y0) : (State.atCore s i p body).fixed = s.fixed := by
  unfold State.atCore; split <;> simp [h_body]
@[simp] theorem fx_State_ctlAtCore (s : State) (i : CoreId) (p : CtlPkt) (body : State → State) (h_body : ∀ y0, (body y0).fixed = State.fixed y0) : (State.ctlAtCore s i p body).fixed = s.fixed := by
  unfold State.ctlAtCore; (repeat' split) <;> simp [h_body]

/-! ### Mover.lean -/

@[simp] theorem fx_State_modMov (s : State) (m : MovAt) (f : Mover → Mover) : (State.modMov s m f).fixed = s.fixed := by
  unfold State.modMov; simp
@[simp] theorem fx_State_movPush (s : State) (m : MovAt) (d : Started) : (State.movPush s m d).fixed = s.fixed := by
  unfold State.movPush; simp
@[simp] theorem fx_State_modCur (s : State) (m : MovAt) (f : Started → Started) : (State.modCur s m f).fixed = s.fixed := by
  unfold State.modCur; simp
@[simp] theorem fx_State_curDone (s : State) (m : MovAt) : (State.curDone s m).fixed = s.fixed := by
  unfold State.curDone; simp
@[simp] theorem fx_State_curFail (s : State) (m : MovAt) (status detail reason : Nat) : (State.curFail s m status detail reason).fixed = s.fixed := by
  unfold State.curFail; simp
@[simp] theorem fx_State_moverRow (s : State) (m : MovAt) (op : Nat) (body : Started → State → State) (h_body : ∀ y0 y1, (body y0 y1).fixed = State.fixed y1) : (State.moverRow s m op body).fixed = s.fixed := by
  unfold State.moverRow; (repeat' split) <;> simp [h_body]
@[simp] theorem fx_State_movSend (s : State) (m : MovAt) (type : Nat) (dst : Eid) (addr : Nat) (ws : List W32) (ans : Answer) : (State.movSend s m type dst addr ws ans).fixed = s.fixed := by
  unfold State.movSend; simp
@[simp] theorem fx_State_sendLines (m : MovAt) (src : Nat) (target : State → Option Eid) (addr : Nat → Nat) (z0 : List (Nat × Nat)) (z1 : State) : (State.sendLines m src target addr z0 z1).fixed = z1.fixed := by
  fun_induction State.sendLines m src target addr z0 z1
  all_goals
    repeat' (first | with_reducible rfl | assumption | (simp only [*, fx_State_curDone, fx_State_curFail, fx_State_memRead, fx_State_movSend, fx_mk, fx_fold, fx_ite, fx_ite2, ite_self]; done) | (simp +zetaDelta only [*, fx_State_curDone, fx_State_curFail, fx_State_memRead, fx_State_movSend, fx_mk, fx_fold, fx_ite, fx_ite2, ite_self]; done) | split | (simp only [*, fx_State_curDone, fx_State_curFail, fx_State_memRead, fx_State_movSend, fx_mk, fx_fold, fx_ite, fx_ite2, ite_self]) | (simp +zetaDelta only [*, fx_State_curDone, fx_State_curFail, fx_State_memRead, fx_State_movSend, fx_mk, fx_fold, fx_ite, fx_ite2, ite_self]) | (intro _) | exact fe_State_memRead (by assumption) | (refine Eq.trans ?_ (fe_State_memRead (by assumption))) | (rw [fx_foldl]) | (rw [fx_foldl2]) | (rw [fx_foldlp]) | rfl | (rename_i h; injection h with h; subst h) | (rename_i h; cases h; done) | grind | (simp_all +zetaDelta only [fx_State_curDone, fx_State_curFail, fx_State_memRead, fx_State_movSend, fx_mk, fx_fold, fx_ite, fx_ite2, ite_self]; done) | (refine (fe_State_memRead (by assumption)).trans ?_))
@[simp] theorem fx_State_askLines (m : MovAt) (dst : Nat) (target : State → Option Eid) (addr : Nat → Nat) (z0 : List (Nat × Nat)) (z1 : State) : (State.askLines m dst target addr z0 z1).fixed = z1.fixed := by
  fun_induction State.askLines m dst target addr z0 z1
  all_goals
    repeat' (first | with_reducible rfl | assumption | (simp only [*, fx_State_curDone, fx_State_curFail, fx_State_movSend, fx_mk, fx_fold, fx_ite, fx_ite2, ite_self]; done) | (simp +zetaDelta only [*, fx_State_curDone, fx_State_curFail, fx_State_movSend, fx_mk, fx_fold, fx_ite, fx_ite2, ite_self]; done) | split | (simp only [*, fx_State_curDone, fx_State_curFail, fx_State_movSend, fx_mk, fx_fold, fx_ite, fx_ite2, ite_self]) | (simp +zetaDelta only [*, fx_State_curDone, fx_State_curFail, fx_State_movSend, fx_mk, fx_fold, fx_ite, fx_ite2, ite_self]) | (intro _) | (rw [fx_foldl]) | (rw [fx_foldl2]) | (rw [fx_foldlp]) | rfl | (rename_i h; injection h with h; subst h) | (rename_i h; cases h; done) | grind | (simp_all +zetaDelta only [fx_State_curDone, fx_State_curFail, fx_State_movSend, fx_mk, fx_fold, fx_ite, fx_ite2, ite_self]; done))
@[simp] theorem fx_State_nputLines (m : MovAt) (from_ : Phys) (dest : CellAt) (dir : Dir) (q : Queued) (z0 : List (Nat × List W32)) (z1 : State) : (State.nputLines m from_ dest dir q z0 z1).fixed = z1.fixed := by
  fun_induction State.nputLines m from_ dest dir q z0 z1
  all_goals
    repeat' (first | with_reducible rfl | assumption | (simp only [*, fx_State_curDone, fx_State_modCore, fx_State_modCur, fx_mk, fx_fold, fx_ite, fx_ite2, ite_self]; done) | (simp +zetaDelta only [*, fx_State_curDone, fx_State_modCore, fx_State_modCur, fx_mk, fx_fold, fx_ite, fx_ite2, ite_self]; done) | split | (simp only [*, fx_State_curDone, fx_State_modCore, fx_State_modCur, fx_mk, fx_fold, fx_ite, fx_ite2, ite_self]) | (simp +zetaDelta only [*, fx_State_curDone, fx_State_modCore, fx_State_modCur, fx_mk, fx_fold, fx_ite, fx_ite2, ite_self]) | (intro _) | (rw [fx_foldl]) | (rw [fx_foldl2]) | (rw [fx_foldlp]) | rfl | (rename_i h; injection h with h; subst h) | (rename_i h; cases h; done) | grind | (simp_all +zetaDelta only [fx_State_curDone, fx_State_modCore, fx_State_modCur, fx_mk, fx_fold, fx_ite, fx_ite2, ite_self]; done))
@[simp] theorem fx_State_sendGroups (m : MovAt) (l : Nat) (z0 : List (List (Nat × StoAddr))) (z1 : State) : (State.sendGroups m l z0 z1).fixed = z1.fixed := by
  fun_induction State.sendGroups m l z0 z1
  all_goals
    repeat' (first | with_reducible rfl | assumption | (simp only [*, fx_State_movSend, fx_mk, fx_fold, fx_ite, fx_ite2, ite_self]; done) | (simp +zetaDelta only [*, fx_State_movSend, fx_mk, fx_fold, fx_ite, fx_ite2, ite_self]; done) | split | (simp only [*, fx_State_movSend, fx_mk, fx_fold, fx_ite, fx_ite2, ite_self]) | (simp +zetaDelta only [*, fx_State_movSend, fx_mk, fx_fold, fx_ite, fx_ite2, ite_self]) | (intro _) | (rw [fx_foldl]) | (rw [fx_foldl2]) | (rw [fx_foldlp]) | rfl | (rename_i h; injection h with h; subst h) | (rename_i h; cases h; done) | grind | (simp_all +zetaDelta only [fx_State_movSend, fx_mk, fx_fold, fx_ite, fx_ite2, ite_self]; done))
@[simp] theorem fx_State_setExpect (s : State) (m : MovAt) (serial : Nat) (e : Expect) (new : List Expect) : (State.setExpect s m serial e new).fixed = s.fixed := by
  unfold State.setExpect; simp
@[simp] theorem fx_State_failDesc (s : State) (m : MovAt) (serial status detail reason : Nat) : (State.failDesc s m serial status detail reason).fixed = s.fixed := by
  unfold State.failDesc; simp

/-! ### MemOps.lean -/

@[simp] theorem fx_State_rdMem (s : State) (a : At) (va : W64) (n : Nat) : (State.rdMem s a va n).2.fixed = s.fixed := by
  unfold State.rdMem
  repeat' (first | with_reducible rfl | assumption | (simp only [fx_State_memRead, fx_mk, fx_fold, fx_ite, fx_ite2, ite_self]; done) | split | (simp only [fx_State_memRead, fx_mk, fx_fold, fx_ite, fx_ite2, ite_self]) | (intro _) | exact fe_State_memRead (by assumption) | (refine Eq.trans ?_ (fe_State_memRead (by assumption))) | (rw [fx_foldl]) | (rw [fx_foldl2]) | (rw [fx_foldlp]) | rfl | (rename_i h; injection h with h; subst h) | (rename_i h; cases h; done) | grind | (simp_all +zetaDelta only [fx_State_memRead, fx_mk, fx_fold, fx_ite, fx_ite2, ite_self]; done) | (refine (fe_State_memRead (by assumption)).trans ?_))
theorem fe_State_rdMem {s : State} {a : At} {va : W64} {n : Nat} {e t}  (h : (State.rdMem s a va n) = (e, t)) : t.fixed = s.fixed := by
  have := fx_State_rdMem s a va n
  rw [h] at this; exact this
@[simp] theorem fx_State_load (s : State) (a : At) (f : OpRI) (n : Nat) (conv : W64 → W64) : (State.load s a f n conv).fixed = s.fixed := by
  unfold State.load
  repeat' (first | with_reducible rfl | assumption | (simp only [fx_State_issue, fx_State_rdMem, fx_State_step1, fx_State_trap, fx_mk, fx_fold, fx_ite, fx_ite2, ite_self]; done) | split | (simp only [fx_State_issue, fx_State_rdMem, fx_State_step1, fx_State_trap, fx_mk, fx_fold, fx_ite, fx_ite2, ite_self]) | (intro _) | exact fe_State_rdMem (by assumption) | (refine Eq.trans ?_ (fe_State_rdMem (by assumption))) | (rw [fx_foldl]) | (rw [fx_foldl2]) | (rw [fx_foldlp]) | (rw [fx_State_issue]) | rfl | (rename_i h; injection h with h; subst h) | (rename_i h; cases h; done) | grind | (simp_all +zetaDelta only [fx_State_issue, fx_State_rdMem, fx_State_step1, fx_State_trap, fx_mk, fx_fold, fx_ite, fx_ite2, ite_self]; done) | (refine (fe_State_rdMem (by assumption)).trans ?_))
@[simp] theorem fx_State_storeOp (s : State) (a : At) (f : OpST) (n : Nat) : (State.storeOp s a f n).fixed = s.fixed := by
  unfold State.storeOp
  repeat' (first | with_reducible rfl | assumption | (simp only [fx_State_issue, fx_State_memWrite, fx_State_step1, fx_State_trap, fx_mk, fx_fold, fx_ite, fx_ite2, ite_self]; done) | split | (simp only [fx_State_issue, fx_State_memWrite, fx_State_step1, fx_State_trap, fx_mk, fx_fold, fx_ite, fx_ite2, ite_self]) | (intro _) | (rw [fx_foldl]) | (rw [fx_foldl2]) | (rw [fx_foldlp]) | (rw [fx_State_issue]) | rfl | (rename_i h; injection h with h; subst h) | (rename_i h; cases h; done) | grind | (simp_all +zetaDelta only [fx_State_issue, fx_State_memWrite, fx_State_step1, fx_State_trap, fx_mk, fx_fold, fx_ite, fx_ite2, ite_self]; done))
@[simp] theorem fx_State_amo (s : State) (a : At) (f : OpAmo) (code : Nat) (reads : List Reg) : (State.amo s a f code reads).fixed = s.fixed := by
  unfold State.amo
  repeat' (first | with_reducible rfl | assumption | (simp only [fx_State_issue, fx_State_load, fx_State_memRead, fx_State_memWrite, fx_State_step1, fx_State_trap, fx_mk, fx_fold, fx_ite, fx_ite2, ite_self]; done) | split | (simp only [fx_State_issue, fx_State_load, fx_State_memRead, fx_State_memWrite, fx_State_step1, fx_State_trap, fx_mk, fx_fold, fx_ite, fx_ite2, ite_self]) | (intro _) | exact fe_State_memRead (by assumption) | (refine Eq.trans ?_ (fe_State_memRead (by assumption))) | (rw [fx_foldl]) | (rw [fx_foldl2]) | (rw [fx_foldlp]) | (rw [fx_State_issue]) | rfl | (rename_i h; injection h with h; subst h) | (rename_i h; cases h; done) | grind | (simp_all +zetaDelta only [fx_State_issue, fx_State_load, fx_State_memRead, fx_State_memWrite, fx_State_step1, fx_State_trap, fx_mk, fx_fold, fx_ite, fx_ite2, ite_self]; done) | (refine (fe_State_memRead (by assumption)).trans ?_))
@[simp] theorem fx_State_fence (s : State) (a : At) (z : BitVec 23) (scope : Nat) : (State.fence s a z scope).fixed = s.fixed := by
  unfold State.fence; simp

/-! ### Privileged.lean -/

@[simp] theorem fx_State_issuePrv (s : State) (a : At) (reads : List Reg) (illegal : Bool) (body : State → State) (h_body : ∀ y0, (body y0).fixed = State.fixed y0) : (State.issuePrv s a reads illegal body).fixed = s.fixed := by
  unfold State.issuePrv; simp [h_body]
@[simp] theorem fx_State_passTime (s : State) (i : CoreId) : (State.passTime s i).fixed = s.fixed := by
  unfold State.passTime; simp
@[simp] theorem fx_State_takeRx (s : State) (a : At) (rd : Reg) (p : CtlPkt) : (State.takeRx s a rd p).fixed = s.fixed := by
  unfold State.takeRx; simp
@[simp] theorem fx_State_rxPush (s : State) (i : CoreId) (p : CtlPkt) : (State.rxPush s i p).fixed = s.fixed := by
  unfold State.rxPush
  repeat' (first | with_reducible rfl | assumption | (simp only [fx_State_modCore, fx_State_nackCtl, fx_State_takeRx, fx_mk, fx_fold, fx_ite, fx_ite2, ite_self]; done) | split | (simp only [fx_State_modCore, fx_State_nackCtl, fx_State_takeRx, fx_mk, fx_fold, fx_ite, fx_ite2, ite_self]) | (intro _) | (rw [fx_foldl]) | (rw [fx_foldl2]) | (rw [fx_foldlp]) | rfl | (rename_i h; injection h with h; subst h) | (rename_i h; cases h; done) | grind | (simp_all +zetaDelta only [fx_State_modCore, fx_State_nackCtl, fx_State_takeRx, fx_mk, fx_fold, fx_ite, fx_ite2, ite_self]; done))
@[simp] theorem fx_State_endAccess (s : State) (a : At) (pd : PReg) (ok : Bool) (rd : Reg) (v : W64) : (State.endAccess s a pd ok rd v).fixed = s.fixed := by
  unfold State.endAccess; simp
@[simp] theorem fx_State_accessAnswer (s : State) (a : At) (write ok : Bool) (v : W64) : (State.accessAnswer s a write ok v).fixed = s.fixed := by
  unfold State.accessAnswer; (repeat' split) <;> simp
@[simp] theorem fx_State_prvWrite (s : State) (a : At) (n : Nat) (v : W64) : (State.prvWrite s a n v).fixed = s.fixed := by
  unfold State.prvWrite; simp

/-! ### Matrix.lean -/

@[simp] theorem fx_State_accFail (s : State) (c : CellAt) (q : Queued) (idx : Nat) : (State.accFail s c q idx).fixed = s.fixed := by
  unfold State.accFail; simp
@[simp] theorem fx_State_mxeDone (s : State) (c : CellAt) (q : Queued) (acc : Ram) (ar : Ar) : (State.mxeDone s c q acc ar).fixed = s.fixed := rfl
@[simp] theorem fx_State_mmaBody (s : State) (c : CellAt) (q : Queued) : (State.mmaBody s c q).fixed = s.fixed := by
  unfold State.mmaBody
  repeat' (first | with_reducible rfl | assumption | (simp only [fx_State_accFail, fx_State_engRun, fx_State_mxeDone, fx_State_wideRead, fx_mk, fx_fold, fx_ite, fx_ite2, ite_self]; done) | split | (simp only [fx_State_accFail, fx_State_engRun, fx_State_mxeDone, fx_State_wideRead, fx_mk, fx_fold, fx_ite, fx_ite2, ite_self]) | (intro _) | exact fe_State_wideRead (by assumption) | (refine Eq.trans ?_ (fe_State_wideRead (by assumption))) | (rw [fx_foldl]) | (rw [fx_foldl2]) | (rw [fx_foldlp]) | rfl | (rename_i h; injection h with h; subst h) | (rename_i h; cases h; done) | grind | (simp_all +zetaDelta only [fx_State_accFail, fx_State_engRun, fx_State_mxeDone, fx_State_wideRead, fx_mk, fx_fold, fx_ite, fx_ite2, ite_self]; done) | (refine (fe_State_wideRead (by assumption)).trans ?_))
@[simp] theorem fx_State_accLoadBody (s : State) (c : CellAt) (q : Queued) : (State.accLoadBody s c q).fixed = s.fixed := by
  unfold State.accLoadBody
  repeat' (first | with_reducible rfl | assumption | (simp only [fx_State_engRun, fx_State_mxeDone, fx_State_wideRead, fx_mk, fx_fold, fx_ite, fx_ite2, ite_self]; done) | split | (simp only [fx_State_engRun, fx_State_mxeDone, fx_State_wideRead, fx_mk, fx_fold, fx_ite, fx_ite2, ite_self]) | (intro _) | exact fe_State_wideRead (by assumption) | (refine Eq.trans ?_ (fe_State_wideRead (by assumption))) | (rw [fx_foldl]) | (rw [fx_foldl2]) | (rw [fx_foldlp]) | rfl | (rename_i h; injection h with h; subst h) | (rename_i h; cases h; done) | grind | (simp_all +zetaDelta only [fx_State_engRun, fx_State_mxeDone, fx_State_wideRead, fx_mk, fx_fold, fx_ite, fx_ite2, ite_self]; done) | (refine (fe_State_wideRead (by assumption)).trans ?_))
@[simp] theorem fx_State_accStoreBody (s : State) (c : CellAt) (q : Queued) : (State.accStoreBody s c q).fixed = s.fixed := by
  unfold State.accStoreBody
  repeat' (first | with_reducible rfl | assumption | (simp only [fx_State_accFail, fx_State_mxeDone, fx_State_writeRows, fx_mk, fx_fold, fx_ite, fx_ite2, ite_self]; done) | split | (simp only [fx_State_accFail, fx_State_mxeDone, fx_State_writeRows, fx_mk, fx_fold, fx_ite, fx_ite2, ite_self]) | (intro _) | (rw [fx_foldl]) | (rw [fx_foldl2]) | (rw [fx_foldlp]) | rfl | (rename_i h; injection h with h; subst h) | (rename_i h; cases h; done) | grind | (simp_all +zetaDelta only [fx_State_accFail, fx_State_mxeDone, fx_State_writeRows, fx_mk, fx_fold, fx_ite, fx_ite2, ite_self]; done))
@[simp] theorem fx_State_accScaleBody (s : State) (c : CellAt) (q : Queued) : (State.accScaleBody s c q).fixed = s.fixed := by
  unfold State.accScaleBody
  repeat' (first | with_reducible rfl | assumption | (simp only [fx_State_accFail, fx_State_engRun, fx_State_mxeDone, fx_State_wideRead, fx_mk, fx_fold, fx_ite, fx_ite2, ite_self]; done) | split | (simp only [fx_State_accFail, fx_State_engRun, fx_State_mxeDone, fx_State_wideRead, fx_mk, fx_fold, fx_ite, fx_ite2, ite_self]) | (intro _) | exact fe_State_wideRead (by assumption) | (refine Eq.trans ?_ (fe_State_wideRead (by assumption))) | (rw [fx_foldl]) | (rw [fx_foldl2]) | (rw [fx_foldlp]) | rfl | (rename_i h; injection h with h; subst h) | (rename_i h; cases h; done) | grind | (simp_all +zetaDelta only [fx_State_accFail, fx_State_engRun, fx_State_mxeDone, fx_State_wideRead, fx_mk, fx_fold, fx_ite, fx_ite2, ite_self]; done) | (refine (fe_State_wideRead (by assumption)).trans ?_))
@[simp] theorem fx_State_packBody (s : State) (c : CellAt) (q : Queued) : (State.packBody s c q).fixed = s.fixed := by
  unfold State.packBody
  repeat' (first | with_reducible rfl | assumption | (simp only [fx_State_engRun, fx_State_mxeDone, fx_State_wideRead, fx_State_writeRows, fx_mk, fx_fold, fx_ite, fx_ite2, ite_self]; done) | split | (simp only [fx_State_engRun, fx_State_mxeDone, fx_State_wideRead, fx_State_writeRows, fx_mk, fx_fold, fx_ite, fx_ite2, ite_self]) | (intro _) | exact fe_State_wideRead (by assumption) | (refine Eq.trans ?_ (fe_State_wideRead (by assumption))) | (rw [fx_foldl]) | (rw [fx_foldl2]) | (rw [fx_foldlp]) | rfl | (rename_i h; injection h with h; subst h) | (rename_i h; cases h; done) | grind | (simp_all +zetaDelta only [fx_State_engRun, fx_State_mxeDone, fx_State_wideRead, fx_State_writeRows, fx_mk, fx_fold, fx_ite, fx_ite2, ite_self]; done) | (refine (fe_State_wideRead (by assumption)).trans ?_))

/-! ### Vector.lean -/

@[simp] theorem fx_State_vxeDone (s : State) (c : CellAt) (q : Queued) (ar : Ar) : (State.vxeDone s c q ar).fixed = s.fixed := rfl
@[simp] theorem fx_State_vecFinish (s : State) (c : CellAt) (q : Queued) (d : Opnd) (k : Conv) (rows : List (List FV)) (ar : Ar) : (State.vecFinish s c q d k rows ar).fixed = s.fixed := by
  unfold State.vecFinish; simp
@[simp] theorem fx_State_vecRead (s : State) (c : CellAt) (q : Queued) (ranges : List (Nat × Nat)) (body : State → State) (h_body : ∀ y0, (body y0).fixed = State.fixed y0) : (State.vecRead s c q ranges body).fixed = s.fixed := by
  unfold State.vecRead
  repeat' (first | with_reducible rfl | assumption | (simp only [fx_State_engRun, fx_State_wideRead, h_body, fx_mk, fx_fold, fx_ite, fx_ite2, ite_self]; done) | split | (simp only [fx_State_engRun, fx_State_wideRead, h_body, fx_mk, fx_fold, fx_ite, fx_ite2, ite_self]) | (intro _) | exact fe_State_wideRead (by assumption) | (refine Eq.trans ?_ (fe_State_wideRead (by assumption))) | (rw [fx_foldl]) | (rw [fx_foldl2]) | (rw [fx_foldlp]) | rfl | (rename_i h; injection h with h; subst h) | (rename_i h; cases h; done) | grind | (simp_all +zetaDelta only [fx_State_engRun, fx_State_wideRead, h_body, fx_mk, fx_fold, fx_ite, fx_ite2, ite_self]; done) | (refine (fe_State_wideRead (by assumption)).trans ?_))
@[simp] theorem fx_State_vbinBody (s : State) (c : CellAt) (q : Queued) : (State.vbinBody s c q).fixed = s.fixed := by
  unfold State.vbinBody; simp
@[simp] theorem fx_State_vunBody (s : State) (c : CellAt) (q : Queued) : (State.vunBody s c q).fixed = s.fixed := by
  unfold State.vunBody; simp
@[simp] theorem fx_State_vredBody (s : State) (c : CellAt) (q : Queued) : (State.vredBody s c q).fixed = s.fixed := by
  unfold State.vredBody; simp
@[simp] theorem fx_State_vnormBody (s : State) (c : CellAt) (q : Queued) : (State.vnormBody s c q).fixed = s.fixed := by
  unfold State.vnormBody; simp
@[simp] theorem fx_State_vropeBody (s : State) (c : CellAt) (q : Queued) : (State.vropeBody s c q).fixed = s.fixed := by
  unfold State.vropeBody; simp
@[simp] theorem fx_State_vsmxuBody (s : State) (c : CellAt) (q : Queued) : (State.vsmxuBody s c q).fixed = s.fixed := by
  unfold State.vsmxuBody; simp

/-! ### Sampler.lean -/

@[simp] theorem fx_State_modSmp (s : State) (a : SmpAt) (f : Sampler → Sampler) : (State.modSmp s a f).fixed = s.fixed := rfl
@[simp] theorem fx_State_setSmpErr (s : State) (a : SmpAt) (b : Nat) : (State.setSmpErr s a b).fixed = s.fixed := by
  unfold State.setSmpErr; simp
@[simp] theorem fx_State_setCfgErr (s : State) (a : SmpAt) (b : Nat) : (State.setCfgErr s a b).fixed = s.fixed := by
  unfold State.setCfgErr; simp
@[simp] theorem fx_State_settleSmp (s : State) (c : CellAt) : (State.settleSmp s c).fixed = s.fixed := by
  unfold State.settleSmp; simp
@[simp] theorem fx_State_smpEnd (s : State) (c : CellAt) (o : SmpOut) (status : Nat) (flags : BitVec 4) (detail : Nat) : (State.smpEnd s c o status flags detail).fixed = s.fixed := by
  unfold State.smpEnd; simp
@[simp] theorem fx_State_smpAnswer (s : State) (a : SmpAt) (dst : Eid) (tag : BitVec 16) (status : Nat) (flags : Nat) (w0 w1 : W32) : (State.smpAnswer s a dst tag status flags w0 w1).fixed = s.fixed := rfl
@[simp] theorem fx_State_smpFinish (s : State) (a : SmpAt) (sel : Selection) (status flags : Nat) (w0 w1 : W32) : (State.smpFinish s a sel status flags w0 w1).fixed = s.fixed := by
  unfold State.smpFinish
  repeat' (first | with_reducible rfl | assumption | (simp only [fx_State_modSmp, fx_State_smpAnswer, fx_mk, fx_fold, fx_ite, fx_ite2, ite_self]; done) | split | (simp only [fx_State_modSmp, fx_State_smpAnswer, fx_mk, fx_fold, fx_ite, fx_ite2, ite_self]) | (intro _) | (rw [fx_foldl]) | (rw [fx_foldl2]) | (rw [fx_foldlp]) | rfl | (rename_i h; injection h with h; subst h) | (rename_i h; cases h; done) | grind | (simp_all +zetaDelta only [fx_State_modSmp, fx_State_smpAnswer, fx_mk, fx_fold, fx_ite, fx_ite2, ite_self]; done))
@[simp] theorem fx_State_smpSettle (s : State) (a : SmpAt) : (State.smpSettle s a).fixed = s.fixed := by
  unfold State.smpSettle; simp
@[simp] theorem fx_State_smpFetches (s : State) (a : SmpAt) (p : SmpPart) : (State.smpFetches s a p).fixed = s.fixed := by
  unfold State.smpFetches
  repeat' (first | with_reducible rfl | assumption | (simp only [fx_State_sendData, fx_mk, fx_fold, fx_ite, fx_ite2, ite_self]; done) | split | (simp only [fx_State_sendData, fx_mk, fx_fold, fx_ite, fx_ite2, ite_self]) | (intro _) | (rw [fx_foldl]) | (rw [fx_foldl2]) | (rw [fx_foldlp]) | rfl | (rename_i h; injection h with h; subst h) | (rename_i h; cases h; done) | grind | (simp_all +zetaDelta only [fx_State_sendData, fx_mk, fx_fold, fx_ite, fx_ite2, ite_self]; done))
@[simp] theorem fx_State_smpOpen (s : State) (a : SmpAt) (ctx : Ctx) (serial : W32) (n : SmpPart) : (State.smpOpen s a ctx serial n).fixed = s.fixed := by
  unfold State.smpOpen; simp
@[simp] theorem fx_State_smpJoin (s : State) (a : SmpAt) (sel : Selection) (n : SmpPart) : (State.smpJoin s a sel n).fixed = s.fixed := by
  unfold State.smpJoin; simp
@[simp] theorem fx_State_smpPart (s : State) (a : SmpAt) (p : DataPkt) (op : Nat) : (State.smpPart s a p op).fixed = s.fixed := by
  unfold State.smpPart
  repeat' (first | with_reducible rfl | assumption | (simp only [fx_State_arriveData, fx_State_nackData, fx_State_smpJoin, fx_State_smpOpen, fx_mk, fx_fold, fx_ite, fx_ite2, ite_self]; done) | split | (simp only [fx_State_arriveData, fx_State_nackData, fx_State_smpJoin, fx_State_smpOpen, fx_mk, fx_fold, fx_ite, fx_ite2, ite_self]) | (intro _) | (rw [fx_foldl]) | (rw [fx_foldl2]) | (rw [fx_foldlp]) | (rw [fx_State_arriveData]) | rfl | (rename_i h; injection h with h; subst h) | (rename_i h; cases h; done) | grind | (simp_all +zetaDelta only [fx_State_arriveData, fx_State_nackData, fx_State_smpJoin, fx_State_smpOpen, fx_mk, fx_fold, fx_ite, fx_ite2, ite_self]; done))
@[simp] theorem fx_State_smpCfgWrite (s : State) (a : SmpAt) (c word : Nat) (v : W64) : (State.smpCfgWrite s a c word v).fixed = s.fixed := by
  unfold State.smpCfgWrite; simp
@[simp] theorem fx_State_smpGrmWrite (s : State) (a : SmpAt) (g : Nat) (v : W64) : (State.smpGrmWrite s a g v).fixed = s.fixed := by
  unfold State.smpGrmWrite; simp
@[simp] theorem fx_State_gdataRead (s : State) (a : SmpAt) : (State.gdataRead s a).2.fixed = s.fixed := rfl
theorem fe_State_gdataRead {s : State} {a : SmpAt} {e t}  (h : (State.gdataRead s a) = (e, t)) : t.fixed = s.fixed := by
  have := fx_State_gdataRead s a
  rw [h] at this; exact this
@[simp] theorem fx_State_gdataWrite (s : State) (a : SmpAt) (v : W64) : (State.gdataWrite s a v).fixed = s.fixed := by
  unfold State.gdataWrite; simp
@[simp] theorem fx_State_hdataRead (s : State) (a : SmpAt) : (State.hdataRead s a).2.fixed = s.fixed := rfl
theorem fe_State_hdataRead {s : State} {a : SmpAt} {e t}  (h : (State.hdataRead s a) = (e, t)) : t.fixed = s.fixed := by
  have := fx_State_hdataRead s a
  rw [h] at this; exact this
@[simp] theorem fx_State_hdataWrite (s : State) (a : SmpAt) (v : W64) : (State.hdataWrite s a v).fixed = s.fixed := by
  unfold State.hdataWrite; simp
@[simp] theorem fx_State_smpCountsRead (s : State) (a : SmpAt) : (State.smpCountsRead s a).2.fixed = s.fixed := rfl
theorem fe_State_smpCountsRead {s : State} {a : SmpAt} {e t}  (h : (State.smpCountsRead s a) = (e, t)) : t.fixed = s.fixed := by
  have := fx_State_smpCountsRead s a
  rw [h] at this; exact this
@[simp] theorem fx_State_smpStCountRead (s : State) (a : SmpAt) (c : Nat) : (State.smpStCountRead s a c).2.fixed = s.fixed := rfl
theorem fe_State_smpStCountRead {s : State} {a : SmpAt} {c : Nat} {e t}  (h : (State.smpStCountRead s a c) = (e, t)) : t.fixed = s.fixed := by
  have := fx_State_smpStCountRead s a c
  rw [h] at this; exact this
@[simp] theorem fx_State_smpAbandon (s : State) (a : SmpAt) (sels : List Selection) : (State.smpAbandon s a sels).fixed = s.fixed := by
  unfold State.smpAbandon; simp
@[simp] theorem fx_State_ctxResetWrite (s : State) (a : SmpAt) (v : W64) : (State.ctxResetWrite s a v).fixed = s.fixed := by
  unfold State.ctxResetWrite; simp
@[simp] theorem fx_State_smpCtrl (s : State) (a : SmpAt) (v : W64) : (State.smpCtrl s a v).fixed = s.fixed := by
  unfold State.smpCtrl; simp
@[simp] theorem fx_State_smpDropped (s : State) (p : DataPkt) : (State.smpDropped s p).fixed = s.fixed := by
  unfold State.smpDropped
  repeat' (first | with_reducible rfl | assumption | (simp only [fx_State_modSmp, fx_State_setSmpErr, fx_mk, fx_fold, fx_ite, fx_ite2, ite_self]; done) | split | (simp only [fx_State_modSmp, fx_State_setSmpErr, fx_mk, fx_fold, fx_ite, fx_ite2, ite_self]) | (intro _) | (rw [fx_foldl]) | (rw [fx_foldl2]) | (rw [fx_foldlp]) | rfl | (rename_i h; injection h with h; subst h) | (rename_i h; cases h; done) | grind | (simp_all +zetaDelta only [fx_State_modSmp, fx_State_setSmpErr, fx_mk, fx_fold, fx_ite, fx_ite2, ite_self]; done))

end Sys2Proof.Laws
end

