-- ==== Sys2Proof/Laws/FixedNet.lean ====
section
/-!
SUPPORT. No function of the panel changes a birth map, a keeper's identity or the queue (R33): packets, the waggle, the stores and the routers.
-/
set_option linter.unusedSimpArgs false

namespace Sys2Proof.Laws

open Sys2Proof.Machine

/-! ### Packets.lean -/

@[simp] theorem fx_State_rxRefuse (s : State) (c : CellAt) (p : DataPkt) (reason : Nat) (rxWin : Bool) : (State.rxRefuse s c p reason rxWin).fixed = s.fixed := by
  unfold State.rxRefuse; simp
@[simp] theorem fx_State_rxCell (s : State) (c : CellAt) (p : DataPkt) (n : Nat) (q : Right) (wide : Bool) (body : Nat → State → State) (h_body : ∀ y0 y1, (body y0 y1).fixed = State.fixed y1) : (State.rxCell s c p n q wide body).fixed = s.fixed := by
  unfold State.rxCell
  repeat' (first | with_reducible rfl | assumption | (simp only [fx_State_atCell, fx_State_rxRefuse, h_body, fx_mk, fx_fold, fx_ite, fx_ite2, ite_self]; done) | split | (simp only [fx_State_atCell, fx_State_rxRefuse, h_body, fx_mk, fx_fold, fx_ite, fx_ite2, ite_self]) | (intro _) | (rw [fx_foldl]) | (rw [fx_foldl2]) | (rw [fx_foldlp]) | (rw [fx_State_atCell]) | rfl | (rename_i h; injection h with h; subst h) | (rename_i h; cases h; done) | grind | (simp_all +zetaDelta only [fx_State_atCell, fx_State_rxRefuse, h_body, fx_mk, fx_fold, fx_ite, fx_ite2, ite_self]; done))
@[simp] theorem fx_State_rxKeeper (s : State) (h : Half) (p : DataPkt) (n : Nat) (body : Nat → State → State) (h_body : ∀ y0 y1, (body y0 y1).fixed = State.fixed y1) : (State.rxKeeper s h p n body).fixed = s.fixed := by
  unfold State.rxKeeper; simp [h_body]
@[simp] theorem fx_State_rxOther (s : State) (site ep : Nat) (p : DataPkt) : (State.rxOther s site ep p).fixed = s.fixed := by
  unfold State.rxOther
  repeat' (first | with_reducible rfl | assumption | (simp only [fx_State_arriveData, fx_State_nackData, fx_mk, fx_fold, fx_ite, fx_ite2, ite_self]; done) | split | (simp only [fx_State_arriveData, fx_State_nackData, fx_mk, fx_fold, fx_ite, fx_ite2, ite_self]) | (intro _) | (rw [fx_foldl]) | (rw [fx_foldl2]) | (rw [fx_foldlp]) | (rw [fx_State_arriveData]) | rfl | (rename_i h; injection h with h; subst h) | (rename_i h; cases h; done) | grind | (simp_all +zetaDelta only [fx_State_arriveData, fx_State_nackData, fx_mk, fx_fold, fx_ite, fx_ite2, ite_self]; done))
@[simp] theorem fx_State_rxUnit (s : State) (u : RegUnit) (p : DataPkt) (n : Nat) (q : Right) (wide : Bool) (body : CoreId → Nat → State → State) (h_body : ∀ y0 y1 y2, (body y0 y1 y2).fixed = State.fixed y2) : (State.rxUnit s u p n q wide body).fixed = s.fixed := by
  unfold State.rxUnit; split <;> simp [h_body]
@[simp] theorem fx_State_nbrAnswer (s : State) (site : Site) (l : NbrLine) (reason : Nat) : (State.nbrAnswer s site l reason).fixed = s.fixed := by
  unfold State.nbrAnswer; simp
@[simp] theorem fx_State_nbrDeliver (s : State) (c : CellAt) (l : NbrLine) : (State.nbrDeliver s c l).fixed = s.fixed := by
  unfold State.nbrDeliver; split <;> simp
@[simp] theorem fx_State_addRx (s : State) (i : CoreId) (p : DataPkt) : (State.addRx s i p).fixed = s.fixed := by
  unfold State.addRx; simp
@[simp] theorem fx_State_coreAck (s : State) (i : CoreId) (p : CtlPkt) : (State.coreAck s i p).fixed = s.fixed := by
  unfold State.coreAck
  repeat' (first | with_reducible rfl | assumption | (simp only [fx_State_ctlAtCore, fx_State_setExpect, fx_mk, fx_fold, fx_ite, fx_ite2, ite_self]; done) | split | (simp only [fx_State_ctlAtCore, fx_State_setExpect, fx_mk, fx_fold, fx_ite, fx_ite2, ite_self]) | (intro _) | (rw [fx_foldl]) | (rw [fx_foldl2]) | (rw [fx_foldlp]) | (rw [fx_State_ctlAtCore]) | rfl | (rename_i h; injection h with h; subst h) | (rename_i h; cases h; done) | grind | (simp_all +zetaDelta only [fx_State_ctlAtCore, fx_State_setExpect, fx_mk, fx_fold, fx_ite, fx_ite2, ite_self]; done))
@[simp] theorem fx_State_dataNack (s : State) (i : CoreId) (tag : BitVec 16) (reason : Nat) : (State.dataNack s i tag reason).fixed = s.fixed := by
  unfold State.dataNack; (repeat' split) <;> simp
@[simp] theorem fx_State_coreNack (s : State) (i : CoreId) (p : CtlPkt) : (State.coreNack s i p).fixed = s.fixed := by
  unfold State.coreNack; simp

/-! ### Waggle.lean -/

@[simp] theorem fx_State_modWag (s : State) (i : Site) (f : Waggle → Waggle) : (State.modWag s i f).fixed = s.fixed := rfl
@[simp] theorem fx_State_modMember (s : State) (i : CoreId) (key : Nat) (f : WagMember → WagMember) : (State.modMember s i key f).fixed = s.fixed := by
  unfold State.modMember; simp
@[simp] theorem fx_State_sendWag (s : State) (site : Nat) (input : Nat) (p : WagPkt) : (State.sendWag s site input p).fixed = s.fixed := rfl
@[simp] theorem fx_State_wagErr (s : State) (i : Site) (b : Nat) : (State.wagErr s i b).fixed = s.fixed := by
  unfold State.wagErr; simp
@[simp] theorem fx_State_wagUp (s : State) (i : Site) (op : Nat) (g seq status : Nat) (data : List W32) : (State.wagUp s i op g seq status data).fixed = s.fixed := by
  unfold State.wagUp
  repeat' (first | with_reducible rfl | assumption | (simp only [fx_State_sendWag, fx_mk, fx_fold, fx_ite, fx_ite2, ite_self]; done) | split | (simp only [fx_State_sendWag, fx_mk, fx_fold, fx_ite, fx_ite2, ite_self]) | (intro _) | (rw [fx_foldl]) | (rw [fx_foldl2]) | (rw [fx_foldlp]) | rfl | (rename_i h; injection h with h; subst h) | (rename_i h; cases h; done) | grind | (simp_all +zetaDelta only [fx_State_sendWag, fx_mk, fx_fold, fx_ite, fx_ite2, ite_self]; done))
@[simp] theorem fx_State_setOpen (s : State) (i : Site) (key : Nat) (o : Option WagOpen) : (State.setOpen s i key o).fixed = s.fixed := rfl
@[simp] theorem fx_State_wagTry (s : State) (i : Site) (g key : Nat) : (State.wagTry s i g key).fixed = s.fixed := by
  unfold State.wagTry; split <;> simp
@[simp] theorem fx_State_wagFail (s : State) (i : Site) (g key : Nat) (o : WagOpen) (status : Nat) : (State.wagFail s i g key o status).fixed = s.fixed := by
  unfold State.wagFail; simp
@[simp] theorem fx_State_wagContribute (s : State) (i : Site) (input : Nat) (p : WagPkt) : (State.wagContribute s i input p).fixed = s.fixed := by
  unfold State.wagContribute
  repeat' (first | with_reducible rfl | assumption | (simp only [fx_State_setOpen, fx_State_wagErr, fx_State_wagFail, fx_State_wagTry, fx_mk, fx_fold, fx_ite, fx_ite2, ite_self]; done) | split | (simp only [fx_State_setOpen, fx_State_wagErr, fx_State_wagFail, fx_State_wagTry, fx_mk, fx_fold, fx_ite, fx_ite2, ite_self]) | (intro _) | (rw [fx_foldl]) | (rw [fx_foldl2]) | (rw [fx_foldlp]) | rfl | (rename_i h; injection h with h; subst h) | (rename_i h; cases h; done) | grind | (simp_all +zetaDelta only [fx_State_setOpen, fx_State_wagErr, fx_State_wagFail, fx_State_wagTry, fx_mk, fx_fold, fx_ite, fx_ite2, ite_self]; done))
theorem fx_State_wagGood (s : State) (i : Site) (p : WagPkt) : ∀ t, (State.wagGood s i p) = some t → t.fixed = s.fixed := by
  unfold State.wagGood; (repeat' split) <;> simp
theorem fe_State_wagGood {s : State} {i : Site} {p : WagPkt} {t}  (h : (State.wagGood s i p) = some t) : t.fixed = s.fixed := fx_State_wagGood s i p t h
@[simp] theorem fx_State_takeWag (s : State) (site : Nat) (input : BitVec 3) (p : WagPkt) : (State.takeWag s site input p).fixed = s.fixed := rfl
@[simp] theorem fx_State_wagClose (s : State) (i : CoreId) (op g status : Nat) (v : W32) : (State.wagClose s i op g status v).fixed = s.fixed := by
  unfold State.wagClose; simp
@[simp] theorem fx_State_wagAnswer (s : State) (h : Half) (g status : Nat) (v : W32) : (State.wagAnswer s h g status v).fixed = s.fixed := by
  unfold State.wagAnswer; simp
@[simp] theorem fx_State_wagAbort (s : State) (i : CoreId) (op g : Nat) : (State.wagAbort s i op g).fixed = s.fixed := by
  unfold State.wagAbort; extract_lets; split <;> simp +zetaDelta
@[simp] theorem fx_State_abortGroup (s : State) (g : Nat) : (State.abortGroup s g).fixed = s.fixed := by
  unfold State.abortGroup
  rw [fx_foldl _ _ _ (fun s i => by split <;> simp)]
  rfl
@[simp] theorem fx_State_wagPass (s : State) (i : Site) (p : WagPkt) : (State.wagPass s i p).fixed = s.fixed := by
  unfold State.wagPass
  repeat' (first | with_reducible rfl | assumption | (simp only [fx_State_sendWag, fx_mk, fx_fold, fx_ite, fx_ite2, ite_self]; done) | split | (simp only [fx_State_sendWag, fx_mk, fx_fold, fx_ite, fx_ite2, ite_self]) | (intro _) | (rw [fx_foldl]) | (rw [fx_foldl2]) | (rw [fx_foldlp]) | rfl | (rename_i h; injection h with h; subst h) | (rename_i h; cases h; done) | grind | (simp_all +zetaDelta only [fx_State_sendWag, fx_mk, fx_fold, fx_ite, fx_ite2, ite_self]; done))
@[simp] theorem fx_State_modUnitEpoch (s : State) (i : Site) (u : Nat) (f : UnitEpoch → UnitEpoch) : (State.modUnitEpoch s i u f).fixed = s.fixed := by
  unfold State.modUnitEpoch; simp
@[simp] theorem fx_State_wagRequest (s : State) (i : Site) (p : WagPkt) : (State.wagRequest s i p).fixed = s.fixed := by
  unfold State.wagRequest; split <;> simp
@[simp] theorem fx_State_wgoSend (s : State) (i : CoreId) (g op : Nat) (data : List W32) : (State.wgoSend s i g op data).fixed = s.fixed := by
  unfold State.wgoSend; split <;> simp
@[simp] theorem fx_State_wgoMemberOp (s : State) (a : At) (rd : Reg) (g : Nat) (w : W32) (x : W64) : (State.wgoMemberOp s a rd g w x).fixed = s.fixed := by
  unfold State.wgoMemberOp
  repeat' (first | with_reducible rfl | assumption | (simp only [fx_State_modMember, fx_State_setRd, fx_State_waitFor, fx_State_wgoSend, fx_mk, fx_fold, fx_ite, fx_ite2, ite_self]; done) | split | (simp only [fx_State_modMember, fx_State_setRd, fx_State_waitFor, fx_State_wgoSend, fx_mk, fx_fold, fx_ite, fx_ite2, ite_self]) | (intro _) | (rw [fx_foldl]) | (rw [fx_foldl2]) | (rw [fx_foldlp]) | rfl | (rename_i h; injection h with h; subst h) | (rename_i h; cases h; done) | grind | (simp_all +zetaDelta only [fx_State_modMember, fx_State_setRd, fx_State_waitFor, fx_State_wgoSend, fx_mk, fx_fold, fx_ite, fx_ite2, ite_self]; done))
@[simp] theorem fx_State_wgoSolicit (s : State) (a : At) (h : Half) (rd : Reg) (g op : Nat) (w : W32) (x : W64) : (State.wgoSolicit s a h rd g op w x).fixed = s.fixed := by
  unfold State.wgoSolicit; split <;> simp
@[simp] theorem fx_State_wgoAbort (s : State) (a : At) (h : Half) (rd : Reg) (g : Nat) : (State.wgoAbort s a h rd g).fixed = s.fixed := by
  unfold State.wgoAbort; split <;> simp
@[simp] theorem fx_State_wgo (s : State) (a : At) (f : OpRRf) (row : Nat) : (State.wgo s a f row).fixed = s.fixed := by
  unfold State.wgo; split <;> simp
@[simp] theorem fx_State_swapUnit (s : State) (i : Site) (u : Nat) : (State.swapUnit s i u).fixed = s.fixed := by
  unfold State.swapUnit
  repeat' (first | with_reducible rfl | assumption | (simp only [fx_State_modUnitEpoch, fx_State_wagContribute, fx_mk, fx_fold, fx_ite, fx_ite2, ite_self]; done) | split | (simp only [fx_State_modUnitEpoch, fx_State_wagContribute, fx_mk, fx_fold, fx_ite, fx_ite2, ite_self]) | (intro _) | (rw [fx_foldl]) | (rw [fx_foldl2]) | (rw [fx_foldlp]) | rfl | (rename_i h; injection h with h; subst h) | (rename_i h; cases h; done) | grind | (simp_all +zetaDelta only [fx_State_modUnitEpoch, fx_State_wagContribute, fx_mk, fx_fold, fx_ite, fx_ite2, ite_self]; done))
@[simp] theorem fx_State_wagParentWrite (s : State) (i : Site) (v : W64) : (State.wagParentWrite s i v).fixed = s.fixed := by
  unfold State.wagParentWrite; simp
@[simp] theorem fx_State_wagGroupWrite (s : State) (i : Site) (g : Nat) (v : W64) : (State.wagGroupWrite s i g v).fixed = s.fixed := by
  unfold State.wagGroupWrite; simp
@[simp] theorem fx_State_wagRegWrite (s : State) (i : Site) (off : Nat) (v : W64) : (State.wagRegWrite s i off v).fixed = s.fixed := by
  unfold State.wagRegWrite; simp

/-! ### StoreOps.lean -/

@[simp] theorem fx_State_setStore (s : State) (n : Nat) (x : Store) : (State.setStore s n x).fixed = s.fixed := rfl
@[simp] theorem fx_State_modStore (s : State) (n : Nat) (f : Store → Store) : (State.modStore s n f).fixed = s.fixed := rfl
@[simp] theorem fx_State_storeRec (s : State) (n : Nat) (code sev : Nat) (addr info0 info1 : W64) : (State.storeRec s n code sev addr info0 info1).fixed = s.fixed := rfl
@[simp] theorem fx_State_setStbErr (s : State) (n b : Nat) : (State.setStbErr s n b).fixed = s.fixed := by
  unfold State.setStbErr; simp
@[simp] theorem fx_State_shardDone (s : State) (n : Nat) (c : Chunk) (status : Nat) : (State.shardDone s n c status).fixed = s.fixed := rfl
@[simp] theorem fx_State_fenceStore (s : State) (n : Nat) : (State.fenceStore s n).fixed = s.fixed := by
  unfold State.fenceStore
  repeat' (first | with_reducible rfl | assumption | (simp only [fx_State_modStore, fx_State_setStbErr, fx_State_shardDone, fx_mk, fx_fold, fx_ite, fx_ite2, ite_self]; done) | split | (simp only [fx_State_modStore, fx_State_setStbErr, fx_State_shardDone, fx_mk, fx_fold, fx_ite, fx_ite2, ite_self]) | (intro _) | (rw [fx_foldl]) | (rw [fx_foldl2]) | (rw [fx_foldlp]) | rfl | (rename_i h; injection h with h; subst h) | (rename_i h; cases h; done) | grind | (simp_all +zetaDelta only [fx_State_modStore, fx_State_setStbErr, fx_State_shardDone, fx_mk, fx_fold, fx_ite, fx_ite2, ite_self]; done))
@[simp] theorem fx_State_repairRow (s : State) (n g : Nat) : (State.repairRow s n g).fixed = s.fixed := by
  unfold State.repairRow; simp
@[simp] theorem fx_State_storeUe (s : State) (n g : Nat) : (State.storeUe s n g).fixed = s.fixed := by
  unfold State.storeUe; simp
@[simp] theorem fx_State_storeCe (s : State) (n g : Nat) : (State.storeCe s n g).fixed = s.fixed := by
  unfold State.storeCe; simp
@[simp] theorem fx_State_storeTouch (s : State) (n a len : Nat) : (State.storeTouch s n a len).2.fixed = s.fixed := by
  unfold State.storeTouch
  exact fx_foldl _ _ _ (fun s g => by (repeat' split) <;> simp)
theorem fe_State_storeTouch {s : State} {n a len : Nat} {e t}  (h : (State.storeTouch s n a len) = (e, t)) : t.fixed = s.fixed := by
  have := fx_State_storeTouch s n a len
  rw [h] at this; exact this
theorem fx_State_storeRead (s : State) (n a len : Nat) : (State.storeRead s n a len).2.fixed = s.fixed := by
  unfold State.storeRead; simp
theorem fe_State_storeRead {s : State} {n a len : Nat} {e t}  (h : (State.storeRead s n a len) = (e, t)) : t.fixed = s.fixed := by
  have := fx_State_storeRead s n a len
  rw [h] at this; exact this
@[simp] theorem fx_State_atStore (s : State) (n : Nat) (p : DataPkt) (body : Eid → State → State) (h_body : ∀ y0 y1, (body y0 y1).fixed = State.fixed y1) : (State.atStore s n p body).fixed = s.fixed := by
  unfold State.atStore
  repeat' (first | with_reducible rfl | assumption | (simp only [fx_State_arriveData, fx_State_nackData, h_body, fx_mk, fx_fold, fx_ite, fx_ite2, ite_self]; done) | split | (simp only [fx_State_arriveData, fx_State_nackData, h_body, fx_mk, fx_fold, fx_ite, fx_ite2, ite_self]) | (intro _) | (rw [fx_foldl]) | (rw [fx_foldl2]) | (rw [fx_foldlp]) | (rw [fx_State_arriveData]) | rfl | (rename_i h; injection h with h; subst h) | (rename_i h; cases h; done) | grind | (simp_all +zetaDelta only [fx_State_arriveData, fx_State_nackData, h_body, fx_mk, fx_fold, fx_ite, fx_ite2, ite_self]; done))
theorem fx_State_gatherRead (n l : Nat) (z0 : List Nat) (z1 : State) : (State.gatherRead n l z0 z1).2.fixed = z1.fixed := by
  fun_induction State.gatherRead n l z0 z1
  all_goals
    repeat' (first | with_reducible rfl | assumption | (simp only [*, fx_State_storeRead, fx_mk, fx_fold, fx_ite, fx_ite2, ite_self]; done) | (simp +zetaDelta only [*, fx_State_storeRead, fx_mk, fx_fold, fx_ite, fx_ite2, ite_self]; done) | split | (simp only [*, fx_State_storeRead, fx_mk, fx_fold, fx_ite, fx_ite2, ite_self]) | (simp +zetaDelta only [*, fx_State_storeRead, fx_mk, fx_fold, fx_ite, fx_ite2, ite_self]) | (intro _) | exact fe_State_storeRead (by assumption) | (refine Eq.trans ?_ (fe_State_storeRead (by assumption))) | (rw [fx_foldl]) | (rw [fx_foldl2]) | (rw [fx_foldlp]) | rfl | (rename_i h; injection h with h; subst h) | (rename_i h; cases h; done) | grind | (simp_all +zetaDelta only [fx_State_storeRead, fx_mk, fx_fold, fx_ite, fx_ite2, ite_self]; done) | (refine (fe_State_storeRead (by assumption)).trans ?_))
theorem fe_State_gatherRead {n l : Nat} {z0 : List Nat} {z1 : State} {e t}  (h : (State.gatherRead n l z0 z1) = (e, t)) : t.fixed = z1.fixed := by
  have := fx_State_gatherRead n l z0 z1
  rw [h] at this; exact this
@[simp] theorem fx_State_sendLinesOf (n : Nat) (ep : Eid) (p : DataPkt) (z0 : Nat) (z1 : Nat) (z2 : List Byte) (z3 : State) : (State.sendLinesOf n ep p z0 z1 z2 z3).fixed = z3.fixed := by
  fun_induction State.sendLinesOf n ep p z0 z1 z2 z3
  all_goals
    repeat' (first | with_reducible rfl | assumption | (simp only [*, fx_State_sendData, fx_mk, fx_fold, fx_ite, fx_ite2, ite_self]; done) | (simp +zetaDelta only [*, fx_State_sendData, fx_mk, fx_fold, fx_ite, fx_ite2, ite_self]; done) | split | (simp only [*, fx_State_sendData, fx_mk, fx_fold, fx_ite, fx_ite2, ite_self]) | (simp +zetaDelta only [*, fx_State_sendData, fx_mk, fx_fold, fx_ite, fx_ite2, ite_self]) | (intro _) | (rw [fx_foldl]) | (rw [fx_foldl2]) | (rw [fx_foldlp]) | rfl | (rename_i h; injection h with h; subst h) | (rename_i h; cases h; done) | grind | (simp_all +zetaDelta only [fx_State_sendData, fx_mk, fx_fold, fx_ite, fx_ite2, ite_self]; done))
@[simp] theorem fx_State_landGather (i : CoreId) (a l : Nat) (entries : List Nat) (z0 : Nat) (z1 : List W32) (z2 : Nat) (z3 : State) : (State.landGather i a l entries z0 z1 z2 z3).fixed = z3.fixed := by
  fun_induction State.landGather i a l entries z0 z1 z2 z3
  all_goals
    repeat' (first | with_reducible rfl | assumption | (simp only [*, fx_State_memWrite, fx_mk, fx_fold, fx_ite, fx_ite2, ite_self]; done) | (simp +zetaDelta only [*, fx_State_memWrite, fx_mk, fx_fold, fx_ite, fx_ite2, ite_self]; done) | split | (simp only [*, fx_State_memWrite, fx_mk, fx_fold, fx_ite, fx_ite2, ite_self]) | (simp +zetaDelta only [*, fx_State_memWrite, fx_mk, fx_fold, fx_ite, fx_ite2, ite_self]) | (intro _) | (rw [fx_foldl]) | (rw [fx_foldl2]) | (rw [fx_foldlp]) | rfl | (rename_i h; injection h with h; subst h) | (rename_i h; cases h; done) | grind | (simp_all +zetaDelta only [fx_State_memWrite, fx_mk, fx_fold, fx_ite, fx_ite2, ite_self]; done))

/-! ### KvGather.lean -/

@[simp] theorem fx_State_kvPort (s : State) (n : Nat) (target : Eid) : (State.kvPort s n target).2.fixed = s.fixed := by
  unfold State.kvPort; simp
theorem fe_State_kvPort {s : State} {n : Nat} {target : Eid} {e t}  (h : (State.kvPort s n target) = (e, t)) : t.fixed = s.fixed := by
  have := fx_State_kvPort s n target
  rw [h] at this; exact this
@[simp] theorem fx_State_kvSend (s : State) (n c entry type : Nat) (target : Eid) (addr : Nat) (ws : List W32) : (State.kvSend s n c entry type target addr ws).fixed = s.fixed := by
  unfold State.kvSend; simp
@[simp] theorem fx_State_kvLines (n c entry : Nat) (target : Eid) (z0 : Nat) (z1 : Nat) (z2 : List W32) (z3 : State) : (State.kvLines n c entry target z0 z1 z2 z3).fixed = z3.fixed := by
  fun_induction State.kvLines n c entry target z0 z1 z2 z3
  all_goals
    repeat' (first | with_reducible rfl | assumption | (simp only [*, fx_State_kvSend, fx_mk, fx_fold, fx_ite, fx_ite2, ite_self]; done) | (simp +zetaDelta only [*, fx_State_kvSend, fx_mk, fx_fold, fx_ite, fx_ite2, ite_self]; done) | split | (simp only [*, fx_State_kvSend, fx_mk, fx_fold, fx_ite, fx_ite2, ite_self]) | (simp +zetaDelta only [*, fx_State_kvSend, fx_mk, fx_fold, fx_ite, fx_ite2, ite_self]) | (intro _) | (rw [fx_foldl]) | (rw [fx_foldl2]) | (rw [fx_foldlp]) | rfl | (rename_i h; injection h with h; subst h) | (rename_i h; cases h; done) | grind | (simp_all +zetaDelta only [fx_State_kvSend, fx_mk, fx_fold, fx_ite, fx_ite2, ite_self]; done))
@[simp] theorem fx_State_modKv (s : State) (n c entry : Nat) (f : KvOpen → KvOpen) : (State.modKv s n c entry f).fixed = s.fixed := rfl
theorem fx_State_readPages (n : Nat) (z0 : List Nat) (z1 : State) : (State.readPages n z0 z1).2.fixed = z1.fixed := by
  fun_induction State.readPages n z0 z1
  all_goals
    repeat' (first | with_reducible rfl | assumption | (simp only [*, fx_State_storeRead, fx_mk, fx_fold, fx_ite, fx_ite2, ite_self]; done) | (simp +zetaDelta only [*, fx_State_storeRead, fx_mk, fx_fold, fx_ite, fx_ite2, ite_self]; done) | split | (simp only [*, fx_State_storeRead, fx_mk, fx_fold, fx_ite, fx_ite2, ite_self]) | (simp +zetaDelta only [*, fx_State_storeRead, fx_mk, fx_fold, fx_ite, fx_ite2, ite_self]) | (intro _) | exact fe_State_storeRead (by assumption) | (refine Eq.trans ?_ (fe_State_storeRead (by assumption))) | (rw [fx_foldl]) | (rw [fx_foldl2]) | (rw [fx_foldlp]) | rfl | (rename_i h; injection h with h; subst h) | (rename_i h; cases h; done) | grind | (simp_all +zetaDelta only [fx_State_storeRead, fx_mk, fx_fold, fx_ite, fx_ite2, ite_self]; done) | (refine (fe_State_storeRead (by assumption)).trans ?_))
theorem fe_State_readPages {n : Nat} {z0 : List Nat} {z1 : State} {e t}  (h : (State.readPages n z0 z1) = (e, t)) : t.fixed = z1.fixed := by
  have := fx_State_readPages n z0 z1
  rw [h] at this; exact this
@[simp] theorem fx_State_kvBlocks (n c entry : Nat) (target : Eid) (f : KvFmt) (dir lg first raddr : Nat) (z0 : Nat) (z1 : Nat) (z2 : State) : (State.kvBlocks n c entry target f dir lg first raddr z0 z1 z2).fixed = z2.fixed := by
  fun_induction State.kvBlocks n c entry target f dir lg first raddr z0 z1 z2
  all_goals
    repeat' (first | with_reducible rfl | assumption | (simp only [*, fx_State_kvLines, fx_State_modKv, fx_State_readPages, fx_State_storeUe, fx_mk, fx_fold, fx_ite, fx_ite2, ite_self]; done) | (simp +zetaDelta only [*, fx_State_kvLines, fx_State_modKv, fx_State_readPages, fx_State_storeUe, fx_mk, fx_fold, fx_ite, fx_ite2, ite_self]; done) | split | (simp only [*, fx_State_kvLines, fx_State_modKv, fx_State_readPages, fx_State_storeUe, fx_mk, fx_fold, fx_ite, fx_ite2, ite_self]) | (simp +zetaDelta only [*, fx_State_kvLines, fx_State_modKv, fx_State_readPages, fx_State_storeUe, fx_mk, fx_fold, fx_ite, fx_ite2, ite_self]) | (intro _) | exact fe_State_readPages (by assumption) | (refine Eq.trans ?_ (fe_State_readPages (by assumption))) | (rw [fx_foldl]) | (rw [fx_foldl2]) | (rw [fx_foldlp]) | rfl | (rename_i h; injection h with h; subst h) | (rename_i h; cases h; done) | grind | (simp_all +zetaDelta only [fx_State_kvLines, fx_State_modKv, fx_State_readPages, fx_State_storeUe, fx_mk, fx_fold, fx_ite, fx_ite2, ite_self]; done) | (refine (fe_State_readPages (by assumption)).trans ?_))
@[simp] theorem fx_State_kvStart (s : State) (n c e : Nat) : (State.kvStart s n c e).fixed = s.fixed := by
  unfold State.kvStart
  repeat' (first | with_reducible rfl | assumption | (simp only [fx_State_kvBlocks, fx_State_modStore, fx_mk, fx_fold, fx_ite, fx_ite2, ite_self]; done) | split | (simp only [fx_State_kvBlocks, fx_State_modStore, fx_mk, fx_fold, fx_ite, fx_ite2, ite_self]) | (intro _) | (rw [fx_foldl]) | (rw [fx_foldl2]) | (rw [fx_foldlp]) | rfl | (rename_i h; injection h with h; subst h) | (rename_i h; cases h; done) | grind | (simp_all +zetaDelta only [fx_State_kvBlocks, fx_State_modStore, fx_mk, fx_fold, fx_ite, fx_ite2, ite_self]; done))
@[simp] theorem fx_State_kvTake (n c : Nat) (z0 : Nat) (z1 : State) : (State.kvTake n c z0 z1).fixed = z1.fixed := by
  fun_induction State.kvTake n c z0 z1
  all_goals
    repeat' (first | with_reducible rfl | assumption | (simp only [*, fx_State_kvStart, fx_State_modStore, fx_mk, fx_fold, fx_ite, fx_ite2, ite_self]; done) | (simp +zetaDelta only [*, fx_State_kvStart, fx_State_modStore, fx_mk, fx_fold, fx_ite, fx_ite2, ite_self]; done) | split | (simp only [*, fx_State_kvStart, fx_State_modStore, fx_mk, fx_fold, fx_ite, fx_ite2, ite_self]) | (simp +zetaDelta only [*, fx_State_kvStart, fx_State_modStore, fx_mk, fx_fold, fx_ite, fx_ite2, ite_self]) | (intro _) | (rw [fx_foldl]) | (rw [fx_foldl2]) | (rw [fx_foldlp]) | rfl | (rename_i h; injection h with h; subst h) | (rename_i h; cases h; done) | grind | (simp_all +zetaDelta only [fx_State_kvStart, fx_State_modStore, fx_mk, fx_fold, fx_ite, fx_ite2, ite_self]; done))
@[simp] theorem fx_State_kvPoll (s : State) (n c : Nat) : (State.kvPoll s n c).fixed = s.fixed := by
  unfold State.kvPoll; simp
@[simp] theorem fx_State_kvAck (s : State) (n : Nat) (tag : BitVec 16) : (State.kvAck s n tag).fixed = s.fixed := rfl
@[simp] theorem fx_State_kvNack (s : State) (n : Nat) (tag : BitVec 16) : (State.kvNack s n tag).fixed = s.fixed := rfl

/-! ### Router.lean -/

@[simp] theorem fx_State_routerNackData (s : State) (i : Site) (p : DataPkt) (reason : Nat) : (State.routerNackData s i p reason).fixed = s.fixed := rfl
@[simp] theorem fx_State_routerNackCtl (s : State) (i : Site) (p : CtlPkt) (reason : Nat) : (State.routerNackCtl s i p reason).fixed = s.fixed := by
  unfold State.routerNackCtl; simp
@[simp] theorem fx_State_modLink (s : State) (i : Site) (k : Nat) (f : Link → Link) : (State.modLink s i k f).fixed = s.fixed := rfl
@[simp] theorem fx_State_hopData (s : State) (i : Site) (ph : Phys) (p : DataPkt) : (State.hopData s i ph p).fixed = s.fixed := by
  unfold State.hopData; (repeat' split) <;> simp
@[simp] theorem fx_State_hopCtl (s : State) (i : Site) (ph : Phys) (p : CtlPkt) : (State.hopCtl s i ph p).fixed = s.fixed := by
  unfold State.hopCtl; (repeat' split) <;> simp
@[simp] theorem fx_State_routerBadWr (s : State) (i : Site) : (State.routerBadWr s i).fixed = s.fixed := by
  unfold State.routerBadWr; simp
@[simp] theorem fx_State_rtrAddrWrite (s : State) (i : Site) (v : W64) : (State.rtrAddrWrite s i v).fixed = s.fixed := by
  unfold State.rtrAddrWrite; simp
@[simp] theorem fx_State_rtrDataWrite (s : State) (i : Site) (v : W64) (keeper : Bool) : (State.rtrDataWrite s i v keeper).fixed = s.fixed := by
  unfold State.rtrDataWrite; simp
@[simp] theorem fx_State_rtrDataRead (s : State) (i : Site) : (State.rtrDataRead s i).2.fixed = s.fixed := rfl
theorem fe_State_rtrDataRead {s : State} {i : Site} {e t}  (h : (State.rtrDataRead s i) = (e, t)) : t.fixed = s.fixed := by
  have := fx_State_rtrDataRead s i
  rw [h] at this; exact this
@[simp] theorem fx_State_rtrCountersRead (s : State) (i : Site) : (State.rtrCountersRead s i).2.fixed = s.fixed := rfl
theorem fe_State_rtrCountersRead {s : State} {i : Site} {e t}  (h : (State.rtrCountersRead s i) = (e, t)) : t.fixed = s.fixed := by
  have := fx_State_rtrCountersRead s i
  rw [h] at this; exact this
@[simp] theorem fx_State_rtrHoldWrite (s : State) (i : Site) (v : W64) : (State.rtrHoldWrite s i v).fixed = s.fixed := by
  unfold State.rtrHoldWrite; simp
@[simp] theorem fx_State_routerRegWrite (s : State) (i : Site) (off : Nat) (v : W64) (keeper : Bool) : (State.routerRegWrite s i off v keeper).fixed = s.fixed := by
  unfold State.routerRegWrite; simp
@[simp] theorem fx_State_routerRegRead (s : State) (i : Site) (off : Nat) : (State.routerRegRead s i off).2.fixed = s.fixed := by
  unfold State.routerRegRead; simp
theorem fe_State_routerRegRead {s : State} {i : Site} {off : Nat} {e t}  (h : (State.routerRegRead s i off) = (e, t)) : t.fixed = s.fixed := by
  have := fx_State_routerRegRead s i off
  rw [h] at this; exact this

/-! ### Shard.lean -/

@[simp] theorem fx_State_chunkFail (s : State) (n : Nat) (c : Chunk) (cause : Nat) : (State.chunkFail s n c cause).fixed = s.fixed := by
  unfold State.chunkFail; simp
@[simp] theorem fx_State_shardLine (s : State) (n : Nat) (src : Eid) (rid : Nat) (l : Nat × List W32) : (State.shardLine s n src rid l).fixed = s.fixed := by
  unfold State.shardLine; split <;> simp
@[simp] theorem fx_State_landChunk (s : State) (n : Nat) (c : Chunk) : (State.landChunk s n c).fixed = s.fixed := by
  unfold State.landChunk
  repeat' (first | with_reducible rfl | assumption | (simp only [fx_State_chunkFail, fx_State_modStore, fx_State_shardDone, fx_mk, fx_fold, fx_ite, fx_ite2, ite_self]; done) | split | (simp only [fx_State_chunkFail, fx_State_modStore, fx_State_shardDone, fx_mk, fx_fold, fx_ite, fx_ite2, ite_self]) | (intro _) | (rw [fx_foldl]) | (rw [fx_foldl2]) | (rw [fx_foldlp]) | rfl | (rename_i h; injection h with h; subst h) | (rename_i h; cases h; done) | grind | (simp_all +zetaDelta only [fx_State_chunkFail, fx_State_modStore, fx_State_shardDone, fx_mk, fx_fold, fx_ite, fx_ite2, ite_self]; done))
@[simp] theorem fx_State_modPort (s : State) (i : Site) (pr : Nat) (f : PortRouter → PortRouter) : (State.modPort s i pr f).fixed = s.fixed := rfl
@[simp] theorem fx_State_sendLane (s : State) (i : Site) (pr : Nat) (p : DataPkt) : (State.sendLane s i pr p).fixed = s.fixed := rfl
@[simp] theorem fx_State_forward (s : State) (i : Site) (pr : Nat) (f : Fetch) (d : Nat × List W32) : (State.forward s i pr f d).fixed = s.fixed := rfl
@[simp] theorem fx_State_endFetch (s : State) (i : Site) (pr : Nat) (f : Fetch) (status : Nat) : (State.endFetch s i pr f status).fixed = s.fixed := rfl
@[simp] theorem fx_State_setFetch (s : State) (i : Site) (pr : Nat) (f g : Fetch) : (State.setFetch s i pr f g).fixed = s.fixed := rfl
@[simp] theorem fx_State_portAck (s : State) (i : Site) (pr rid : Nat) : (State.portAck s i pr rid).fixed = s.fixed := by
  unfold State.portAck
  repeat' (first | with_reducible rfl | assumption | (simp only [fx_State_endFetch, fx_State_fetch, fx_State_forward, fx_State_setFetch, fx_mk, fx_fold, fx_ite, fx_ite2, ite_self]; done) | split | (simp only [fx_State_endFetch, fx_State_fetch, fx_State_forward, fx_State_setFetch, fx_mk, fx_fold, fx_ite, fx_ite2, ite_self]) | (intro _) | exact fe_State_fetch (by assumption) | (refine Eq.trans ?_ (fe_State_fetch (by assumption))) | (rw [fx_foldl]) | (rw [fx_foldl2]) | (rw [fx_foldlp]) | rfl | (rename_i h; injection h with h; subst h) | (rename_i h; cases h; done) | grind | (simp_all +zetaDelta only [fx_State_endFetch, fx_State_fetch, fx_State_forward, fx_State_setFetch, fx_mk, fx_fold, fx_ite, fx_ite2, ite_self]; done) | (refine (fe_State_fetch (by assumption)).trans ?_))
@[simp] theorem fx_State_portNack (s : State) (i : Site) (pr rid reason : Nat) : (State.portNack s i pr rid reason).fixed = s.fixed := by
  unfold State.portNack; split <;> simp

/-! ### Answers.lean -/

@[simp] theorem fx_State_ctlAtStore (s : State) (n : Nat) (p : CtlPkt) (body : State → State) (h_body : ∀ y0, (body y0).fixed = State.fixed y0) : (State.ctlAtStore s n p body).fixed = s.fixed := by
  unfold State.ctlAtStore; simp [h_body]
@[simp] theorem fx_State_ctlAtPort (s : State) (i : Site) (pr : Nat) (p : CtlPkt) (body : State → State) (h_body : ∀ y0, (body y0).fixed = State.fixed y0) : (State.ctlAtPort s i pr p body).fixed = s.fixed := by
  unfold State.ctlAtPort; simp [h_body]

/-! ### StoreRegs.lean -/

@[simp] theorem fx_State_storeTest (s : State) (n : Nat) : (State.storeTest s n).fixed = s.fixed := rfl
@[simp] theorem fx_State_stbCtrl (s : State) (n : Nat) (v : W64) : (State.stbCtrl s n v).fixed = s.fixed := by
  unfold State.stbCtrl; simp
@[simp] theorem fx_State_stbZero (s : State) (n : Nat) (v : W64) : (State.stbZero s n v).fixed = s.fixed := by
  unfold State.stbZero; simp
@[simp] theorem fx_State_stbDigest (s : State) (n k : Nat) (v : W64) : (State.stbDigest s n k v).fixed = s.fixed := by
  unfold State.stbDigest; simp
@[simp] theorem fx_State_drawBytes (z0 : Nat) (z1 : State) : (State.drawBytes z0 z1).2.fixed = z1.fixed := by
  fun_induction State.drawBytes z0 z1
  all_goals
    repeat' (first | with_reducible rfl | assumption | (simp only [*, fx_State_draw, fx_mk, fx_fold, fx_ite, fx_ite2, ite_self]; done) | (simp +zetaDelta only [*, fx_State_draw, fx_mk, fx_fold, fx_ite, fx_ite2, ite_self]; done) | split | (simp only [*, fx_State_draw, fx_mk, fx_fold, fx_ite, fx_ite2, ite_self]) | (simp +zetaDelta only [*, fx_State_draw, fx_mk, fx_fold, fx_ite, fx_ite2, ite_self]) | (intro _) | exact fe_State_draw (by assumption) | (refine Eq.trans ?_ (fe_State_draw (by assumption))) | (rw [fx_foldl]) | (rw [fx_foldl2]) | (rw [fx_foldlp]) | rfl | (rename_i h; injection h with h; subst h) | (rename_i h; cases h; done) | grind | (simp_all +zetaDelta only [fx_State_draw, fx_mk, fx_fold, fx_ite, fx_ite2, ite_self]; done) | (refine (fe_State_draw (by assumption)).trans ?_))
theorem fe_State_drawBytes {z0 : Nat} {z1 : State} {e t}  (h : (State.drawBytes z0 z1) = (e, t)) : t.fixed = z1.fixed := by
  have := fx_State_drawBytes z0 z1
  rw [h] at this; exact this
@[simp] theorem fx_State_stbExt (s : State) (n c : Nat) (v : W64) : (State.stbExt s n c v).fixed = s.fixed := by
  unfold State.stbExt; simp
@[simp] theorem fx_State_stbKvq (s : State) (n c : Nat) (v : W64) : (State.stbKvq s n c v).fixed = s.fixed := by
  unfold State.stbKvq; simp
@[simp] theorem fx_State_stbEccRead (s : State) (n : Nat) : (State.stbEccRead s n).2.fixed = s.fixed := rfl
theorem fe_State_stbEccRead {s : State} {n : Nat} {e t}  (h : (State.stbEccRead s n) = (e, t)) : t.fixed = s.fixed := by
  have := fx_State_stbEccRead s n
  rw [h] at this; exact this
@[simp] theorem fx_State_stbScrub (s : State) (n : Nat) (v : W64) : (State.stbScrub s n v).fixed = s.fixed := by
  unfold State.stbScrub; simp
@[simp] theorem fx_State_stbWrite (s : State) (n off : Nat) (v : W64) : (State.stbWrite s n off v).fixed = s.fixed := by
  unfold State.stbWrite; simp
@[simp] theorem fx_State_stbRead (s : State) (n off : Nat) : (State.stbRead s n off).2.fixed = s.fixed := by
  unfold State.stbRead; simp
theorem fe_State_stbRead {s : State} {n off : Nat} {e t}  (h : (State.stbRead s n off) = (e, t)) : t.fixed = s.fixed := by
  have := fx_State_stbRead s n off
  rw [h] at this; exact this

/-! ### RankRegs.lean -/

@[simp] theorem fx_State_modRanks (s : State) (i : Site) (f : Ranks → Ranks) : (State.modRanks s i f).fixed = s.fixed := rfl
@[simp] theorem fx_State_rnkBad (s : State) (i : Site) (static : Bool) : (State.rnkBad s i static).fixed = s.fixed := by
  unfold State.rnkBad; simp
@[simp] theorem fx_State_rnkDirWrite (s : State) (i : Site) (c : Nat) (v : W64) : (State.rnkDirWrite s i c v).fixed = s.fixed := by
  unfold State.rnkDirWrite; simp
@[simp] theorem fx_State_rnkDataWrite (s : State) (i : Site) (v : W64) : (State.rnkDataWrite s i v).fixed = s.fixed := by
  unfold State.rnkDataWrite; simp
@[simp] theorem fx_State_rnkDataRead (s : State) (i : Site) : (State.rnkDataRead s i).2.fixed = s.fixed := rfl
theorem fe_State_rnkDataRead {s : State} {i : Site} {e t}  (h : (State.rnkDataRead s i) = (e, t)) : t.fixed = s.fixed := by
  have := fx_State_rnkDataRead s i
  rw [h] at this; exact this
@[simp] theorem fx_State_rnkRead (s : State) (i : Site) (off : Nat) : (State.rnkRead s i off).2.fixed = s.fixed := by
  unfold State.rnkRead; simp
theorem fe_State_rnkRead {s : State} {i : Site} {off : Nat} {e t}  (h : (State.rnkRead s i off) = (e, t)) : t.fixed = s.fixed := by
  have := fx_State_rnkRead s i off
  rw [h] at this; exact this
@[simp] theorem fx_State_rnkWrite (s : State) (i : Site) (off : Nat) (v : W64) : (State.rnkWrite s i off v).fixed = s.fixed := by
  unfold State.rnkWrite; simp

end Sys2Proof.Laws
end

