-- ==== Sys2Proof/Laws/FixedColony.lean ====
section
/-!
SUPPORT. No function of the panel changes a birth map, a keeper's identity or the queue (R33): management requests, sessions, colonies and weights.
-/
set_option linter.unusedSimpArgs false

namespace Sys2Proof.Laws

open Sys2Proof.Machine

/-! ### Mgmt.lean -/

@[simp] theorem fx_State_modMgmt (s : State) (f : Mgmt → Mgmt) : (State.modMgmt s f).fixed = s.fixed := rfl
@[simp] theorem fx_State_setObj (s : State) (key : Nat) (v : List Byte) : (State.setObj s key v).fixed = s.fixed := rfl
@[simp] theorem fx_State_burn (s : State) (key : Nat) (v : List Byte) : (State.burn s key v).fixed = s.fixed := rfl
@[simp] theorem fx_State_putStored (s : State) (key : Nat) (v : List Byte) (after : State → State) (h_after : ∀ y0, (after y0).fixed = State.fixed y0) : (State.putStored s key v after).2.fixed = s.fixed := by
  unfold State.putStored; simp [h_after]
theorem fe_State_putStored {s : State} {key : Nat} {v : List Byte} {after : State → State} {e t} (h_after : ∀ y0, (after y0).fixed = State.fixed y0) (h : (State.putStored s key v after) = (e, t)) : t.fixed = s.fixed := by
  have := fx_State_putStored s key v after h_after
  rw [h] at this; exact this
@[simp] theorem fx_State_modSession (s : State) (id : W32) (f : MgmtSession → MgmtSession) : (State.modSession s id f).fixed = s.fixed := rfl
@[simp] theorem fx_State_closeSession (s : State) (id : W32) : (State.closeSession s id).fixed = s.fixed := rfl
@[simp] theorem fx_State_answer (s : State) (session : W32) (txn : BitVec 16) (status : Nat) (data : List Byte) : (State.answer s session txn status data).fixed = s.fixed := rfl
@[simp] theorem fx_State_dropTag (s : State) : (State.dropTag s).fixed = s.fixed := rfl
@[simp] theorem fx_State_dropOther (s : State) : (State.dropOther s).fixed = s.fixed := rfl
@[simp] theorem fx_State_badTag (s : State) (m : MgmtSession) : (State.badTag s m).fixed = s.fixed := by
  unfold State.badTag; simp
@[simp] theorem fx_State_request (s : State) (r : Req) (write : Bool) (body : Nat → State → Nat × List Byte × State) (h_body : ∀ y0 y1, (body y0 y1).2.2.fixed = State.fixed y1) : (State.request s r write body).fixed = s.fixed := by
  unfold State.request; (repeat' split) <;> simp [h_body]
@[simp] theorem fx_State_writeReq (s : State) (r : Req) (o : ObjRef) (data : List Byte) (eff : State → Nat × State) (h_eff : ∀ y0, (eff y0).2.fixed = State.fixed y0) : (State.writeReq s r o data eff).fixed = s.fixed := by
  unfold State.writeReq
  repeat' (first | with_reducible rfl | assumption | (simp only [fx_State_request, h_eff, fx_mk, fx_fold, fx_ite, fx_ite2, ite_self]; done) | split | (simp only [fx_State_request, h_eff, fx_mk, fx_fold, fx_ite, fx_ite2, ite_self]) | (intro _) | (rw [fx_foldl]) | (rw [fx_foldl2]) | (rw [fx_foldlp]) | (rw [fx_State_request]) | rfl | (rename_i h; injection h with h; subst h) | (rename_i h; cases h; done) | grind | (simp_all +zetaDelta only [fx_State_request, h_eff, fx_mk, fx_fold, fx_ite, fx_ite2, ite_self]; done))

/-! ### Region.lean -/

@[simp] theorem fx_State_modColony (s : State) (c : Nat) (f : Colony → Colony) : (State.modColony s c f).fixed = s.fixed := rfl
@[simp] theorem fx_State_modWork (s : State) (c : Nat) (f : ColonyWork → ColonyWork) : (State.modWork s c f).fixed = s.fixed := rfl
@[simp] theorem fx_State_rgPut (s : State) (c off : Nat) (bs : List Byte) : (State.rgPut s c off bs).fixed = s.fixed := by
  unfold State.rgPut; split <;> simp
@[simp] theorem fx_State_rgPut64 (s : State) (c off v : Nat) : (State.rgPut64 s c off v).fixed = s.fixed := by
  unfold State.rgPut64; simp
@[simp] theorem fx_State_setSeq (s : State) (c home slot st : Nat) : (State.setSeq s c home slot st).fixed = s.fixed := by
  unfold State.setSeq; simp
@[simp] theorem fx_State_ringEvent (s : State) (c : Nat) (line : List Byte) : (State.ringEvent s c line).fixed = s.fixed := by
  unfold State.ringEvent; simp
@[simp] theorem fx_State_postEvent (s : State) (c : Nat) (line : List Byte) : (State.postEvent s c line).fixed = s.fixed := by
  unfold State.postEvent; simp
@[simp] theorem fx_State_flushEvents (c : Nat) (z0 : Nat) (z1 : State) : (State.flushEvents c z0 z1).fixed = z1.fixed := by
  fun_induction State.flushEvents c z0 z1
  all_goals
    repeat' (first | with_reducible rfl | assumption | (simp only [*, fx_State_modWork, fx_State_ringEvent, fx_mk, fx_fold, fx_ite, fx_ite2, ite_self]; done) | (simp +zetaDelta only [*, fx_State_modWork, fx_State_ringEvent, fx_mk, fx_fold, fx_ite, fx_ite2, ite_self]; done) | split | (simp only [*, fx_State_modWork, fx_State_ringEvent, fx_mk, fx_fold, fx_ite, fx_ite2, ite_self]) | (simp +zetaDelta only [*, fx_State_modWork, fx_State_ringEvent, fx_mk, fx_fold, fx_ite, fx_ite2, ite_self]) | (intro _) | (rw [fx_foldl]) | (rw [fx_foldl2]) | (rw [fx_foldlp]) | rfl | (rename_i h; injection h with h; subst h) | (rename_i h; cases h; done) | grind | (simp_all +zetaDelta only [fx_State_modWork, fx_State_ringEvent, fx_mk, fx_fold, fx_ite, fx_ite2, ite_self]; done))
@[simp] theorem fx_State_resetCtx (s : State) (i : Site) (n : Nat) : (State.resetCtx s i n).fixed = s.fixed := by
  unfold State.resetCtx; simp
@[simp] theorem fx_State_setProfile (s : State) (c : Nat) (i : Site) (n p : Nat) : (State.setProfile s c i n p).fixed = s.fixed := by
  unfold State.setProfile; split <;> simp

/-! ### Events.lean -/

@[simp] theorem fx_State_modVoice (s : State) (f : Voice → Voice) : (State.modVoice s f).fixed = s.fixed := rfl
@[simp] theorem fx_State_modPortV (s : State) (p : Nat) (f : VoicePort → VoicePort) : (State.modPortV s p f).fixed = s.fixed := rfl
@[simp] theorem fx_State_portSend (s : State) (p : Nat) (f : List Byte) : (State.portSend s p f).fixed = s.fixed := by
  unfold State.portSend; simp
@[simp] theorem fx_State_udpSend (s : State) (p : Nat) (d : Datagram) : (State.udpSend s p d).fixed = s.fixed := by
  unfold State.udpSend; simp
@[simp] theorem fx_State_svcSend (s : State) (p : Nat) (dst : UdpAddr) (bs : List Byte) : (State.svcSend s p dst bs).fixed = s.fixed := by
  unfold State.svcSend; simp
@[simp] theorem fx_State_modExch (s : State) (n : Nat) (f : Exchange → Exchange) : (State.modExch s n f).fixed = s.fixed := rfl
@[simp] theorem fx_State_exchSend (s : State) (n : Nat) (bs : List Byte) : (State.exchSend s n bs).fixed = s.fixed := by
  unfold State.exchSend; split <;> simp
@[simp] theorem fx_State_svcEvent (s : State) (exch kind reason home slot : Nat) (ext : W64) : (State.svcEvent s exch kind reason home slot ext).fixed = s.fixed := by
  unfold State.svcEvent; simp
@[simp] theorem fx_State_ringWord (s : State) (e : Eid) (a : Nat) (v : W32) : (State.ringWord s e a v).fixed = s.fixed := by
  unfold State.ringWord; (repeat' split) <;> simp
@[simp] theorem fx_State_unbindSession (s : State) (home slot : Nat) : (State.unbindSession s home slot).fixed = s.fixed := by
  unfold State.unbindSession; split <;> simp

/-! ### Sessions.lean -/

@[simp] theorem fx_State_modSess (s : State) (slot : Nat) (f : Session → Session) : (State.modSess s slot f).fixed = s.fixed := rfl
@[simp] theorem fx_State_reapSession (s : State) (slot reason : Nat) : (State.reapSession s slot reason).fixed = s.fixed := by
  unfold State.reapSession; (repeat' split) <;> simp
@[simp] theorem fx_State_endIn (s : State) (x : Session) (reason c : Nat) : (State.endIn s x reason c).fixed = s.fixed := by
  unfold State.endIn; simp
@[simp] theorem fx_State_endSession (s : State) (x : Session) (reason : Nat) : (State.endSession s x reason).fixed = s.fixed := by
  unfold State.endSession; simp
@[simp] theorem fx_State_applyEnds (s : State) : (State.applyEnds s).fixed = s.fixed := by
  unfold State.applyEnds
  repeat' (first | with_reducible rfl | assumption | (simp only [fx_State_endIn, fx_mk, fx_fold, fx_ite, fx_ite2, ite_self]; done) | split | (simp only [fx_State_endIn, fx_mk, fx_fold, fx_ite, fx_ite2, ite_self]) | (intro _) | (rw [fx_foldl]) | (rw [fx_foldl2]) | (rw [fx_foldlp]) | rfl | (rename_i h; injection h with h; subst h) | (rename_i h; cases h; done) | grind | (simp_all +zetaDelta only [fx_State_endIn, fx_mk, fx_fold, fx_ite, fx_ite2, ite_self]; done))
@[simp] theorem fx_State_retire (s : State) (x : Session) (c : Nat) : (State.retire s x c).fixed = s.fixed := by
  unfold State.retire; simp
@[simp] theorem fx_State_dropSessions (s : State) (r : Nat) : (State.dropSessions s r).fixed = s.fixed := by
  unfold State.dropSessions; simp
@[simp] theorem fx_State_endSessionsOf (s : State) (c reason : Nat) : (State.endSessionsOf s c reason).fixed = s.fixed := by
  unfold State.endSessionsOf; simp
@[simp] theorem fx_State_openIn (s : State) (home slot : Nat) (peers ext : W64) (c : Nat) : (State.openIn s home slot peers ext c).fixed = s.fixed := by
  unfold State.openIn; simp
@[simp] theorem fx_State_openSession (s : State) (home slot : Nat) (peers ext : W64) (opener : Option Nat) : (State.openSession s home slot peers ext opener).2.fixed = s.fixed := by
  unfold State.openSession; simp
theorem fe_State_openSession {s : State} {home slot : Nat} {peers ext : W64} {opener : Option Nat} {e t}  (h : (State.openSession s home slot peers ext opener) = (e, t)) : t.fixed = s.fixed := by
  have := fx_State_openSession s home slot peers ext opener
  rw [h] at this; exact this
@[simp] theorem fx_State_sessionCtrl (s : State) (w0 w1 w2 : W64) : (State.sessionCtrl s w0 w1 w2).2.fixed = s.fixed := by
  unfold State.sessionCtrl
  repeat' (first | with_reducible rfl | assumption | (simp only [fx_State_endSession, fx_State_openSession, fx_mk, fx_fold, fx_ite, fx_ite2, ite_self]; done) | split | (simp only [fx_State_endSession, fx_State_openSession, fx_mk, fx_fold, fx_ite, fx_ite2, ite_self]) | (intro _) | exact fe_State_openSession (by assumption) | (refine Eq.trans ?_ (fe_State_openSession (by assumption))) | (rw [fx_foldl]) | (rw [fx_foldl2]) | (rw [fx_foldlp]) | rfl | (rename_i h; injection h with h; subst h) | (rename_i h; cases h; done) | grind | (simp_all +zetaDelta only [fx_State_endSession, fx_State_openSession, fx_mk, fx_fold, fx_ite, fx_ite2, ite_self]; done) | (refine (fe_State_openSession (by assumption)).trans ?_))
theorem fe_State_sessionCtrl {s : State} {w0 w1 w2 : W64} {e t}  (h : (State.sessionCtrl s w0 w1 w2) = (e, t)) : t.fixed = s.fixed := by
  have := fx_State_sessionCtrl s w0 w1 w2
  rw [h] at this; exact this
@[simp] theorem fx_State_takeRequest (s : State) (c : Nat) : (State.takeRequest s c).fixed = s.fixed := by
  unfold State.takeRequest; simp
@[simp] theorem fx_State_doReqEnd (s : State) (c : Nat) (bs : List Byte) : (State.doReqEnd s c bs).fixed = s.fixed := by
  unfold State.doReqEnd; split <;> simp
@[simp] theorem fx_State_resetIfGranted (s : State) (c : Nat) (w : Nat × Nat) : (State.resetIfGranted s c w).fixed = s.fixed := by
  unfold State.resetIfGranted; split <;> simp
@[simp] theorem fx_State_doReqRetired (s : State) (c : Nat) (bs : List Byte) : (State.doReqRetired s c bs).fixed = s.fixed := by
  unfold State.doReqRetired; (repeat' split) <;> simp
@[simp] theorem fx_State_doReqProfile (s : State) (c : Nat) (bs : List Byte) : (State.doReqProfile s c bs).fixed = s.fixed := by
  unfold State.doReqProfile
  repeat' (first | with_reducible rfl | assumption | (simp only [fx_State_combErr, fx_State_setProfile, fx_mk, fx_fold, fx_ite, fx_ite2, ite_self]; done) | split | (simp only [fx_State_combErr, fx_State_setProfile, fx_mk, fx_fold, fx_ite, fx_ite2, ite_self]) | (intro _) | (rw [fx_foldl]) | (rw [fx_foldl2]) | (rw [fx_foldlp]) | rfl | (rename_i h; injection h with h; subst h) | (rename_i h; cases h; done) | grind | (simp_all +zetaDelta only [fx_State_combErr, fx_State_setProfile, fx_mk, fx_fold, fx_ite, fx_ite2, ite_self]; done))
@[simp] theorem fx_State_doRequest (s : State) (c : Nat) (bs : List Byte) : (State.doRequest s c bs).fixed = s.fixed := by
  unfold State.doRequest; simp
@[simp] theorem fx_State_serveRequest (s : State) (c : Nat) (ok : Nat → Bool) : (State.serveRequest s c ok).fixed = s.fixed := by
  unfold State.serveRequest; split <;> simp
@[simp] theorem fx_State_idleCheck (s : State) (x : Session) : (State.idleCheck s x).fixed = s.fixed := by
  unfold State.idleCheck; simp

/-! ### CellCtl.lean -/

@[simp] theorem fx_State_setSite (s : State) (c : CellAt) (n : Nat) : (State.setSite s c n).fixed = s.fixed := rfl
@[simp] theorem fx_State_recheckWaits (s : State) (c : CellAt) : (State.recheckWaits s c).fixed = s.fixed := by
  unfold State.recheckWaits; simp
@[simp] theorem fx_State_dawn (s : State) (c : CellAt) : (State.dawn s c).fixed = s.fixed := by
  unfold State.dawn; simp
@[simp] theorem fx_State_accessWake (s : State) (c : CellAt) : (State.accessWake s c).fixed = s.fixed := by
  unfold State.accessWake; simp
@[simp] theorem fx_State_cellReset (s : State) (c : CellAt) : (State.cellReset s c).fixed = s.fixed := by
  unfold State.cellReset; simp
@[simp] theorem fx_State_landLoad (s : State) (a : At) : (State.landLoad s a).fixed = s.fixed := by
  unfold State.landLoad; split <;> simp
@[simp] theorem fx_State_quiesce (s : State) (c : CellAt) : (State.quiesce s c).fixed = s.fixed := by
  unfold State.quiesce; simp
@[simp] theorem fx_State_resume (s : State) (c : CellAt) : (State.resume s c).fixed = s.fixed := by
  unfold State.resume; simp
@[simp] theorem fx_State_cellCtrl (s : State) (c : CellAt) (v : W64) : (State.cellCtrl s c v).fixed = s.fixed := by
  unfold State.cellCtrl; simp
@[simp] theorem fx_State_cellCtrlAccess (s : State) (c : CellAt) (v : W64) : (State.cellCtrlAccess s c v).fixed = s.fixed := by
  unfold State.cellCtrlAccess; simp

/-! ### Freq.lean -/

@[simp] theorem fx_State_modPw (s : State) (i : Site) (f : CombPower → CombPower) : (State.modPw s i f).fixed = s.fixed := rfl
@[simp] theorem fx_State_modReg (s : State) (i : Site) (r : Nat) (f : Regul → Regul) : (State.modReg s i r f).fixed = s.fixed := rfl
@[simp] theorem fx_State_clockGo (s : State) (c : CellAt) (b : Nat) : (State.clockGo s c b).fixed = s.fixed := by
  unfold State.clockGo; simp
@[simp] theorem fx_State_advanceFrame (i : Site) (f : Nat) (z0 : Nat) (z1 : State) : (State.advanceFrame i f z0 z1).fixed = z1.fixed := by
  fun_induction State.advanceFrame i f z0 z1
  all_goals
    repeat' (first | with_reducible rfl | assumption | (simp only [*, fx_State_clockGo, fx_State_modReg, fx_mk, fx_fold, fx_ite, fx_ite2, ite_self]; done) | (simp +zetaDelta only [*, fx_State_clockGo, fx_State_modReg, fx_mk, fx_fold, fx_ite, fx_ite2, ite_self]; done) | split | (simp only [*, fx_State_clockGo, fx_State_modReg, fx_mk, fx_fold, fx_ite, fx_ite2, ite_self]) | (simp +zetaDelta only [*, fx_State_clockGo, fx_State_modReg, fx_mk, fx_fold, fx_ite, fx_ite2, ite_self]) | (intro _) | (rw [fx_foldl]) | (rw [fx_foldl2]) | (rw [fx_foldlp]) | rfl | (rename_i h; injection h with h; subst h) | (rename_i h; cases h; done) | grind | (simp_all +zetaDelta only [fx_State_clockGo, fx_State_modReg, fx_mk, fx_fold, fx_ite, fx_ite2, ite_self]; done))
@[simp] theorem fx_State_askRun (s : State) (c : CellAt) (b : Nat) : (State.askRun s c b).fixed = s.fixed := by
  unfold State.askRun; simp
@[simp] theorem fx_State_retune (s : State) (c : CellAt) : (State.retune s c).fixed = s.fixed := by
  unfold State.retune; simp
@[simp] theorem fx_State_setCap (s : State) (c : CellAt) (n : Nat) : (State.setCap s c n).fixed = s.fixed := by
  unfold State.setCap; simp
@[simp] theorem fx_State_clockLocked (s : State) (c : CellAt) : (State.clockLocked s c).fixed = s.fixed := by
  unfold State.clockLocked
  repeat' (first | with_reducible rfl | assumption | (simp only [fx_State_cellReset, fx_State_clockGo, fx_State_modCell, fx_State_modPw, fx_State_recheckWaits, fx_State_resume, fx_mk, fx_fold, fx_ite, fx_ite2, ite_self]; done) | split | (simp only [fx_State_cellReset, fx_State_clockGo, fx_State_modCell, fx_State_modPw, fx_State_recheckWaits, fx_State_resume, fx_mk, fx_fold, fx_ite, fx_ite2, ite_self]) | (intro _) | (rw [fx_foldl]) | (rw [fx_foldl2]) | (rw [fx_foldlp]) | rfl | (rename_i h; injection h with h; subst h) | (rename_i h; cases h; done) | grind | (simp_all +zetaDelta only [fx_State_cellReset, fx_State_clockGo, fx_State_modCell, fx_State_modPw, fx_State_recheckWaits, fx_State_resume, fx_mk, fx_fold, fx_ite, fx_ite2, ite_self]; done))
@[simp] theorem fx_State_lowerVset (s : State) (i : Site) (f : Nat) : (State.lowerVset s i f).fixed = s.fixed := by
  unfold State.lowerVset; simp
@[simp] theorem fx_State_clkCtrlWrite (s : State) (c : CellAt) (v : W64) : (State.clkCtrlWrite s c v).fixed = s.fixed := by
  unfold State.clkCtrlWrite; simp

/-! ### Image.lean -/

@[simp] theorem fx_State_deliver (s : State) (c : Nat) : (State.deliver s c).fixed = s.fixed := by
  unfold State.deliver
  repeat' (first | with_reducible rfl | assumption | (simp only [fx_State_modCell, fx_mk, fx_fold, fx_ite, fx_ite2, ite_self]; done) | split | (simp only [fx_State_modCell, fx_mk, fx_fold, fx_ite, fx_ite2, ite_self]) | (intro _) | (rw [fx_foldl]) | (rw [fx_foldl2]) | (rw [fx_foldlp]) | rfl | (rename_i h; injection h with h; subst h) | (rename_i h; cases h; done) | grind | (simp_all +zetaDelta only [fx_State_modCell, fx_mk, fx_fold, fx_ite, fx_ite2, ite_self]; done))
@[simp] theorem fx_State_startTasks (s : State) (c : Nat) : (State.startTasks s c).fixed = s.fixed := by
  unfold State.startTasks
  repeat' (first | with_reducible rfl | assumption | (simp only [fx_State_modTask, fx_mk, fx_fold, fx_ite, fx_ite2, ite_self]; done) | split | (simp only [fx_State_modTask, fx_mk, fx_fold, fx_ite, fx_ite2, ite_self]) | (intro _) | (rw [fx_foldl]) | (rw [fx_foldl2]) | (rw [fx_foldlp]) | rfl | (rename_i h; injection h with h; subst h) | (rename_i h; cases h; done) | grind | (simp_all +zetaDelta only [fx_State_modTask, fx_mk, fx_fold, fx_ite, fx_ite2, ite_self]; done))
@[simp] theorem fx_State_stopTasks (s : State) (c : Nat) : (State.stopTasks s c).fixed = s.fixed := by
  unfold State.stopTasks; simp

/-! ### Reserve.lean -/

@[simp] theorem fx_State_reserveExt (s : State) (c st base size : Nat) (zero : Bool) : (State.reserveExt s c st base size zero).fixed = s.fixed := rfl
@[simp] theorem fx_State_freeExt (s : State) (c st : Nat) : (State.freeExt s c st).fixed = s.fixed := rfl
@[simp] theorem fx_State_reserveStores (s : State) (c : Nat) (ps : List (Seg × Rect)) : (State.reserveStores s c ps).fixed = s.fixed := by
  unfold State.reserveStores
  repeat' (first | with_reducible rfl | assumption | (simp only [fx_State_modWork, fx_State_reserveExt, fx_mk, fx_fold, fx_ite, fx_ite2, ite_self]; done) | split | (simp only [fx_State_modWork, fx_State_reserveExt, fx_mk, fx_fold, fx_ite, fx_ite2, ite_self]) | (intro _) | (rw [fx_foldl]) | (rw [fx_foldl2]) | (rw [fx_foldlp]) | rfl | (rename_i h; injection h with h; subst h) | (rename_i h; cases h; done) | grind | (simp_all +zetaDelta only [fx_State_modWork, fx_State_reserveExt, fx_mk, fx_fold, fx_ite, fx_ite2, ite_self]; done))
@[simp] theorem fx_State_writeTable (s : State) (c : Nat) (i : Site) : (State.writeTable s c i).fixed = s.fixed := by
  unfold State.writeTable
  repeat' (first | with_reducible rfl | assumption | (simp only [fx_State_modRanks, fx_mk, fx_fold, fx_ite, fx_ite2, ite_self]; done) | split | (simp only [fx_State_modRanks, fx_mk, fx_fold, fx_ite, fx_ite2, ite_self]) | (intro _) | (rw [fx_foldl]) | (rw [fx_foldl2]) | (rw [fx_foldlp]) | rfl | (rename_i h; injection h with h; subst h) | (rename_i h; cases h; done) | grind | (simp_all +zetaDelta only [fx_State_modRanks, fx_mk, fx_fold, fx_ite, fx_ite2, ite_self]; done))
@[simp] theorem fx_State_clearTable (s : State) (c : Nat) (i : Site) : (State.clearTable s c i).fixed = s.fixed := rfl
@[simp] theorem fx_State_rebridge (s : State) (c : Nat) : (State.rebridge s c).fixed = s.fixed := by
  unfold State.rebridge; simp
@[simp] theorem fx_State_setDeepest (s : State) (c : CellAt) (n : Nat) : (State.setDeepest s c n).fixed = s.fixed := rfl
@[simp] theorem fx_State_bindCell (s : State) (c : Nat) (a : CellAt) : (State.bindCell s c a).fixed = s.fixed := by
  unfold State.bindCell; simp
@[simp] theorem fx_State_unbindCell (s : State) (a : CellAt) : (State.unbindCell s a).fixed = s.fixed := by
  unfold State.unbindCell; simp
@[simp] theorem fx_State_loadGrammars (s : State) (c : Nat) (i : Site) (k : SamplerId) (gs : List (Nat × Nat)) : (State.loadGrammars s c i k gs).fixed = s.fixed := by
  unfold State.loadGrammars
  repeat' (first | with_reducible rfl | assumption | (simp only [fx_State_modSmp, fx_mk, fx_fold, fx_ite, fx_ite2, ite_self]; done) | split | (simp only [fx_State_modSmp, fx_mk, fx_fold, fx_ite, fx_ite2, ite_self]) | (intro _) | (rw [fx_foldl]) | (rw [fx_foldl2]) | (rw [fx_foldlp]) | rfl | (rename_i h; injection h with h; subst h) | (rename_i h; cases h; done) | grind | (simp_all +zetaDelta only [fx_State_modSmp, fx_mk, fx_fold, fx_ite, fx_ite2, ite_self]; done))
@[simp] theorem fx_State_loadContexts (s : State) (c : Nat) : (State.loadContexts s c).fixed = s.fixed := by
  unfold State.loadContexts
  repeat' (first | with_reducible rfl | assumption | (simp only [fx_State_loadGrammars, fx_State_setProfile, fx_mk, fx_fold, fx_ite, fx_ite2, ite_self]; done) | split | (simp only [fx_State_loadGrammars, fx_State_setProfile, fx_mk, fx_fold, fx_ite, fx_ite2, ite_self]) | (intro _) | (rw [fx_foldl]) | (rw [fx_foldl2]) | (rw [fx_foldlp]) | rfl | (rename_i h; injection h with h; subst h) | (rename_i h; cases h; done) | grind | (simp_all +zetaDelta only [fx_State_loadGrammars, fx_State_setProfile, fx_mk, fx_fold, fx_ite, fx_ite2, ite_self]; done))
@[simp] theorem fx_State_resetContexts (s : State) (c : Nat) : (State.resetContexts s c).fixed = s.fixed := by
  unfold State.resetContexts
  repeat' (first | with_reducible rfl | assumption | (simp only [fx_State_resetCtx, fx_mk, fx_fold, fx_ite, fx_ite2, ite_self]; done) | split | (simp only [fx_State_resetCtx, fx_mk, fx_fold, fx_ite, fx_ite2, ite_self]) | (intro _) | (rw [fx_foldl]) | (rw [fx_foldl2]) | (rw [fx_foldlp]) | rfl | (rename_i h; injection h with h; subst h) | (rename_i h; cases h; done) | grind | (simp_all +zetaDelta only [fx_State_resetCtx, fx_mk, fx_fold, fx_ite, fx_ite2, ite_self]; done))
@[simp] theorem fx_State_freeContexts (s : State) (c : Nat) : (State.freeContexts s c).fixed = s.fixed := by
  unfold State.freeContexts
  repeat' (first | with_reducible rfl | assumption | (simp only [fx_State_modSmp, fx_State_modWork, fx_State_resetCtx, fx_mk, fx_fold, fx_ite, fx_ite2, ite_self]; done) | split | (simp only [fx_State_modSmp, fx_State_modWork, fx_State_resetCtx, fx_mk, fx_fold, fx_ite, fx_ite2, ite_self]) | (intro _) | (rw [fx_foldl]) | (rw [fx_foldl2]) | (rw [fx_foldlp]) | rfl | (rename_i h; injection h with h; subst h) | (rename_i h; cases h; done) | grind | (simp_all +zetaDelta only [fx_State_modSmp, fx_State_modWork, fx_State_resetCtx, fx_mk, fx_fold, fx_ite, fx_ite2, ite_self]; done))
@[simp] theorem fx_State_writeGrants (s : State) (c : Nat) : (State.writeGrants s c).fixed = s.fixed := by
  unfold State.writeGrants; simp
@[simp] theorem fx_State_layTree (s : State) : (State.layTree s).fixed = s.fixed := by
  unfold State.layTree; exact fx_foldl _ _ _ (fun _ _ => rfl)
@[simp] theorem fx_State_writeGroup (s : State) (g : Nat) : (State.writeGroup s g).fixed = s.fixed := by
  unfold State.writeGroup; exact fx_foldl _ _ _ (fun _ _ => rfl)
@[simp] theorem fx_State_writeGroups (s : State) : (State.writeGroups s).fixed = s.fixed := by
  unfold State.writeGroups; simp
@[simp] theorem fx_State_retree (s : State) : (State.retree s).fixed = s.fixed := by
  unfold State.retree; simp
@[simp] theorem fx_State_leaveTree (s : State) (x : Site) : (State.leaveTree s x).fixed = s.fixed := by
  unfold State.leaveTree; simp
@[simp] theorem fx_State_settle (s : State) (c : Nat) : (State.settle s c).fixed = s.fixed := by
  unfold State.settle; simp
theorem fx_State_place (s : State) (c : Nat) : ∀ t, (State.place s c) = some t → t.fixed = s.fixed := by
  unfold State.place
  repeat' (first | with_reducible rfl | assumption | (simp only [fx_State_loadContexts, fx_State_modColony, fx_State_modWork, fx_State_reserveStores, fx_State_settle, fx_mk, fx_fold, fx_ite, fx_ite2, ite_self]; done) | split | (simp only [fx_State_loadContexts, fx_State_modColony, fx_State_modWork, fx_State_reserveStores, fx_State_settle, fx_mk, fx_fold, fx_ite, fx_ite2, ite_self]) | (intro _) | (rw [fx_foldl]) | (rw [fx_foldl2]) | (rw [fx_foldlp]) | rfl | (rename_i h; injection h with h; subst h) | (rename_i h; cases h; done) | grind | (simp_all +zetaDelta only [fx_State_loadContexts, fx_State_modColony, fx_State_modWork, fx_State_reserveStores, fx_State_settle, fx_mk, fx_fold, fx_ite, fx_ite2, ite_self]; done))
theorem fe_State_place {s : State} {c : Nat} {t}  (h : (State.place s c) = some t) : t.fixed = s.fixed := fx_State_place s c t h
@[simp] theorem fx_State_unplace (s : State) (c : Nat) : (State.unplace s c).fixed = s.fixed := by
  unfold State.unplace
  repeat' (first | with_reducible rfl | assumption | (simp only [fx_State_clearTable, fx_State_freeContexts, fx_State_freeExt, fx_State_modColony, fx_State_modWag, fx_State_modWork, fx_State_rebridge, fx_State_unbindCell, fx_mk, fx_fold, fx_ite, fx_ite2, ite_self]; done) | split | (simp only [fx_State_clearTable, fx_State_freeContexts, fx_State_freeExt, fx_State_modColony, fx_State_modWag, fx_State_modWork, fx_State_rebridge, fx_State_unbindCell, fx_mk, fx_fold, fx_ite, fx_ite2, ite_self]) | (intro _) | (rw [fx_foldl]) | (rw [fx_foldl2]) | (rw [fx_foldlp]) | rfl | (rename_i h; injection h with h; subst h) | (rename_i h; cases h; done) | grind | (simp_all +zetaDelta only [fx_State_clearTable, fx_State_freeContexts, fx_State_freeExt, fx_State_modColony, fx_State_modWag, fx_State_modWork, fx_State_rebridge, fx_State_unbindCell, fx_mk, fx_fold, fx_ite, fx_ite2, ite_self]; done))

/-! ### Colony.lean -/

@[simp] theorem fx_State_setCol (s : State) (c st reason : Nat) : (State.setCol s c st reason).fixed = s.fixed := rfl
@[simp] theorem fx_State_layoutWrite (s : State) (c : Nat) (bytes : List Byte) : (State.layoutWrite s c bytes).2.fixed = s.fixed := by
  unfold State.layoutWrite
  repeat' (first | with_reducible rfl | assumption | (simp only [fx_State_putStored, fx_State_setCol, fx_mk, fx_fold, fx_ite, fx_ite2, ite_self]; done) | split | (simp only [fx_State_putStored, fx_State_setCol, fx_mk, fx_fold, fx_ite, fx_ite2, ite_self]) | (intro _) | exact fe_State_putStored (by assumption) | (refine Eq.trans ?_ (fe_State_putStored (by assumption))) | (rw [fx_foldl]) | (rw [fx_foldl2]) | (rw [fx_foldlp]) | (rw [fx_State_putStored]) | rfl | (rename_i h; injection h with h; subst h) | (rename_i h; cases h; done) | grind | (simp_all +zetaDelta only [fx_State_putStored, fx_State_setCol, fx_mk, fx_fold, fx_ite, fx_ite2, ite_self]; done) | (refine (fe_State_putStored (by assumption)).trans ?_))
theorem fe_State_layoutWrite {s : State} {c : Nat} {bytes : List Byte} {e t}  (h : (State.layoutWrite s c bytes) = (e, t)) : t.fixed = s.fixed := by
  have := fx_State_layoutWrite s c bytes
  rw [h] at this; exact this
@[simp] theorem fx_State_failLoad (s : State) (c reason : Nat) : (State.failLoad s c reason).fixed = s.fixed := rfl
@[simp] theorem fx_State_abortLoad (s : State) (c : Nat) : (State.abortLoad s c).fixed = s.fixed := by
  unfold State.abortLoad; simp
@[simp] theorem fx_State_startLoad (s : State) (c : Nat) (ref : List Byte) (first : Bool) : (State.startLoad s c ref first).fixed = s.fixed := rfl
@[simp] theorem fx_State_pauseAt (s : State) (sites : List Site) (on : Bool) : (State.pauseAt s sites on).fixed = s.fixed := by
  unfold State.pauseAt
  repeat' (first | with_reducible rfl | assumption | (simp only [fx_State_modComb, fx_mk, fx_fold, fx_ite, fx_ite2, ite_self]; done) | split | (simp only [fx_State_modComb, fx_mk, fx_fold, fx_ite, fx_ite2, ite_self]) | (intro _) | (rw [fx_foldl]) | (rw [fx_foldl2]) | (rw [fx_foldlp]) | rfl | (rename_i h; injection h with h; subst h) | (rename_i h; cases h; done) | grind | (simp_all +zetaDelta only [fx_State_modComb, fx_mk, fx_fold, fx_ite, fx_ite2, ite_self]; done))
@[simp] theorem fx_State_pausePatrol (s : State) (c : Nat) (on : Bool) : (State.pausePatrol s c on).fixed = s.fixed := by
  unfold State.pausePatrol; simp
@[simp] theorem fx_State_failColony (s : State) (c reason : Nat) : (State.failColony s c reason).fixed = s.fixed := by
  unfold State.failColony; simp
@[simp] theorem fx_State_beginLoading (s : State) (c : Nat) (img : Option (List Byte)) : (State.beginLoading s c img).fixed = s.fixed := by
  unfold State.beginLoading
  repeat' (first | with_reducible rfl | assumption | (simp only [fx_State_deliver, fx_State_failColony, fx_State_modWork, fx_State_setCol, fx_State_startLoad, fx_mk, fx_fold, fx_ite, fx_ite2, ite_self]; done) | split | (simp only [fx_State_deliver, fx_State_failColony, fx_State_modWork, fx_State_setCol, fx_State_startLoad, fx_mk, fx_fold, fx_ite, fx_ite2, ite_self]) | (intro _) | (rw [fx_foldl]) | (rw [fx_foldl2]) | (rw [fx_foldlp]) | rfl | (rename_i h; injection h with h; subst h) | (rename_i h; cases h; done) | grind | (simp_all +zetaDelta only [fx_State_deliver, fx_State_failColony, fx_State_modWork, fx_State_setCol, fx_State_startLoad, fx_mk, fx_fold, fx_ite, fx_ite2, ite_self]; done))
@[simp] theorem fx_State_deploy (s : State) (c : Nat) (img : Option (List Byte)) : (State.deploy s c img).fixed = s.fixed := by
  unfold State.deploy
  repeat' (first | with_reducible rfl | assumption | (simp only [fx_State_beginLoading, fx_State_place, fx_State_setCol, fx_mk, fx_fold, fx_ite, fx_ite2, ite_self]; done) | split | (simp only [fx_State_beginLoading, fx_State_place, fx_State_setCol, fx_mk, fx_fold, fx_ite, fx_ite2, ite_self]) | (intro _) | exact fe_State_place (by assumption) | (refine Eq.trans ?_ (fe_State_place (by assumption))) | (rw [fx_foldl]) | (rw [fx_foldl2]) | (rw [fx_foldlp]) | rfl | (rename_i h; injection h with h; subst h) | (rename_i h; cases h; done) | grind | (simp_all +zetaDelta only [fx_State_beginLoading, fx_State_place, fx_State_setCol, fx_mk, fx_fold, fx_ite, fx_ite2, ite_self]; done) | (refine (fe_State_place (by assumption)).trans ?_))
@[simp] theorem fx_State_mapToSpare (s : State) (i : Site) (l : Nat) : (State.mapToSpare s i l).fixed = s.fixed := by
  unfold State.mapToSpare; simp
@[simp] theorem fx_State_takeSpares (s : State) (c : Nat) : (State.takeSpares s c).fixed = s.fixed := by
  unfold State.takeSpares
  repeat' (first | with_reducible rfl | assumption | (simp only [fx_State_mapToSpare, fx_mk, fx_fold, fx_ite, fx_ite2, ite_self]; done) | split | (simp only [fx_State_mapToSpare, fx_mk, fx_fold, fx_ite, fx_ite2, ite_self]) | (intro _) | (rw [fx_foldl]) | (rw [fx_foldl2]) | (rw [fx_foldlp]) | rfl | (rename_i h; injection h with h; subst h) | (rename_i h; cases h; done) | grind | (simp_all +zetaDelta only [fx_State_mapToSpare, fx_mk, fx_fold, fx_ite, fx_ite2, ite_self]; done))
theorem fx_State_replace (s : State) (c : Nat) : ∀ t, (State.replace s c) = some t → t.1.fixed = s.fixed := by
  unfold State.replace
  repeat' (first | with_reducible rfl | assumption | (simp only [fx_State_clearTable, fx_State_freeExt, fx_State_modColony, fx_State_modWork, fx_State_reserveStores, fx_State_settle, fx_State_takeSpares, fx_State_unbindCell, fx_mk, fx_fold, fx_ite, fx_ite2, ite_self]; done) | split | (simp only [fx_State_clearTable, fx_State_freeExt, fx_State_modColony, fx_State_modWork, fx_State_reserveStores, fx_State_settle, fx_State_takeSpares, fx_State_unbindCell, fx_mk, fx_fold, fx_ite, fx_ite2, ite_self]) | (intro _) | (rw [fx_foldl]) | (rw [fx_foldl2]) | (rw [fx_foldlp]) | rfl | (rename_i h; injection h with h; subst h) | (rename_i h; cases h; done) | grind | (simp_all +zetaDelta only [fx_State_clearTable, fx_State_freeExt, fx_State_modColony, fx_State_modWork, fx_State_reserveStores, fx_State_settle, fx_State_takeSpares, fx_State_unbindCell, fx_mk, fx_fold, fx_ite, fx_ite2, ite_self]; done))
theorem fe_State_replace {s : State} {c : Nat} {t}  (h : (State.replace s c) = some t) : t.1.fixed = s.fixed := fx_State_replace s c t h
@[simp] theorem fx_State_clearRegion (s : State) (c : Nat) (adm : Nat) : (State.clearRegion s c adm).fixed = s.fixed := by
  unfold State.clearRegion; split <;> simp
@[simp] theorem fx_State_clearOwn (s : State) (c : Nat) : (State.clearOwn s c).fixed = s.fixed := by
  unfold State.clearOwn
  repeat' (first | with_reducible rfl | assumption | (simp only [fx_State_modStore, fx_mk, fx_fold, fx_ite, fx_ite2, ite_self]; done) | split | (simp only [fx_State_modStore, fx_mk, fx_fold, fx_ite, fx_ite2, ite_self]) | (intro _) | (rw [fx_foldl]) | (rw [fx_foldl2]) | (rw [fx_foldlp]) | rfl | (rename_i h; injection h with h; subst h) | (rename_i h; cases h; done) | grind | (simp_all +zetaDelta only [fx_State_modStore, fx_mk, fx_fold, fx_ite, fx_ite2, ite_self]; done))
@[simp] theorem fx_State_finishRestart (s : State) (c : Nat) : (State.finishRestart s c).fixed = s.fixed := by
  unfold State.finishRestart; simp
@[simp] theorem fx_State_restartLoad (s : State) (c : Nat) (moved : List Nat) (first delivered : Bool) (adm : Nat) : (State.restartLoad s c moved first delivered adm).fixed = s.fixed := by
  unfold State.restartLoad; simp
@[simp] theorem fx_State_countRestart (s : State) (c : Nat) : (State.countRestart s c).fixed = s.fixed := rfl
@[simp] theorem fx_State_restartHere (s : State) (c : Nat) (delivered : Bool) : (State.restartHere s c delivered).fixed = s.fixed := by
  have key : ∀ (s4 : State) (first : Bool) (adm : Nat), s4.fixed = s.fixed → (match s4.replace c with
      | none => s4.failColony c crBelow
      | some (s5, moved) => ((s5.pauseAt (s4.hostSites c) false).pausePatrol c true).restartLoad c moved first delivered adm).fixed = s.fixed := by
    intro s4 first adm h
    split
    · rw [fx_State_failColony, h]
    · rename_i heq
      rw [fx_State_restartLoad, fx_State_pausePatrol, fx_State_pauseAt, fe_State_replace heq, h]
  unfold State.restartHere
  extract_lets
  split
  · rfl
  split
  · rw [fx_State_failColony, fx_State_countRestart]
  refine key _ _ _ ?_
  simp +zetaDelta only [fx_State_pausePatrol, fx_State_rebridge, fx_State_modWork, fx_State_abortLoad, fx_State_resetContexts, fx_State_dropSessions, fx_State_countRestart]
  rw [fx_foldl _ _ _ (fun s x => fx_State_cellReset s x), fx_State_abortGroup]
  simp only [fx_State_rebridge, fx_State_modWork, fx_State_abortLoad, fx_State_resetContexts, fx_State_dropSessions, fx_State_countRestart]
@[simp] theorem fx_State_swarmMsg (s : State) (panel kind colony step : Nat) (body : List W32) : (State.swarmMsg s panel kind colony step body).fixed = s.fixed := rfl
@[simp] theorem fx_State_swarmCommand (s : State) (c cmd : Nat) : (State.swarmCommand s c cmd).fixed = s.fixed := by
  unfold State.swarmCommand
  repeat' (first | with_reducible rfl | assumption | (simp only [fx_State_modWork, fx_State_swarmMsg, fx_mk, fx_fold, fx_ite, fx_ite2, ite_self]; done) | split | (simp only [fx_State_modWork, fx_State_swarmMsg, fx_mk, fx_fold, fx_ite, fx_ite2, ite_self]) | (intro _) | (rw [fx_foldl]) | (rw [fx_foldl2]) | (rw [fx_foldlp]) | rfl | (rename_i h; injection h with h; subst h) | (rename_i h; cases h; done) | grind | (simp_all +zetaDelta only [fx_State_modWork, fx_State_swarmMsg, fx_mk, fx_fold, fx_ite, fx_ite2, ite_self]; done))
@[simp] theorem fx_State_restartColony (s : State) (c : Nat) (delivered : Bool) : (State.restartColony s c delivered).fixed = s.fixed := by
  unfold State.restartColony; simp
@[simp] theorem fx_State_release (s : State) (c : Nat) : (State.release s c).fixed = s.fixed := by
  unfold State.release; simp
@[simp] theorem fx_State_ctrlAct (s : State) (c v : Nat) (img : Option (List Byte)) (delivered : Bool) : (State.ctrlAct s c v img delivered).fixed = s.fixed := by
  unfold State.ctrlAct; simp
@[simp] theorem fx_State_colonyCtrl (s : State) (c v : Nat) (img : Option (List Byte)) (delivered : Bool) : (State.colonyCtrl s c v img delivered).2.fixed = s.fixed := by
  unfold State.colonyCtrl; simp
theorem fe_State_colonyCtrl {s : State} {c v : Nat} {img : Option (List Byte)} {delivered : Bool} {e t}  (h : (State.colonyCtrl s c v img delivered) = (e, t)) : t.fixed = s.fixed := by
  have := fx_State_colonyCtrl s c v img delivered
  rw [h] at this; exact this
@[simp] theorem fx_State_drained (s : State) (c : Nat) (delivered : Bool) : (State.drained s c delivered).fixed = s.fixed := by
  unfold State.drained; simp
@[simp] theorem fx_State_bridgesWrite (s : State) (c : Nat) (v : W64) : (State.bridgesWrite s c v).2.fixed = s.fixed := by
  unfold State.bridgesWrite
  repeat' (first | with_reducible rfl | assumption | (simp only [fx_State_modRanks, fx_State_putStored, fx_mk, fx_fold, fx_ite, fx_ite2, ite_self]; done) | split | (simp only [fx_State_modRanks, fx_State_putStored, fx_mk, fx_fold, fx_ite, fx_ite2, ite_self]) | (intro _) | exact fe_State_putStored (by assumption) | (refine Eq.trans ?_ (fe_State_putStored (by assumption))) | (rw [fx_foldl]) | (rw [fx_foldl2]) | (rw [fx_foldlp]) | (rw [fx_State_putStored]) | rfl | (rename_i h; injection h with h; subst h) | (rename_i h; cases h; done) | grind | (simp_all +zetaDelta only [fx_State_modRanks, fx_State_putStored, fx_mk, fx_fold, fx_ite, fx_ite2, ite_self]; done) | (refine (fe_State_putStored (by assumption)).trans ?_))
theorem fe_State_bridgesWrite {s : State} {c : Nat} {v : W64} {e t}  (h : (State.bridgesWrite s c v) = (e, t)) : t.fixed = s.fixed := by
  have := fx_State_bridgesWrite s c v
  rw [h] at this; exact this

/-! ### Weights.lean -/

@[simp] theorem fx_State_loadFails (s : State) (c reason : Nat) : (State.loadFails s c reason).fixed = s.fixed := by
  unfold State.loadFails; simp
@[simp] theorem fx_State_weightLoad (s : State) (c : Nat) (d : List Byte) : (State.weightLoad s c d).2.fixed = s.fixed := by
  unfold State.weightLoad; simp
theorem fe_State_weightLoad {s : State} {c : Nat} {d : List Byte} {e t}  (h : (State.weightLoad s c d) = (e, t)) : t.fixed = s.fixed := by
  have := fx_State_weightLoad s c d
  rw [h] at this; exact this
@[simp] theorem fx_State_shardMatches (s : State) (st a : Nat) (m : List Byte) (i : Nat) : (State.shardMatches s st a m i).2.fixed = s.fixed := by
  unfold State.shardMatches
  repeat' (first | with_reducible rfl | assumption | (simp only [fx_State_drawBytes, fx_State_storeRead, fx_mk, fx_fold, fx_ite, fx_ite2, ite_self]; done) | split | (simp only [fx_State_drawBytes, fx_State_storeRead, fx_mk, fx_fold, fx_ite, fx_ite2, ite_self]) | (intro _) | exact fe_State_drawBytes (by assumption) | exact fe_State_storeRead (by assumption) | (refine Eq.trans ?_ (fe_State_drawBytes (by assumption))) | (refine Eq.trans ?_ (fe_State_storeRead (by assumption))) | (rw [fx_foldl]) | (rw [fx_foldl2]) | (rw [fx_foldlp]) | rfl | (rename_i h; injection h with h; subst h) | (rename_i h; cases h; done) | grind | (simp_all +zetaDelta only [fx_State_drawBytes, fx_State_storeRead, fx_mk, fx_fold, fx_ite, fx_ite2, ite_self]; done) | (refine (fe_State_drawBytes (by assumption)).trans ?_) | (refine (fe_State_storeRead (by assumption)).trans ?_))
theorem fe_State_shardMatches {s : State} {st a : Nat} {m : List Byte} {i : Nat} {e t}  (h : (State.shardMatches s st a m i) = (e, t)) : t.fixed = s.fixed := by
  have := fx_State_shardMatches s st a m i
  rw [h] at this; exact this
@[simp] theorem fx_State_residentMatches (s : State) (c k : Nat) (m : List Byte) (i : Nat) : (State.residentMatches s c k m i).2.fixed = s.fixed := by
  unfold State.residentMatches; (repeat' split) <;> simp
theorem fe_State_residentMatches {s : State} {c k : Nat} {m : List Byte} {i : Nat} {e t}  (h : (State.residentMatches s c k m i) = (e, t)) : t.fixed = s.fixed := by
  have := fx_State_residentMatches s c k m i
  rw [h] at this; exact this
@[simp] theorem fx_State_loadShard (s : State) (c k i : Nat) : (State.loadShard s c k i).fixed = s.fixed := by
  unfold State.loadShard; simp
@[simp] theorem fx_State_refetched (s : State) (c k i : Nat) : (State.refetched s c k i).fixed = s.fixed := by
  unfold State.refetched; simp
@[simp] theorem fx_State_refetchFails (s : State) (c k i : Nat) : (State.refetchFails s c k i).fixed = s.fixed := by
  unfold State.refetchFails; simp
@[simp] theorem fx_State_refetchShard (s : State) (c k i : Nat) : (State.refetchShard s c k i).fixed = s.fixed := by
  unfold State.refetchShard; simp
@[simp] theorem fx_State_finishLoad (s : State) (c : Nat) : (State.finishLoad s c).fixed = s.fixed := by
  unfold State.finishLoad; simp
@[simp] theorem fx_State_afterFirst (s : State) (c : Nat) (first : Bool) : (State.afterFirst s c first).fixed = s.fixed := by
  unfold State.afterFirst; simp
@[simp] theorem fx_State_completeLoad (s : State) (c : Nat) : (State.completeLoad s c).fixed = s.fixed := by
  unfold State.completeLoad; simp
@[simp] theorem fx_State_activate (s : State) (c k : Nat) : (State.activate s c k).fixed = s.fixed := by
  unfold State.activate; simp
@[simp] theorem fx_State_releaseBank (s : State) (c k : Nat) : (State.releaseBank s c k).fixed = s.fixed := by
  unfold State.releaseBank; simp
@[simp] theorem fx_State_recheckShard (s : State) (c k i : Nat) : (State.recheckShard s c k i).fixed = s.fixed := by
  unfold State.recheckShard; simp
@[simp] theorem fx_State_srPut64 (s : State) (st a off v : Nat) : (State.srPut64 s st a off v).fixed = s.fixed := rfl
@[simp] theorem fx_State_streamDone (s : State) (c st a n status : Nat) : (State.streamDone s c st a n status).fixed = s.fixed := rfl
@[simp] theorem fx_State_activity (s : State) (c : CellAt) : (State.activity s c).2.fixed = s.fixed := rfl
theorem fe_State_activity {s : State} {c : CellAt} {e t}  (h : (State.activity s c) = (e, t)) : t.fixed = s.fixed := by
  have := fx_State_activity s c
  rw [h] at this; exact this
@[simp] theorem fx_State_charge (s : State) (who : Option Nat) (e : Nat) : (State.charge s who e).fixed = s.fixed := by
  unfold State.charge; split <;> simp
@[simp] theorem fx_State_divide (s : State) (e : Nat) (ws : List (Option Nat × Nat)) : (State.divide s e ws).fixed = s.fixed := by
  unfold State.divide; simp
@[simp] theorem fx_State_chargeFrame (s : State) (i : Site) (f e : Nat) : (State.chargeFrame s i f e).fixed = s.fixed := by
  unfold State.chargeFrame
  repeat' (first | with_reducible rfl | assumption | (simp only [fx_State_activity, fx_State_divide, fx_State_draw, fx_mk, fx_fold, fx_ite, fx_ite2, ite_self]; done) | split | (simp only [fx_State_activity, fx_State_divide, fx_State_draw, fx_mk, fx_fold, fx_ite, fx_ite2, ite_self]) | (intro _) | exact fe_State_activity (by assumption) | exact fe_State_draw (by assumption) | (refine Eq.trans ?_ (fe_State_activity (by assumption))) | (refine Eq.trans ?_ (fe_State_draw (by assumption))) | (rw [fx_foldl]) | (rw [fx_foldl2]) | (rw [fx_foldlp]) | rfl | (rename_i h; injection h with h; subst h) | (rename_i h; cases h; done) | grind | (simp_all +zetaDelta only [fx_State_activity, fx_State_divide, fx_State_draw, fx_mk, fx_fold, fx_ite, fx_ite2, ite_self]; done) | (refine (fe_State_activity (by assumption)).trans ?_) | (refine (fe_State_draw (by assumption)).trans ?_))
@[simp] theorem fx_State_chargeStore (s : State) (st e : Nat) : (State.chargeStore s st e).fixed = s.fixed := by
  unfold State.chargeStore; simp

/-! ### Swarm.lean -/

@[simp] theorem fx_State_swarmIn (s : State) (h : Half) (p : DataPkt) (kind : Nat) (body : Nat → State → State) (h_body : ∀ y0 y1, (body y0 y1).fixed = State.fixed y1) : (State.swarmIn s h p kind body).fixed = s.fixed := by
  unfold State.swarmIn; simp [h_body]
@[simp] theorem fx_State_stepDone (s : State) (c cmd failed : Nat) : (State.stepDone s c cmd failed).fixed = s.fixed := rfl
@[simp] theorem fx_State_sendSegments (s : State) (c : Nat) : (State.sendSegments s c).fixed = s.fixed := by
  unfold State.sendSegments
  repeat' (first | with_reducible rfl | assumption | (simp only [fx_State_swarmMsg, fx_mk, fx_fold, fx_ite, fx_ite2, ite_self]; done) | split | (simp only [fx_State_swarmMsg, fx_mk, fx_fold, fx_ite, fx_ite2, ite_self]) | (intro _) | (rw [fx_foldl]) | (rw [fx_foldl2]) | (rw [fx_foldlp]) | rfl | (rename_i h; injection h with h; subst h) | (rename_i h; cases h; done) | grind | (simp_all +zetaDelta only [fx_State_swarmMsg, fx_mk, fx_fold, fx_ite, fx_ite2, ite_self]; done))
@[simp] theorem fx_State_swarmAct (s : State) (c cmd : Nat) (img : Option (List Byte)) (delivered : Bool) : (State.swarmAct s c cmd img delivered).2.fixed = s.fixed := by
  unfold State.swarmAct; simp
theorem fe_State_swarmAct {s : State} {c cmd : Nat} {img : Option (List Byte)} {delivered : Bool} {e t}  (h : (State.swarmAct s c cmd img delivered) = (e, t)) : t.fixed = s.fixed := by
  have := fx_State_swarmAct s c cmd img delivered
  rw [h] at this; exact this
@[simp] theorem fx_State_undoSwarm (s : State) (c cmd : Nat) : (State.undoSwarm s c cmd).fixed = s.fixed := by
  unfold State.undoSwarm
  repeat' (first | with_reducible rfl | assumption | (simp only [fx_State_modWork, fx_State_setCol, fx_State_swarmMsg, fx_mk, fx_fold, fx_ite, fx_ite2, ite_self]; done) | split | (simp only [fx_State_modWork, fx_State_setCol, fx_State_swarmMsg, fx_mk, fx_fold, fx_ite, fx_ite2, ite_self]) | (intro _) | (rw [fx_foldl]) | (rw [fx_foldl2]) | (rw [fx_foldlp]) | rfl | (rename_i h; injection h with h; subst h) | (rename_i h; cases h; done) | grind | (simp_all +zetaDelta only [fx_State_modWork, fx_State_setCol, fx_State_swarmMsg, fx_mk, fx_fold, fx_ite, fx_ite2, ite_self]; done))
@[simp] theorem fx_State_swarmLast (s : State) (c cmd : Nat) (img : Option (List Byte)) (delivered : Bool) : (State.swarmLast s c cmd img delivered).fixed = s.fixed := by
  unfold State.swarmLast; simp
@[simp] theorem fx_State_swarmTree (s : State) : (State.swarmTree s).fixed = s.fixed := by
  unfold State.swarmTree; simp
@[simp] theorem fx_State_swarmCommit (s : State) (members : List (Nat × List Byte)) : (State.swarmCommit s members).fixed = s.fixed := by
  unfold State.swarmCommit; simp
@[simp] theorem fx_State_losePeer (s : State) (c : Nat) : (State.losePeer s c).fixed = s.fixed := by
  unfold State.losePeer; simp

end Sys2Proof.Laws
end

