-- ==== Sys2Proof/Laws/FixedPower.lean ====
section
/-!
SUPPORT. No function of the panel changes a birth map, a keeper's identity or the queue (R33): links, power, recovery and registers.
-/
set_option linter.unusedSimpArgs false

namespace Sys2Proof.Laws

open Sys2Proof.Machine

/-! ### Links.lean -/

@[simp] theorem fx_State_modLinkAt (s : State) (l : LinkAt) (f : Link → Link) : (State.modLinkAt s l f).fixed = s.fixed := by
  unfold State.modLinkAt; split <;> simp
@[simp] theorem fx_State_linkRec (s : State) (l : LinkAt) (code sev : Nat) (info0 : W64) : (State.linkRec s l code sev info0).fixed = s.fixed := by
  unfold State.linkRec; split <;> simp
@[simp] theorem fx_State_setLnkErr (s : State) (l : LinkAt) (b : Nat) : (State.setLnkErr s l b).fixed = s.fixed := by
  unfold State.setLnkErr; simp
@[simp] theorem fx_State_landTokens (s : State) (panel : Byte) (z0 : Nat) (z1 : List W32) : (State.landTokens s panel z0 z1).1.fixed = s.fixed := by
  fun_induction State.landTokens s panel z0 z1
  all_goals
    repeat' (first | with_reducible rfl | assumption | (simp only [*, fx_State_sendWag, fx_mk, fx_fold, fx_ite, fx_ite2, ite_self]; done) | (simp +zetaDelta only [*, fx_State_sendWag, fx_mk, fx_fold, fx_ite, fx_ite2, ite_self]; done) | split | (simp only [*, fx_State_sendWag, fx_mk, fx_fold, fx_ite, fx_ite2, ite_self]) | (simp +zetaDelta only [*, fx_State_sendWag, fx_mk, fx_fold, fx_ite, fx_ite2, ite_self]) | (intro _) | (rw [fx_foldl]) | (rw [fx_foldl2]) | (rw [fx_foldlp]) | rfl | (rename_i h; injection h with h; subst h) | (rename_i h; cases h; done) | grind | (simp_all +zetaDelta only [fx_State_sendWag, fx_mk, fx_fold, fx_ite, fx_ite2, ite_self]; done))
theorem fe_State_landTokens {s : State} {panel : Byte} {z0 : Nat} {z1 : List W32} {t e}  (h : (State.landTokens s panel z0 z1) = (t, e)) : t.fixed = s.fixed := by
  have := fx_State_landTokens s panel z0 z1
  rw [h] at this; exact this
@[simp] theorem fx_State_landFlit (s : State) (i : Site) (k : Fin 12) (f : BitVec 512) : (State.landFlit s i k f).fixed = s.fixed := by
  unfold State.landFlit; simp
@[simp] theorem fx_State_landCtl (s : State) (i : Site) (k : Fin 12) (p : CtlPkt) : (State.landCtl s i k p).fixed = s.fixed := rfl
@[simp] theorem fx_State_landSlot (s : State) (i : Site) (k : Fin 12) (f : LinkFrame) (n : Nat) : (State.landSlot s i k f n).fixed = s.fixed := by
  unfold State.landSlot
  repeat' (first | with_reducible rfl | assumption | (simp only [fx_State_landCtl, fx_State_landFlit, fx_State_landTokens, fx_mk, fx_fold, fx_ite, fx_ite2, ite_self]; done) | split | (simp only [fx_State_landCtl, fx_State_landFlit, fx_State_landTokens, fx_mk, fx_fold, fx_ite, fx_ite2, ite_self]) | (intro _) | exact fe_State_landTokens (by assumption) | (refine Eq.trans ?_ (fe_State_landTokens (by assumption))) | (rw [fx_foldl]) | (rw [fx_foldl2]) | (rw [fx_foldlp]) | rfl | (rename_i h; injection h with h; subst h) | (rename_i h; cases h; done) | grind | (simp_all +zetaDelta only [fx_State_landCtl, fx_State_landFlit, fx_State_landTokens, fx_mk, fx_fold, fx_ite, fx_ite2, ite_self]; done) | (refine (fe_State_landTokens (by assumption)).trans ?_))
@[simp] theorem fx_State_linkDown (s : State) (l : LinkAt) (state reason : Nat) : (State.linkDown s l state reason).fixed = s.fixed := by
  unfold State.linkDown
  repeat' (first | with_reducible rfl | assumption | (simp only [fx_State_endFetch, fx_State_modLinkAt, fx_mk, fx_fold, fx_ite, fx_ite2, ite_self]; done) | split | (simp only [fx_State_endFetch, fx_State_modLinkAt, fx_mk, fx_fold, fx_ite, fx_ite2, ite_self]) | (intro _) | (rw [fx_foldl]) | (rw [fx_foldl2]) | (rw [fx_foldlp]) | rfl | (rename_i h; injection h with h; subst h) | (rename_i h; cases h; done) | grind | (simp_all +zetaDelta only [fx_State_endFetch, fx_State_modLinkAt, fx_mk, fx_fold, fx_ite, fx_ite2, ite_self]; done))
@[simp] theorem fx_State_startTraining (s : State) (l : LinkAt) : (State.startTraining s l).fixed = s.fixed := by
  unfold State.startTraining; simp
@[simp] theorem fx_State_retrain (s : State) (l : LinkAt) (commanded : Bool) : (State.retrain s l commanded).fixed = s.fixed := by
  unfold State.retrain; simp
@[simp] theorem fx_State_resend (s : State) (l : LinkAt) (ch : Nat) : (State.resend s l ch).fixed = s.fixed := by
  unfold State.resend; simp
@[simp] theorem fx_State_trainFail (s : State) (l : LinkAt) (reason : Nat) (check : Bool) : (State.trainFail s l reason check).fixed = s.fixed := by
  unfold State.trainFail; split <;> simp
@[simp] theorem fx_State_trainUp (s : State) (l : LinkAt) (half : Bool) : (State.trainUp s l half).fixed = s.fixed := by
  unfold State.trainUp; simp
@[simp] theorem fx_State_train (s : State) (l : LinkAt) (o : TrainOut) : (State.train s l o).fixed = s.fixed := by
  unfold State.train
  repeat' (first | with_reducible rfl | assumption | (simp only [fx_State_modLinkAt, fx_State_signal, fx_State_trainFail, fx_State_trainUp, fx_mk, fx_fold, fx_ite, fx_ite2, ite_self]; done) | split | (simp only [fx_State_modLinkAt, fx_State_signal, fx_State_trainFail, fx_State_trainUp, fx_mk, fx_fold, fx_ite, fx_ite2, ite_self]) | (intro _) | (rw [fx_foldl]) | (rw [fx_foldl2]) | (rw [fx_foldlp]) | rfl | (rename_i h; injection h with h; subst h) | (rename_i h; cases h; done) | grind | (simp_all +zetaDelta only [fx_State_modLinkAt, fx_State_signal, fx_State_trainFail, fx_State_trainUp, fx_mk, fx_fold, fx_ite, fx_ite2, ite_self]; done))
@[simp] theorem fx_State_resel (s : State) : (State.resel s).fixed = s.fixed := by
  unfold State.resel; simp
@[simp] theorem fx_State_reselPanels (s : State) : (State.reselPanels s).fixed = s.fixed := by
  unfold State.reselPanels
  repeat' (first | with_reducible rfl | assumption | (simp only [fx_State_modRouter, fx_mk, fx_fold, fx_ite, fx_ite2, ite_self]; done) | split | (simp only [fx_State_modRouter, fx_mk, fx_fold, fx_ite, fx_ite2, ite_self]) | (intro _) | (rw [fx_foldl]) | (rw [fx_foldl2]) | (rw [fx_foldlp]) | rfl | (rename_i h; injection h with h; subst h) | (rename_i h; cases h; done) | grind | (simp_all +zetaDelta only [fx_State_modRouter, fx_mk, fx_fold, fx_ite, fx_ite2, ite_self]; done))
@[simp] theorem fx_State_linkCtrl (s : State) (v : Nat) (l : LinkAt) : (State.linkCtrl s v l).fixed = s.fixed := by
  unfold State.linkCtrl; simp
@[simp] theorem fx_State_lnkCtrlWrite (s : State) (l : LinkAt) (v : W64) : (State.lnkCtrlWrite s l v).fixed = s.fixed := by
  unfold State.lnkCtrlWrite; simp
@[simp] theorem fx_State_octetChange (s : State) (o : Nat) : (State.octetChange s o).fixed = s.fixed := by
  unfold State.octetChange; simp
@[simp] theorem fx_State_swarmChange (s : State) : (State.swarmChange s).fixed = s.fixed := by
  unfold State.swarmChange; simp
@[simp] theorem fx_State_setLaser (s : State) (n st : Nat) (tele : List W32) : (State.setLaser s n st tele).fixed = s.fixed := rfl
@[simp] theorem fx_State_relight (s : State) (n : Nat) : (State.relight s n).fixed = s.fixed := by
  unfold State.relight; simp
@[simp] theorem fx_State_censusOf (s : State) (ls : List LinkAt) (onDie : List Site) (o : CensusOut) : (State.censusOf s ls onDie o).fixed = s.fixed := by
  unfold State.censusOf
  repeat' (first | with_reducible rfl | assumption | (simp only [fx_State_burn, fx_State_combErr, fx_State_linkDown, fx_State_modLinkAt, fx_State_startTraining, fx_mk, fx_fold, fx_ite, fx_ite2, ite_self]; done) | split | (simp only [fx_State_burn, fx_State_combErr, fx_State_linkDown, fx_State_modLinkAt, fx_State_startTraining, fx_mk, fx_fold, fx_ite, fx_ite2, ite_self]) | (intro _) | (rw [fx_foldl]) | (rw [fx_foldl2]) | (rw [fx_foldlp]) | rfl | (rename_i h; injection h with h; subst h) | (rename_i h; cases h; done) | grind | (simp_all +zetaDelta only [fx_State_burn, fx_State_combErr, fx_State_linkDown, fx_State_modLinkAt, fx_State_startTraining, fx_mk, fx_fold, fx_ite, fx_ite2, ite_self]; done))

/-! ### Power.lean -/

@[simp] theorem fx_State_supplyRec (s : State) (h : Half) (info0 : W64) : (State.supplyRec s h info0).fixed = s.fixed := rfl
@[simp] theorem fx_State_setPwrErr (s : State) (i : Site) (b kind inst : Nat) : (State.setPwrErr s i b kind inst).fixed = s.fixed := by
  unfold State.setPwrErr; simp
@[simp] theorem fx_State_pwrErr (s : State) (i : Site) (b : Nat) : (State.pwrErr s i b).fixed = s.fixed := by
  unfold State.pwrErr; simp
@[simp] theorem fx_State_setDom (s : State) (i : Site) (d : Nat) (x : Dom) : (State.setDom s i d x).fixed = s.fixed := rfl
@[simp] theorem fx_State_withdraw (s : State) (i : Site) (d : Nat) : (State.withdraw s i d).fixed = s.fixed := rfl
@[simp] theorem fx_State_domDark (s : State) (i : Site) (d : Nat) : (State.domDark s i d).fixed = s.fixed := by
  unfold State.domDark
  repeat' (first | with_reducible rfl | assumption | (simp only [fx_State_linkDown, fx_State_modComb, fx_State_setSite, fx_mk, fx_fold, fx_ite, fx_ite2, ite_self]; done) | split | (simp only [fx_State_linkDown, fx_State_modComb, fx_State_setSite, fx_mk, fx_fold, fx_ite, fx_ite2, ite_self]) | (intro _) | (rw [fx_foldl]) | (rw [fx_foldl2]) | (rw [fx_foldlp]) | rfl | (rename_i h; injection h with h; subst h) | (rename_i h; cases h; done) | grind | (simp_all +zetaDelta only [fx_State_linkDown, fx_State_modComb, fx_State_setSite, fx_mk, fx_fold, fx_ite, fx_ite2, ite_self]; done))
@[simp] theorem fx_State_domOff (s : State) (i : Site) (d st reason : Nat) : (State.domOff s i d st reason).fixed = s.fixed := by
  unfold State.domOff; simp
@[simp] theorem fx_State_domOn (s : State) (i : Site) (d : Nat) (who : Option Half) : (State.domOn s i d who).fixed = s.fixed := by
  unfold State.domOn; simp
@[simp] theorem fx_State_domOffWrite (s : State) (i : Site) (d : Nat) (who : Option Half) : (State.domOffWrite s i d who).fixed = s.fixed := by
  unfold State.domOffWrite; simp
@[simp] theorem fx_State_regLost (s : State) (i : Site) (r cause : Nat) (latch : Bool) : (State.regLost s i r cause latch).fixed = s.fixed := by
  unfold State.regLost; simp
@[simp] theorem fx_State_vsetWrite (s : State) (i : Site) (r : Nat) (v : W64) : (State.vsetWrite s i r v).fixed = s.fixed := by
  unfold State.vsetWrite; simp
@[simp] theorem fx_State_modHalf (s : State) (h : Half) (f : HalfPower → HalfPower) : (State.modHalf s h f).fixed = s.fixed := by
  unfold State.modHalf; split <;> simp
@[simp] theorem fx_State_passLead (s : State) (h : Half) : (State.passLead s h).fixed = s.fixed := by
  unfold State.passLead; simp
@[simp] theorem fx_State_halfStop (s : State) (h : Half) (why : Nat) : (State.halfStop s h why).fixed = s.fixed := by
  unfold State.halfStop
  repeat' (first | with_reducible rfl | assumption | (simp only [fx_State_modComb, fx_State_modHalf, fx_State_modStore, fx_State_passLead, fx_State_setKeeper, fx_mk, fx_fold, fx_ite, fx_ite2, ite_self]; done) | split | (simp only [fx_State_modComb, fx_State_modHalf, fx_State_modStore, fx_State_passLead, fx_State_setKeeper, fx_mk, fx_fold, fx_ite, fx_ite2, ite_self]) | (intro _) | (rw [fx_foldl]) | (rw [fx_foldl2]) | (rw [fx_foldlp]) | rfl | (rename_i h; injection h with h; subst h) | (rename_i h; cases h; done) | grind | (simp_all +zetaDelta only [fx_State_modComb, fx_State_modHalf, fx_State_modStore, fx_State_passLead, fx_State_setKeeper, fx_mk, fx_fold, fx_ite, fx_ite2, ite_self]; done))
@[simp] theorem fx_State_setConv (s : State) (n : Nat) (x : Converter) : (State.setConv s n x).fixed = s.fixed := rfl
@[simp] theorem fx_State_planeCheck (s : State) (h : Half) : (State.planeCheck s h).fixed = s.fixed := by
  unfold State.planeCheck; simp
@[simp] theorem fx_State_setBlade (s : State) (b : Nat) (x : Blade) : (State.setBlade s b x).fixed = s.fixed := rfl
@[simp] theorem fx_State_bladeTo (s : State) (b st : Nat) : (State.bladeTo s b st).fixed = s.fixed := rfl
@[simp] theorem fx_State_busState (s : State) (h : Half) (old new : Nat) : (State.busState s h old new).fixed = s.fixed := by
  unfold State.busState; simp
@[simp] theorem fx_State_halfUp (s : State) (h : Half) : (State.halfUp s h).fixed = s.fixed := by
  unfold State.halfUp; simp
@[simp] theorem fx_State_zoneStoreFence (s : State) (z : Nat) : (State.zoneStoreFence s z).fixed = s.fixed := by
  unfold State.zoneStoreFence; simp

/-! ### PState.lean -/

@[simp] theorem fx_State_setPstErr (s : State) (i : Site) (b : Nat) : (State.setPstErr s i b).fixed = s.fixed := by
  unfold State.setPstErr; simp
@[simp] theorem fx_State_deeper (s : State) (c : CellAt) : (State.deeper s c).fixed = s.fixed := by
  unfold State.deeper; simp
@[simp] theorem fx_State_siteDawn (s : State) (c : CellAt) : (State.siteDawn s c).fixed = s.fixed := by
  unfold State.siteDawn; simp
@[simp] theorem fx_State_deepestWrite (s : State) (i : Site) (p : Phys) (n : Nat) : (State.deepestWrite s i p n).fixed = s.fixed := by
  unfold State.deepestWrite; simp
@[simp] theorem fx_State_capWrite (s : State) (c : CellAt) (v : W64) : (State.capWrite s c v).fixed = s.fixed := by
  unfold State.capWrite; simp
@[simp] theorem fx_State_loopHalf (s : State) (h : Half) (inH inAll other : Nat) : (State.loopHalf s h inH inAll other).fixed = s.fixed := by
  unfold State.loopHalf
  repeat' (first | with_reducible rfl | assumption | (simp only [fx_State_draw, fx_State_modPw, fx_mk, fx_fold, fx_ite, fx_ite2, ite_self]; done) | split | (simp only [fx_State_draw, fx_State_modPw, fx_mk, fx_fold, fx_ite, fx_ite2, ite_self]) | (intro _) | exact fe_State_draw (by assumption) | (refine Eq.trans ?_ (fe_State_draw (by assumption))) | (rw [fx_foldl]) | (rw [fx_foldl2]) | (rw [fx_foldlp]) | rfl | (rename_i h; injection h with h; subst h) | (rename_i h; cases h; done) | grind | (simp_all +zetaDelta only [fx_State_draw, fx_State_modPw, fx_mk, fx_fold, fx_ite, fx_ite2, ite_self]; done) | (refine (fe_State_draw (by assumption)).trans ?_))
@[simp] theorem fx_State_shiftFrame (s : State) (i : Site) (f : Nat) (up : Bool) : (State.shiftFrame s i f up).fixed = s.fixed := by
  unfold State.shiftFrame; simp
@[simp] theorem fx_State_lostC (s : State) (i : Site) : (State.lostC s i).fixed = s.fixed := by
  unfold State.lostC; simp
@[simp] theorem fx_State_criticalAct (s : State) (i : Site) (n : Nat) : (State.criticalAct s i n).fixed = s.fixed := by
  unfold State.criticalAct; simp
@[simp] theorem fx_State_openFrame (s : State) (i : Site) (f : Nat) : (State.openFrame s i f).fixed = s.fixed := by
  unfold State.openFrame; simp

/-! ### Clock.lean -/

@[simp] theorem fx_State_refTo (s : State) (h : Half) (st : Nat) : (State.refTo s h st).fixed = s.fixed := by
  unfold State.refTo; simp
@[simp] theorem fx_State_setClkErr (s : State) (i : Site) (b : Nat) : (State.setClkErr s i b).fixed = s.fixed := by
  unfold State.setClkErr; simp
@[simp] theorem fx_State_clkCombWrite (s : State) (i : Site) (v : W64) : (State.clkCombWrite s i v).fixed = s.fixed := by
  unfold State.clkCombWrite; simp
@[simp] theorem fx_State_setTime (s : State) (h : Half) (t : W64) : (State.setTime s h t).fixed = s.fixed := by
  unfold State.setTime; simp

/-! ### Recover.lean -/

@[simp] theorem fx_State_modLoader (s : State) (i : Site) (f : Loader → Loader) : (State.modLoader s i f).fixed = s.fixed := rfl
@[simp] theorem fx_State_setFwlErr (s : State) (i : Site) (b : Nat) : (State.setFwlErr s i b).fixed = s.fixed := by
  unfold State.setFwlErr; simp
@[simp] theorem fx_State_fwlArm (s : State) (i : Site) : (State.fwlArm s i).fixed = s.fixed := by
  unfold State.fwlArm; simp
@[simp] theorem fx_State_fwlCheck (s : State) (i : Site) : (State.fwlCheck s i).fixed = s.fixed := by
  unfold State.fwlCheck; simp
@[simp] theorem fx_State_fwlStart (s : State) (i : Site) (keeper : Bool) : (State.fwlStart s i keeper).fixed = s.fixed := by
  unfold State.fwlStart; simp
@[simp] theorem fx_State_bootSteward (s : State) (i : Site) : (State.bootSteward s i).fixed = s.fixed := rfl
@[simp] theorem fx_State_addFence (s : State) (kind inst code : Nat) : (State.addFence s kind inst code).fixed = s.fixed := by
  unfold State.addFence; simp
@[simp] theorem fx_State_fenceCell (s : State) (c : CellAt) : (State.fenceCell s c).fixed = s.fixed := by
  unfold State.fenceCell; simp
@[simp] theorem fx_State_domFence (s : State) (i : Site) (d : Nat) (heat : Bool) : (State.domFence s i d heat).fixed = s.fixed := by
  unfold State.domFence; simp
@[simp] theorem fx_State_fenceFrame (s : State) (i : Site) (f : Nat) (heat : Bool) : (State.fenceFrame s i f heat).fixed = s.fixed := by
  unfold State.fenceFrame; simp
@[simp] theorem fx_State_setAction (s : State) (x : Site) (action reason : Nat) : (State.setAction s x action reason).fixed = s.fixed := by
  unfold State.setAction; simp
@[simp] theorem fx_State_detourComb (s : State) (x : Site) : (State.detourComb s x).fixed = s.fixed := by
  unfold State.detourComb; simp
@[simp] theorem fx_State_undetour (s : State) (x : Site) : (State.undetour s x).fixed = s.fixed := by
  unfold State.undetour; simp
@[simp] theorem fx_State_fenceComb (s : State) (i : Site) (transit : Bool) : (State.fenceComb s i transit).fixed = s.fixed := by
  unfold State.fenceComb; simp
@[simp] theorem fx_State_fenceStoreUnit (s : State) (n : Nat) : (State.fenceStoreUnit s n).fixed = s.fixed := rfl
@[simp] theorem fx_State_restartAll (s : State) (cs fails : List Nat) : (State.restartAll s cs fails).fixed = s.fixed := by
  unfold State.restartAll; simp
@[simp] theorem fx_State_resetComb (s : State) (x : Site) : (State.resetComb s x).fixed = s.fixed := by
  unfold State.resetComb; simp
@[simp] theorem fx_State_resetDrained (s : State) (x : Site) (hold : Bool) (fails : List Nat) : (State.resetDrained s x hold fails).fixed = s.fixed := by
  have h1 : ((s.modRouter x (fun r => { r with drain := 0x1FFFF })).leaveTree x).fixed = s.fixed := by
    rw [fx_State_leaveTree, fx_State_modRouter]
  unfold State.resetDrained
  generalize (s.modRouter x (fun r => { r with drain := 0x1FFFF })).leaveTree x = u at h1 ⊢
  dsimp only
  split
  · rw [fx_State_modComb, h1]
  · rw [fx_State_restartAll, fx_State_retree, fx_State_undetour, fx_State_resetComb, h1]

/-! ### Patrol.lean -/

@[simp] theorem fx_State_modGuard (s : State) (i : Site) (f : Nat) (g : Guard → Guard) : (State.modGuard s i f g).fixed = s.fixed := rfl
@[simp] theorem fx_State_erqBadWr (s : State) (i : Site) : (State.erqBadWr s i).fixed = s.fixed := by
  unfold State.erqBadWr; simp
@[simp] theorem fx_State_guardPause (s : State) (i : Site) (keeper on : Bool) : (State.guardPause s i keeper on).fixed = s.fixed := by
  unfold State.guardPause; simp
@[simp] theorem fx_State_guardSwap (s : State) (i : Site) (f : Nat) (q p : Phys) (up : Bool) : (State.guardSwap s i f q p up).fixed = s.fixed := by
  unfold State.guardSwap; simp
@[simp] theorem fx_State_unpark (s : State) (i : Site) (f : Nat) (qp : Phys) (x : Cell) : (State.unpark s i f qp x).fixed = s.fixed := by
  unfold State.unpark; simp

/-! ### Registers.lean -/

@[simp] theorem fx_State_smpRead (s : State) (a : SmpAt) (off : Nat) : (State.smpRead s a off).2.fixed = s.fixed := by
  unfold State.smpRead; simp
theorem fe_State_smpRead {s : State} {a : SmpAt} {off : Nat} {e t}  (h : (State.smpRead s a off) = (e, t)) : t.fixed = s.fixed := by
  have := fx_State_smpRead s a off
  rw [h] at this; exact this
@[simp] theorem fx_State_smpStWrite (s : State) (a : SmpAt) (c : Nat) (f : SmpCtx → SmpCtx) : (State.smpStWrite s a c f).fixed = s.fixed := by
  unfold State.smpStWrite; simp
@[simp] theorem fx_State_smpWrite (s : State) (a : SmpAt) (off : Nat) (v : W64) : (State.smpWrite s a off v).fixed = s.fixed := by
  unfold State.smpWrite; simp
@[simp] theorem fx_State_lnkRead (s : State) (i : Site) (off : Nat) : (State.lnkRead s i off).2.fixed = s.fixed := by
  unfold State.lnkRead; split <;> simp
theorem fe_State_lnkRead {s : State} {i : Site} {off : Nat} {e t}  (h : (State.lnkRead s i off) = (e, t)) : t.fixed = s.fixed := by
  have := fx_State_lnkRead s i off
  rw [h] at this; exact this
@[simp] theorem fx_State_lnkWrite (s : State) (i : Site) (off : Nat) (v : W64) : (State.lnkWrite s i off v).fixed = s.fixed := by
  unfold State.lnkWrite; split <;> simp
@[simp] theorem fx_State_pwrWrite (s : State) (i : Site) (off : Nat) (v : W64) (who : Option Half) : (State.pwrWrite s i off v who).fixed = s.fixed := by
  unfold State.pwrWrite; simp
@[simp] theorem fx_State_pstWrite (s : State) (i : Site) (off : Nat) (v : W64) : (State.pstWrite s i off v).fixed = s.fixed := by
  unfold State.pstWrite; (repeat' split) <;> simp
@[simp] theorem fx_State_miscRead (s : State) (i : Site) (off : Nat) : (State.miscRead s i off).2.fixed = s.fixed := by
  unfold State.miscRead; simp
theorem fe_State_miscRead {s : State} {i : Site} {off : Nat} {e t}  (h : (State.miscRead s i off) = (e, t)) : t.fixed = s.fixed := by
  have := fx_State_miscRead s i off
  rw [h] at this; exact this
@[simp] theorem fx_State_fwlCtrl (s : State) (i : Site) (v : W64) (keeper : Bool) : (State.fwlCtrl s i v keeper).fixed = s.fixed := by
  unfold State.fwlCtrl; simp
@[simp] theorem fx_State_miscWrite (s : State) (i : Site) (off : Nat) (v : W64) (keeper : Bool) : (State.miscWrite s i off v keeper).fixed = s.fixed := by
  unfold State.miscWrite; simp
@[simp] theorem fx_State_stewardRead (s : State) (i : Site) (off : Nat) : (State.stewardRead s i off).2.fixed = s.fixed := by
  unfold State.stewardRead; simp
theorem fe_State_stewardRead {s : State} {i : Site} {off : Nat} {e t}  (h : (State.stewardRead s i off) = (e, t)) : t.fixed = s.fixed := by
  have := fx_State_stewardRead s i off
  rw [h] at this; exact this
@[simp] theorem fx_State_stewardWrite (s : State) (i : Site) (off : Nat) (v : W64) (who : Option Half) : (State.stewardWrite s i off v who).fixed = s.fixed := by
  unfold State.stewardWrite; simp
@[simp] theorem fx_State_cellWrite (s : State) (c : CellAt) (off : Nat) (v : W64) : (State.cellWrite s c off v).fixed = s.fixed := by
  unfold State.cellWrite; simp
@[simp] theorem fx_State_regRead (s : State) (u : RegUnit) (off : Nat) : (State.regRead s u off).2.fixed = s.fixed := by
  unfold State.regRead; split <;> simp
theorem fe_State_regRead {s : State} {u : RegUnit} {off : Nat} {e t}  (h : (State.regRead s u off) = (e, t)) : t.fixed = s.fixed := by
  have := fx_State_regRead s u off
  rw [h] at this; exact this
@[simp] theorem fx_State_regWrite (s : State) (u : RegUnit) (off : Nat) (v : W64) (who : Option Half) : (State.regWrite s u off v who).fixed = s.fixed := by
  unfold State.regWrite; split <;> simp
@[simp] theorem fx_State_regWake (s : State) (u : RegUnit) : (State.regWake s u).fixed = s.fixed := by
  unfold State.regWake; split <;> simp
@[simp] theorem fx_State_regNack (s : State) (u : RegUnit) (ep : Eid) (p : CtlPkt) (reason : Nat) : (State.regNack s u ep p reason).fixed = s.fixed := by
  unfold State.regNack; split <;> simp
@[simp] theorem fx_State_unpairedAt (s : State) (site : Nat) (p : CtlPkt) : (State.unpairedAt s site p).fixed = s.fixed := by
  unfold State.unpairedAt; split <;> simp

/-! ### Lead.lean -/

@[simp] theorem fx_State_keeperBoot (s : State) (h : Half) : (State.keeperBoot s h).fixed = s.fixed := by
  unfold State.keeperBoot; (repeat' split) <;> simp
@[simp] theorem fx_State_restartAgain (s : State) (fails : List Nat) : (State.restartAgain s fails).fixed = s.fixed := by
  unfold State.restartAgain; simp
@[simp] theorem fx_State_passSolicited (s : State) (h : Half) (g : Nat) : (State.passSolicited s h g).fixed = s.fixed := by
  unfold State.passSolicited
  simp only
  split
  · rfl
  · split
    · rw [fx_State_sendWag, fx_State_modMember, fx_State_wagAnswer, fx_foldl _ _ _ (fun s i => fx_State_setOpen s i _ _)]; rfl
    · rw [fx_State_modMember, fx_State_wagAnswer, fx_foldl _ _ _ (fun s i => fx_State_setOpen s i _ _)]; rfl
@[simp] theorem fx_State_takeLead (s : State) (h : Half) (fails : List Nat) : (State.takeLead s h fails).fixed = s.fixed := by
  unfold State.takeLead; simp
@[simp] theorem fx_State_handOver (s : State) (fails : List Nat) : (State.handOver s fails).fixed = s.fixed := by
  unfold State.handOver; simp

/-! ### Safe.lean -/

@[simp] theorem fx_State_dumpHalf (s : State) (h : Half) (trigger : Nat) (r : Option ErrRec) : (State.dumpHalf s h trigger r).fixed = s.fixed := by
  unfold State.dumpHalf; simp
@[simp] theorem fx_State_dumps (s : State) (trigger : Nat) (r : Option ErrRec) : (State.dumps s trigger r).fixed = s.fixed := by
  unfold State.dumps; simp
@[simp] theorem fx_State_dumpCtrl (s : State) (v : Nat) : (State.dumpCtrl s v).2.fixed = s.fixed := by
  unfold State.dumpCtrl; simp
theorem fe_State_dumpCtrl {s : State} {v : Nat} {e t}  (h : (State.dumpCtrl s v) = (e, t)) : t.fixed = s.fixed := by
  have := fx_State_dumpCtrl s v
  rw [h] at this; exact this
@[simp] theorem fx_State_safeQuiesce (s : State) (c : CellAt) : (State.safeQuiesce s c).fixed = s.fixed := by
  unfold State.safeQuiesce; simp
@[simp] theorem fx_State_safeState (s : State) (r : Option ErrRec) : (State.safeState s r).fixed = s.fixed := by
  unfold State.safeState; simp

end Sys2Proof.Laws
end

