-- ==== Sys2Proof/Laws/FixedPlane.lean ====
section
/-!
SUPPORT. No function of the panel changes a birth map, a keeper's identity or the queue (R33): the log, the management plane, the start and the service ports.
-/
set_option linter.unusedSimpArgs false

namespace Sys2Proof.Laws

open Sys2Proof.Machine

/-! ### Log.lean -/

@[simp] theorem fx_State_takeErr (s : State) (site : Nat) (r : ErrRec) : (State.takeErr s site r).fixed = s.fixed := rfl
@[simp] theorem fx_State_fenceDomain (s : State) (kind inst code : Nat) : (State.fenceDomain s kind inst code).fixed = s.fixed := by
  unfold State.fenceDomain; (repeat' split) <;> simp
@[simp] theorem fx_State_checkMinimum (s : State) : (State.checkMinimum s).fixed = s.fixed := by
  unfold State.checkMinimum; simp
@[simp] theorem fx_State_contain (s : State) (r : ErrRec) (fails : List Nat) : (State.contain s r fails).fixed = s.fixed := by
  unfold State.contain; simp
@[simp] theorem fx_State_fatal (s : State) (r : ErrRec) (fails : List Nat) : (State.fatal s r fails).fixed = s.fixed := by
  unfold State.fatal; simp
@[simp] theorem fx_State_logNew (s : State) (r : ErrRec) (fails : List Nat) : (State.logNew s r fails).fixed = s.fixed := by
  unfold State.logNew; simp
@[simp] theorem fx_State_logRecord (s : State) (r : ErrRec) (fails : List Nat) : (State.logRecord s r fails).fixed = s.fixed := by
  unfold State.logRecord; split <;> simp
@[simp] theorem fx_State_closeHandling (s : State) (closed : List Nat) : (State.closeHandling s closed).fixed = s.fixed := rfl
@[simp] theorem fx_State_fenceCtrl (s : State) (d : List Byte) (fails : List Nat) : (State.fenceCtrl s d fails).2.fixed = s.fixed := by
  unfold State.fenceCtrl; simp
theorem fe_State_fenceCtrl {s : State} {d : List Byte} {fails : List Nat} {e t}  (h : (State.fenceCtrl s d fails) = (e, t)) : t.fixed = s.fixed := by
  have := fx_State_fenceCtrl s d fails
  rw [h] at this; exact this

/-! ### Ciard.lean -/

@[simp] theorem fx_State_setSnap (s : State) (session : W32) (x : Option Snap) : (State.setSnap s session x).fixed = s.fixed := by
  unfold State.setSnap; simp
@[simp] theorem fx_State_noteReadOf (s : State) (o : ObjRef) : (State.noteReadOf s o).fixed = s.fixed := by
  unfold State.noteReadOf; simp
@[simp] theorem fx_State_readValue (s : State) (session : W32) (row : ObjRow) (b : ReadBody) : (State.readValue s session row b).2.2.fixed = s.fixed := by
  unfold State.readValue
  repeat' (first | with_reducible rfl | assumption | (simp only [fx_State_draw, fx_State_noteReadOf, fx_State_setSnap, fx_mk, fx_fold, fx_ite, fx_ite2, ite_self]; done) | split | (simp only [fx_State_draw, fx_State_noteReadOf, fx_State_setSnap, fx_mk, fx_fold, fx_ite, fx_ite2, ite_self]) | (intro _) | exact fe_State_draw (by assumption) | (refine Eq.trans ?_ (fe_State_draw (by assumption))) | (rw [fx_foldl]) | (rw [fx_foldl2]) | (rw [fx_foldlp]) | rfl | (rename_i h; injection h with h; subst h) | (rename_i h; cases h; done) | grind | (simp_all +zetaDelta only [fx_State_draw, fx_State_noteReadOf, fx_State_setSnap, fx_mk, fx_fold, fx_ite, fx_ite2, ite_self]; done) | (refine (fe_State_draw (by assumption)).trans ?_))
theorem fe_State_readValue {s : State} {session : W32} {row : ObjRow} {b : ReadBody} {e e2 t}  (h : (State.readValue s session row b) = (e, e2, t)) : t.fixed = s.fixed := by
  have := fx_State_readValue s session row b
  rw [h] at this; exact this

/-! ### CiardWrite.lean -/

@[simp] theorem fx_State_everyComb (s : State) (f : Comb → Comb) : (State.everyComb s f).fixed = s.fixed := by
  unfold State.everyComb
  repeat' (first | with_reducible rfl | assumption | (simp only [fx_State_modComb, fx_mk, fx_fold, fx_ite, fx_ite2, ite_self]; done) | split | (simp only [fx_State_modComb, fx_mk, fx_fold, fx_ite, fx_ite2, ite_self]) | (intro _) | (rw [fx_foldl]) | (rw [fx_foldl2]) | (rw [fx_foldlp]) | rfl | (rename_i h; injection h with h; subst h) | (rename_i h; cases h; done) | grind | (simp_all +zetaDelta only [fx_State_modComb, fx_mk, fx_fold, fx_ite, fx_ite2, ite_self]; done))
@[simp] theorem fx_State_applyLive (s : State) (idx inst sub : Nat) (d : List Byte) : (State.applyLive s idx inst sub d).fixed = s.fixed := by
  unfold State.applyLive
  repeat' (first | with_reducible rfl | assumption | (simp only [fx_State_everyComb, fx_State_modLinkAt, fx_State_modStore, fx_State_modVoice, fx_State_setCap, fx_State_setDeepest, fx_mk, fx_fold, fx_ite, fx_ite2, ite_self]; done) | split | (simp only [fx_State_everyComb, fx_State_modLinkAt, fx_State_modStore, fx_State_modVoice, fx_State_setCap, fx_State_setDeepest, fx_mk, fx_fold, fx_ite, fx_ite2, ite_self]) | (intro _) | (rw [fx_foldl]) | (rw [fx_foldl2]) | (rw [fx_foldlp]) | rfl | (rename_i h; injection h with h; subst h) | (rename_i h; cases h; done) | grind | (simp_all +zetaDelta only [fx_State_everyComb, fx_State_modLinkAt, fx_State_modStore, fx_State_modVoice, fx_State_setCap, fx_State_setDeepest, fx_mk, fx_fold, fx_ite, fx_ite2, ite_self]; done))
@[simp] theorem fx_State_pend (s : State) (key : Nat) (v : List Byte) : (State.pend s key v).2.fixed = s.fixed := by
  unfold State.pend; simp
theorem fe_State_pend {s : State} {key : Nat} {v : List Byte} {e t}  (h : (State.pend s key v) = (e, t)) : t.fixed = s.fixed := by
  have := fx_State_pend s key v
  rw [h] at this; exact this
@[simp] theorem fx_State_ciardEffect (s : State) (row : ObjRow) (o : ObjRef) (d : List Byte) : (State.ciardEffect s row o d).2.fixed = s.fixed := by
  unfold State.ciardEffect; (repeat' split) <;> simp
theorem fe_State_ciardEffect {s : State} {row : ObjRow} {o : ObjRef} {d : List Byte} {e t}  (h : (State.ciardEffect s row o d) = (e, t)) : t.fixed = s.fixed := by
  have := fx_State_ciardEffect s row o d
  rw [h] at this; exact this
@[simp] theorem fx_State_dropSeg (s : State) (session : W32) : (State.dropSeg s session).fixed = s.fixed := rfl
@[simp] theorem fx_State_segWrite (s : State) (role : Nat) (session : W32) (w : WriteBody) (d : List Byte) (step : List Byte → State → Nat × State) (last : ObjRow → List Byte → State → Nat × State) (h_step : ∀ y0 y1, (step y0 y1).2.fixed = State.fixed y1) (h_last : ∀ y0 y1 y2, (last y0 y1 y2).2.fixed = State.fixed y2) : (State.segWrite s role session w d step last).2.2.fixed = s.fixed := by
  unfold State.segWrite
  repeat' (first | with_reducible rfl | assumption | (simp only [fx_State_dropSeg, fx_State_modSession, h_step, h_last, fx_mk, fx_fold, fx_ite, fx_ite2, ite_self]; done) | split | (simp only [fx_State_dropSeg, fx_State_modSession, h_step, h_last, fx_mk, fx_fold, fx_ite, fx_ite2, ite_self]) | (intro _) | (rw [fx_foldl]) | (rw [fx_foldl2]) | (rw [fx_foldlp]) | rfl | (rename_i h; injection h with h; subst h) | (rename_i h; cases h; done) | grind | (simp_all +zetaDelta only [fx_State_dropSeg, fx_State_modSession, h_step, h_last, fx_mk, fx_fold, fx_ite, fx_ite2, ite_self]; done))
theorem fe_State_segWrite {s : State} {role : Nat} {session : W32} {w : WriteBody} {d : List Byte} {step : List Byte → State → Nat × State} {last : ObjRow → List Byte → State → Nat × State} {e e2 t} (h_step : ∀ y0 y1, (step y0 y1).2.fixed = State.fixed y1) (h_last : ∀ y0 y1 y2, (last y0 y1 y2).2.fixed = State.fixed y2) (h : (State.segWrite s role session w d step last) = (e, e2, t)) : t.fixed = s.fixed := by
  have := fx_State_segWrite s role session w d step last h_step h_last
  rw [h] at this; exact this

/-! ### Services.lean -/

@[simp] theorem fx_State_helloIn (s : State) (r : Req) (body : State → State) (h_body : ∀ y0, (body y0).fixed = State.fixed y0) : (State.helloIn s r body).fixed = s.fixed := by
  unfold State.helloIn; split <;> simp [h_body]
@[simp] theorem fx_State_closeUnder (s : State) (set slot : Nat) : (State.closeUnder s set slot).fixed = s.fixed := rfl
@[simp] theorem fx_State_keyWrite (s : State) (set slot : Nat) (v : List Byte) : (State.keyWrite s set slot v).2.fixed = s.fixed := by
  unfold State.keyWrite; simp
theorem fe_State_keyWrite {s : State} {set slot : Nat} {v : List Byte} {e t}  (h : (State.keyWrite s set slot v) = (e, t)) : t.fixed = s.fixed := by
  have := fx_State_keyWrite s set slot v
  rw [h] at this; exact this
@[simp] theorem fx_State_svnWrite (s : State) (kind : Nat) (v : BitVec 16) : (State.svnWrite s kind v).2.fixed = s.fixed := by
  unfold State.svnWrite; simp
theorem fe_State_svnWrite {s : State} {kind : Nat} {v : BitVec 16} {e t}  (h : (State.svnWrite s kind v) = (e, t)) : t.fixed = s.fixed := by
  have := fx_State_svnWrite s kind v
  rw [h] at this; exact this

/-! ### Change.lean -/

@[simp] theorem fx_State_digestCheck (s : State) (dom : Nat) (fails : List Nat) : (State.digestCheck s dom fails).fixed = s.fixed := by
  unfold State.digestCheck; simp
@[simp] theorem fx_State_burnUp (s : State) (key : Nat) (v : List Byte) : (State.burnUp s key v).fixed = s.fixed := by
  unfold State.burnUp; simp
@[simp] theorem fx_State_unitsTo (s : State) (e : Nat) (late : List Site) : (State.unitsTo s e late).fixed = s.fixed := by
  unfold State.unitsTo; simp
@[simp] theorem fx_State_modeChanged (s : State) (o : Nat) : (State.modeChanged s o).fixed = s.fixed := by
  unfold State.modeChanged; simp
@[simp] theorem fx_State_commitEpoch (s : State) (e last : Nat) (late : List Site) : (State.commitEpoch s e last late).fixed = s.fixed := by
  unfold State.commitEpoch
  repeat' (first | with_reducible rfl | assumption | (simp only [fx_State_burnUp, fx_State_modMgmt, fx_State_modeChanged, fx_State_setObj, fx_State_swarmChange, fx_State_unitsTo, fx_mk, fx_fold, fx_ite, fx_ite2, ite_self]; done) | split | (simp only [fx_State_burnUp, fx_State_modMgmt, fx_State_modeChanged, fx_State_setObj, fx_State_swarmChange, fx_State_unitsTo, fx_mk, fx_fold, fx_ite, fx_ite2, ite_self]) | (intro _) | (rw [fx_foldl]) | (rw [fx_foldl2]) | (rw [fx_foldlp]) | rfl | (rename_i h; injection h with h; subst h) | (rename_i h; cases h; done) | grind | (simp_all +zetaDelta only [fx_State_burnUp, fx_State_modMgmt, fx_State_modeChanged, fx_State_setObj, fx_State_swarmChange, fx_State_unitsTo, fx_mk, fx_fold, fx_ite, fx_ite2, ite_self]; done))
@[simp] theorem fx_State_commit (s : State) (abort : Bool) (late : List CellAt) (lateCombs : List Site) (fails : List Nat) : (State.commit s abort late lateCombs fails).2.fixed = s.fixed := by
  unfold State.commit
  repeat' (first | with_reducible rfl | assumption | (simp only [fx_State_commitEpoch, fx_State_digestCheck, fx_State_modMgmt, fx_State_sendErr, fx_mk, fx_fold, fx_ite, fx_ite2, ite_self]; done) | split | (simp only [fx_State_commitEpoch, fx_State_digestCheck, fx_State_modMgmt, fx_State_sendErr, fx_mk, fx_fold, fx_ite, fx_ite2, ite_self]) | (intro _) | (rw [fx_foldl]) | (rw [fx_foldl2]) | (rw [fx_foldlp]) | rfl | (rename_i h; injection h with h; subst h) | (rename_i h; cases h; done) | grind | (simp_all +zetaDelta only [fx_State_commitEpoch, fx_State_digestCheck, fx_State_modMgmt, fx_State_sendErr, fx_mk, fx_fold, fx_ite, fx_ite2, ite_self]; done))
theorem fe_State_commit {s : State} {abort : Bool} {late : List CellAt} {lateCombs : List Site} {fails : List Nat} {e t}  (h : (State.commit s abort late lateCombs fails) = (e, t)) : t.fixed = s.fixed := by
  have := fx_State_commit s abort late lateCombs fails
  rw [h] at this; exact this
@[simp] theorem fx_State_imageUpdate (s : State) (c : Nat) (d : List Byte) (img : Option (List Byte)) (delivered : Bool) : (State.imageUpdate s c d img delivered).2.fixed = s.fixed := by
  unfold State.imageUpdate; (repeat' split) <;> simp
theorem fe_State_imageUpdate {s : State} {c : Nat} {d : List Byte} {img : Option (List Byte)} {delivered : Bool} {e t}  (h : (State.imageUpdate s c d img delivered) = (e, t)) : t.fixed = s.fixed := by
  have := fx_State_imageUpdate s c d img delivered
  rw [h] at this; exact this
@[simp] theorem fx_State_rollStep (s : State) (i : Site) (fail : Bool) (fails : List Nat) : (State.rollStep s i fail fails).fixed = s.fixed := by
  unfold State.rollStep; simp
@[simp] theorem fx_State_stewardRoll (s : State) (bad : List Site) (fails : List Nat) : (State.stewardRoll s bad fails).2.fixed = s.fixed := by
  unfold State.stewardRoll; simp
theorem fe_State_stewardRoll {s : State} {bad : List Site} {fails : List Nat} {e t}  (h : (State.stewardRoll s bad fails) = (e, t)) : t.fixed = s.fixed := by
  have := fx_State_stewardRoll s bad fails
  rw [h] at this; exact this

/-! ### Boot.lean -/

@[simp] theorem fx_State_halves (s : State) (f : Half → State → State) (h_f : ∀ y0 y1, (f y0 y1).fixed = State.fixed y1) : (State.halves s f).fixed = s.fixed := by
  unfold State.halves; simp [h_f]
@[simp] theorem fx_State_startFence (s : State) (code kind inst : Nat) : (State.startFence s code kind inst).fixed = s.fixed := by
  unfold State.startFence; simp
@[simp] theorem fx_State_openComb (s : State) (i : Site) : (State.openComb s i).fixed = s.fixed := by
  unfold State.openComb; simp
@[simp] theorem fx_State_coldComb (s : State) (i : Site) (fmax : List (CellAt × Fin 16)) : (State.coldComb s i fmax).fixed = s.fixed := by
  unfold State.coldComb; simp
@[simp] theorem fx_State_combFails (s : State) (i : Site) (transit : Bool) : (State.combFails s i transit).fixed = s.fixed := by
  unfold State.combFails; simp
@[simp] theorem fx_State_startLinks (s : State) (f : StartFinds) : (State.startLinks s f).fixed = s.fixed := by
  unfold State.startLinks
  repeat' (first | with_reducible rfl | assumption | (simp only [fx_State_linkDown, fx_State_startTraining, fx_State_train, fx_State_trainFail, fx_State_trainUp, fx_mk, fx_fold, fx_ite, fx_ite2, ite_self]; done) | split | (simp only [fx_State_linkDown, fx_State_startTraining, fx_State_train, fx_State_trainFail, fx_State_trainUp, fx_mk, fx_fold, fx_ite, fx_ite2, ite_self]) | (intro _) | (rw [fx_foldl]) | (rw [fx_foldl2]) | (rw [fx_foldlp]) | rfl | (rename_i h; injection h with h; subst h) | (rename_i h; cases h; done) | grind | (simp_all +zetaDelta only [fx_State_linkDown, fx_State_startTraining, fx_State_train, fx_State_trainFail, fx_State_trainUp, fx_mk, fx_fold, fx_ite, fx_ite2, ite_self]; done))
@[simp] theorem fx_State_report_ (s : State) (f : StartFinds) (skipped : List Nat) (ref : W64) : (State.report_ s f skipped ref).fixed = s.fixed := by
  unfold State.report_; simp
@[simp] theorem fx_State_ready (s : State) (f : StartFinds) (again : List Nat) : (State.ready s f again).fixed = s.fixed := by
  unfold State.ready; simp
@[simp] theorem fx_State_startEpoch (s : State) (f : StartFinds) (then_ : State → State) (h_then_ : ∀ y0, (then_ y0).fixed = State.fixed y0) : (State.startEpoch s f then_).fixed = s.fixed := by
  unfold State.startEpoch; simp [h_then_]
@[simp] theorem fx_State_coldKeepers (s : State) (f : StartFinds) : (State.coldKeepers s f).fixed = s.fixed := by
  unfold State.coldKeepers; simp
@[simp] theorem fx_State_readStored (s : State) (f : StartFinds) : (State.readStored s f).fixed = s.fixed := by
  unfold State.readStored
  repeat' (first | with_reducible rfl | assumption | (simp only [fx_State_burn, fx_State_modMgmt, fx_State_setKeeper, fx_State_setObj, fx_mk, fx_fold, fx_ite, fx_ite2, ite_self]; done) | split | (simp only [fx_State_burn, fx_State_modMgmt, fx_State_setKeeper, fx_State_setObj, fx_mk, fx_fold, fx_ite, fx_ite2, ite_self]) | (intro _) | (rw [fx_foldl]) | (rw [fx_foldl2]) | (rw [fx_foldlp]) | rfl | (rename_i h; injection h with h; subst h) | (rename_i h; cases h; done) | grind | (simp_all +zetaDelta only [fx_State_burn, fx_State_modMgmt, fx_State_setKeeper, fx_State_setObj, fx_mk, fx_fold, fx_ite, fx_ite2, ite_self]; done))
@[simp] theorem fx_State_coldClear (s : State) (f : StartFinds) : (State.coldClear s f).fixed = s.fixed := by
  unfold State.coldClear; simp
@[simp] theorem fx_State_coldStore (s : State) (f : StartFinds) (n : Nat) : (State.coldStore s f n).fixed = s.fixed := by
  unfold State.coldStore; simp
@[simp] theorem fx_State_coldRun (s : State) (f : StartFinds) : (State.coldRun s f).fixed = s.fixed := by
  unfold State.coldRun
  repeat' (first | with_reducible rfl | assumption | (simp only [fx_State_applyLive, fx_State_censusOf, fx_State_coldComb, fx_State_coldStore, fx_State_combFails, fx_State_modMgmt, fx_State_ready, fx_State_report_, fx_State_retree, fx_State_startEpoch, fx_State_startFence, fx_mk, fx_fold, fx_ite, fx_ite2, ite_self]; done) | split | (simp only [fx_State_applyLive, fx_State_censusOf, fx_State_coldComb, fx_State_coldStore, fx_State_combFails, fx_State_modMgmt, fx_State_ready, fx_State_report_, fx_State_retree, fx_State_startEpoch, fx_State_startFence, fx_mk, fx_fold, fx_ite, fx_ite2, ite_self]) | (intro _) | (rw [fx_foldl]) | (rw [fx_foldl2]) | (rw [fx_foldlp]) | (rw [fx_State_startEpoch]) | rfl | (rename_i h; injection h with h; subst h) | (rename_i h; cases h; done) | grind | (simp_all +zetaDelta only [fx_State_applyLive, fx_State_censusOf, fx_State_coldComb, fx_State_coldStore, fx_State_combFails, fx_State_modMgmt, fx_State_ready, fx_State_report_, fx_State_retree, fx_State_startEpoch, fx_State_startFence, fx_mk, fx_fold, fx_ite, fx_ite2, ite_self]; done))
@[simp] theorem fx_State_coldStart (s : State) (f : StartFinds) : (State.coldStart s f).fixed = s.fixed := by
  unfold State.coldStart; simp
@[simp] theorem fx_State_warmComb (s : State) (i : Site) : (State.warmComb s i).fixed = s.fixed := by
  unfold State.warmComb; simp
@[simp] theorem fx_State_warmStore (s : State) (f : StartFinds) (n : Nat) : (State.warmStore s f n).fixed = s.fixed := by
  unfold State.warmStore; simp
@[simp] theorem fx_State_warmStop (s : State) : (State.warmStop s).fixed = s.fixed := by
  unfold State.warmStop; simp
@[simp] theorem fx_State_warmStart (s : State) (f : StartFinds) : (State.warmStart s f).fixed = s.fixed := by
  unfold State.warmStart; simp

/-! ### Control.lean -/

@[simp] theorem fx_State_branch (s : State) (a : At) (reads : List Reg) (illegal : Bool) (cond : Task → Bool) (off : BitVec 16) : (State.branch s a reads illegal cond off).fixed = s.fixed := by
  unfold State.branch; simp
@[simp] theorem fx_State_branchRR (s : State) (a : At) (f : OpBR) (cond : W64 → W64 → Bool) : (State.branchRR s a f cond).fixed = s.fixed := by
  unfold State.branchRR; simp
@[simp] theorem fx_State_tqEnter (s : State) (a : At) (rs1 : Reg) (unit : Nat) : (State.tqEnter s a rs1 unit).fixed = s.fixed := by
  unfold State.tqEnter; split <;> simp

/-! ### Transport.lean -/

@[simp] theorem fx_State_pdu (s : State) (from_ : MgmtFrom) (path : MgmtPath) (p : List Byte) : (State.pdu s from_ path p).fixed = s.fixed := by
  unfold State.pdu; (repeat' split) <;> simp
@[simp] theorem fx_State_mgmtSend (s : State) (h : Half) (f : List Byte) (echo : Bool) : (State.mgmtSend s h f echo).fixed = s.fixed := rfl
@[simp] theorem fx_State_modCan (s : State) (h : Half) (bus : Fin 2) (f : CanBus → CanBus) : (State.modCan s h bus f).fixed = s.fixed := by
  unfold State.modCan; simp

/-! ### Voice.lean -/

@[simp] theorem fx_State_vcount (s : State) (p k : Nat) : (State.vcount s p k).fixed = s.fixed := rfl
@[simp] theorem fx_State_modStream (s : State) (p index : Nat) (out : Bool) (f : Stream → Stream) : (State.modStream s p index out f).fixed = s.fixed := rfl
@[simp] theorem fx_State_ringSend (s : State) (p : Nat) (t : Stream) (word : Nat) (v : W32) : (State.ringSend s p t word v).fixed = s.fixed := rfl
@[simp] theorem fx_State_refuseRtp (s : State) (p : Nat) (t : Stream) (k : Nat) : (State.refuseRtp s p t k).fixed = s.fixed := by
  unfold State.refuseRtp; simp
@[simp] theorem fx_State_acceptRtp (s : State) (p : Nat) (t : Stream) (r : Rtp) (arrival : W32) : (State.acceptRtp s p t r arrival).fixed = s.fixed := by
  unfold State.acceptRtp; simp
@[simp] theorem fx_State_checkRtp (s : State) (p : Nat) (t : Stream) (r : Rtp) (arrival : W32) : (State.checkRtp s p t r arrival).fixed = s.fixed := by
  unfold State.checkRtp; simp
@[simp] theorem fx_State_takeSsrc (s : State) (p : Nat) (t : Stream) (ssrc : Nat) : (State.takeSsrc s p t ssrc).fixed = s.fixed := by
  unfold State.takeSsrc; simp
@[simp] theorem fx_State_srtpIn (s : State) (p : Nat) (t : Stream) (b : List Byte) (ssrc seq : Nat) (arrival : W32) : (State.srtpIn s p t b ssrc seq arrival).fixed = s.fixed := by
  unfold State.srtpIn
  repeat' (first | with_reducible rfl | assumption | (simp only [fx_State_checkRtp, fx_State_modStream, fx_State_refuseRtp, fx_State_takeSsrc, fx_State_vcount, fx_mk, fx_fold, fx_ite, fx_ite2, ite_self]; done) | split | (simp only [fx_State_checkRtp, fx_State_modStream, fx_State_refuseRtp, fx_State_takeSsrc, fx_State_vcount, fx_mk, fx_fold, fx_ite, fx_ite2, ite_self]) | (intro _) | (rw [fx_foldl]) | (rw [fx_foldl2]) | (rw [fx_foldlp]) | rfl | (rename_i h; injection h with h; subst h) | (rename_i h; cases h; done) | grind | (simp_all +zetaDelta only [fx_State_checkRtp, fx_State_modStream, fx_State_refuseRtp, fx_State_takeSsrc, fx_State_vcount, fx_mk, fx_fold, fx_ite, fx_ite2, ite_self]; done))
@[simp] theorem fx_State_media (s : State) (p : Nat) (d : Datagram) (arrival : W32) : (State.media s p d arrival).fixed = s.fixed := by
  unfold State.media
  repeat' (first | with_reducible rfl | assumption | (simp only [fx_State_checkRtp, fx_State_srtpIn, fx_State_takeSsrc, fx_State_vcount, fx_mk, fx_fold, fx_ite, fx_ite2, ite_self]; done) | split | (simp only [fx_State_checkRtp, fx_State_srtpIn, fx_State_takeSsrc, fx_State_vcount, fx_mk, fx_fold, fx_ite, fx_ite2, ite_self]) | (intro _) | (rw [fx_foldl]) | (rw [fx_foldl2]) | (rw [fx_foldlp]) | rfl | (rename_i h; injection h with h; subst h) | (rename_i h; cases h; done) | grind | (simp_all +zetaDelta only [fx_State_checkRtp, fx_State_srtpIn, fx_State_takeSsrc, fx_State_vcount, fx_mk, fx_fold, fx_ite, fx_ite2, ite_self]; done))
@[simp] theorem fx_State_streamEvent (s : State) (t : Stream) (kind : Nat) : (State.streamEvent s t kind).fixed = s.fixed := by
  unfold State.streamEvent; (repeat' split) <;> simp
@[simp] theorem fx_State_rtcpOne (s : State) (p : Nat) (t : Stream) (e : Nat × List Byte) : (State.rtcpOne s p t e).fixed = s.fixed := by
  unfold State.rtcpOne; simp
@[simp] theorem fx_State_rtcpIn (s : State) (p : Nat) (t : Stream) (b : List Byte) : (State.rtcpIn s p t b).fixed = s.fixed := by
  unfold State.rtcpIn; split <;> simp
@[simp] theorem fx_State_ctlIn (s : State) (p : Nat) (d : Datagram) : (State.ctlIn s p d).fixed = s.fixed := by
  unfold State.ctlIn; split <;> simp
@[simp] theorem fx_State_egressSend (s : State) (p : Nat) (t : Stream) (k : DataPkt) : (State.egressSend s p t k).fixed = s.fixed := by
  unfold State.egressSend; simp

/-! ### VoiceCtl.lean -/

@[simp] theorem fx_State_ctlRequest (s : State) (op : Nat) (act : Nat → List Byte → State → Nat × State) (h_act : ∀ y0 y1 y2, (act y0 y1 y2).2.fixed = State.fixed y2) : (State.ctlRequest s op act).fixed = s.fixed := by
  unfold State.ctlRequest
  repeat' (first | with_reducible rfl | assumption | (simp only [fx_State_modExch, fx_State_modVoice, fx_State_svcSend, h_act, fx_mk, fx_fold, fx_ite, fx_ite2, ite_self]; done) | split | (simp only [fx_State_modExch, fx_State_modVoice, fx_State_svcSend, h_act, fx_mk, fx_fold, fx_ite, fx_ite2, ite_self]) | (intro _) | (rw [fx_foldl]) | (rw [fx_foldl2]) | (rw [fx_foldlp]) | rfl | (rename_i h; injection h with h; subst h) | (rename_i h; cases h; done) | grind | (simp_all +zetaDelta only [fx_State_modExch, fx_State_modVoice, fx_State_svcSend, h_act, fx_mk, fx_fold, fx_ite, fx_ite2, ite_self]; done))
@[simp] theorem fx_State_bind (s : State) (x : Session) (b : List Byte) (index : Nat) (ring : Eid × Nat) : (State.bind s x b index ring).fixed = s.fixed := by
  unfold State.bind; simp

end Sys2Proof.Laws
end

