-- ==== Sys2Proof/Laws/Request.lean ====
section
/-!
SUPPORT. Laws of management requests: an admitted request is served, and a granted write performed.
-/
namespace Sys2Proof.Laws

open Sys2Proof.Machine

/-- An admitted request is served. -/
theorem request_ok {s : State} {r : Req} {m : MgmtSession} (h : Admitted s r m) (w : Bool) (body : Nat → State → Nat × List Byte × State) :
    s.request r w body = (let e := body m.role (s.admitted r m); e.2.2.answer r.session r.txn e.1 e.2.1) := by
  obtain ⟨h1, h2, h3, h4, h5, h6, h7, h8⟩ := h
  unfold State.request
  have hc : ¬ r.counter ≤ m.ctrIn := by
    intro hle; exact absurd (Nat.lt_of_lt_of_le h7 hle) (Nat.lt_irrefl _)
  simp only [h1, h2, h3, h4, h5, h6, h8, Bool.not_true, Bool.false_eq_true, if_false, ne_eq, not_true_eq_false, hc]; rfl

/-- A granted write is performed (R510). -/
theorem writeReq_ok {s : State} {r : Req} {m : MgmtSession} {o : ObjRef} {data : List Byte} (h : Granted s r m o data) (eff : State → Nat × State) :
    s.writeReq r o data eff = s.performed r m eff := by
  obtain ⟨⟨h1, h2, h3, h4, h5, h6, h7, h8⟩, row, hr, ht⟩ := h
  unfold State.writeReq State.request
  have hc : ¬ r.counter ≤ m.ctrIn := by
    intro hle; exact absurd (Nat.lt_of_lt_of_le h7 hle) (Nat.lt_irrefl _)
  simp only [h1, h2, h3, h4, h5, h6, h8, Bool.not_true, Bool.false_eq_true, if_false, ne_eq, not_true_eq_false, hc]
  unfold State.admitted at hr
  simp only [hr, ht, if_false]
  rfl

/-- Two effects that agree on the panel met perform alike. -/
theorem perf_congr {s : State} {r : Req} {m : MgmtSession} {f g : State → Nat × State} (h : f (s.admitted r m) = g (s.admitted r m)) :
    s.performed r m f = s.performed r m g := by unfold State.performed; rw [h]

end Sys2Proof.Laws
end

