-- ==== Sys2Proof/Laws/State.lean ====
section
/-!
SUPPORT. What each update of the panel leaves as it was: one law per field.
-/
namespace Sys2Proof.Laws

open Sys2Proof.Machine

/-! State.setComb -/

@[simp] theorem setComb_combInit (s : State) (i : Site) (c : Comb) : (State.setComb s i c).combInit = s.combInit := rfl
@[simp] theorem setComb_storeInit (s : State) (i : Site) (c : Comb) : (State.setComb s i c).storeInit = s.storeInit := rfl
@[simp] theorem setComb_stores (s : State) (i : Site) (c : Comb) : (State.setComb s i c).stores = s.stores := rfl
@[simp] theorem setComb_west (s : State) (i : Site) (c : Comb) : (State.setComb s i c).west = s.west := rfl
@[simp] theorem setComb_east (s : State) (i : Site) (c : Comb) : (State.setComb s i c).east = s.east := rfl
@[simp] theorem setComb_net (s : State) (i : Site) (c : Comb) : (State.setComb s i c).net = s.net := rfl
@[simp] theorem setComb_colonies (s : State) (i : Site) (c : Comb) : (State.setComb s i c).colonies = s.colonies := rfl
@[simp] theorem setComb_lead (s : State) (i : Site) (c : Comb) : (State.setComb s i c).lead = s.lead := rfl
@[simp] theorem setComb_works (s : State) (i : Site) (c : Comb) : (State.setComb s i c).works = s.works := rfl
@[simp] theorem setComb_overhead (s : State) (i : Site) (c : Comb) : (State.setComb s i c).overhead = s.overhead := rfl
@[simp] theorem setComb_energyMarks (s : State) (i : Site) (c : Comb) : (State.setComb s i c).energyMarks = s.energyMarks := rfl
@[simp] theorem setComb_sessions (s : State) (i : Site) (c : Comb) : (State.setComb s i c).sessions = s.sessions := rfl
@[simp] theorem setComb_mgmt (s : State) (i : Site) (c : Comb) : (State.setComb s i c).mgmt = s.mgmt := rfl
@[simp] theorem setComb_log (s : State) (i : Site) (c : Comb) : (State.setComb s i c).log = s.log := rfl
@[simp] theorem setComb_birth (s : State) (i : Site) (c : Comb) : (State.setComb s i c).birth = s.birth := rfl
@[simp] theorem setComb_ident (s : State) (i : Site) (c : Comb) : (State.setComb s i c).ident = s.ident := rfl
@[simp] theorem setComb_swarmEpoch (s : State) (i : Site) (c : Comb) : (State.setComb s i c).swarmEpoch = s.swarmEpoch := rfl
@[simp] theorem setComb_swarmMembers (s : State) (i : Site) (c : Comb) : (State.setComb s i c).swarmMembers = s.swarmMembers := rfl
@[simp] theorem setComb_swarmSerial (s : State) (i : Site) (c : Comb) : (State.setComb s i c).swarmSerial = s.swarmSerial := rfl
@[simp] theorem setComb_boot (s : State) (i : Site) (c : Comb) : (State.setComb s i c).boot = s.boot := rfl
@[simp] theorem setComb_voice (s : State) (i : Site) (c : Comb) : (State.setComb s i c).voice = s.voice := rfl
@[simp] theorem setComb_power (s : State) (i : Site) (c : Comb) : (State.setComb s i c).power = s.power := rfl
@[simp] theorem setComb_free (s : State) (i : Site) (c : Comb) : (State.setComb s i c).free = s.free := rfl
@[simp] theorem setComb_pending (s : State) (i : Site) (c : Comb) : (State.setComb s i c).pending = s.pending := rfl
/-! State.sendErr -/

@[simp] theorem sendErr_combInit (s : State) (site : Nat) (r : ErrRec) : (State.sendErr s site r).combInit = s.combInit := rfl
@[simp] theorem sendErr_combs (s : State) (site : Nat) (r : ErrRec) : (State.sendErr s site r).combs = s.combs := rfl
@[simp] theorem sendErr_storeInit (s : State) (site : Nat) (r : ErrRec) : (State.sendErr s site r).storeInit = s.storeInit := rfl
@[simp] theorem sendErr_stores (s : State) (site : Nat) (r : ErrRec) : (State.sendErr s site r).stores = s.stores := rfl
@[simp] theorem sendErr_west (s : State) (site : Nat) (r : ErrRec) : (State.sendErr s site r).west = s.west := rfl
@[simp] theorem sendErr_east (s : State) (site : Nat) (r : ErrRec) : (State.sendErr s site r).east = s.east := rfl
@[simp] theorem sendErr_colonies (s : State) (site : Nat) (r : ErrRec) : (State.sendErr s site r).colonies = s.colonies := rfl
@[simp] theorem sendErr_lead (s : State) (site : Nat) (r : ErrRec) : (State.sendErr s site r).lead = s.lead := rfl
@[simp] theorem sendErr_works (s : State) (site : Nat) (r : ErrRec) : (State.sendErr s site r).works = s.works := rfl
@[simp] theorem sendErr_overhead (s : State) (site : Nat) (r : ErrRec) : (State.sendErr s site r).overhead = s.overhead := rfl
@[simp] theorem sendErr_energyMarks (s : State) (site : Nat) (r : ErrRec) : (State.sendErr s site r).energyMarks = s.energyMarks := rfl
@[simp] theorem sendErr_sessions (s : State) (site : Nat) (r : ErrRec) : (State.sendErr s site r).sessions = s.sessions := rfl
@[simp] theorem sendErr_mgmt (s : State) (site : Nat) (r : ErrRec) : (State.sendErr s site r).mgmt = s.mgmt := rfl
@[simp] theorem sendErr_log (s : State) (site : Nat) (r : ErrRec) : (State.sendErr s site r).log = s.log := rfl
@[simp] theorem sendErr_birth (s : State) (site : Nat) (r : ErrRec) : (State.sendErr s site r).birth = s.birth := rfl
@[simp] theorem sendErr_ident (s : State) (site : Nat) (r : ErrRec) : (State.sendErr s site r).ident = s.ident := rfl
@[simp] theorem sendErr_swarmEpoch (s : State) (site : Nat) (r : ErrRec) : (State.sendErr s site r).swarmEpoch = s.swarmEpoch := rfl
@[simp] theorem sendErr_swarmMembers (s : State) (site : Nat) (r : ErrRec) : (State.sendErr s site r).swarmMembers = s.swarmMembers := rfl
@[simp] theorem sendErr_swarmSerial (s : State) (site : Nat) (r : ErrRec) : (State.sendErr s site r).swarmSerial = s.swarmSerial := rfl
@[simp] theorem sendErr_boot (s : State) (site : Nat) (r : ErrRec) : (State.sendErr s site r).boot = s.boot := rfl
@[simp] theorem sendErr_voice (s : State) (site : Nat) (r : ErrRec) : (State.sendErr s site r).voice = s.voice := rfl
@[simp] theorem sendErr_power (s : State) (site : Nat) (r : ErrRec) : (State.sendErr s site r).power = s.power := rfl
@[simp] theorem sendErr_free (s : State) (site : Nat) (r : ErrRec) : (State.sendErr s site r).free = s.free := rfl
@[simp] theorem sendErr_pending (s : State) (site : Nat) (r : ErrRec) : (State.sendErr s site r).pending = s.pending := rfl
/-! State.sendData -/

@[simp] theorem sendData_combInit (s : State) (p : DataPkt) : (State.sendData s p).combInit = s.combInit := rfl
@[simp] theorem sendData_combs (s : State) (p : DataPkt) : (State.sendData s p).combs = s.combs := rfl
@[simp] theorem sendData_storeInit (s : State) (p : DataPkt) : (State.sendData s p).storeInit = s.storeInit := rfl
@[simp] theorem sendData_stores (s : State) (p : DataPkt) : (State.sendData s p).stores = s.stores := rfl
@[simp] theorem sendData_west (s : State) (p : DataPkt) : (State.sendData s p).west = s.west := rfl
@[simp] theorem sendData_east (s : State) (p : DataPkt) : (State.sendData s p).east = s.east := rfl
@[simp] theorem sendData_colonies (s : State) (p : DataPkt) : (State.sendData s p).colonies = s.colonies := rfl
@[simp] theorem sendData_lead (s : State) (p : DataPkt) : (State.sendData s p).lead = s.lead := rfl
@[simp] theorem sendData_works (s : State) (p : DataPkt) : (State.sendData s p).works = s.works := rfl
@[simp] theorem sendData_overhead (s : State) (p : DataPkt) : (State.sendData s p).overhead = s.overhead := rfl
@[simp] theorem sendData_energyMarks (s : State) (p : DataPkt) : (State.sendData s p).energyMarks = s.energyMarks := rfl
@[simp] theorem sendData_sessions (s : State) (p : DataPkt) : (State.sendData s p).sessions = s.sessions := rfl
@[simp] theorem sendData_mgmt (s : State) (p : DataPkt) : (State.sendData s p).mgmt = s.mgmt := rfl
@[simp] theorem sendData_log (s : State) (p : DataPkt) : (State.sendData s p).log = s.log := rfl
@[simp] theorem sendData_birth (s : State) (p : DataPkt) : (State.sendData s p).birth = s.birth := rfl
@[simp] theorem sendData_ident (s : State) (p : DataPkt) : (State.sendData s p).ident = s.ident := rfl
@[simp] theorem sendData_swarmEpoch (s : State) (p : DataPkt) : (State.sendData s p).swarmEpoch = s.swarmEpoch := rfl
@[simp] theorem sendData_swarmMembers (s : State) (p : DataPkt) : (State.sendData s p).swarmMembers = s.swarmMembers := rfl
@[simp] theorem sendData_swarmSerial (s : State) (p : DataPkt) : (State.sendData s p).swarmSerial = s.swarmSerial := rfl
@[simp] theorem sendData_boot (s : State) (p : DataPkt) : (State.sendData s p).boot = s.boot := rfl
@[simp] theorem sendData_voice (s : State) (p : DataPkt) : (State.sendData s p).voice = s.voice := rfl
@[simp] theorem sendData_power (s : State) (p : DataPkt) : (State.sendData s p).power = s.power := rfl
@[simp] theorem sendData_free (s : State) (p : DataPkt) : (State.sendData s p).free = s.free := rfl
@[simp] theorem sendData_pending (s : State) (p : DataPkt) : (State.sendData s p).pending = s.pending := rfl
/-! State.sendCtl -/

@[simp] theorem sendCtl_combInit (s : State) (p : CtlPkt) : (State.sendCtl s p).combInit = s.combInit := rfl
@[simp] theorem sendCtl_combs (s : State) (p : CtlPkt) : (State.sendCtl s p).combs = s.combs := rfl
@[simp] theorem sendCtl_storeInit (s : State) (p : CtlPkt) : (State.sendCtl s p).storeInit = s.storeInit := rfl
@[simp] theorem sendCtl_stores (s : State) (p : CtlPkt) : (State.sendCtl s p).stores = s.stores := rfl
@[simp] theorem sendCtl_west (s : State) (p : CtlPkt) : (State.sendCtl s p).west = s.west := rfl
@[simp] theorem sendCtl_east (s : State) (p : CtlPkt) : (State.sendCtl s p).east = s.east := rfl
@[simp] theorem sendCtl_colonies (s : State) (p : CtlPkt) : (State.sendCtl s p).colonies = s.colonies := rfl
@[simp] theorem sendCtl_lead (s : State) (p : CtlPkt) : (State.sendCtl s p).lead = s.lead := rfl
@[simp] theorem sendCtl_works (s : State) (p : CtlPkt) : (State.sendCtl s p).works = s.works := rfl
@[simp] theorem sendCtl_overhead (s : State) (p : CtlPkt) : (State.sendCtl s p).overhead = s.overhead := rfl
@[simp] theorem sendCtl_energyMarks (s : State) (p : CtlPkt) : (State.sendCtl s p).energyMarks = s.energyMarks := rfl
@[simp] theorem sendCtl_sessions (s : State) (p : CtlPkt) : (State.sendCtl s p).sessions = s.sessions := rfl
@[simp] theorem sendCtl_mgmt (s : State) (p : CtlPkt) : (State.sendCtl s p).mgmt = s.mgmt := rfl
@[simp] theorem sendCtl_log (s : State) (p : CtlPkt) : (State.sendCtl s p).log = s.log := rfl
@[simp] theorem sendCtl_birth (s : State) (p : CtlPkt) : (State.sendCtl s p).birth = s.birth := rfl
@[simp] theorem sendCtl_ident (s : State) (p : CtlPkt) : (State.sendCtl s p).ident = s.ident := rfl
@[simp] theorem sendCtl_swarmEpoch (s : State) (p : CtlPkt) : (State.sendCtl s p).swarmEpoch = s.swarmEpoch := rfl
@[simp] theorem sendCtl_swarmMembers (s : State) (p : CtlPkt) : (State.sendCtl s p).swarmMembers = s.swarmMembers := rfl
@[simp] theorem sendCtl_swarmSerial (s : State) (p : CtlPkt) : (State.sendCtl s p).swarmSerial = s.swarmSerial := rfl
@[simp] theorem sendCtl_boot (s : State) (p : CtlPkt) : (State.sendCtl s p).boot = s.boot := rfl
@[simp] theorem sendCtl_voice (s : State) (p : CtlPkt) : (State.sendCtl s p).voice = s.voice := rfl
@[simp] theorem sendCtl_power (s : State) (p : CtlPkt) : (State.sendCtl s p).power = s.power := rfl
@[simp] theorem sendCtl_free (s : State) (p : CtlPkt) : (State.sendCtl s p).free = s.free := rfl
@[simp] theorem sendCtl_pending (s : State) (p : CtlPkt) : (State.sendCtl s p).pending = s.pending := rfl
/-! State.takeData -/

@[simp] theorem takeData_combInit (s : State) (p : DataPkt) : (State.takeData s p).combInit = s.combInit := rfl
@[simp] theorem takeData_combs (s : State) (p : DataPkt) : (State.takeData s p).combs = s.combs := rfl
@[simp] theorem takeData_storeInit (s : State) (p : DataPkt) : (State.takeData s p).storeInit = s.storeInit := rfl
@[simp] theorem takeData_stores (s : State) (p : DataPkt) : (State.takeData s p).stores = s.stores := rfl
@[simp] theorem takeData_west (s : State) (p : DataPkt) : (State.takeData s p).west = s.west := rfl
@[simp] theorem takeData_east (s : State) (p : DataPkt) : (State.takeData s p).east = s.east := rfl
@[simp] theorem takeData_colonies (s : State) (p : DataPkt) : (State.takeData s p).colonies = s.colonies := rfl
@[simp] theorem takeData_lead (s : State) (p : DataPkt) : (State.takeData s p).lead = s.lead := rfl
@[simp] theorem takeData_works (s : State) (p : DataPkt) : (State.takeData s p).works = s.works := rfl
@[simp] theorem takeData_overhead (s : State) (p : DataPkt) : (State.takeData s p).overhead = s.overhead := rfl
@[simp] theorem takeData_energyMarks (s : State) (p : DataPkt) : (State.takeData s p).energyMarks = s.energyMarks := rfl
@[simp] theorem takeData_sessions (s : State) (p : DataPkt) : (State.takeData s p).sessions = s.sessions := rfl
@[simp] theorem takeData_mgmt (s : State) (p : DataPkt) : (State.takeData s p).mgmt = s.mgmt := rfl
@[simp] theorem takeData_log (s : State) (p : DataPkt) : (State.takeData s p).log = s.log := rfl
@[simp] theorem takeData_birth (s : State) (p : DataPkt) : (State.takeData s p).birth = s.birth := rfl
@[simp] theorem takeData_ident (s : State) (p : DataPkt) : (State.takeData s p).ident = s.ident := rfl
@[simp] theorem takeData_swarmEpoch (s : State) (p : DataPkt) : (State.takeData s p).swarmEpoch = s.swarmEpoch := rfl
@[simp] theorem takeData_swarmMembers (s : State) (p : DataPkt) : (State.takeData s p).swarmMembers = s.swarmMembers := rfl
@[simp] theorem takeData_swarmSerial (s : State) (p : DataPkt) : (State.takeData s p).swarmSerial = s.swarmSerial := rfl
@[simp] theorem takeData_boot (s : State) (p : DataPkt) : (State.takeData s p).boot = s.boot := rfl
@[simp] theorem takeData_voice (s : State) (p : DataPkt) : (State.takeData s p).voice = s.voice := rfl
@[simp] theorem takeData_power (s : State) (p : DataPkt) : (State.takeData s p).power = s.power := rfl
@[simp] theorem takeData_free (s : State) (p : DataPkt) : (State.takeData s p).free = s.free := rfl
@[simp] theorem takeData_pending (s : State) (p : DataPkt) : (State.takeData s p).pending = s.pending := rfl
/-! State.takeCtl -/

@[simp] theorem takeCtl_combInit (s : State) (p : CtlPkt) : (State.takeCtl s p).combInit = s.combInit := rfl
@[simp] theorem takeCtl_combs (s : State) (p : CtlPkt) : (State.takeCtl s p).combs = s.combs := rfl
@[simp] theorem takeCtl_storeInit (s : State) (p : CtlPkt) : (State.takeCtl s p).storeInit = s.storeInit := rfl
@[simp] theorem takeCtl_stores (s : State) (p : CtlPkt) : (State.takeCtl s p).stores = s.stores := rfl
@[simp] theorem takeCtl_west (s : State) (p : CtlPkt) : (State.takeCtl s p).west = s.west := rfl
@[simp] theorem takeCtl_east (s : State) (p : CtlPkt) : (State.takeCtl s p).east = s.east := rfl
@[simp] theorem takeCtl_colonies (s : State) (p : CtlPkt) : (State.takeCtl s p).colonies = s.colonies := rfl
@[simp] theorem takeCtl_lead (s : State) (p : CtlPkt) : (State.takeCtl s p).lead = s.lead := rfl
@[simp] theorem takeCtl_works (s : State) (p : CtlPkt) : (State.takeCtl s p).works = s.works := rfl
@[simp] theorem takeCtl_overhead (s : State) (p : CtlPkt) : (State.takeCtl s p).overhead = s.overhead := rfl
@[simp] theorem takeCtl_energyMarks (s : State) (p : CtlPkt) : (State.takeCtl s p).energyMarks = s.energyMarks := rfl
@[simp] theorem takeCtl_sessions (s : State) (p : CtlPkt) : (State.takeCtl s p).sessions = s.sessions := rfl
@[simp] theorem takeCtl_mgmt (s : State) (p : CtlPkt) : (State.takeCtl s p).mgmt = s.mgmt := rfl
@[simp] theorem takeCtl_log (s : State) (p : CtlPkt) : (State.takeCtl s p).log = s.log := rfl
@[simp] theorem takeCtl_birth (s : State) (p : CtlPkt) : (State.takeCtl s p).birth = s.birth := rfl
@[simp] theorem takeCtl_ident (s : State) (p : CtlPkt) : (State.takeCtl s p).ident = s.ident := rfl
@[simp] theorem takeCtl_swarmEpoch (s : State) (p : CtlPkt) : (State.takeCtl s p).swarmEpoch = s.swarmEpoch := rfl
@[simp] theorem takeCtl_swarmMembers (s : State) (p : CtlPkt) : (State.takeCtl s p).swarmMembers = s.swarmMembers := rfl
@[simp] theorem takeCtl_swarmSerial (s : State) (p : CtlPkt) : (State.takeCtl s p).swarmSerial = s.swarmSerial := rfl
@[simp] theorem takeCtl_boot (s : State) (p : CtlPkt) : (State.takeCtl s p).boot = s.boot := rfl
@[simp] theorem takeCtl_voice (s : State) (p : CtlPkt) : (State.takeCtl s p).voice = s.voice := rfl
@[simp] theorem takeCtl_power (s : State) (p : CtlPkt) : (State.takeCtl s p).power = s.power := rfl
@[simp] theorem takeCtl_free (s : State) (p : CtlPkt) : (State.takeCtl s p).free = s.free := rfl
@[simp] theorem takeCtl_pending (s : State) (p : CtlPkt) : (State.takeCtl s p).pending = s.pending := rfl
/-! State.sendWag -/

@[simp] theorem sendWag_combInit (s : State) (site : Nat) (input : Nat) (p : WagPkt) : (State.sendWag s site input p).combInit = s.combInit := rfl
@[simp] theorem sendWag_combs (s : State) (site : Nat) (input : Nat) (p : WagPkt) : (State.sendWag s site input p).combs = s.combs := rfl
@[simp] theorem sendWag_storeInit (s : State) (site : Nat) (input : Nat) (p : WagPkt) : (State.sendWag s site input p).storeInit = s.storeInit := rfl
@[simp] theorem sendWag_stores (s : State) (site : Nat) (input : Nat) (p : WagPkt) : (State.sendWag s site input p).stores = s.stores := rfl
@[simp] theorem sendWag_west (s : State) (site : Nat) (input : Nat) (p : WagPkt) : (State.sendWag s site input p).west = s.west := rfl
@[simp] theorem sendWag_east (s : State) (site : Nat) (input : Nat) (p : WagPkt) : (State.sendWag s site input p).east = s.east := rfl
@[simp] theorem sendWag_colonies (s : State) (site : Nat) (input : Nat) (p : WagPkt) : (State.sendWag s site input p).colonies = s.colonies := rfl
@[simp] theorem sendWag_lead (s : State) (site : Nat) (input : Nat) (p : WagPkt) : (State.sendWag s site input p).lead = s.lead := rfl
@[simp] theorem sendWag_works (s : State) (site : Nat) (input : Nat) (p : WagPkt) : (State.sendWag s site input p).works = s.works := rfl
@[simp] theorem sendWag_overhead (s : State) (site : Nat) (input : Nat) (p : WagPkt) : (State.sendWag s site input p).overhead = s.overhead := rfl
@[simp] theorem sendWag_energyMarks (s : State) (site : Nat) (input : Nat) (p : WagPkt) : (State.sendWag s site input p).energyMarks = s.energyMarks := rfl
@[simp] theorem sendWag_sessions (s : State) (site : Nat) (input : Nat) (p : WagPkt) : (State.sendWag s site input p).sessions = s.sessions := rfl
@[simp] theorem sendWag_mgmt (s : State) (site : Nat) (input : Nat) (p : WagPkt) : (State.sendWag s site input p).mgmt = s.mgmt := rfl
@[simp] theorem sendWag_log (s : State) (site : Nat) (input : Nat) (p : WagPkt) : (State.sendWag s site input p).log = s.log := rfl
@[simp] theorem sendWag_birth (s : State) (site : Nat) (input : Nat) (p : WagPkt) : (State.sendWag s site input p).birth = s.birth := rfl
@[simp] theorem sendWag_ident (s : State) (site : Nat) (input : Nat) (p : WagPkt) : (State.sendWag s site input p).ident = s.ident := rfl
@[simp] theorem sendWag_swarmEpoch (s : State) (site : Nat) (input : Nat) (p : WagPkt) : (State.sendWag s site input p).swarmEpoch = s.swarmEpoch := rfl
@[simp] theorem sendWag_swarmMembers (s : State) (site : Nat) (input : Nat) (p : WagPkt) : (State.sendWag s site input p).swarmMembers = s.swarmMembers := rfl
@[simp] theorem sendWag_swarmSerial (s : State) (site : Nat) (input : Nat) (p : WagPkt) : (State.sendWag s site input p).swarmSerial = s.swarmSerial := rfl
@[simp] theorem sendWag_boot (s : State) (site : Nat) (input : Nat) (p : WagPkt) : (State.sendWag s site input p).boot = s.boot := rfl
@[simp] theorem sendWag_voice (s : State) (site : Nat) (input : Nat) (p : WagPkt) : (State.sendWag s site input p).voice = s.voice := rfl
@[simp] theorem sendWag_power (s : State) (site : Nat) (input : Nat) (p : WagPkt) : (State.sendWag s site input p).power = s.power := rfl
@[simp] theorem sendWag_free (s : State) (site : Nat) (input : Nat) (p : WagPkt) : (State.sendWag s site input p).free = s.free := rfl
@[simp] theorem sendWag_pending (s : State) (site : Nat) (input : Nat) (p : WagPkt) : (State.sendWag s site input p).pending = s.pending := rfl
/-! State.takeWag -/

@[simp] theorem takeWag_combInit (s : State) (site : Nat) (input : BitVec 3) (p : WagPkt) : (State.takeWag s site input p).combInit = s.combInit := rfl
@[simp] theorem takeWag_combs (s : State) (site : Nat) (input : BitVec 3) (p : WagPkt) : (State.takeWag s site input p).combs = s.combs := rfl
@[simp] theorem takeWag_storeInit (s : State) (site : Nat) (input : BitVec 3) (p : WagPkt) : (State.takeWag s site input p).storeInit = s.storeInit := rfl
@[simp] theorem takeWag_stores (s : State) (site : Nat) (input : BitVec 3) (p : WagPkt) : (State.takeWag s site input p).stores = s.stores := rfl
@[simp] theorem takeWag_west (s : State) (site : Nat) (input : BitVec 3) (p : WagPkt) : (State.takeWag s site input p).west = s.west := rfl
@[simp] theorem takeWag_east (s : State) (site : Nat) (input : BitVec 3) (p : WagPkt) : (State.takeWag s site input p).east = s.east := rfl
@[simp] theorem takeWag_colonies (s : State) (site : Nat) (input : BitVec 3) (p : WagPkt) : (State.takeWag s site input p).colonies = s.colonies := rfl
@[simp] theorem takeWag_lead (s : State) (site : Nat) (input : BitVec 3) (p : WagPkt) : (State.takeWag s site input p).lead = s.lead := rfl
@[simp] theorem takeWag_works (s : State) (site : Nat) (input : BitVec 3) (p : WagPkt) : (State.takeWag s site input p).works = s.works := rfl
@[simp] theorem takeWag_overhead (s : State) (site : Nat) (input : BitVec 3) (p : WagPkt) : (State.takeWag s site input p).overhead = s.overhead := rfl
@[simp] theorem takeWag_energyMarks (s : State) (site : Nat) (input : BitVec 3) (p : WagPkt) : (State.takeWag s site input p).energyMarks = s.energyMarks := rfl
@[simp] theorem takeWag_sessions (s : State) (site : Nat) (input : BitVec 3) (p : WagPkt) : (State.takeWag s site input p).sessions = s.sessions := rfl
@[simp] theorem takeWag_mgmt (s : State) (site : Nat) (input : BitVec 3) (p : WagPkt) : (State.takeWag s site input p).mgmt = s.mgmt := rfl
@[simp] theorem takeWag_log (s : State) (site : Nat) (input : BitVec 3) (p : WagPkt) : (State.takeWag s site input p).log = s.log := rfl
@[simp] theorem takeWag_birth (s : State) (site : Nat) (input : BitVec 3) (p : WagPkt) : (State.takeWag s site input p).birth = s.birth := rfl
@[simp] theorem takeWag_ident (s : State) (site : Nat) (input : BitVec 3) (p : WagPkt) : (State.takeWag s site input p).ident = s.ident := rfl
@[simp] theorem takeWag_swarmEpoch (s : State) (site : Nat) (input : BitVec 3) (p : WagPkt) : (State.takeWag s site input p).swarmEpoch = s.swarmEpoch := rfl
@[simp] theorem takeWag_swarmMembers (s : State) (site : Nat) (input : BitVec 3) (p : WagPkt) : (State.takeWag s site input p).swarmMembers = s.swarmMembers := rfl
@[simp] theorem takeWag_swarmSerial (s : State) (site : Nat) (input : BitVec 3) (p : WagPkt) : (State.takeWag s site input p).swarmSerial = s.swarmSerial := rfl
@[simp] theorem takeWag_boot (s : State) (site : Nat) (input : BitVec 3) (p : WagPkt) : (State.takeWag s site input p).boot = s.boot := rfl
@[simp] theorem takeWag_voice (s : State) (site : Nat) (input : BitVec 3) (p : WagPkt) : (State.takeWag s site input p).voice = s.voice := rfl
@[simp] theorem takeWag_power (s : State) (site : Nat) (input : BitVec 3) (p : WagPkt) : (State.takeWag s site input p).power = s.power := rfl
@[simp] theorem takeWag_free (s : State) (site : Nat) (input : BitVec 3) (p : WagPkt) : (State.takeWag s site input p).free = s.free := rfl
@[simp] theorem takeWag_pending (s : State) (site : Nat) (input : BitVec 3) (p : WagPkt) : (State.takeWag s site input p).pending = s.pending := rfl
/-! State.setStore -/

@[simp] theorem setStore_combInit (s : State) (n : Nat) (x : Store) : (State.setStore s n x).combInit = s.combInit := rfl
@[simp] theorem setStore_combs (s : State) (n : Nat) (x : Store) : (State.setStore s n x).combs = s.combs := rfl
@[simp] theorem setStore_storeInit (s : State) (n : Nat) (x : Store) : (State.setStore s n x).storeInit = s.storeInit := rfl
@[simp] theorem setStore_west (s : State) (n : Nat) (x : Store) : (State.setStore s n x).west = s.west := rfl
@[simp] theorem setStore_east (s : State) (n : Nat) (x : Store) : (State.setStore s n x).east = s.east := rfl
@[simp] theorem setStore_net (s : State) (n : Nat) (x : Store) : (State.setStore s n x).net = s.net := rfl
@[simp] theorem setStore_colonies (s : State) (n : Nat) (x : Store) : (State.setStore s n x).colonies = s.colonies := rfl
@[simp] theorem setStore_lead (s : State) (n : Nat) (x : Store) : (State.setStore s n x).lead = s.lead := rfl
@[simp] theorem setStore_works (s : State) (n : Nat) (x : Store) : (State.setStore s n x).works = s.works := rfl
@[simp] theorem setStore_overhead (s : State) (n : Nat) (x : Store) : (State.setStore s n x).overhead = s.overhead := rfl
@[simp] theorem setStore_energyMarks (s : State) (n : Nat) (x : Store) : (State.setStore s n x).energyMarks = s.energyMarks := rfl
@[simp] theorem setStore_sessions (s : State) (n : Nat) (x : Store) : (State.setStore s n x).sessions = s.sessions := rfl
@[simp] theorem setStore_mgmt (s : State) (n : Nat) (x : Store) : (State.setStore s n x).mgmt = s.mgmt := rfl
@[simp] theorem setStore_log (s : State) (n : Nat) (x : Store) : (State.setStore s n x).log = s.log := rfl
@[simp] theorem setStore_birth (s : State) (n : Nat) (x : Store) : (State.setStore s n x).birth = s.birth := rfl
@[simp] theorem setStore_ident (s : State) (n : Nat) (x : Store) : (State.setStore s n x).ident = s.ident := rfl
@[simp] theorem setStore_swarmEpoch (s : State) (n : Nat) (x : Store) : (State.setStore s n x).swarmEpoch = s.swarmEpoch := rfl
@[simp] theorem setStore_swarmMembers (s : State) (n : Nat) (x : Store) : (State.setStore s n x).swarmMembers = s.swarmMembers := rfl
@[simp] theorem setStore_swarmSerial (s : State) (n : Nat) (x : Store) : (State.setStore s n x).swarmSerial = s.swarmSerial := rfl
@[simp] theorem setStore_boot (s : State) (n : Nat) (x : Store) : (State.setStore s n x).boot = s.boot := rfl
@[simp] theorem setStore_voice (s : State) (n : Nat) (x : Store) : (State.setStore s n x).voice = s.voice := rfl
@[simp] theorem setStore_power (s : State) (n : Nat) (x : Store) : (State.setStore s n x).power = s.power := rfl
@[simp] theorem setStore_free (s : State) (n : Nat) (x : Store) : (State.setStore s n x).free = s.free := rfl
@[simp] theorem setStore_pending (s : State) (n : Nat) (x : Store) : (State.setStore s n x).pending = s.pending := rfl
/-! State.modMgmt -/

@[simp] theorem modMgmt_combInit (s : State) (f : Mgmt → Mgmt) : (State.modMgmt s f).combInit = s.combInit := rfl
@[simp] theorem modMgmt_combs (s : State) (f : Mgmt → Mgmt) : (State.modMgmt s f).combs = s.combs := rfl
@[simp] theorem modMgmt_storeInit (s : State) (f : Mgmt → Mgmt) : (State.modMgmt s f).storeInit = s.storeInit := rfl
@[simp] theorem modMgmt_stores (s : State) (f : Mgmt → Mgmt) : (State.modMgmt s f).stores = s.stores := rfl
@[simp] theorem modMgmt_west (s : State) (f : Mgmt → Mgmt) : (State.modMgmt s f).west = s.west := rfl
@[simp] theorem modMgmt_east (s : State) (f : Mgmt → Mgmt) : (State.modMgmt s f).east = s.east := rfl
@[simp] theorem modMgmt_net (s : State) (f : Mgmt → Mgmt) : (State.modMgmt s f).net = s.net := rfl
@[simp] theorem modMgmt_colonies (s : State) (f : Mgmt → Mgmt) : (State.modMgmt s f).colonies = s.colonies := rfl
@[simp] theorem modMgmt_lead (s : State) (f : Mgmt → Mgmt) : (State.modMgmt s f).lead = s.lead := rfl
@[simp] theorem modMgmt_works (s : State) (f : Mgmt → Mgmt) : (State.modMgmt s f).works = s.works := rfl
@[simp] theorem modMgmt_overhead (s : State) (f : Mgmt → Mgmt) : (State.modMgmt s f).overhead = s.overhead := rfl
@[simp] theorem modMgmt_energyMarks (s : State) (f : Mgmt → Mgmt) : (State.modMgmt s f).energyMarks = s.energyMarks := rfl
@[simp] theorem modMgmt_sessions (s : State) (f : Mgmt → Mgmt) : (State.modMgmt s f).sessions = s.sessions := rfl
@[simp] theorem modMgmt_log (s : State) (f : Mgmt → Mgmt) : (State.modMgmt s f).log = s.log := rfl
@[simp] theorem modMgmt_birth (s : State) (f : Mgmt → Mgmt) : (State.modMgmt s f).birth = s.birth := rfl
@[simp] theorem modMgmt_ident (s : State) (f : Mgmt → Mgmt) : (State.modMgmt s f).ident = s.ident := rfl
@[simp] theorem modMgmt_swarmEpoch (s : State) (f : Mgmt → Mgmt) : (State.modMgmt s f).swarmEpoch = s.swarmEpoch := rfl
@[simp] theorem modMgmt_swarmMembers (s : State) (f : Mgmt → Mgmt) : (State.modMgmt s f).swarmMembers = s.swarmMembers := rfl
@[simp] theorem modMgmt_swarmSerial (s : State) (f : Mgmt → Mgmt) : (State.modMgmt s f).swarmSerial = s.swarmSerial := rfl
@[simp] theorem modMgmt_boot (s : State) (f : Mgmt → Mgmt) : (State.modMgmt s f).boot = s.boot := rfl
@[simp] theorem modMgmt_voice (s : State) (f : Mgmt → Mgmt) : (State.modMgmt s f).voice = s.voice := rfl
@[simp] theorem modMgmt_power (s : State) (f : Mgmt → Mgmt) : (State.modMgmt s f).power = s.power := rfl
@[simp] theorem modMgmt_free (s : State) (f : Mgmt → Mgmt) : (State.modMgmt s f).free = s.free := rfl
@[simp] theorem modMgmt_pending (s : State) (f : Mgmt → Mgmt) : (State.modMgmt s f).pending = s.pending := rfl
/-! State.modColony -/

@[simp] theorem modColony_combInit (s : State) (c : Nat) (f : Colony → Colony) : (State.modColony s c f).combInit = s.combInit := rfl
@[simp] theorem modColony_combs (s : State) (c : Nat) (f : Colony → Colony) : (State.modColony s c f).combs = s.combs := rfl
@[simp] theorem modColony_storeInit (s : State) (c : Nat) (f : Colony → Colony) : (State.modColony s c f).storeInit = s.storeInit := rfl
@[simp] theorem modColony_stores (s : State) (c : Nat) (f : Colony → Colony) : (State.modColony s c f).stores = s.stores := rfl
@[simp] theorem modColony_west (s : State) (c : Nat) (f : Colony → Colony) : (State.modColony s c f).west = s.west := rfl
@[simp] theorem modColony_east (s : State) (c : Nat) (f : Colony → Colony) : (State.modColony s c f).east = s.east := rfl
@[simp] theorem modColony_net (s : State) (c : Nat) (f : Colony → Colony) : (State.modColony s c f).net = s.net := rfl
@[simp] theorem modColony_lead (s : State) (c : Nat) (f : Colony → Colony) : (State.modColony s c f).lead = s.lead := rfl
@[simp] theorem modColony_works (s : State) (c : Nat) (f : Colony → Colony) : (State.modColony s c f).works = s.works := rfl
@[simp] theorem modColony_overhead (s : State) (c : Nat) (f : Colony → Colony) : (State.modColony s c f).overhead = s.overhead := rfl
@[simp] theorem modColony_energyMarks (s : State) (c : Nat) (f : Colony → Colony) : (State.modColony s c f).energyMarks = s.energyMarks := rfl
@[simp] theorem modColony_sessions (s : State) (c : Nat) (f : Colony → Colony) : (State.modColony s c f).sessions = s.sessions := rfl
@[simp] theorem modColony_mgmt (s : State) (c : Nat) (f : Colony → Colony) : (State.modColony s c f).mgmt = s.mgmt := rfl
@[simp] theorem modColony_log (s : State) (c : Nat) (f : Colony → Colony) : (State.modColony s c f).log = s.log := rfl
@[simp] theorem modColony_birth (s : State) (c : Nat) (f : Colony → Colony) : (State.modColony s c f).birth = s.birth := rfl
@[simp] theorem modColony_ident (s : State) (c : Nat) (f : Colony → Colony) : (State.modColony s c f).ident = s.ident := rfl
@[simp] theorem modColony_swarmEpoch (s : State) (c : Nat) (f : Colony → Colony) : (State.modColony s c f).swarmEpoch = s.swarmEpoch := rfl
@[simp] theorem modColony_swarmMembers (s : State) (c : Nat) (f : Colony → Colony) : (State.modColony s c f).swarmMembers = s.swarmMembers := rfl
@[simp] theorem modColony_swarmSerial (s : State) (c : Nat) (f : Colony → Colony) : (State.modColony s c f).swarmSerial = s.swarmSerial := rfl
@[simp] theorem modColony_boot (s : State) (c : Nat) (f : Colony → Colony) : (State.modColony s c f).boot = s.boot := rfl
@[simp] theorem modColony_voice (s : State) (c : Nat) (f : Colony → Colony) : (State.modColony s c f).voice = s.voice := rfl
@[simp] theorem modColony_power (s : State) (c : Nat) (f : Colony → Colony) : (State.modColony s c f).power = s.power := rfl
@[simp] theorem modColony_free (s : State) (c : Nat) (f : Colony → Colony) : (State.modColony s c f).free = s.free := rfl
@[simp] theorem modColony_pending (s : State) (c : Nat) (f : Colony → Colony) : (State.modColony s c f).pending = s.pending := rfl
/-! State.modWork -/

@[simp] theorem modWork_combInit (s : State) (c : Nat) (f : ColonyWork → ColonyWork) : (State.modWork s c f).combInit = s.combInit := rfl
@[simp] theorem modWork_combs (s : State) (c : Nat) (f : ColonyWork → ColonyWork) : (State.modWork s c f).combs = s.combs := rfl
@[simp] theorem modWork_storeInit (s : State) (c : Nat) (f : ColonyWork → ColonyWork) : (State.modWork s c f).storeInit = s.storeInit := rfl
@[simp] theorem modWork_stores (s : State) (c : Nat) (f : ColonyWork → ColonyWork) : (State.modWork s c f).stores = s.stores := rfl
@[simp] theorem modWork_west (s : State) (c : Nat) (f : ColonyWork → ColonyWork) : (State.modWork s c f).west = s.west := rfl
@[simp] theorem modWork_east (s : State) (c : Nat) (f : ColonyWork → ColonyWork) : (State.modWork s c f).east = s.east := rfl
@[simp] theorem modWork_net (s : State) (c : Nat) (f : ColonyWork → ColonyWork) : (State.modWork s c f).net = s.net := rfl
@[simp] theorem modWork_colonies (s : State) (c : Nat) (f : ColonyWork → ColonyWork) : (State.modWork s c f).colonies = s.colonies := rfl
@[simp] theorem modWork_lead (s : State) (c : Nat) (f : ColonyWork → ColonyWork) : (State.modWork s c f).lead = s.lead := rfl
@[simp] theorem modWork_overhead (s : State) (c : Nat) (f : ColonyWork → ColonyWork) : (State.modWork s c f).overhead = s.overhead := rfl
@[simp] theorem modWork_energyMarks (s : State) (c : Nat) (f : ColonyWork → ColonyWork) : (State.modWork s c f).energyMarks = s.energyMarks := rfl
@[simp] theorem modWork_sessions (s : State) (c : Nat) (f : ColonyWork → ColonyWork) : (State.modWork s c f).sessions = s.sessions := rfl
@[simp] theorem modWork_mgmt (s : State) (c : Nat) (f : ColonyWork → ColonyWork) : (State.modWork s c f).mgmt = s.mgmt := rfl
@[simp] theorem modWork_log (s : State) (c : Nat) (f : ColonyWork → ColonyWork) : (State.modWork s c f).log = s.log := rfl
@[simp] theorem modWork_birth (s : State) (c : Nat) (f : ColonyWork → ColonyWork) : (State.modWork s c f).birth = s.birth := rfl
@[simp] theorem modWork_ident (s : State) (c : Nat) (f : ColonyWork → ColonyWork) : (State.modWork s c f).ident = s.ident := rfl
@[simp] theorem modWork_swarmEpoch (s : State) (c : Nat) (f : ColonyWork → ColonyWork) : (State.modWork s c f).swarmEpoch = s.swarmEpoch := rfl
@[simp] theorem modWork_swarmMembers (s : State) (c : Nat) (f : ColonyWork → ColonyWork) : (State.modWork s c f).swarmMembers = s.swarmMembers := rfl
@[simp] theorem modWork_swarmSerial (s : State) (c : Nat) (f : ColonyWork → ColonyWork) : (State.modWork s c f).swarmSerial = s.swarmSerial := rfl
@[simp] theorem modWork_boot (s : State) (c : Nat) (f : ColonyWork → ColonyWork) : (State.modWork s c f).boot = s.boot := rfl
@[simp] theorem modWork_voice (s : State) (c : Nat) (f : ColonyWork → ColonyWork) : (State.modWork s c f).voice = s.voice := rfl
@[simp] theorem modWork_power (s : State) (c : Nat) (f : ColonyWork → ColonyWork) : (State.modWork s c f).power = s.power := rfl
@[simp] theorem modWork_free (s : State) (c : Nat) (f : ColonyWork → ColonyWork) : (State.modWork s c f).free = s.free := rfl
@[simp] theorem modWork_pending (s : State) (c : Nat) (f : ColonyWork → ColonyWork) : (State.modWork s c f).pending = s.pending := rfl
/-! State.modVoice -/

@[simp] theorem modVoice_combInit (s : State) (f : Voice → Voice) : (State.modVoice s f).combInit = s.combInit := rfl
@[simp] theorem modVoice_combs (s : State) (f : Voice → Voice) : (State.modVoice s f).combs = s.combs := rfl
@[simp] theorem modVoice_storeInit (s : State) (f : Voice → Voice) : (State.modVoice s f).storeInit = s.storeInit := rfl
@[simp] theorem modVoice_stores (s : State) (f : Voice → Voice) : (State.modVoice s f).stores = s.stores := rfl
@[simp] theorem modVoice_west (s : State) (f : Voice → Voice) : (State.modVoice s f).west = s.west := rfl
@[simp] theorem modVoice_east (s : State) (f : Voice → Voice) : (State.modVoice s f).east = s.east := rfl
@[simp] theorem modVoice_net (s : State) (f : Voice → Voice) : (State.modVoice s f).net = s.net := rfl
@[simp] theorem modVoice_colonies (s : State) (f : Voice → Voice) : (State.modVoice s f).colonies = s.colonies := rfl
@[simp] theorem modVoice_lead (s : State) (f : Voice → Voice) : (State.modVoice s f).lead = s.lead := rfl
@[simp] theorem modVoice_works (s : State) (f : Voice → Voice) : (State.modVoice s f).works = s.works := rfl
@[simp] theorem modVoice_overhead (s : State) (f : Voice → Voice) : (State.modVoice s f).overhead = s.overhead := rfl
@[simp] theorem modVoice_energyMarks (s : State) (f : Voice → Voice) : (State.modVoice s f).energyMarks = s.energyMarks := rfl
@[simp] theorem modVoice_sessions (s : State) (f : Voice → Voice) : (State.modVoice s f).sessions = s.sessions := rfl
@[simp] theorem modVoice_mgmt (s : State) (f : Voice → Voice) : (State.modVoice s f).mgmt = s.mgmt := rfl
@[simp] theorem modVoice_log (s : State) (f : Voice → Voice) : (State.modVoice s f).log = s.log := rfl
@[simp] theorem modVoice_birth (s : State) (f : Voice → Voice) : (State.modVoice s f).birth = s.birth := rfl
@[simp] theorem modVoice_ident (s : State) (f : Voice → Voice) : (State.modVoice s f).ident = s.ident := rfl
@[simp] theorem modVoice_swarmEpoch (s : State) (f : Voice → Voice) : (State.modVoice s f).swarmEpoch = s.swarmEpoch := rfl
@[simp] theorem modVoice_swarmMembers (s : State) (f : Voice → Voice) : (State.modVoice s f).swarmMembers = s.swarmMembers := rfl
@[simp] theorem modVoice_swarmSerial (s : State) (f : Voice → Voice) : (State.modVoice s f).swarmSerial = s.swarmSerial := rfl
@[simp] theorem modVoice_boot (s : State) (f : Voice → Voice) : (State.modVoice s f).boot = s.boot := rfl
@[simp] theorem modVoice_power (s : State) (f : Voice → Voice) : (State.modVoice s f).power = s.power := rfl
@[simp] theorem modVoice_free (s : State) (f : Voice → Voice) : (State.modVoice s f).free = s.free := rfl
@[simp] theorem modVoice_pending (s : State) (f : Voice → Voice) : (State.modVoice s f).pending = s.pending := rfl
/-! State.modSess -/

@[simp] theorem modSess_combInit (s : State) (slot : Nat) (f : Session → Session) : (State.modSess s slot f).combInit = s.combInit := rfl
@[simp] theorem modSess_combs (s : State) (slot : Nat) (f : Session → Session) : (State.modSess s slot f).combs = s.combs := rfl
@[simp] theorem modSess_storeInit (s : State) (slot : Nat) (f : Session → Session) : (State.modSess s slot f).storeInit = s.storeInit := rfl
@[simp] theorem modSess_stores (s : State) (slot : Nat) (f : Session → Session) : (State.modSess s slot f).stores = s.stores := rfl
@[simp] theorem modSess_west (s : State) (slot : Nat) (f : Session → Session) : (State.modSess s slot f).west = s.west := rfl
@[simp] theorem modSess_east (s : State) (slot : Nat) (f : Session → Session) : (State.modSess s slot f).east = s.east := rfl
@[simp] theorem modSess_net (s : State) (slot : Nat) (f : Session → Session) : (State.modSess s slot f).net = s.net := rfl
@[simp] theorem modSess_colonies (s : State) (slot : Nat) (f : Session → Session) : (State.modSess s slot f).colonies = s.colonies := rfl
@[simp] theorem modSess_lead (s : State) (slot : Nat) (f : Session → Session) : (State.modSess s slot f).lead = s.lead := rfl
@[simp] theorem modSess_works (s : State) (slot : Nat) (f : Session → Session) : (State.modSess s slot f).works = s.works := rfl
@[simp] theorem modSess_overhead (s : State) (slot : Nat) (f : Session → Session) : (State.modSess s slot f).overhead = s.overhead := rfl
@[simp] theorem modSess_energyMarks (s : State) (slot : Nat) (f : Session → Session) : (State.modSess s slot f).energyMarks = s.energyMarks := rfl
@[simp] theorem modSess_mgmt (s : State) (slot : Nat) (f : Session → Session) : (State.modSess s slot f).mgmt = s.mgmt := rfl
@[simp] theorem modSess_log (s : State) (slot : Nat) (f : Session → Session) : (State.modSess s slot f).log = s.log := rfl
@[simp] theorem modSess_birth (s : State) (slot : Nat) (f : Session → Session) : (State.modSess s slot f).birth = s.birth := rfl
@[simp] theorem modSess_ident (s : State) (slot : Nat) (f : Session → Session) : (State.modSess s slot f).ident = s.ident := rfl
@[simp] theorem modSess_swarmEpoch (s : State) (slot : Nat) (f : Session → Session) : (State.modSess s slot f).swarmEpoch = s.swarmEpoch := rfl
@[simp] theorem modSess_swarmMembers (s : State) (slot : Nat) (f : Session → Session) : (State.modSess s slot f).swarmMembers = s.swarmMembers := rfl
@[simp] theorem modSess_swarmSerial (s : State) (slot : Nat) (f : Session → Session) : (State.modSess s slot f).swarmSerial = s.swarmSerial := rfl
@[simp] theorem modSess_boot (s : State) (slot : Nat) (f : Session → Session) : (State.modSess s slot f).boot = s.boot := rfl
@[simp] theorem modSess_voice (s : State) (slot : Nat) (f : Session → Session) : (State.modSess s slot f).voice = s.voice := rfl
@[simp] theorem modSess_power (s : State) (slot : Nat) (f : Session → Session) : (State.modSess s slot f).power = s.power := rfl
@[simp] theorem modSess_free (s : State) (slot : Nat) (f : Session → Session) : (State.modSess s slot f).free = s.free := rfl
@[simp] theorem modSess_pending (s : State) (slot : Nat) (f : Session → Session) : (State.modSess s slot f).pending = s.pending := rfl
/-! State.setConv -/

@[simp] theorem setConv_combInit (s : State) (n : Nat) (x : Converter) : (State.setConv s n x).combInit = s.combInit := rfl
@[simp] theorem setConv_combs (s : State) (n : Nat) (x : Converter) : (State.setConv s n x).combs = s.combs := rfl
@[simp] theorem setConv_storeInit (s : State) (n : Nat) (x : Converter) : (State.setConv s n x).storeInit = s.storeInit := rfl
@[simp] theorem setConv_stores (s : State) (n : Nat) (x : Converter) : (State.setConv s n x).stores = s.stores := rfl
@[simp] theorem setConv_west (s : State) (n : Nat) (x : Converter) : (State.setConv s n x).west = s.west := rfl
@[simp] theorem setConv_east (s : State) (n : Nat) (x : Converter) : (State.setConv s n x).east = s.east := rfl
@[simp] theorem setConv_net (s : State) (n : Nat) (x : Converter) : (State.setConv s n x).net = s.net := rfl
@[simp] theorem setConv_colonies (s : State) (n : Nat) (x : Converter) : (State.setConv s n x).colonies = s.colonies := rfl
@[simp] theorem setConv_lead (s : State) (n : Nat) (x : Converter) : (State.setConv s n x).lead = s.lead := rfl
@[simp] theorem setConv_works (s : State) (n : Nat) (x : Converter) : (State.setConv s n x).works = s.works := rfl
@[simp] theorem setConv_overhead (s : State) (n : Nat) (x : Converter) : (State.setConv s n x).overhead = s.overhead := rfl
@[simp] theorem setConv_energyMarks (s : State) (n : Nat) (x : Converter) : (State.setConv s n x).energyMarks = s.energyMarks := rfl
@[simp] theorem setConv_sessions (s : State) (n : Nat) (x : Converter) : (State.setConv s n x).sessions = s.sessions := rfl
@[simp] theorem setConv_mgmt (s : State) (n : Nat) (x : Converter) : (State.setConv s n x).mgmt = s.mgmt := rfl
@[simp] theorem setConv_log (s : State) (n : Nat) (x : Converter) : (State.setConv s n x).log = s.log := rfl
@[simp] theorem setConv_birth (s : State) (n : Nat) (x : Converter) : (State.setConv s n x).birth = s.birth := rfl
@[simp] theorem setConv_ident (s : State) (n : Nat) (x : Converter) : (State.setConv s n x).ident = s.ident := rfl
@[simp] theorem setConv_swarmEpoch (s : State) (n : Nat) (x : Converter) : (State.setConv s n x).swarmEpoch = s.swarmEpoch := rfl
@[simp] theorem setConv_swarmMembers (s : State) (n : Nat) (x : Converter) : (State.setConv s n x).swarmMembers = s.swarmMembers := rfl
@[simp] theorem setConv_swarmSerial (s : State) (n : Nat) (x : Converter) : (State.setConv s n x).swarmSerial = s.swarmSerial := rfl
@[simp] theorem setConv_boot (s : State) (n : Nat) (x : Converter) : (State.setConv s n x).boot = s.boot := rfl
@[simp] theorem setConv_voice (s : State) (n : Nat) (x : Converter) : (State.setConv s n x).voice = s.voice := rfl
@[simp] theorem setConv_free (s : State) (n : Nat) (x : Converter) : (State.setConv s n x).free = s.free := rfl
@[simp] theorem setConv_pending (s : State) (n : Nat) (x : Converter) : (State.setConv s n x).pending = s.pending := rfl
/-! State.setBlade -/

@[simp] theorem setBlade_combInit (s : State) (b : Nat) (x : Blade) : (State.setBlade s b x).combInit = s.combInit := rfl
@[simp] theorem setBlade_combs (s : State) (b : Nat) (x : Blade) : (State.setBlade s b x).combs = s.combs := rfl
@[simp] theorem setBlade_storeInit (s : State) (b : Nat) (x : Blade) : (State.setBlade s b x).storeInit = s.storeInit := rfl
@[simp] theorem setBlade_stores (s : State) (b : Nat) (x : Blade) : (State.setBlade s b x).stores = s.stores := rfl
@[simp] theorem setBlade_west (s : State) (b : Nat) (x : Blade) : (State.setBlade s b x).west = s.west := rfl
@[simp] theorem setBlade_east (s : State) (b : Nat) (x : Blade) : (State.setBlade s b x).east = s.east := rfl
@[simp] theorem setBlade_net (s : State) (b : Nat) (x : Blade) : (State.setBlade s b x).net = s.net := rfl
@[simp] theorem setBlade_colonies (s : State) (b : Nat) (x : Blade) : (State.setBlade s b x).colonies = s.colonies := rfl
@[simp] theorem setBlade_lead (s : State) (b : Nat) (x : Blade) : (State.setBlade s b x).lead = s.lead := rfl
@[simp] theorem setBlade_works (s : State) (b : Nat) (x : Blade) : (State.setBlade s b x).works = s.works := rfl
@[simp] theorem setBlade_overhead (s : State) (b : Nat) (x : Blade) : (State.setBlade s b x).overhead = s.overhead := rfl
@[simp] theorem setBlade_energyMarks (s : State) (b : Nat) (x : Blade) : (State.setBlade s b x).energyMarks = s.energyMarks := rfl
@[simp] theorem setBlade_sessions (s : State) (b : Nat) (x : Blade) : (State.setBlade s b x).sessions = s.sessions := rfl
@[simp] theorem setBlade_mgmt (s : State) (b : Nat) (x : Blade) : (State.setBlade s b x).mgmt = s.mgmt := rfl
@[simp] theorem setBlade_log (s : State) (b : Nat) (x : Blade) : (State.setBlade s b x).log = s.log := rfl
@[simp] theorem setBlade_birth (s : State) (b : Nat) (x : Blade) : (State.setBlade s b x).birth = s.birth := rfl
@[simp] theorem setBlade_ident (s : State) (b : Nat) (x : Blade) : (State.setBlade s b x).ident = s.ident := rfl
@[simp] theorem setBlade_swarmEpoch (s : State) (b : Nat) (x : Blade) : (State.setBlade s b x).swarmEpoch = s.swarmEpoch := rfl
@[simp] theorem setBlade_swarmMembers (s : State) (b : Nat) (x : Blade) : (State.setBlade s b x).swarmMembers = s.swarmMembers := rfl
@[simp] theorem setBlade_swarmSerial (s : State) (b : Nat) (x : Blade) : (State.setBlade s b x).swarmSerial = s.swarmSerial := rfl
@[simp] theorem setBlade_boot (s : State) (b : Nat) (x : Blade) : (State.setBlade s b x).boot = s.boot := rfl
@[simp] theorem setBlade_voice (s : State) (b : Nat) (x : Blade) : (State.setBlade s b x).voice = s.voice := rfl
@[simp] theorem setBlade_free (s : State) (b : Nat) (x : Blade) : (State.setBlade s b x).free = s.free := rfl
@[simp] theorem setBlade_pending (s : State) (b : Nat) (x : Blade) : (State.setBlade s b x).pending = s.pending := rfl
/-! State.modComb -/

@[simp] theorem modComb_combInit (s : State) (i : Site) (f : Comb → Comb) : (State.modComb s i f).combInit = s.combInit := rfl
@[simp] theorem modComb_storeInit (s : State) (i : Site) (f : Comb → Comb) : (State.modComb s i f).storeInit = s.storeInit := rfl
@[simp] theorem modComb_stores (s : State) (i : Site) (f : Comb → Comb) : (State.modComb s i f).stores = s.stores := rfl
@[simp] theorem modComb_west (s : State) (i : Site) (f : Comb → Comb) : (State.modComb s i f).west = s.west := rfl
@[simp] theorem modComb_east (s : State) (i : Site) (f : Comb → Comb) : (State.modComb s i f).east = s.east := rfl
@[simp] theorem modComb_net (s : State) (i : Site) (f : Comb → Comb) : (State.modComb s i f).net = s.net := rfl
@[simp] theorem modComb_colonies (s : State) (i : Site) (f : Comb → Comb) : (State.modComb s i f).colonies = s.colonies := rfl
@[simp] theorem modComb_lead (s : State) (i : Site) (f : Comb → Comb) : (State.modComb s i f).lead = s.lead := rfl
@[simp] theorem modComb_works (s : State) (i : Site) (f : Comb → Comb) : (State.modComb s i f).works = s.works := rfl
@[simp] theorem modComb_overhead (s : State) (i : Site) (f : Comb → Comb) : (State.modComb s i f).overhead = s.overhead := rfl
@[simp] theorem modComb_energyMarks (s : State) (i : Site) (f : Comb → Comb) : (State.modComb s i f).energyMarks = s.energyMarks := rfl
@[simp] theorem modComb_sessions (s : State) (i : Site) (f : Comb → Comb) : (State.modComb s i f).sessions = s.sessions := rfl
@[simp] theorem modComb_mgmt (s : State) (i : Site) (f : Comb → Comb) : (State.modComb s i f).mgmt = s.mgmt := rfl
@[simp] theorem modComb_log (s : State) (i : Site) (f : Comb → Comb) : (State.modComb s i f).log = s.log := rfl
@[simp] theorem modComb_birth (s : State) (i : Site) (f : Comb → Comb) : (State.modComb s i f).birth = s.birth := rfl
@[simp] theorem modComb_ident (s : State) (i : Site) (f : Comb → Comb) : (State.modComb s i f).ident = s.ident := rfl
@[simp] theorem modComb_swarmEpoch (s : State) (i : Site) (f : Comb → Comb) : (State.modComb s i f).swarmEpoch = s.swarmEpoch := rfl
@[simp] theorem modComb_swarmMembers (s : State) (i : Site) (f : Comb → Comb) : (State.modComb s i f).swarmMembers = s.swarmMembers := rfl
@[simp] theorem modComb_swarmSerial (s : State) (i : Site) (f : Comb → Comb) : (State.modComb s i f).swarmSerial = s.swarmSerial := rfl
@[simp] theorem modComb_boot (s : State) (i : Site) (f : Comb → Comb) : (State.modComb s i f).boot = s.boot := rfl
@[simp] theorem modComb_voice (s : State) (i : Site) (f : Comb → Comb) : (State.modComb s i f).voice = s.voice := rfl
@[simp] theorem modComb_power (s : State) (i : Site) (f : Comb → Comb) : (State.modComb s i f).power = s.power := rfl
@[simp] theorem modComb_free (s : State) (i : Site) (f : Comb → Comb) : (State.modComb s i f).free = s.free := rfl
@[simp] theorem modComb_pending (s : State) (i : Site) (f : Comb → Comb) : (State.modComb s i f).pending = s.pending := rfl
/-! State.setCell -/

@[simp] theorem setCell_combInit (s : State) (c : CellAt) (x : Cell) : (State.setCell s c x).combInit = s.combInit := rfl
@[simp] theorem setCell_storeInit (s : State) (c : CellAt) (x : Cell) : (State.setCell s c x).storeInit = s.storeInit := rfl
@[simp] theorem setCell_stores (s : State) (c : CellAt) (x : Cell) : (State.setCell s c x).stores = s.stores := rfl
@[simp] theorem setCell_west (s : State) (c : CellAt) (x : Cell) : (State.setCell s c x).west = s.west := rfl
@[simp] theorem setCell_east (s : State) (c : CellAt) (x : Cell) : (State.setCell s c x).east = s.east := rfl
@[simp] theorem setCell_net (s : State) (c : CellAt) (x : Cell) : (State.setCell s c x).net = s.net := rfl
@[simp] theorem setCell_colonies (s : State) (c : CellAt) (x : Cell) : (State.setCell s c x).colonies = s.colonies := rfl
@[simp] theorem setCell_lead (s : State) (c : CellAt) (x : Cell) : (State.setCell s c x).lead = s.lead := rfl
@[simp] theorem setCell_works (s : State) (c : CellAt) (x : Cell) : (State.setCell s c x).works = s.works := rfl
@[simp] theorem setCell_overhead (s : State) (c : CellAt) (x : Cell) : (State.setCell s c x).overhead = s.overhead := rfl
@[simp] theorem setCell_energyMarks (s : State) (c : CellAt) (x : Cell) : (State.setCell s c x).energyMarks = s.energyMarks := rfl
@[simp] theorem setCell_sessions (s : State) (c : CellAt) (x : Cell) : (State.setCell s c x).sessions = s.sessions := rfl
@[simp] theorem setCell_mgmt (s : State) (c : CellAt) (x : Cell) : (State.setCell s c x).mgmt = s.mgmt := rfl
@[simp] theorem setCell_log (s : State) (c : CellAt) (x : Cell) : (State.setCell s c x).log = s.log := rfl
@[simp] theorem setCell_birth (s : State) (c : CellAt) (x : Cell) : (State.setCell s c x).birth = s.birth := rfl
@[simp] theorem setCell_ident (s : State) (c : CellAt) (x : Cell) : (State.setCell s c x).ident = s.ident := rfl
@[simp] theorem setCell_swarmEpoch (s : State) (c : CellAt) (x : Cell) : (State.setCell s c x).swarmEpoch = s.swarmEpoch := rfl
@[simp] theorem setCell_swarmMembers (s : State) (c : CellAt) (x : Cell) : (State.setCell s c x).swarmMembers = s.swarmMembers := rfl
@[simp] theorem setCell_swarmSerial (s : State) (c : CellAt) (x : Cell) : (State.setCell s c x).swarmSerial = s.swarmSerial := rfl
@[simp] theorem setCell_boot (s : State) (c : CellAt) (x : Cell) : (State.setCell s c x).boot = s.boot := rfl
@[simp] theorem setCell_voice (s : State) (c : CellAt) (x : Cell) : (State.setCell s c x).voice = s.voice := rfl
@[simp] theorem setCell_power (s : State) (c : CellAt) (x : Cell) : (State.setCell s c x).power = s.power := rfl
@[simp] theorem setCell_free (s : State) (c : CellAt) (x : Cell) : (State.setCell s c x).free = s.free := rfl
@[simp] theorem setCell_pending (s : State) (c : CellAt) (x : Cell) : (State.setCell s c x).pending = s.pending := rfl
/-! State.modCell -/

@[simp] theorem modCell_combInit (s : State) (c : CellAt) (f : Cell → Cell) : (State.modCell s c f).combInit = s.combInit := rfl
@[simp] theorem modCell_storeInit (s : State) (c : CellAt) (f : Cell → Cell) : (State.modCell s c f).storeInit = s.storeInit := rfl
@[simp] theorem modCell_stores (s : State) (c : CellAt) (f : Cell → Cell) : (State.modCell s c f).stores = s.stores := rfl
@[simp] theorem modCell_west (s : State) (c : CellAt) (f : Cell → Cell) : (State.modCell s c f).west = s.west := rfl
@[simp] theorem modCell_east (s : State) (c : CellAt) (f : Cell → Cell) : (State.modCell s c f).east = s.east := rfl
@[simp] theorem modCell_net (s : State) (c : CellAt) (f : Cell → Cell) : (State.modCell s c f).net = s.net := rfl
@[simp] theorem modCell_colonies (s : State) (c : CellAt) (f : Cell → Cell) : (State.modCell s c f).colonies = s.colonies := rfl
@[simp] theorem modCell_lead (s : State) (c : CellAt) (f : Cell → Cell) : (State.modCell s c f).lead = s.lead := rfl
@[simp] theorem modCell_works (s : State) (c : CellAt) (f : Cell → Cell) : (State.modCell s c f).works = s.works := rfl
@[simp] theorem modCell_overhead (s : State) (c : CellAt) (f : Cell → Cell) : (State.modCell s c f).overhead = s.overhead := rfl
@[simp] theorem modCell_energyMarks (s : State) (c : CellAt) (f : Cell → Cell) : (State.modCell s c f).energyMarks = s.energyMarks := rfl
@[simp] theorem modCell_sessions (s : State) (c : CellAt) (f : Cell → Cell) : (State.modCell s c f).sessions = s.sessions := rfl
@[simp] theorem modCell_mgmt (s : State) (c : CellAt) (f : Cell → Cell) : (State.modCell s c f).mgmt = s.mgmt := rfl
@[simp] theorem modCell_log (s : State) (c : CellAt) (f : Cell → Cell) : (State.modCell s c f).log = s.log := rfl
@[simp] theorem modCell_birth (s : State) (c : CellAt) (f : Cell → Cell) : (State.modCell s c f).birth = s.birth := rfl
@[simp] theorem modCell_ident (s : State) (c : CellAt) (f : Cell → Cell) : (State.modCell s c f).ident = s.ident := rfl
@[simp] theorem modCell_swarmEpoch (s : State) (c : CellAt) (f : Cell → Cell) : (State.modCell s c f).swarmEpoch = s.swarmEpoch := rfl
@[simp] theorem modCell_swarmMembers (s : State) (c : CellAt) (f : Cell → Cell) : (State.modCell s c f).swarmMembers = s.swarmMembers := rfl
@[simp] theorem modCell_swarmSerial (s : State) (c : CellAt) (f : Cell → Cell) : (State.modCell s c f).swarmSerial = s.swarmSerial := rfl
@[simp] theorem modCell_boot (s : State) (c : CellAt) (f : Cell → Cell) : (State.modCell s c f).boot = s.boot := rfl
@[simp] theorem modCell_voice (s : State) (c : CellAt) (f : Cell → Cell) : (State.modCell s c f).voice = s.voice := rfl
@[simp] theorem modCell_power (s : State) (c : CellAt) (f : Cell → Cell) : (State.modCell s c f).power = s.power := rfl
@[simp] theorem modCell_free (s : State) (c : CellAt) (f : Cell → Cell) : (State.modCell s c f).free = s.free := rfl
@[simp] theorem modCell_pending (s : State) (c : CellAt) (f : Cell → Cell) : (State.modCell s c f).pending = s.pending := rfl
/-! State.setKeeper -/

@[simp] theorem setKeeper_combInit (s : State) (z0 : Half) (z1 : Keeper) : (State.setKeeper s z0 z1).combInit = s.combInit := by unfold State.setKeeper; split <;> rfl
@[simp] theorem setKeeper_combs (s : State) (z0 : Half) (z1 : Keeper) : (State.setKeeper s z0 z1).combs = s.combs := by unfold State.setKeeper; split <;> rfl
@[simp] theorem setKeeper_storeInit (s : State) (z0 : Half) (z1 : Keeper) : (State.setKeeper s z0 z1).storeInit = s.storeInit := by unfold State.setKeeper; split <;> rfl
@[simp] theorem setKeeper_stores (s : State) (z0 : Half) (z1 : Keeper) : (State.setKeeper s z0 z1).stores = s.stores := by unfold State.setKeeper; split <;> rfl
@[simp] theorem setKeeper_net (s : State) (z0 : Half) (z1 : Keeper) : (State.setKeeper s z0 z1).net = s.net := by unfold State.setKeeper; split <;> rfl
@[simp] theorem setKeeper_colonies (s : State) (z0 : Half) (z1 : Keeper) : (State.setKeeper s z0 z1).colonies = s.colonies := by unfold State.setKeeper; split <;> rfl
@[simp] theorem setKeeper_lead (s : State) (z0 : Half) (z1 : Keeper) : (State.setKeeper s z0 z1).lead = s.lead := by unfold State.setKeeper; split <;> rfl
@[simp] theorem setKeeper_works (s : State) (z0 : Half) (z1 : Keeper) : (State.setKeeper s z0 z1).works = s.works := by unfold State.setKeeper; split <;> rfl
@[simp] theorem setKeeper_overhead (s : State) (z0 : Half) (z1 : Keeper) : (State.setKeeper s z0 z1).overhead = s.overhead := by unfold State.setKeeper; split <;> rfl
@[simp] theorem setKeeper_energyMarks (s : State) (z0 : Half) (z1 : Keeper) : (State.setKeeper s z0 z1).energyMarks = s.energyMarks := by unfold State.setKeeper; split <;> rfl
@[simp] theorem setKeeper_sessions (s : State) (z0 : Half) (z1 : Keeper) : (State.setKeeper s z0 z1).sessions = s.sessions := by unfold State.setKeeper; split <;> rfl
@[simp] theorem setKeeper_mgmt (s : State) (z0 : Half) (z1 : Keeper) : (State.setKeeper s z0 z1).mgmt = s.mgmt := by unfold State.setKeeper; split <;> rfl
@[simp] theorem setKeeper_log (s : State) (z0 : Half) (z1 : Keeper) : (State.setKeeper s z0 z1).log = s.log := by unfold State.setKeeper; split <;> rfl
@[simp] theorem setKeeper_birth (s : State) (z0 : Half) (z1 : Keeper) : (State.setKeeper s z0 z1).birth = s.birth := by unfold State.setKeeper; split <;> rfl
@[simp] theorem setKeeper_ident (s : State) (z0 : Half) (z1 : Keeper) : (State.setKeeper s z0 z1).ident = s.ident := by unfold State.setKeeper; split <;> rfl
@[simp] theorem setKeeper_swarmEpoch (s : State) (z0 : Half) (z1 : Keeper) : (State.setKeeper s z0 z1).swarmEpoch = s.swarmEpoch := by unfold State.setKeeper; split <;> rfl
@[simp] theorem setKeeper_swarmMembers (s : State) (z0 : Half) (z1 : Keeper) : (State.setKeeper s z0 z1).swarmMembers = s.swarmMembers := by unfold State.setKeeper; split <;> rfl
@[simp] theorem setKeeper_swarmSerial (s : State) (z0 : Half) (z1 : Keeper) : (State.setKeeper s z0 z1).swarmSerial = s.swarmSerial := by unfold State.setKeeper; split <;> rfl
@[simp] theorem setKeeper_boot (s : State) (z0 : Half) (z1 : Keeper) : (State.setKeeper s z0 z1).boot = s.boot := by unfold State.setKeeper; split <;> rfl
@[simp] theorem setKeeper_voice (s : State) (z0 : Half) (z1 : Keeper) : (State.setKeeper s z0 z1).voice = s.voice := by unfold State.setKeeper; split <;> rfl
@[simp] theorem setKeeper_power (s : State) (z0 : Half) (z1 : Keeper) : (State.setKeeper s z0 z1).power = s.power := by unfold State.setKeeper; split <;> rfl
@[simp] theorem setKeeper_free (s : State) (z0 : Half) (z1 : Keeper) : (State.setKeeper s z0 z1).free = s.free := by unfold State.setKeeper; split <;> rfl
@[simp] theorem setKeeper_pending (s : State) (z0 : Half) (z1 : Keeper) : (State.setKeeper s z0 z1).pending = s.pending := by unfold State.setKeeper; split <;> rfl
/-! State.setCore -/

@[simp] theorem setCore_combInit (s : State) (z0 : CoreId) (z1 : Core) : (State.setCore s z0 z1).combInit = s.combInit := by unfold State.setCore; split <;> simp
@[simp] theorem setCore_storeInit (s : State) (z0 : CoreId) (z1 : Core) : (State.setCore s z0 z1).storeInit = s.storeInit := by unfold State.setCore; split <;> simp
@[simp] theorem setCore_stores (s : State) (z0 : CoreId) (z1 : Core) : (State.setCore s z0 z1).stores = s.stores := by unfold State.setCore; split <;> simp
@[simp] theorem setCore_net (s : State) (z0 : CoreId) (z1 : Core) : (State.setCore s z0 z1).net = s.net := by unfold State.setCore; split <;> simp
@[simp] theorem setCore_colonies (s : State) (z0 : CoreId) (z1 : Core) : (State.setCore s z0 z1).colonies = s.colonies := by unfold State.setCore; split <;> simp
@[simp] theorem setCore_lead (s : State) (z0 : CoreId) (z1 : Core) : (State.setCore s z0 z1).lead = s.lead := by unfold State.setCore; split <;> simp
@[simp] theorem setCore_works (s : State) (z0 : CoreId) (z1 : Core) : (State.setCore s z0 z1).works = s.works := by unfold State.setCore; split <;> simp
@[simp] theorem setCore_overhead (s : State) (z0 : CoreId) (z1 : Core) : (State.setCore s z0 z1).overhead = s.overhead := by unfold State.setCore; split <;> simp
@[simp] theorem setCore_energyMarks (s : State) (z0 : CoreId) (z1 : Core) : (State.setCore s z0 z1).energyMarks = s.energyMarks := by unfold State.setCore; split <;> simp
@[simp] theorem setCore_sessions (s : State) (z0 : CoreId) (z1 : Core) : (State.setCore s z0 z1).sessions = s.sessions := by unfold State.setCore; split <;> simp
@[simp] theorem setCore_mgmt (s : State) (z0 : CoreId) (z1 : Core) : (State.setCore s z0 z1).mgmt = s.mgmt := by unfold State.setCore; split <;> simp
@[simp] theorem setCore_log (s : State) (z0 : CoreId) (z1 : Core) : (State.setCore s z0 z1).log = s.log := by unfold State.setCore; split <;> simp
@[simp] theorem setCore_birth (s : State) (z0 : CoreId) (z1 : Core) : (State.setCore s z0 z1).birth = s.birth := by unfold State.setCore; split <;> simp
@[simp] theorem setCore_ident (s : State) (z0 : CoreId) (z1 : Core) : (State.setCore s z0 z1).ident = s.ident := by unfold State.setCore; split <;> simp
@[simp] theorem setCore_swarmEpoch (s : State) (z0 : CoreId) (z1 : Core) : (State.setCore s z0 z1).swarmEpoch = s.swarmEpoch := by unfold State.setCore; split <;> simp
@[simp] theorem setCore_swarmMembers (s : State) (z0 : CoreId) (z1 : Core) : (State.setCore s z0 z1).swarmMembers = s.swarmMembers := by unfold State.setCore; split <;> simp
@[simp] theorem setCore_swarmSerial (s : State) (z0 : CoreId) (z1 : Core) : (State.setCore s z0 z1).swarmSerial = s.swarmSerial := by unfold State.setCore; split <;> simp
@[simp] theorem setCore_boot (s : State) (z0 : CoreId) (z1 : Core) : (State.setCore s z0 z1).boot = s.boot := by unfold State.setCore; split <;> simp
@[simp] theorem setCore_voice (s : State) (z0 : CoreId) (z1 : Core) : (State.setCore s z0 z1).voice = s.voice := by unfold State.setCore; split <;> simp
@[simp] theorem setCore_power (s : State) (z0 : CoreId) (z1 : Core) : (State.setCore s z0 z1).power = s.power := by unfold State.setCore; split <;> simp
@[simp] theorem setCore_free (s : State) (z0 : CoreId) (z1 : Core) : (State.setCore s z0 z1).free = s.free := by unfold State.setCore; split <;> simp
@[simp] theorem setCore_pending (s : State) (z0 : CoreId) (z1 : Core) : (State.setCore s z0 z1).pending = s.pending := by unfold State.setCore; split <;> simp
/-! State.modSmp -/

@[simp] theorem modSmp_combInit (s : State) (a : SmpAt) (f : Sampler → Sampler) : (State.modSmp s a f).combInit = s.combInit := rfl
@[simp] theorem modSmp_storeInit (s : State) (a : SmpAt) (f : Sampler → Sampler) : (State.modSmp s a f).storeInit = s.storeInit := rfl
@[simp] theorem modSmp_stores (s : State) (a : SmpAt) (f : Sampler → Sampler) : (State.modSmp s a f).stores = s.stores := rfl
@[simp] theorem modSmp_west (s : State) (a : SmpAt) (f : Sampler → Sampler) : (State.modSmp s a f).west = s.west := rfl
@[simp] theorem modSmp_east (s : State) (a : SmpAt) (f : Sampler → Sampler) : (State.modSmp s a f).east = s.east := rfl
@[simp] theorem modSmp_net (s : State) (a : SmpAt) (f : Sampler → Sampler) : (State.modSmp s a f).net = s.net := rfl
@[simp] theorem modSmp_colonies (s : State) (a : SmpAt) (f : Sampler → Sampler) : (State.modSmp s a f).colonies = s.colonies := rfl
@[simp] theorem modSmp_lead (s : State) (a : SmpAt) (f : Sampler → Sampler) : (State.modSmp s a f).lead = s.lead := rfl
@[simp] theorem modSmp_works (s : State) (a : SmpAt) (f : Sampler → Sampler) : (State.modSmp s a f).works = s.works := rfl
@[simp] theorem modSmp_overhead (s : State) (a : SmpAt) (f : Sampler → Sampler) : (State.modSmp s a f).overhead = s.overhead := rfl
@[simp] theorem modSmp_energyMarks (s : State) (a : SmpAt) (f : Sampler → Sampler) : (State.modSmp s a f).energyMarks = s.energyMarks := rfl
@[simp] theorem modSmp_sessions (s : State) (a : SmpAt) (f : Sampler → Sampler) : (State.modSmp s a f).sessions = s.sessions := rfl
@[simp] theorem modSmp_mgmt (s : State) (a : SmpAt) (f : Sampler → Sampler) : (State.modSmp s a f).mgmt = s.mgmt := rfl
@[simp] theorem modSmp_log (s : State) (a : SmpAt) (f : Sampler → Sampler) : (State.modSmp s a f).log = s.log := rfl
@[simp] theorem modSmp_birth (s : State) (a : SmpAt) (f : Sampler → Sampler) : (State.modSmp s a f).birth = s.birth := rfl
@[simp] theorem modSmp_ident (s : State) (a : SmpAt) (f : Sampler → Sampler) : (State.modSmp s a f).ident = s.ident := rfl
@[simp] theorem modSmp_swarmEpoch (s : State) (a : SmpAt) (f : Sampler → Sampler) : (State.modSmp s a f).swarmEpoch = s.swarmEpoch := rfl
@[simp] theorem modSmp_swarmMembers (s : State) (a : SmpAt) (f : Sampler → Sampler) : (State.modSmp s a f).swarmMembers = s.swarmMembers := rfl
@[simp] theorem modSmp_swarmSerial (s : State) (a : SmpAt) (f : Sampler → Sampler) : (State.modSmp s a f).swarmSerial = s.swarmSerial := rfl
@[simp] theorem modSmp_boot (s : State) (a : SmpAt) (f : Sampler → Sampler) : (State.modSmp s a f).boot = s.boot := rfl
@[simp] theorem modSmp_voice (s : State) (a : SmpAt) (f : Sampler → Sampler) : (State.modSmp s a f).voice = s.voice := rfl
@[simp] theorem modSmp_power (s : State) (a : SmpAt) (f : Sampler → Sampler) : (State.modSmp s a f).power = s.power := rfl
@[simp] theorem modSmp_free (s : State) (a : SmpAt) (f : Sampler → Sampler) : (State.modSmp s a f).free = s.free := rfl
@[simp] theorem modSmp_pending (s : State) (a : SmpAt) (f : Sampler → Sampler) : (State.modSmp s a f).pending = s.pending := rfl
/-! State.modStore -/

@[simp] theorem modStore_combInit (s : State) (n : Nat) (f : Store → Store) : (State.modStore s n f).combInit = s.combInit := rfl
@[simp] theorem modStore_combs (s : State) (n : Nat) (f : Store → Store) : (State.modStore s n f).combs = s.combs := rfl
@[simp] theorem modStore_storeInit (s : State) (n : Nat) (f : Store → Store) : (State.modStore s n f).storeInit = s.storeInit := rfl
@[simp] theorem modStore_west (s : State) (n : Nat) (f : Store → Store) : (State.modStore s n f).west = s.west := rfl
@[simp] theorem modStore_east (s : State) (n : Nat) (f : Store → Store) : (State.modStore s n f).east = s.east := rfl
@[simp] theorem modStore_net (s : State) (n : Nat) (f : Store → Store) : (State.modStore s n f).net = s.net := rfl
@[simp] theorem modStore_colonies (s : State) (n : Nat) (f : Store → Store) : (State.modStore s n f).colonies = s.colonies := rfl
@[simp] theorem modStore_lead (s : State) (n : Nat) (f : Store → Store) : (State.modStore s n f).lead = s.lead := rfl
@[simp] theorem modStore_works (s : State) (n : Nat) (f : Store → Store) : (State.modStore s n f).works = s.works := rfl
@[simp] theorem modStore_overhead (s : State) (n : Nat) (f : Store → Store) : (State.modStore s n f).overhead = s.overhead := rfl
@[simp] theorem modStore_energyMarks (s : State) (n : Nat) (f : Store → Store) : (State.modStore s n f).energyMarks = s.energyMarks := rfl
@[simp] theorem modStore_sessions (s : State) (n : Nat) (f : Store → Store) : (State.modStore s n f).sessions = s.sessions := rfl
@[simp] theorem modStore_mgmt (s : State) (n : Nat) (f : Store → Store) : (State.modStore s n f).mgmt = s.mgmt := rfl
@[simp] theorem modStore_log (s : State) (n : Nat) (f : Store → Store) : (State.modStore s n f).log = s.log := rfl
@[simp] theorem modStore_birth (s : State) (n : Nat) (f : Store → Store) : (State.modStore s n f).birth = s.birth := rfl
@[simp] theorem modStore_ident (s : State) (n : Nat) (f : Store → Store) : (State.modStore s n f).ident = s.ident := rfl
@[simp] theorem modStore_swarmEpoch (s : State) (n : Nat) (f : Store → Store) : (State.modStore s n f).swarmEpoch = s.swarmEpoch := rfl
@[simp] theorem modStore_swarmMembers (s : State) (n : Nat) (f : Store → Store) : (State.modStore s n f).swarmMembers = s.swarmMembers := rfl
@[simp] theorem modStore_swarmSerial (s : State) (n : Nat) (f : Store → Store) : (State.modStore s n f).swarmSerial = s.swarmSerial := rfl
@[simp] theorem modStore_boot (s : State) (n : Nat) (f : Store → Store) : (State.modStore s n f).boot = s.boot := rfl
@[simp] theorem modStore_voice (s : State) (n : Nat) (f : Store → Store) : (State.modStore s n f).voice = s.voice := rfl
@[simp] theorem modStore_power (s : State) (n : Nat) (f : Store → Store) : (State.modStore s n f).power = s.power := rfl
@[simp] theorem modStore_free (s : State) (n : Nat) (f : Store → Store) : (State.modStore s n f).free = s.free := rfl
@[simp] theorem modStore_pending (s : State) (n : Nat) (f : Store → Store) : (State.modStore s n f).pending = s.pending := rfl
/-! State.modSession -/

@[simp] theorem modSession_combInit (s : State) (id : W32) (f : MgmtSession → MgmtSession) : (State.modSession s id f).combInit = s.combInit := rfl
@[simp] theorem modSession_combs (s : State) (id : W32) (f : MgmtSession → MgmtSession) : (State.modSession s id f).combs = s.combs := rfl
@[simp] theorem modSession_storeInit (s : State) (id : W32) (f : MgmtSession → MgmtSession) : (State.modSession s id f).storeInit = s.storeInit := rfl
@[simp] theorem modSession_stores (s : State) (id : W32) (f : MgmtSession → MgmtSession) : (State.modSession s id f).stores = s.stores := rfl
@[simp] theorem modSession_west (s : State) (id : W32) (f : MgmtSession → MgmtSession) : (State.modSession s id f).west = s.west := rfl
@[simp] theorem modSession_east (s : State) (id : W32) (f : MgmtSession → MgmtSession) : (State.modSession s id f).east = s.east := rfl
@[simp] theorem modSession_net (s : State) (id : W32) (f : MgmtSession → MgmtSession) : (State.modSession s id f).net = s.net := rfl
@[simp] theorem modSession_colonies (s : State) (id : W32) (f : MgmtSession → MgmtSession) : (State.modSession s id f).colonies = s.colonies := rfl
@[simp] theorem modSession_lead (s : State) (id : W32) (f : MgmtSession → MgmtSession) : (State.modSession s id f).lead = s.lead := rfl
@[simp] theorem modSession_works (s : State) (id : W32) (f : MgmtSession → MgmtSession) : (State.modSession s id f).works = s.works := rfl
@[simp] theorem modSession_overhead (s : State) (id : W32) (f : MgmtSession → MgmtSession) : (State.modSession s id f).overhead = s.overhead := rfl
@[simp] theorem modSession_energyMarks (s : State) (id : W32) (f : MgmtSession → MgmtSession) : (State.modSession s id f).energyMarks = s.energyMarks := rfl
@[simp] theorem modSession_sessions (s : State) (id : W32) (f : MgmtSession → MgmtSession) : (State.modSession s id f).sessions = s.sessions := rfl
@[simp] theorem modSession_log (s : State) (id : W32) (f : MgmtSession → MgmtSession) : (State.modSession s id f).log = s.log := rfl
@[simp] theorem modSession_birth (s : State) (id : W32) (f : MgmtSession → MgmtSession) : (State.modSession s id f).birth = s.birth := rfl
@[simp] theorem modSession_ident (s : State) (id : W32) (f : MgmtSession → MgmtSession) : (State.modSession s id f).ident = s.ident := rfl
@[simp] theorem modSession_swarmEpoch (s : State) (id : W32) (f : MgmtSession → MgmtSession) : (State.modSession s id f).swarmEpoch = s.swarmEpoch := rfl
@[simp] theorem modSession_swarmMembers (s : State) (id : W32) (f : MgmtSession → MgmtSession) : (State.modSession s id f).swarmMembers = s.swarmMembers := rfl
@[simp] theorem modSession_swarmSerial (s : State) (id : W32) (f : MgmtSession → MgmtSession) : (State.modSession s id f).swarmSerial = s.swarmSerial := rfl
@[simp] theorem modSession_boot (s : State) (id : W32) (f : MgmtSession → MgmtSession) : (State.modSession s id f).boot = s.boot := rfl
@[simp] theorem modSession_voice (s : State) (id : W32) (f : MgmtSession → MgmtSession) : (State.modSession s id f).voice = s.voice := rfl
@[simp] theorem modSession_power (s : State) (id : W32) (f : MgmtSession → MgmtSession) : (State.modSession s id f).power = s.power := rfl
@[simp] theorem modSession_free (s : State) (id : W32) (f : MgmtSession → MgmtSession) : (State.modSession s id f).free = s.free := rfl
@[simp] theorem modSession_pending (s : State) (id : W32) (f : MgmtSession → MgmtSession) : (State.modSession s id f).pending = s.pending := rfl

end Sys2Proof.Laws
end

