-- ==== Sys2Proof/WellFormed.lean ====
section
/-!
DEFINITION. Which commands are well-formed: what travels has the sizes that the spec gives it, and a link end that a command names exists.
-/
namespace Sys2Proof

/-- A data packet carries whole flits, as many as its header says (R301). -/
def dataOk (p : DataPkt) : Bool := decide (p.payload.length = 16 * (p.lenM1.toNat + 1))

/-- A packet on either network. -/
def netOk : NetPkt → Bool
  | .bulk p => dataOk p
  | .ctl _ => true

/-- A neighbour line is 64 words (R39). -/
def nbrOk (l : NbrLine) : Bool := decide (l.words.length = 64)

/-- A link frame holds 32 DATA blocks (R347). -/
def frameOk (f : LinkFrame) : Bool := decide (f.data.length = 32)

/-- A waggle packet carries the data tokens that its LEN stands for: 0, 1, 2, 4 or 8 (R323). -/
def wagOk (p : WagPkt) : Bool :=
  decide (p.len.toNat ≤ 4) && decide (p.data.length = if p.len = 0 then 0 else 2 ^ (p.len.toNat - 1))

/-- Does R14 provide a link end? An edge at the border of the panel has no neighbour. -/
def linkOk : LinkAt → Bool
  | .comb i k =>
    decide (k.val ≥ 4) || decide ((k.val = 0 ∧ i.val ≥ 16) ∨ (k.val = 1 ∧ i.val % 16 < 15) ∨ (k.val = 2 ∧ i.val < 208) ∨ (k.val = 3 ∧ i.val % 16 > 0))
  | .keeper _ => true

/-- The same for what a link command names. -/
def selOk : LinkSel → Bool
  | .one l => linkOk l
  | .octet _ => true

/-- A reading of a module: so many F32 values (R373, R421). -/
def teleOk (n : Nat) (l : List (BitVec 32)) : Bool := decide (l.length = n)

/-- A store has 3,072 spare rows (R385, R391). -/
def rowsOk (l : List (BitVec 64)) : Bool := decide (l.length ≤ 3072)

/-- A CAN frame's data length is one that its format has (R496, R497). -/
def canOk (fd : Bool) (d : List (BitVec 8)) : Bool := decide (d.length ≤ 8) || (fd && [12, 16, 20, 24, 32, 48, 64].contains d.length)

/-- A command is well-formed. -/
def Instr.wf (i : Instr) : Bool :=
  match i with
  | .add _ _ => true
  | .sub _ _ => true
  | .and_ _ _ => true
  | .or_ _ _ => true
  | .xor_ _ _ => true
  | .andn _ _ => true
  | .sll _ _ => true
  | .srl _ _ => true
  | .sra _ _ => true
  | .addw _ _ => true
  | .subw _ _ => true
  | .mul _ _ => true
  | .mulh _ _ => true
  | .mulhu _ _ => true
  | .div _ _ => true
  | .divu _ _ => true
  | .rem _ _ => true
  | .remu _ _ => true
  | .min _ _ => true
  | .max _ _ => true
  | .minu _ _ => true
  | .maxu _ _ => true
  | .clz _ _ => true
  | .ctz _ _ => true
  | .popc _ _ => true
  | .sel _ _ => true
  | .addi _ _ => true
  | .andi _ _ => true
  | .ori _ _ => true
  | .xori _ _ => true
  | .shi _ _ => true
  | .movi _ _ => true
  | .shori _ _ => true
  | .bfx _ _ => true
  | .bfi _ _ => true
  | .cmp _ _ => true
  | .cmpi _ _ => true
  | .pand _ _ => true
  | .por _ _ => true
  | .pxor _ _ => true
  | .pandn _ _ => true
  | .pnot _ _ => true
  | .pset _ _ => true
  | .pclr _ _ => true
  | .lw _ _ => true
  | .lwu _ _ => true
  | .ld _ _ => true
  | .sw _ _ => true
  | .sd _ _ => true
  | .amoswap _ _ => true
  | .amoadd _ _ => true
  | .amoand _ _ => true
  | .amoor _ _ => true
  | .amoxor _ _ => true
  | .amomin _ _ => true
  | .amomax _ _ => true
  | .amominu _ _ => true
  | .amomaxu _ _ => true
  | .amocas _ _ => true
  | .fenceTask _ _ => true
  | .fenceCell _ _ => true
  | .fenceColony _ _ => true
  | .fencePanel _ _ => true
  | .fenceSwarm _ _ => true
  | .fenceWaitEnd _ => true
  | .beq _ _ => true
  | .bne _ _ => true
  | .blt _ _ => true
  | .bge _ _ => true
  | .bltu _ _ => true
  | .bgeu _ _ => true
  | .bp _ _ => true
  | .bnp _ _ => true
  | .jal _ _ => true
  | .jalr _ _ => true
  | .tq _ _ => true
  | .tqQueueRoom _ => true
  | .tcount _ _ => true
  | .twait _ _ => true
  | .waitw _ _ => true
  | .waitwTimeout _ => true
  | .yield _ _ => true
  | .yieldEnd _ => true
  | .stop _ _ => true
  | .tid _ _ => true
  | .rdp _ _ => true
  | .wrp _ _ => true
  | .swtrap _ _ => true
  | .rdreg _ _ => true
  | .wrreg _ _ => true
  | .cread _ _ => true
  | .cwrite _ _ => true
  | .csend _ _ => true
  | .crecv _ _ => true
  | .prd _ _ => true
  | .pwr _ _ => true
  | .tret _ _ => true
  | .interrupt _ => true
  | .loadDataReturn _ => true
  | .muldivResult _ _ => true
  | .controlAccessTimeout _ => true
  | .taskStart _ _ => true
  | .taskStop _ _ => true
  | .clearTrap _ _ => true
  | .cellReset _ _ => true
  | .quiesce _ _ => true
  | .resume _ _ => true
  | .cellBindWrite _ _ => true
  | .registerWrite _ => true
  | .safePointApply _ => true
  | .cellScrubTick _ => true
  | .accDataAccess _ _ => true
  | .cmemErrRead _ => true
  | .cmemArbStatRead _ => true
  | .tskClkMonRead _ => true
  | .undefinedDescriptor _ _ => true
  | .mma _ => true
  | .accLoad _ => true
  | .accStore _ => true
  | .accZero _ => true
  | .accScale _ => true
  | .pack _ => true
  | .vbin _ => true
  | .vun _ => true
  | .vred _ => true
  | .vnorm _ => true
  | .vrope _ => true
  | .vsmxu _ => true
  | .tileCommandComplete _ _ _ => true
  | .samplerCommandStart _ => true
  | .select _ p => dataOk p
  | .score _ p => dataOk p
  | .smpFetch _ p => dataOk p
  | .smpData _ p => dataOk p
  | .selectionComplete _ _ _ => true
  | .partTimeout _ _ _ => true
  | .smpResult _ p => dataOk p
  | .smpStart _ _ => true
  | .smpStop _ _ => true
  | .smpReset _ _ => true
  | .smpCtxReset _ _ => true
  | .smpCfgWrite _ _ _ _ => true
  | .smpGrmDescWrite _ _ _ => true
  | .smpGdataAccess _ _ => true
  | .smpHdataAccess _ _ => true
  | .smpCountsRead _ => true
  | .smpStCountRead _ _ => true
  | .copy _ => true
  | .nput _ => true
  | .put _ => true
  | .get _ => true
  | .sread _ => true
  | .swrite _ => true
  | .putimm _ => true
  | .ratom _ => true
  | .satom _ => true
  | .sgather _ => true
  | .sfetch _ => true
  | .moverDescriptorStart _ => true
  | .moverDescriptorComplete _ => true
  | .moverTimeout _ _ => true
  | .cellWritePacket _ p => dataOk p
  | .writeWordPacket _ p => dataOk p
  | .readReqPacket _ p => dataOk p
  | .atomicPacket _ p => dataOk p
  | .neighbourLine _ _ l => nbrOk l
  | .readRspPacket _ p => dataOk p
  | .atomicRspPacket _ p => dataOk p
  | .ackPacket _ _ => true
  | .nackPacket _ _ => true
  | .regRd _ _ => true
  | .regWr _ _ _ => true
  | .regRdRsp _ _ => true
  | .regWrAck _ _ => true
  | .controlMessage _ _ => true
  | .packetHop _ _ p => netOk p
  | .holdExpiry _ _ p => netOk p
  | .rtrDataWrite _ _ _ => true
  | .rtrCountersRead _ => true
  | .combReset _ _ _ _ => true
  | .drainConfirmTimeout _ => true
  | .drainRetry _ _ _ => true
  | .wgoBarrier _ _ => true
  | .wgoAnd _ _ => true
  | .wgoOr _ _ => true
  | .wgoXor _ _ => true
  | .wgoAdd _ _ => true
  | .wgoMaxu _ _ => true
  | .wgoMinu _ _ => true
  | .wgoMax _ _ => true
  | .wgoMin _ _ => true
  | .wgoQuery _ _ => true
  | .wgoDigest _ _ => true
  | .wgoCommit _ _ => true
  | .wgoAbortStage _ _ => true
  | .wgoAbort _ _ => true
  | .waggleUpToken _ _ p => wagOk p
  | .waggleDownToken _ p => wagOk p
  | .waggleLimitExpiry _ _ => true
  | .unitEpochSwap _ => true
  | .wagParentWrite _ _ => true
  | .wagGroupWrite _ _ _ => true
  | .linkFrameReceive l _ f => linkOk l && frameOk f
  | .acknak l _ _ _ => linkOk l
  | .acknakSendTimer l _ => linkOk l
  | .replayTimeout l _ _ => linkOk l
  | .creditBlock l _ _ _ => linkOk l
  | .waggleBlock l _ _ => linkOk l
  | .trainingRecord l _ => linkOk l
  | .linkTraining l _ => linkOk l
  | .lockLoss l => linkOk l
  | .routeFlipTimer l => linkOk l
  | .routeRestoreTimer l => linkOk l
  | .linkRecalibration l _ => linkOk l
  | .linkRetrain l _ => selOk l
  | .linkDisable l _ => selOk l
  | .linkEnable l _ => selOk l
  | .linkRelease l _ => selOk l
  | .lnkCountsRead _ _ => true
  | .fetchReq _ _ p => dataOk p
  | .fetchData _ _ p => dataOk p
  | .fetchEnd _ _ p => dataOk p
  | .fetchNoProgress _ _ _ => true
  | .swarmCommand _ p _ _ => dataOk p
  | .swarmStepDone _ p _ _ => dataOk p
  | .swarmSegments _ p => dataOk p
  | .swarmEpoch _ p => dataOk p
  | .swarmHeartbeat _ p => (match p with | some q => dataOk q | none => true)
  | .swarmAck _ p => dataOk p
  | .swarmPeerLost _ => true
  | .laserInsert _ _ tele => teleOk 4 tele
  | .laserLoss _ _ => true
  | .census _ _ _ => true
  | .storeWritePacket _ p => dataOk p
  | .storeReadReq _ p => dataOk p
  | .storeAtomic _ p => dataOk p
  | .gather _ p => dataOk p
  | .gatherRsp _ p => dataOk p
  | .shardOpen _ p => dataOk p
  | .shardData _ p => dataOk p
  | .shardEnd _ p => dataOk p
  | .shardDone _ p => dataOk p
  | .kvDoorbell _ _ => true
  | .kvQueuePoll _ _ => true
  | .kvEntryComplete _ _ _ => true
  | .storeScrubTick _ => true
  | .scrubNow _ _ => true
  | .storeTest _ _ => true
  | .storeTestComplete _ _ rows => rowsOk rows
  | .storeFence _ _ => true
  | .storeChannelTimeout _ => true
  | .storeZero _ _ => true
  | .storeZeroDone _ => true
  | .digestStart _ _ _ => true
  | .digestDone _ _ => true
  | .stbExtWrite _ _ _ => true
  | .stbEccRead _ => true
  | .colonyLayoutWrite _ _ _ => true
  | .deploy _ _ _ => true
  | .colonyStart _ _ => true
  | .colonyStop _ _ => true
  | .restart _ _ _ => true
  | .colonyRelease _ _ => true
  | .drainComplete _ _ => true
  | .drainTimeout _ _ => true
  | .energyCharge _ _ _ _ => true
  | .colonyBridgesWrite _ _ _ => true
  | .rnkDirWrite _ _ _ => true
  | .rnkDataAccess _ _ => true
  | .sessionCtrlOpen _ _ _ _ => true
  | .sessionCtrlEnd _ _ _ _ => true
  | .openTimeout _ => true
  | .requestRingPoll => true
  | .reqEnd _ => true
  | .reqRetired _ => true
  | .reqSetProfile _ => true
  | .sessionEndTimeout _ _ => true
  | .sessionIdleCheck => true
  | .eventQueuePost _ => true
  | .bankRelease _ _ => true
  | .weightLoad _ _ _ => true
  | .manifestCheck _ _ => true
  | .containerCheck _ _ _ _ => true
  | .shardDigestCheck _ _ _ _ => true
  | .loadComplete _ => true
  | .weightLoadTimeout _ => true
  | .weightActivate _ _ _ => true
  | .weightRecheck _ => true
  | .streamRingPoll _ _ => true
  | .streamRequestDone _ _ _ _ => true
  | .serviceFrameReceive _ _ _ => true
  | .ringDeliveryAck _ _ => true
  | .rtcpReportTimer _ _ _ => true
  | .egressRecord _ k => dataOk k
  | .controlDatagramOpen => true
  | .controlDatagramBind => true
  | .controlDatagramEnd => true
  | .eventAck => true
  | .eventResend _ _ => true
  | .svcMediaMapWrite _ _ _ => true
  | .bladeReversed _ => true
  | .bladeOvercurrent _ => true
  | .efuseReclose _ => true
  | .busUndervolt _ => true
  | .busOvervolt _ => true
  | .bladeAbsent _ => true
  | .halfPowerUp _ _ => true
  | .converterInsert _ _ tele => teleOk 5 tele
  | .converterFault _ => true
  | .converterRemove _ => true
  | .zoneFeedTrip _ => true
  | .phaseFailure _ _ _ _ => true
  | .regulatorLatch _ _ _ => true
  | .droopCatch _ _ => true
  | .domainPowerOn _ _ _ => true
  | .domainPowerOff _ _ _ => true
  | .inrushGrant _ _ => true
  | .domainPowerGood _ => true
  | .domainRampTimeout _ => true
  | .inrushWaitTimeout _ _ => true
  | .vsetWrite _ _ _ => true
  | .siteDuskEntry _ => true
  | .siteDescend _ => true
  | .siteWake _ => true
  | .siteDawn _ => true
  | .frameLimiterTick _ _ _ _ => true
  | .panelLoop _ => true
  | .runDownshift _ _ => true
  | .runUpshift _ _ => true
  | .fmxCapWrite _ _ => true
  | .voltageSettled _ _ => true
  | .clockRelock _ => true
  | .clockGo _ _ => true
  | .sensorConversion _ _ _ => true
  | .throttleStep _ _ => true
  | .frameHeatOff _ _ => true
  | .thermalTrip _ => true
  | .heatFrameReturn _ _ _ => true
  | .powerReport _ => true
  | .refclkLoss _ _ => true
  | .refclkSelectWrite _ _ _ => true
  | .transitInputLoss _ _ => true
  | .clkCombWrite _ _ => true
  | .droopStretch _ _ => true
  | .keeperTimeWrite _ _ _ => true
  | .keeperTimeAlign _ => true
  | .fwlArm _ => true
  | .fwlCheck _ => true
  | .fwlCheckDone _ => true
  | .fwlStart _ _ => true
  | .fwBlock _ p => dataOk p
  | .coldStart _ => true
  | .warmRestart _ _ => true
  | .safeStop _ _ => true
  | .errRecord _ _ _ => true
  | .erqOverflowRecord _ _ => true
  | .errRecordAckTimeout _ => true
  | .errorRecordLog _ _ _ => true
  | .erqOverflowsRead _ => true
  | .guardSwap _ _ => true
  | .guardTestDone _ _ _ _ => true
  | .parkedTest _ _ _ => true
  | .overdueReport _ => true
  | .guardPause _ _ => true
  | .guardResume _ _ => true
  | .keeperHeartbeat _ => true
  | .keeperSilent _ => true
  | .handOver _ _ _ => true
  | .dump _ => true
  | .dumpRelease _ => true
  | .operatorFence _ _ _ => true
  | .fenceRelease _ _ => true
  | .mgmtFrameReceive _ _ => true
  | .canFrameReceive _ _ _ fd data => canOk fd data
  | .canReassemblyTimeout _ _ _ => true
  | .hello _ _ _ => true
  | .sessionOpen _ _ => true
  | .sessionAuth _ _ => true
  | .sessionClose _ => true
  | .provisionalTimeout _ => true
  | .sessionIdleTimeout _ => true
  | .ciardRead _ _ => true
  | .ciardWrite _ _ _ => true
  | .snapshotExpiry _ => true
  | .segmentTimeout _ => true
  | .epochCommit _ _ _ _ _ => true
  | .epochDiscard _ => true
  | .digestCheck _ _ _ => true
  | .imageUpdate _ _ _ _ _ => true
  | .imageSet _ _ _ _ => true
  | .keeperRestart _ _ => true
  | .stewardRoll _ _ _ => true
  | .attestNonce _ _ => true
  | .keySlotWrite _ _ _ _ => true
  | .svnFloorWrite _ _ _ => true
  | .panelResetHold _ => true
  | .refclkReturn _ _ => true
  | .transitInputReturn _ _ => true
  | .bladeReturn _ => true
  | .overvoltRecovery _ => true
  | .converterDegraded _ _ => true
  | .laserWorn _ tele => teleOk 4 tele
  | .characterisationOverdue _ => true
  | .servicePortLinkChange _ _ => true
  | .canBusOffRecovery _ _ => true
  | .counterPublish _ => true

end Sys2Proof
end

