-- ==== Sys2Proof/Tests/Slice0.lean ====
section
/-!
SUPPORT. Tests: ill-formed commands are refused, worker words of the spec decode to their instructions, small steps, and for every
hypothesis of a statement a concrete state that meets it.
-/
namespace Sys2Proof.Tests

open Sys2Proof Sys2Proof.Machine

set_option Elab.async false

/-! ### States to start from -/

/-- Task 0 of cell site 0 of comb 0. -/
def a0 : At := ⟨.cell 0 0, 0⟩
/-- Its cell. -/
def c0 : CellAt := ⟨0, 0⟩
/-- Task 0 of the steward of comb 0. -/
def p0 : At := ⟨.steward 0, 0⟩
/-- A window over all of cell memory with every right (R53). -/
def openWin : W64 := BitVec.ofNat 64 (2 ^ 63 + 7 * 2 ^ 48 + 0x1C00 * 2 ^ 16)
/-- A task that runs at pc 0 with w1 = 64, w2 = 5, w3 = −7. -/
def run0 (t : Task) : Task := (((({ t with st := .active, cwin0 := openWin, cwin1 := openWin }).set 1 64).set 2 5).set 3 (-7))
/-- The panel at reset with the cell in Noon, bound to colony 0 and its task 0 running; the steward's task 0 running too. -/
def live : State :=
  (((State.reset.modPw 0 (fun w => { w with siteState := Tbl.put 5 w.siteState 0 0 })).modCell c0
    (fun c => { c with ready := true, inReset := false, colony := 0 })).modTask a0 run0).modTask p0 run0

/-- The panel after a command that answers a next state; the panel as it was otherwise. -/
def after (c : Instr) (s : State) : State :=
  match exec c s with
  | .next t => t
  | _ => s
/-- A descriptor of task 0 that is queued: ACC_ZERO of tile 0. -/
def q0 : Queued :=
  { task := 0, serial := 0, w0 := BitVec.ofNat 64 (2 ^ 44 + 4), w1 := 0, w2 := 0, w3 := 0, caddr := 0, a := 0, aS := 0, b := 0, bS := 0, d := 0, dS := 0,
    sto := ⟨0, 0, 0⟩, swin := [0, 0, 0, 0] }
/-- The task with the words of an ACC_ZERO in w4–w7. -/
def quad : State := live.modTask a0 (fun t => t.set 4 (BitVec.ofNat 64 (2 ^ 44 + 4)))
/-- The same with the matrix queue full. -/
def full : State := quad.modCell c0 (fun c => { c with mxe := { c.mxe with queue := List.replicate 16 q0 } })
/-- A session of a vendor that is open, and a request of it. -/
def sess : MgmtSession :=
  { id := 7, provisional := false, role := 3, keySet := 2, keySlot := 0, challenge := [], secret := [], key := [], ctrIn := 0, ctrOut := 0, badTags := 0,
    cache := [], snap := none, seg := none, report := [], last := 0 }
def req : Req := { version := 1, session := 7, txn := 1, counter := 1, tagOk := true, path := .eth true }
/-- The panel with both keepers up, PANEL_STATE RUNNING and the session open. -/
def served : State :=
  { ((live.setKeeper .west { live.keeper .west with health := 0 }).setKeeper .east { live.keeper .east with health := 0 }) with
    boot := { live.boot with state := 6 }, mgmt := { live.mgmt with sessions := [sess] } }
/-- The write of an object passes its checks. -/
def grants (s : State) (o : ObjRef) (d : List Byte) : Bool :=
  match (s.admitted req sess).writeCheck 3 7 o d.length with
  | .ok row => !(row.type == 1 && decide (leBytes d > 1))
  | .error _ => false
theorem granted {s : State} {o : ObjRef} {d : List Byte} (h1 : Admitted s req sess) (h2 : grants s o d = true) : Granted s req sess o d := by
  refine ⟨h1, ?_⟩
  unfold grants at h2
  split at h2
  · rename_i row e
    exact ⟨row, e, fun h => by simp_all⟩
  · cases h2
theorem admitted : Admitted served req sess := by unfold Admitted; decide +kernel

/-! ### Ill-formed commands (WellFormed), one for each check -/

/-- A packet whose header says one flit and that carries none. -/
def short : DataPkt := { mkData 0x01 0 0 0 0 0 0 (List.replicate 16 0) with payload := [] }
theorem test_wf_data : Instr.wf (.cellWritePacket (.core a0.core) short) = false ∧ Instr.wf (.cellWritePacket (.core a0.core) { short with payload := List.replicate 16 0 }) = true := by decide +kernel
theorem test_wf_net : Instr.wf (.packetHop 0 0 (.bulk short)) = false := by decide +kernel
theorem test_wf_nbr : Instr.wf (.neighbourLine c0 .n { fromPhys := 0, mover := 0, serial := 0, line := 0, addr := 0, words := List.replicate 63 0 }) = false := by decide +kernel
theorem test_wf_frame : Instr.wf (.linkFrameReceive (.comb 0 1) 0 ⟨0, List.replicate 31 0, 0, false, false⟩) = false := by decide +kernel
theorem test_wf_wag : Instr.wf (.waggleUpToken 0 0 { mkWag 4 false 0 0 0 [5] with len := 3 }) = false ∧ Instr.wf (.waggleUpToken 0 0 (mkWag 4 false 0 0 0 [5])) = true := by decide +kernel
theorem test_wf_link : Instr.wf (.lockLoss (.comb 0 0)) = false ∧ Instr.wf (.lockLoss (.comb 16 0)) = true ∧ Instr.wf (.lockLoss (.comb 15 1)) = false ∧
    Instr.wf (.lockLoss (.comb 208 2)) = false ∧ Instr.wf (.lockLoss (.comb 16 3)) = false := by decide +kernel
theorem test_wf_sel : Instr.wf (.linkRetrain (.one (.comb 0 3)) none) = false ∧ Instr.wf (.linkRetrain (.octet 0) none) = true := by decide +kernel
theorem test_wf_tele : Instr.wf (.laserInsert 0 true [0, 0, 0]) = false ∧ Instr.wf (.converterInsert 0 true [0, 0, 0, 0]) = false := by decide +kernel
theorem test_wf_rows : rowsOk (List.replicate 3073 0) = false ∧ rowsOk (List.replicate 3072 0) = true := by decide +kernel
theorem test_wf_can : Instr.wf (.canFrameReceive .west 0 0 true (List.replicate 9 0)) = false ∧ Instr.wf (.canFrameReceive .west 0 0 true (List.replicate 12 0)) = true ∧
    Instr.wf (.canFrameReceive .west 0 0 false (List.replicate 12 0)) = false := by decide +kernel

/-! ### Worker words (R98–R114, R122, R124): the words of Example 4.1, and others written out from the formats -/

/-- No register is read but by wgo. -/
def x0 : Reg → W64 := fun _ => 0
theorem test_word_example : [0x1C800000#32, 0x1CA00064, 0x38C90000, 0x04843000, 0x09290001, 0x08A5FFFF, 0x30A50000, 0x6C20FFFB, 0x448A0000, 0x84000002].map (decodeWorker x0 a0) =
    [some (.movi a0 ⟨4, 0⟩), some (.movi a0 ⟨5, 100⟩), some (.lw a0 ⟨6, 9, 0⟩), some (.add a0 ⟨4, 4, 6, 0⟩), some (.addi a0 ⟨9, 9, 1⟩), some (.addi a0 ⟨5, 5, 0xFFFF⟩),
     some (.cmpi a0 ⟨1, 1, 5, 0⟩), some (.bp a0 ⟨0, 1, 0, 0xFFFB⟩), some (.sw a0 ⟨4, 10, 0⟩), some (.stop a0 ⟨0, 0, 0⟩)] := by decide +kernel
theorem test_word_nop : decodeWorker x0 a0 0x08000000#32 = some (.addi a0 ⟨0, 0, 0⟩) := by decide +kernel
-- OP, RD 3, RS1 1, RS2 2, FN: sub, sra, mulhu, rem, maxu, and sel of p5
theorem test_word_alu : [0b00000100011000010001000000000001#32, 0b00000100011000010001000000001010, 0b00000100011000010001000000011010, 0b00000100011000010001000000011110,
      0b00000100011000010001000000100011, 0b00000100011000010001010100110000].map (decodeWorker x0 a0) =
    [some (.sub a0 ⟨3, 1, 2, 0⟩), some (.sra a0 ⟨3, 1, 2, 0⟩), some (.mulhu a0 ⟨3, 1, 2, 0⟩), some (.rem a0 ⟨3, 1, 2, 0⟩), some (.maxu a0 ⟨3, 1, 2, 0⟩), some (.sel a0 ⟨3, 1, 2, 5⟩)] := by
  decide +kernel
-- OP 0x0A bfi; OP 0x0B, PD 6 in [23:21], cmp ltu; OP 0x0D, PD 1, PA 2, PB 3, pandn
theorem test_word_bits : [0b00101000011000010000000101000111#32, 0b00101100110000010001000000000011, 0b00110100101001100000000000000011].map (decodeWorker x0 a0) =
    [some (.bfi a0 ⟨3, 1, 0x147⟩), some (.cmp a0 ⟨0, 6, 1, 2, 3⟩), some (.pandn a0 ⟨1, 2, 3, 0⟩)] := by decide +kernel
-- OP 0x12 sd; OP 0x13, W64, amocas; OP 0x14, fence.swarm; OP 0x1B, NEG, PN 7; OP 0x1D jalr
theorem test_word_memory : [0b01001000011000011000000000000000#32, 0b01001100011000010001010000001001, 0b01010000000000000000000000000100, 0b01101100111100000000000000000001,
      0b01110100011000011111111111111111].map (decodeWorker x0 a0) =
    [some (.sd a0 ⟨3, 1, 0x8000⟩), some (.amocas a0 ⟨3, 1, 2, 0x40⟩), some (.fenceSwarm a0 0), some (.bnp a0 ⟨0, 7, 0, 1⟩), some (.jalr a0 ⟨3, 1, 0xFFFF⟩)] := by decide +kernel
-- OP 0x1E tq, w4, mover 1; OP 0x1F twait of unit 7 to 200; OP 0x20 waitw, no timeout; OP 0x21 swtrap 5, wrp; OP 0x24 wgo
theorem test_word_tile : [0b01111000000001000000000000000011#32, 0b01111100000000001100100000001111, 0b10000000011000010001000000011111, 0b10000100000000000000010100000110,
      0b10000100000000010000000000000101, 0b10010000011000010001000000000000].map (decodeWorker x0 a0) =
    [some (.tq a0 ⟨0, 4, 0, 3⟩), some (.twait a0 ⟨0, 0, 200, 0, 7⟩), some (.waitw a0 ⟨3, 1, 2, 31⟩), some (.swtrap a0 ⟨0, 0, 5⟩), some (.wrp a0 ⟨0, 1, 0⟩),
     some (.wgoBarrier a0 ⟨3, 1, 2, 0⟩)] := by decide +kernel
-- the same wgo where w1 holds OP 4
theorem test_word_wgo : decodeWorker (fun r => if r = 1 then 0x10000000 else 0) a0 0b10010000011000010001000000000000#32 = some (.wgoAdd a0 ⟨3, 1, 2, 0⟩) := by decide +kernel
-- OP 0x30 cread to p2; OP 0x33 crecv w6; OP 0x34 prd 0x00B; OP 0x36 tret
theorem test_word_privileged : [0b11000000011000010001000000000010#32, 0b11001100110000000000000000000000, 0b11010000011000000000000000001011, 0b11011000000000000000000000000000].map
      (decodeWorker x0 p0) =
    [some (.cread p0 ⟨3, 1, 2, 2⟩), some (.crecv p0 ⟨6, 0, 0, 0⟩), some (.prd p0 ⟨3, 0, 0x00B⟩), some (.tret p0 0)] := by decide +kernel
-- reserved opcodes, an undefined ALU operation, predicate operation 7, fence scope 5
theorem test_word_illegal : [0x00000000#32, 0xFC000000, 0x94000000, 0xDC000000, 0x04000006, 0x34000007, 0x50000005].map (decodeWorker x0 a0) = List.replicate 7 none := by decide +kernel

/-! ### Small steps -/

/-- Register w3 after a command; registers w1 and w2 given before it. -/
def w3After (c : Instr) (v1 v2 : W64) : W64 := ((after c (live.modTask a0 (fun t => (t.set 1 v1).set 2 v2))).task a0).x 3
theorem test_add_wraps : w3After (.add a0 ⟨3, 1, 2, 0⟩) 0xFFFFFFFFFFFFFFFF 2 = 1 := by decide +kernel
theorem test_sub_order : w3After (.sub a0 ⟨3, 1, 2, 0⟩) 5 7 = 0xFFFFFFFFFFFFFFFE := by decide +kernel
theorem test_andn : w3After (.andn a0 ⟨3, 1, 2, 0⟩) 0xFF 0x0F = 0xF0 := by decide +kernel
theorem test_sra_low_six_bits : w3After (.sra a0 ⟨3, 1, 2, 0⟩) 0x8000000000000000 0x7F = 0xFFFFFFFFFFFFFFFF := by decide +kernel
theorem test_addw_sign : w3After (.addw a0 ⟨3, 1, 2, 0⟩) 0x7FFFFFFF 1 = 0xFFFFFFFF80000000 := by decide +kernel
theorem test_min_signed : w3After (.min a0 ⟨3, 1, 2, 0⟩) 0xFFFFFFFFFFFFFFFF 1 = 0xFFFFFFFFFFFFFFFF ∧ w3After (.minu a0 ⟨3, 1, 2, 0⟩) 0xFFFFFFFFFFFFFFFF 1 = 1 := by decide +kernel
theorem test_clz_zero : w3After (.clz a0 ⟨3, 1, 0, 0⟩) 0 0 = 64 ∧ w3After (.ctz a0 ⟨3, 1, 0, 0⟩) 8 0 = 3 := by decide +kernel
theorem test_movi_sign : w3After (.movi a0 ⟨3, 0x100000⟩) 0 0 = 0xFFFFFFFFFFF00000 := by decide +kernel
theorem test_shori : w3After (.shori a0 ⟨3, 1, 0x8001⟩) 1 0 = 0x18001 := by decide +kernel
theorem test_bfx_signed : w3After (.bfx a0 ⟨3, 1, 0x8103⟩) 0xA0 0 = 0xFFFFFFFFFFFFFFFA := by decide +kernel
theorem test_zero_register : ((after (.movi a0 ⟨0, 5⟩) live).task a0).x 0 = 0 := by decide +kernel
theorem test_jal_links : let t := (after (.jal a0 ⟨3, 0x1FFFFF⟩) live).task a0; t.x 3 = 1 ∧ t.pc = 0xFFFFF := by decide +kernel
theorem test_jalr_same_register : let t := (after (.jalr a0 ⟨1, 1, 4⟩) live).task a0; t.x 1 = 1 ∧ t.pc = 68 := by decide +kernel
theorem test_beq_back : ((after (.beq a0 ⟨0, 0, 0xFFFF⟩) live).task a0).pc = 0xFFFFF := by decide +kernel
theorem test_stop : let t := (after (.stop a0 ⟨0, 0, 0⟩) live).task a0; t.pc = 1 ∧ t.st ≠ .active := by decide +kernel
theorem test_swtrap : let t := (after (.swtrap a0 ⟨0, 0, 5⟩) live).task a0; t.st = .trapped ∧ t.trapCause = 0x85 := by decide +kernel
theorem test_sw_little_word : ((after (.sw a0 ⟨3, 1, 0⟩) live).ram a0.core).word 64 = 0xFFFFFFF9 := by decide +kernel
theorem test_swtrap_privileged : let t := (after (.swtrap p0 ⟨0, 0, 5⟩) live).task p0; t.st = .active ∧ bit t.prv.tstatus 0 = true ∧ t.prv.tcause = 0x85 := by decide +kernel

/-! ### States that meet the hypotheses of the statements: the worker -/

theorem witness_AluGroup : Ready live a0 [1, 2] ∧ (⟨4, 1, 2, 0⟩ : OpRR).fh = 0 := by unfold Ready; decide
theorem witness_AluGroup_unary : Ready live a0 [1, 0] ∧ (⟨4, 1, 0, 0⟩ : OpRR).rs2 = 0 := by unfold Ready; decide
/-- A multiply whose result is on its way. -/
def mulled : State := after (.mul a0 ⟨4, 1, 2, 0⟩) live
theorem witness_Multiply : Ready live a0 [1, 2] ∧ (mulled.task a0).pend.find? (fun e => e.1 = 4) = some (4, 320) := by unfold Ready; decide
theorem witness_Immediate : Ready live a0 [1] ∧ fld (0x4005#16) 13 6 = 0 ∧ fld (0x4005#16) 15 14 ≠ 3 ∧ fld (0x0FFF#16) 14 12 = 0 ∧
    fld (0x003F#16) 11 6 + (fld (0x003F#16) 5 0 + 1) ≤ 64 := by unfold Ready; decide
theorem witness_Immediate_bfi : Ready live a0 [4, 1] ∧ fld (0x0FC0#16) 15 12 = 0 ∧ fld (0x0FC0#16) 11 6 + (fld (0x0FC0#16) 5 0 + 1) ≤ 64 := by
  unfold Ready; decide
theorem witness_Immediate_movi : Ready live a0 [] := by unfold Ready; decide
theorem witness_Compares : Ready live a0 [1, 2] ∧ fld (5#11) 10 3 = 0 ∧ fld (5#11) 2 0 < 6 := by unfold Ready; decide
theorem witness_Compares_plog : Ready live a0 [] ∧ (⟨1, 0, 0, 0⟩ : OpPL).z = 0 := by unfold Ready; decide
theorem witness_Loads : Ready live a0 [1] ∧ live.dataCheck a0 ((live.task a0).x 1 + (0#16).signExtend 64) 1 rightR = .ok 64 ∧
    live.dataCheck a0 ((live.task a0).x 1 + (0#16).signExtend 64) 2 rightR = .ok 64 ∧
    (live.ram a0.core).firstUe 64 1 = none ∧ (live.ram a0.core).firstUe 64 2 = none :=
  ⟨by unfold Ready; decide, rfl, rfl, by decide, by decide⟩
/-- A load whose data are on their way. -/
def loaded : State := after (.lw a0 ⟨4, 1, 0⟩) live
theorem witness_Loads_return : (loaded.task a0).load = some (4, 0) ∧ (loaded.task a0).stopReq = false := by decide
theorem witness_Stores : Ready live a0 [1, 2] ∧ live.dataCheck a0 ((live.task a0).x 1 + (2#16).signExtend 64) 1 rightW = .ok 66 ∧
    live.dataCheck a0 ((live.task a0).x 1 + (2#16).signExtend 64) 2 rightW = .ok 66 := ⟨by unfold Ready; decide, rfl, rfl⟩
theorem witness_Atomics : fld (0x50#7) 3 0 = 0 ∧ live.outstanding a0 = 0 ∧ live.dataCheck a0 ((live.task a0).x 1) 2 rightRW = .ok 64 ∧
    (live.ram a0.core).firstUe 64 2 = none ∧ Ready live a0 [1, 2] ∧ Ready live a0 [1, 2, 4] :=
  ⟨by decide, by decide, rfl, by decide, by unfold Ready; decide, by unfold Ready; decide⟩
theorem witness_Fences : Ready live a0 [] ∧ live.fenceMet a0 0 = true := by unfold Ready; decide
theorem witness_Fences_end : let s := live.modTask a0 (fun t => { t with st := .waiting, wait := .fence 1 })
    (s.task a0).wait = .fence 1 ∧ (s.task a0).st = .waiting ∧ s.coreRuns a0.core = true ∧ s.fenceMet a0 1 = true := by decide
theorem witness_Branches : Ready live a0 [1, 2] ∧ Ready live a0 [] ∧ Ready live a0 [1] ∧ (⟨0, 7, 0, 0xFFFF⟩ : OpBP).z = 0 := by unfold Ready; decide
theorem witness_Branches_wrap : (0xFFFFF#24).toNat < 2 ^ 20 ∧ (relPc (.cell 0 0) 0#24 0xFFFF#16).toNat = 0xFFFFF := by decide

/-! ### Tasks -/

/-- A queued descriptor of task 0. -/
theorem witness_Tile : Ready quad a0 [4, 5, 6, 7] ∧ (4 : Reg).toNat % 4 = 0 ∧ (quad.issued a0).queueFull a0.core 0 = false ∧
    fld (0#11) 10 3 = 0 ∧ fld (0#11) 2 0 < 5 := by unfold Ready; decide
theorem witness_Tile_full : Ready full a0 [4, 5, 6, 7] ∧ (full.issued a0).queueFull a0.core 0 = true := by unfold Ready; decide
theorem witness_Tile_translate : ∃ q, (quad.issued a0).translate a0 0 (((quad.issued a0).task a0).descriptor a0.task ((quad.issued a0).core a0.core).serial 4) = .ok q :=
  ⟨_, rfl⟩
theorem witness_Tile_room : let s := quad.modTask a0 (fun t => { t with st := .waiting, wait := .tq 4 0 })
    (s.task a0).wait = .tq 4 0 ∧ (s.task a0).st = .waiting ∧ s.coreRuns a0.core = true ∧ s.queueFull a0.core 0 = false := by decide
theorem witness_Tile_counts : Ready live a0 [] ∧ (⟨4, 0, 0, 0, 7⟩ : OpCnt).unit ≠ 5 ∧ (⟨4, 0, 0, 0, 7⟩ : OpCnt).unit ≠ 6 ∧ (⟨4, 0, 0, 0, 7⟩ : OpCnt).fh = 0 ∧
    (⟨4, 0, 0, 0, 7⟩ : OpCnt).imm = 0 := by unfold Ready; decide
theorem witness_Waitw : Ready live a0 [1, 2] ∧ fld (31#11) 10 5 = 0 ∧ live.dataCheck a0 ((live.task a0).x 1) 1 rightR = .ok 64 ∧
    (live.ram a0.core).firstUe 64 1 = none := ⟨by unfold Ready; decide, by decide, rfl, by decide⟩
theorem witness_Waitw_timeout : let s := live.modTask a0 (fun t => { t with st := .waiting, wait := .waitw 4 64 0 true })
    (s.task a0).wait = .waitw 4 64 0 true ∧ (s.task a0).st = .waiting ∧ s.coreRuns a0.core = true := by decide
theorem witness_Yield : let s := after (.yield a0 ⟨0, 0, 0⟩) live
    (s.task a0).wait = .yield ∧ (s.task a0).st = .waiting ∧ s.coreRuns a0.core = true := by decide
theorem witness_Stop : Ready live a0 [] ∧ Ready live a0 [4] := by unfold Ready; decide
theorem witness_Swtrap : Ready live a0 [] ∧ isCell a0.core = true ∧ Ready live p0 [] ∧ isCell p0.core = false ∧ bit (live.task p0).prv.tstatus 0 = false ∧
    (127 : Byte).toNat < 128 := by unfold Ready; decide
theorem witness_Compares_illegal : (6 : Nat) ≤ fld (6#11) 2 0 ∧ fld (8#11) 10 3 ≠ 0 ∧ (⟨1, 0, 0, 1⟩ : OpPL).z ≠ 0 ∧ (⟨1, 0, 1, 0⟩ : OpPL).pb ≠ 0 ∧ fld (0x34000007#32) 31 26 = 0x0D ∧
    fld (0x34000007#32) 2 0 = 7 := by decide
theorem witness_Swtrap_privileged : isCell p0.core = false ∧ bit (live.task p0).prv.tstatus 0 = false := by decide +kernel
theorem witness_Immediate_illegal : fld (0x40#16) 13 6 ≠ 0 ∧ fld (0xC000#16) 15 14 = 3 ∧ fld (0x1000#16) 14 12 ≠ 0 ∧ 64 < fld (0xFC1#16) 11 6 + (fld (0xFC1#16) 5 0 + 1) ∧ fld (0x8000#16) 15 12 ≠ 0 ∧
    Ready live a0 [1, 1] := by unfold Ready; decide
theorem witness_Illegal_stopped : State.reset.canIssue a0 [1, 2] = false := by decide
theorem witness_Illegal_fetch : let s := live.modTask a0 (fun t => { t with cwin0 := 0 })
    s.canIssue a0 [1, 2] = true ∧ (s.fetch a0).1 = some 0x03 := by decide
theorem witness_Illegal_field : Ready live a0 [1, 2] ∧ (⟨4, 1, 2, 7⟩ : OpRR).fh ≠ 0 ∧ (⟨4, 1, 0⟩ : OpMS).rs1 ≠ 0 ∧ (⟨1, 0, 0, 1⟩ : OpPL).z ≠ 0 := by unfold Ready; decide
theorem witness_Registers : Ready live a0 [] ∧ Ready live a0 [2] ∧ (1 : TaskId) ≠ a0.task ∧ (0x1200#16).toNat / 8 * 8 = 0x1000 + 0x200 * 1 ∧
    (0x1210#16).toNat / 8 * 8 = 0x1000 + 0x200 * 1 + 0x10 ∧ (live.task ⟨a0.core, 1⟩).st = .stopped := by unfold Ready; decide
theorem witness_Privileged : isCell p0.core = false ∧ fld (3#11) 10 3 = 0 ∧ Ready live p0 [1, 2] ∧ Ready live p0 [4, 1, 2] ∧ Ready live p0 [] := by unfold Ready; decide
theorem witness_Privileged_csend : let s := live.modTask p0 (fun t => t.set 1 0x7F00B900)
    Ready s p0 [1, 2] ∧ fld ((s.task p0).x 1) 63 32 = 0 ∧ 0x40 ≤ fld ((s.task p0).x 1) 31 24 ∧ fld ((s.task p0).x 1) 31 24 < 0x80 := by unfold Ready; decide
theorem witness_Privileged_crecv : (4 : Reg) ≠ 0 ∧ bit (4 : Reg) 0 = false ∧ (live.core p0.core).rx = [] ∧
    ((live.modCore p0.core (fun c => { c with rx := [mkCtl 0x40 0 0 9] })).core p0.core).rx = mkCtl 0x40 0 0 9 :: [] := ⟨by decide, by decide, by decide, rfl⟩
theorem witness_Privileged_timeout : let s := live.modTask p0 (fun t => { t with st := .waiting, wait := .cread 4 3 })
    let u := live.modTask p0 (fun t => { t with st := .waiting, wait := .cwrite 3 })
    (s.task p0).st = .waiting ∧ (s.task p0).wait = .cread 4 3 ∧ (u.task p0).wait = .cwrite 3 := by decide
theorem witness_PrivilegedRegisters : isCell p0.core = false ∧ fld (5#16) 15 12 = 0 ∧ Ready live p0 [] ∧ Ready live p0 [1] ∧ fld (5#16) 11 0 < 0x800 ∧
    fld (5#16) 11 0 ≠ 6 ∧ fld (5#16) 11 0 ≠ 9 ∧ 0x800 ≤ fld (0x800#16) 11 0 := by unfold Ready; decide
theorem witness_Interrupt : let s := live.modCore p0.core (fun c => { c with ie := 4, tcmp := 0 })
    let u := s.modTask p0 (fun t => { t with prv := { t.prv with tstatus := 2 } })
    isCell p0.core = false ∧ (u.passTime p0.core).intReady p0.core = true := by decide
theorem witness_CellPrivileged : isCell a0.core = true ∧ Ready live a0 [] := by unfold Ready; decide
theorem witness_TaskControl : (live.task ⟨a0.core, 1⟩).st = .stopped ∧ (live.task a0).st = .active ∧ (live.task a0).load = none ∧ live.outstanding a0 = 0 ∧
    (loaded.task a0).st = .active ∧ (loaded.task a0).load ≠ none := by decide
theorem witness_ClearTrap : let s := live.modTask a0 (fun t => { t with st := .trapped })
    (s.task a0).st = .trapped ∧ s.outstanding a0 = 0 := by decide
theorem witness_CellControl : (live.comb c0.site).siteSt c0.phys = 0 ∧ (live.cell c0).clk.changing = false ∧ (live.cell c0).inReset = false ∧
    (live.cell c0).quiesced = false ∧ ((live.modCell c0 (fun c => { c with quiesced := true })).cell c0).quiesced = true := by decide
theorem witness_RegisterCommands : let s := live.modTask a0 (fun t => { t with st := .stopped })
    (s.cell c0).inReset = false ∧ (63 : Byte).toNat < 64 ∧ (s.cell c0).stopped = true ∧ (s.cell c0).acc.firstUe (2 * (s.cell c0).accPair.toNat) 2 = none ∧
    (s.comb c0.site).siteSt c0.phys = 0 := by decide
theorem witness_RegisterWrite : live.regOpen (.core p0.core) true (off8 0x1010) 0 = true ∧ (live.task ⟨p0.core, 1⟩).st = .stopped ∧ isCell p0.core = false := by decide

/-! ### Engines, samplers, movers, packets, routers -/

/-- A descriptor of an opcode with nothing else set. -/
def qOp (op : Nat) : Queued := { q0 with w0 := BitVec.ofNat 64 op }
/-- The cell with a descriptor at the head of both engines. -/
def engines (q : Queued) : State := live.modCell c0 (fun c => { c with mxe := { c.mxe with queue := [q] }, vxe := { c.vxe with queue := [q] } })
theorem witness_TileCommands : ∀ n ∈ [1, 2, 3, 4, 5, 6], (engines (qOp n)).engHead c0 .mxe = some (qOp n) ∧ (qOp n).opcode = n := by decide +kernel
theorem witness_TileCommands_vector : ∀ n ∈ [0x40, 0x41, 0x42, 0x43, 0x44, 0x45], (engines (qOp n)).engHead c0 .vxe = some (qOp n) ∧ (qOp n).opcode = n := by decide +kernel
/-- A descriptor of an opcode whose word 3 has a bit set that must be zero. -/
def qBad (op : Nat) : Queued := { qOp op with w3 := 1 <<< 63 }
theorem witness_TileCommands_bad : (mmaCheck (qBad 1)).isSome ∧ (accLoadCheck (qBad 2)).isSome ∧ (accStoreCheck (qBad 3)).isSome ∧ (accZeroCheck (qBad 4)).isSome ∧
    (accScaleCheck (qBad 5)).isSome ∧ (packCheck (qBad 6)).isSome ∧ (vbinCheck (qBad 0x40)).isSome ∧ (vunCheck (qBad 0x41)).isSome ∧ (vredCheck (qBad 0x42)).isSome ∧
    (vnormCheck (qBad 0x43)).isSome ∧ (vropeCheck (qBad 0x44)).isSome ∧ (vsmxuCheck (qBad 0x45)).isSome := by decide +kernel
/-- An engine with a running command. -/
def busy : State := live.modCell c0 (fun c => { c with mxe := { c.mxe with running := some ⟨q0, 0, 0, 0⟩ } })
theorem witness_Engines_complete : ((busy.cell c0).eng .mxe).running = some ⟨q0, 0, 0, 0⟩ ∧ ((busy.cell c0).eng .mxe).parked = false ∧
    busy.coreRuns (.cell 0 0) = true := by decide +kernel
theorem witness_Engines_undefined : let q := qOp 0x3F; let s := engines q; let t := live.modCore a0.core (fun c => { c with mov0 := { c.mov0 with queue := [qOp 0x9F] } })
    s.coreRuns (.cell 0 0) = true ∧ ((s.cell c0).eng .mxe).running = none ∧ ((s.cell c0).eng .mxe).queue = q :: [] ∧ ((s.cell c0).eng .mxe).parked = false ∧
      opcodeDefined 0 q.opcode = false ∧ s.mayStart (.cell 0 0) 0 q = true ∧
      (t.core a0.core).mov0.queue = qOp 0x9F :: [] ∧ (t.core a0.core).mov0.started = [] ∧ (t.core a0.core).mov0.parked = false ∧
      opcodeDefined 2 (qOp 0x9F).opcode = false ∧ t.mayStart (.cell 0 0) 2 (qOp 0x9F) = true := by decide +kernel
theorem witness_Engines_accZero : (engines q0).engHead c0 .mxe = some q0 ∧ q0.opcode = 4 ∧ accZeroCheck q0 = none := by decide +kernel

/-- Sampler 0 of comb 0. -/
def s0 : SmpAt := ⟨0, 0⟩
/-- A SELECT of context 0 and one token at line 0, as a queued descriptor. -/
def qSel : Queued := { qOp 0xA0 with w0 := BitVec.ofNat 64 0xA0 }
theorem witness_Sampler_start : let s := live.modCell c0 (fun c => { c with smpQ := [qSel] })
    (s.cell c0).smpQ = qSel :: [] ∧ opcodeDefined 4 qSel.opcode = true ∧ s.mayStart (.cell 0 0) 4 qSel = true ∧ s.coreRuns (.cell 0 0) = true ∧ smpCheck qSel = none := by decide +kernel
/-- The SMP_CMD packet of a descriptor, from the cell. -/
def cmdPkt (op : Nat) : DataPkt := mkData 0x10 (live.eid 0 0xBA) (live.eidOf a0.core) 0 0 0 1 [BitVec.ofNat 32 op, 0, 0, 0, 0, 0, 0, 0]
/-- The samplers of comb 0 ready, sampler 0 with context 0 configured. -/
def sampling : State := live.modSmp s0 (fun x => { x with ready := true, stopped := false }.modCtx 0 (fun k => { k with mode := 1 <<< 63 }))
theorem witness_Sampler_part : ∀ op ∈ [0xA0, 0xA1], (cmdPkt op).dst = sampling.eid 0 0xBA ∧ (cmdPkt op).type = 0x10 ∧ (sampling.smp s0).ready = true ∧
    fld (plW64 (cmdPkt op) 0) 53 46 = 0 ∧ (sampling.smp s0).open_ = [] ∧ (sampling.smp s0).stopped = false ∧
    bit ((sampling.smp s0).ctx 0).mode 63 = true ∧ fld (plW64 (cmdPkt op) 0) 7 0 = op := by decide +kernel
theorem witness_Sampler_admit : admitData (sampling.epochOf 0 0xBA) (cmdPkt 0xA0) = .ok ∧ admitData (sampling.epochOf 0 0xBA) (cmdPkt 0xA1) = .ok := by decide +kernel
theorem witness_Sampler_stopped : ((sampling.modSmp s0 (fun x => { x with stopped := true })).smp s0).stopped = true := by decide +kernel
/-- A sampler command of the cell that is out, and the packets that answer it. -/
def outCmd : State := live.modCell c0 (fun c => { c with smpOut := [⟨qSel, 1, none⟩] })
def fetchPkt : DataPkt := mkData 0x11 (live.eidOf a0.core) (live.eid 0 0xBA) 0 0 0 1 [0, 1]
def resultPkt : DataPkt := mkData 0x13 (live.eidOf a0.core) (live.eid 0 0xBA) 0 0 0 1 [7, 0, 0]
theorem witness_Selections_fetch : (fetchPkt.dst = outCmd.eid 0 0 ∧ (outCmd.comb 0).logicalOf 0 = 0 ∧ outCmd.cellOff c0 = false ∧ outCmd.cellAsleep c0 = false) ∧
    outCmd.cellHolds c0 = false ∧ (outCmd.cell c0).smpOut.find? (fun o => o.tag = 1 && o.done.isNone) = some ⟨qSel, 1, none⟩ ∧ fetchPkt.type = 0x11 ∧ fetchPkt.tag = 1 ∧
    (plWord fetchPkt 0).toNat + fld (plWord fetchPkt 1) 15 0 ≤ qSel.sLines ∧ (outCmd.cell c0).cmem.firstUe qSel.a 64 = none ∧
    resultPkt.dst = fetchPkt.dst ∧ resultPkt.type = 0x13 ∧ resultPkt.tag = 1 ∧ fld (plWord resultPkt 2) 7 0 = 0 := by decide +kernel
theorem witness_Selections_admit : admitData (outCmd.epochOf 0 0) fetchPkt = .ok ∧ admitData (outCmd.epochOf 0 0) resultPkt = .ok := by decide +kernel
def dataPkt : DataPkt := mkData 0x12 (live.eid 0 0xBA) (live.eidOf a0.core) 0 0 0 1 (List.replicate 64 0)
theorem witness_Selections_data : dataPkt.dst = sampling.eid 0 0xBA ∧ admitData (sampling.epochOf 0 0xBA) dataPkt = .ok ∧ dataPkt.type = 0x12 := by decide +kernel
/-- A part of a selection, whole, and one of two. -/
def part1 : SmpPart :=
  { src := 0, tag := 1, score := false, part := 0, parts := 1, tbase := 0, count := 1, fmt := 0, line := 0, word3 := 0, lines := [(0, List.replicate 64 0)] }
theorem witness_Selections_complete : let y : Selection := ⟨0, 0, [part1]⟩; let s := sampling.modSmp s0 (fun x => { x with open_ := [y] })
    (s.smp s0).open_.find? (fun y => decide (y.ctx = 0)) = some y ∧ y.complete = true ∧ (s.smp s0).ready = true := by decide +kernel
theorem witness_Selections_missing : let y : Selection := ⟨0, 0, [{ part1 with parts := 2 }]⟩; let s := sampling.modSmp s0 (fun x => { x with open_ := [y] })
    (s.smp s0).open_.find? (fun z => decide (z.ctx = 0 ∧ z.serial = y.serial)) = some y ∧ y.parts.length < ((y.parts.map (·.parts)).headD 0) := by decide +kernel
theorem witness_SamplerRegisters : (sampling.smp s0).ready = true ∧ (sampling.smp s0).open_ = [] ∧ (sampling.smp s0).stopped = false ∧ grmLegal 0 = true ∧
    (sampling.smp s0).grammarRuns 15 = false ∧ (sampling.smp s0).gWordRuns (sampling.smp s0).gIndex.toNat = false ∧
    (sampling.smp s0).ctxStopped ((sampling.smp s0).hIndex.toNat / 1024) = true := by decide +kernel
theorem witness_SamplerRegisters_cfg : (sampling.smp s0).cfgLegal 3 0 = true ∧ (3 : Fin 4) ≠ 0 := by decide +kernel

/-- Mover 0 of the cell. -/
def m0 : MovAt := ⟨.cell 0 0, 0⟩
/-- A COPY of one line from 0 to 64. -/
def qCopy : Queued := { qOp 0x80 with b := 64 }
/-- The cell with descriptors queued at mover 0, and with started ones. -/
def moving (qs : List Queued) (ds : List Started) : State := live.modCore a0.core (fun c => { c with mov0 := { c.mov0 with queue := qs, started := ds } })
theorem witness_Movers_start : let s := moving [qCopy] []
    (s.mov m0).queue = qCopy :: [] ∧ s.movReady m0 qCopy = true ∧ firstBad (moverChecks (isCell m0.core) qCopy) = none ∧ qCopy.opcode ≠ 0x87 ∧ qCopy.opcode ≠ 0x88 := by decide +kernel
theorem witness_Movers_bad : let q := qBad 0x80; let s := moving [q] []
    (s.mov m0).queue = q :: [] ∧ s.movReady m0 q = true ∧ (firstBad (moverChecks (isCell m0.core) q)).isSome = true := by decide +kernel
theorem witness_Movers_complete : let d : Started := { Started.new qCopy with ran := true }; let s := moving [] [d]
    (s.mov m0).started = d :: [] ∧ d.ran = true ∧ d.expect = [] ∧ (s.mov m0).parked = false ∧ s.coreRuns m0.core = true := by decide +kernel
theorem witness_Movers_timeout : let d : Started := { Started.new qCopy with ran := true, expect := [⟨5, .ack⟩] }; let s := moving [] [d]
    s.coreRuns m0.core = true ∧ (s.core m0.core).expecting (fun _ e => e.has 5) = some (m0.mov, d, ⟨5, .ack⟩) := by decide +kernel
theorem witness_MoverOpcodes : ∀ op ∈ [0x80, 0x81, 0x82, 0x83, 0x84, 0x85, 0x86, 0x87, 0x88, 0x89, 0x8A], let d := Started.new (qOp op); let s := moving [] [d]
    (s.mov m0).parked = false ∧ s.coreRuns m0.core = true ∧ (s.mov m0).cur = some d ∧ d.q.opcode = op ∧ (s.ram m0.core).firstUe d.q.a (64 * d.q.lines) = none := by decide +kernel
theorem witness_MoverOpcodes_target : let m : MovAt := ⟨.steward 0, 0⟩; let d := Started.new (qOp 0x86)
    let s := live.modCore m.core (fun c => { c with mov0 := { c.mov0 with started := [d] } })
    (s.mov m).parked = false ∧ s.coreRuns m.core = true ∧ (s.mov m).cur = some d ∧ (s.remTarget m.core d.q.w2).isSome = true := by decide +kernel
theorem witness_MoverOpcodes_neighbour : live.neighbour c0 .s = some ⟨0, 12⟩ ∧
    ((live.modCell ⟨0, 12⟩ (fun c => { c with inReset := false })).cell ⟨0, 12⟩).inReset = false := by decide +kernel
theorem witness_MoverOpcodes_none : live.neighbour c0 .n = none := by decide +kernel

/-- The cell with a receive window over all its memory, and packets of its own colony. -/
def open0 : State := live.modCell c0 (fun c => { c with rwin0 := openWin })
def inPkt (type : Nat) (n : Nat) : DataPkt := mkData type (live.eidOf a0.core) (live.eidOf a0.core) 0 0 0 1 (List.replicate n 0)
theorem witness_Inbound : ∀ t ∈ [(0x01, 64), (0x02, 3), (0x03, 1), (0x05, 5)], let p := inPkt t.1 t.2
    p.dst = open0.eid 0 0 ∧ open0.cellOff c0 = false ∧ open0.cellAsleep c0 = false ∧ open0.cellHolds c0 = false ∧ p.type = BitVec.ofNat 6 t.1 ∧
    fld (plWord p 4) 3 0 ≤ 9 ∧ (open0.ram a0.core).firstUe 0 64 = none := by decide +kernel
theorem witness_Inbound_admit : admitData (open0.epochOf 0 0) (inPkt 0x01 64) = .ok ∧ admitData (open0.epochOf 0 0) (inPkt 0x02 3) = .ok ∧
    admitData (open0.epochOf 0 0) (inPkt 0x03 1) = .ok ∧ admitData (open0.epochOf 0 0) (inPkt 0x05 5) = .ok := by decide +kernel
theorem witness_Inbound_window : open0.rxCheck c0 (inPkt 0x01 64) 64 rightW true = .ok 0 ∧ open0.rxCheck c0 (inPkt 0x02 3) 1 rightW false = .ok 0 ∧
    open0.rxCheck c0 (inPkt 0x03 1) 64 rightR true = .ok 0 ∧ open0.rxCheck c0 (inPkt 0x05 5) 1 rightRW false = .ok 0 ∧
    live.rxCheck c0 (inPkt 0x01 64) 64 rightW true = .refuse nkOutside true := by decide +kernel
theorem witness_Lines : live.cellOff c0 = false ∧ live.cellAsleep c0 = false ∧ (live.cell c0).quiesced = false ∧ (live.cell c0).quiescing = false ∧
    ((live.modCell c0 (fun c => { c with quiesced := true })).cell c0).quiesced = true := by decide +kernel
/-- A started descriptor that expects an answer under TAG 1. -/
def expects (x : Answer) : State := moving [] [{ Started.new qCopy with ran := true, expect := [⟨1, x⟩] }]
def dExp (x : Answer) : Started := { Started.new qCopy with ran := true, expect := [⟨1, x⟩] }
theorem witness_Answers : ((expects (.lines 0 1)).core a0.core).expecting (fun _ e => e.has 1) = some (0, dExp (.lines 0 1), ⟨1, .lines 0 1⟩) ∧
    ((expects .old).core a0.core).expecting (fun _ e => e.has 1 && decide (e.answer = .old)) = some (0, dExp .old, ⟨1, .old⟩) ∧
    (inPkt 0x04 64).type = 0x04 ∧ (inPkt 0x06 4).type = 0x06 ∧ (inPkt 0x04 64).dst = (expects .old).eid 0 0 ∧ (expects .old).cellOff c0 = false ∧
    (expects .old).cellAsleep c0 = false ∧ (inPkt 0x04 64).tag = 1 := by decide +kernel
theorem witness_Answers_admit : admitData ((expects .old).epochOf 0 0) (inPkt 0x04 64) = .ok ∧ admitData ((expects .old).epochOf 0 0) (inPkt 0x06 4) = .ok := by decide +kernel
def ctlPkt (cls : Nat) (v : W64) : CtlPkt := mkCtl cls (live.eidOf a0.core) (live.eidOf p0.core) v
theorem witness_Answers_ctl : ∀ x ∈ [(0x04, 1), (0x05, 2 ^ 32 + 0x11)], let p := ctlPkt x.1 (BitVec.ofNat 64 x.2)
    p.dst = (expects .ack).eidOf a0.core ∧ p.crc = ctlCrc6 p ∧ p.gen = 0 ∧ ((expects .ack).comb 0).logicalOf 0 ≠ 0xFF ∧ (expects .ack).cellOff c0 = false ∧
    (expects .ack).cellAsleep c0 = false ∧ p.cls = BitVec.ofNat 8 x.1 ∧ bit p.payload 16 = false := by decide +kernel
theorem witness_Answers_ack : ((expects .ack).core a0.core).expecting (fun _ e => e.has 1 && decide (e.answer = .ack)) = some (0, dExp .ack, ⟨1, .ack⟩) := by decide +kernel

theorem witness_Control_read : let p := ctlPkt 0x01 0x1010
    live.regPlace (.core a0.core) p.dst = some (0, 0) ∧ p.crc = ctlCrc6 p ∧ p.gen = 0 ∧ p.cls = 0x01 ∧
    live.regSource (.core a0.core) p.src = true ∧ live.regOpen (.core a0.core) false 0x1010 0 = true := by decide +kernel
theorem witness_Control_refused : let p := mkCtl 0x01 (live.eidOf a0.core) (live.eidOf a0.core) 0
    live.regPlace (.core a0.core) p.dst = some (0, 0) ∧ live.regSource (.core a0.core) p.src = false := by decide +kernel
theorem witness_Control_write : let p := ctlPkt 0x02 0x1010; let b := ctlPkt 0x03 9
    live.regPlace (.core a0.core) p.dst = some (0, 0) ∧ p.cls = 0x02 ∧ b.cls = 0x03 ∧ b.dst = p.dst ∧ b.crc = ctlCrc6 b ∧ live.regSource (.core a0.core) p.src = true ∧
    live.regOpen (.core a0.core) true 0x1010 9 = true := by decide +kernel
theorem witness_Control_response : let s := live.modTask p0 (fun t => { t with st := .waiting, wait := .cread 4 3 })
    let u := live.modTask p0 (fun t => { t with st := .waiting, wait := .cwrite 3 })
    let p := mkCtl 0x08 (live.eidOf p0.core) 0 5; let q := mkCtl 0x10 (live.eidOf p0.core) 0 0
    (s.task p0).st = .waiting ∧ p.cls.toNat = 0x08 + p0.task.val ∧ (s.task p0).wait = .cread 4 3 ∧ q.cls.toNat = 0x10 + p0.task.val ∧ (u.task p0).wait = .cwrite 3 ∧
    p.dst = s.eidOf p0.core ∧ p.crc = ctlCrc6 p ∧ p.gen = 0 ∧ q.crc = ctlCrc6 q := by decide +kernel
theorem witness_Control_message : let p := mkCtl 0x7F (live.eidOf p0.core) 0 5
    p.dst = live.eidOf p0.core ∧ p.crc = ctlCrc6 p ∧ p.gen = 0 ∧ 0x40 ≤ p.cls.toNat ∧ p.cls.toNat < 0x80 := by decide +kernel

/-- A packet in flight at the router of cell site 0 of comb 0. -/
def flying (d : Eid) (held : Bool) : State :=
  live.onBulk [{ pkt := mkData 0x01 d (live.eidOf a0.core) 0 0 0 1 [], at_ := some (0, 0), high := false, held := held }]
def flown (d : Eid) : DataPkt := mkData 0x01 d (live.eidOf a0.core) 0 0 0 1 []
theorem witness_Routers : ((flying (live.eid 0 0xB9) true).net.bulk.find? (Flight.atRouter 0 0 (flown (live.eid 0 0xB9)))).isSome = true ∧
    (flown (live.eid 0 0xB9)).hcrc = dataHcrc (flown (live.eid 0 0xB9)) ∧ (flown (live.eid 0 0xB9)).gen = 0 ∧
    (flying (live.eid 0 0xB9) true).net.bulk.any (fun f => f.atRouter 0 0 (flown (live.eid 0 0xB9)) && f.held) = true := by decide +kernel
theorem witness_Routers_move : let s := (flying (live.eid 0 0xB9) false).modRouter 0 (fun r => { r with tablesUp := true })
    s.hopOf 0 0 (live.eid 0 0xB9) = .move 0 1 false := by decide +kernel
theorem witness_Routers_hold : let s := (flying (live.eid 0 5) true).modRouter 0 (fun r => { r with tablesUp := true, localTbl := [(5, some (2 <<< 62))] })
    s.hopOf 0 0 (live.eid 0 5) = .hold nkInReset := by decide +kernel
theorem witness_Routers_nack : (flying (live.eid 1 0) false).hopOf 0 0 (live.eid 1 0) = .nack nkNoEndpoint := by decide +kernel
theorem witness_Routers_data : let s := live.modRouter 0 (fun r => { r with table := 1, index := 3 }); let u := live.modRouter 0 (fun r => { r with table := 2, index := 0xAF })
    (s.comb 0).router.table = 1 ∧ siteLegal 0 3 0 = true ∧ (u.comb 0).router.table = 2 ∧ (u.comb 0).router.index.toNat < 0xB0 := by decide +kernel
theorem witness_CombResets : (live.comb 0).detour = false ∧ (live.comb 0).state = 0 := by decide +kernel
theorem witness_CombResets_run : let s := live.modComb 0 (fun k => { k with resetRun := some ⟨1, true⟩ }); let u := live.modComb 0 (fun k => { k with resetRun := some ⟨1, false⟩ })
    (s.comb 0).resetRun = some ⟨1, true⟩ ∧ (u.comb 0).resetRun = some ⟨1, false⟩ ∧ (u.comb 0).router.drain ≠ 0x1FFFF := by decide +kernel

/-! ### The waggle, links, light -/

/-- The cell's task 0, or the lead keeper's, with a waggle operation in w1. -/
def wagging (a : At) (w : Nat) : State := (live.modTask a run0).modTask a (fun t => t.set 1 (BitVec.ofNat 64 w))
/-- Task 0 of core 0 of the lead keeper. -/
def k0 : At := ⟨.keeper .west 0, 0⟩
theorem witness_Waggle : ∀ c ∈ [0, 1, 2, 3, 4, 5, 6, 7, 8], let s := wagging a0 (c * 2 ^ 26); let w := loW ((s.task a0).x 1)
    (s.canIssue a0 [1, 2] = true ∧ (s.fetch a0).1 = none) ∧ fld w 29 26 = c ∧ (s.issued a0).wgoBad a0.core w ((s.task a0).x 2) = false ∧
    (s.issued a0).wgoMember a0.core c ((s.issued a0).wgoGroup a0.core w) = true ∧ ((s.issued a0).wagMember a0.core 0).unclaimed = none ∧
    ((s.issued a0).wagMember a0.core 0).openOp = none := by decide +kernel
theorem witness_Waggle_again : let s := (wagging a0 0).modMember a0.core 0 (fun m => { m with openOp := some 0 })
    let u := (wagging a0 0).modMember a0.core 0 (fun m => { m with unclaimed := some (0, 0, 9) })
    ((s.issued a0).wagMember a0.core 0).unclaimed = none ∧ ((s.issued a0).wagMember a0.core 0).openOp ≠ none ∧
    ((u.issued a0).wagMember a0.core 0).unclaimed = some (0, 0, 9) := by decide +kernel
theorem witness_Waggle_solicited : ∀ c ∈ [9, 0xA, 0xB, 0xC, 0xD], let s := wagging k0 (c * 2 ^ 26 + 0x41 * 2 ^ 18); let w := loW ((s.task k0).x 1)
    (s.canIssue k0 [1, 2] = true ∧ (s.fetch k0).1 = none) ∧ fld w 29 26 = c ∧ (s.issued k0).wgoBad k0.core w 0 = false ∧
    (s.issued k0).wgoMember k0.core c ((s.issued k0).wgoGroup k0.core w) = true ∧ (s.issued k0).wagRoot 225 (keeperComb .west) = some 7 ∧
    ((s.issued k0).wagMember k0.core (wagKey true 0x41)).openOp = none := by decide +kernel
theorem witness_Waggle_bad : let s := wagging a0 (9 * 2 ^ 26); let w := loW ((s.task a0).x 1)
    fld w 29 26 = 9 ∧ (s.issued a0).wgoBad a0.core w ((s.task a0).x 2) = true := by decide +kernel
theorem witness_Waggle_noMember : let s := (wagging a0 0).modCell c0 (fun c => { c with colony := 0xFF })
    (s.issued a0).wgoBad a0.core 0 0 = false ∧ (s.issued a0).wgoMember a0.core 0 ((s.issued a0).wgoGroup a0.core 0) = false := by decide +kernel

/-- An ADD of group 0, up and down, and the comb's root with it open. -/
def tok (down : Bool) (status : Nat) : WagPkt := mkWag 4 down 0 0 status [5]
def root0 (members : Nat) (ins : List Nat) : State :=
  (live.modWag 0 (fun w => { w with group := [(0, 1 <<< 63)] })).setOpen 0 0 (some { op := 4, seq := 0, members := members, inputs := ins, acc := none, operand := [], sent := false })
theorem witness_WagglePackets : (tok false 0).gen = 0 ∧ (tok false 0).len.toNat ≤ 4 ∧ (tok false 0).op.toNat < 0xE ∧ (tok false 0).crc = wagCrc (tok false 0) ∧
    bit ((root0 1 [3]).wagGroup 0 0) 63 = true ∧ (tok false 0).down = false ∧ ((root0 1 [3]).wagOpen 0 0).isSome = true ∧ (tok false 0).status = 0 ∧
    ((root0 1 [3]).wagOpen 0 0).map (·.members) = some 1 ∧ ((root0 1 [3]).wagOpen 0 0).map (·.inputs) = some [3] := by decide +kernel
theorem witness_WagglePackets_conflict : ((root0 1 []).wagOpen 0 0).map (·.seq) = some 0 ∧ (mkWag 4 false 0 7 0 [5]).seq ≠ 0 ∧ (tok false 3).status ≠ 0 := by decide +kernel
theorem witness_WagglePackets_down : (tok true 0).down = true ∧ isSolicited (tok true 0).op.toNat = false ∧ (tok true 0).op.toNat ≠ 0xD ∧
    isSolicited (mkWag 9 true 0 0 0 [0, 0]).op.toNat = true ∧ (mkWag 9 true 0 0 0 [0, 0]).len = 2 ∧ (mkWag 0xD true 0 0 0 []).op.toNat = 0xD := by decide +kernel
theorem witness_WagglePackets_bad : ({ tok false 0 with gen := 1 } : WagPkt).gen ≠ 0 ∧ 4 < (7#3).toNat ∧ ({ tok false 0 with crc := ~~~(tok false 0).crc } : WagPkt).crc ≠ wagCrc { tok false 0 with crc := ~~~(tok false 0).crc } := by
  decide +kernel
theorem witness_WagglePackets_limit : let s := (root0 1 []).modWag 0 (fun w => { w with colonyLimit := 10 })
    ((s.wagOpen 0 0).map (·.sent)) = some false ∧ ¬((0 : Nat) < 64 ∧ (s.comb 0).waggle.colonyLimit = 0) := by decide +kernel
theorem witness_Epochs : let s := live.setKeeper .west { live.keeper .west with epoch := { epoch := 0, staged := some 1, commit := some 1 } }
    (s.keeper .west).epoch.commit = some 1 ∧ fld (0x500#64) 2 0 = 0 ∧ (live.comb 0).waggle.anyOpen = false ∧ 5 ≤ fld (5#64) 2 0 := by decide +kernel
theorem witness_Epochs_group : fld (0x8000000000000000#64) 55 54 = 0 ∧ fld (0x8000000000000000#64) 41 40 ≠ 3 ∧ live.wagOpen 0 65 = none ∧ live.wagOpen 0 (wagKey true 65) = none ∧
    fld (0x0040000000000000#64) 55 54 ≠ 0 := by decide +kernel
theorem witness_Epochs_ranks : rnkDirLegal 0 = true ∧ live.colonyStoppedAt 0 63 = true ∧ rnkDirLegal 0x1FFF0000 = false ∧ live.colonyStoppedAt 0 0 = false ∧ rnkLegal 0 = true ∧
    live.rnkFree 0 (live.comb 0).ranks.index.toNat 0 = true := by decide +kernel

/-- The east edge of comb 0, and the panel with that end UP. -/
def edge : LinkAt := .comb 0 1
def linked (st : Nat) : State := live.modLinkAt edge (fun x => { x with state := st })
def frame0 : LinkFrame := ⟨0, List.replicate 32 0, 0, false, false⟩
def LinkFrame.signed (f : LinkFrame) (bad : Bool) : LinkFrame := { f with crc := if bad then ~~~f.crcOf else f.crcOf }
theorem signed_crc (f : LinkFrame) : (LinkFrame.signed f false).crc = (LinkFrame.signed f false).crcOf := rfl
theorem signed_badCrc (f : LinkFrame) : (LinkFrame.signed f true).crc ≠ (LinkFrame.signed f true).crcOf := by
  show ~~~f.crcOf ≠ f.crcOf
  generalize f.crcOf = x
  intro h
  have := congrArg (fun v : W32 => v.getLsbD 0) h
  simp at this
def goodFrame : LinkFrame := LinkFrame.signed frame0 false
theorem witness_Frames : edge.ok = true ∧ ((linked 3).linkAt edge).isUp = true ∧ (15 : Fin 16).val < edge.chans ∧ edge.external = false ∧
    goodFrame.blockErr = false ∧ goodFrame.uncorrected = false ∧ goodFrame.seq = (((linked 3).linkAt edge).ch 15).rxSeq := by decide +kernel
theorem witness_Frames_crc : goodFrame.crc = goodFrame.crcOf := signed_crc frame0
theorem witness_Frames_badCrc : (LinkFrame.signed frame0 true).crc ≠ (LinkFrame.signed frame0 true).crcOf ∧ (LinkFrame.signed frame0 true).uncorrected = false :=
  ⟨signed_badCrc frame0, rfl⟩
theorem witness_Frames_seq : let s := (linked 3).modLinkAt edge (fun x => x.modCh 0 (fun c => { c with rxSeq := 9 }))
    goodFrame.seq ≠ ((s.linkAt edge).ch 0).rxSeq := by decide +kernel
theorem witness_Frames_tokens : let l : LinkAt := .comb 0 8; let s := (live.modLinkAt l (fun x => { x with state := 3 })).setObj (objKey 0x6010 (octetOf 0) 0) [1]
    l.ok = true ∧ (s.linkAt l).isUp = true ∧ s.octetMode (octetOf 0) = 1 ∧ ((((s.comb 0).link 8).ch 0).tokens ++ [0x0800, 0]).length < 1 + wagLen (fld (0x0800#48) 13 11) + 1 := by
  decide +kernel
theorem witness_Training : ((linked 2).linkAt edge).state = 2 ∧ edge.lane = false ∧ ((linked 3).linkAt edge).isUp = true ∧ ((linked 1).linkAt edge).isUp = false ∧
    ((linked 1).linkAt edge).flipped = false ∧ (((linked 3).modLinkAt edge (fun x => { x with flipped := true })).linkAt edge).flipped = true ∧
    ((linked 5).linkAt edge).state = 5 ∧ ((linked 5).linkAt edge).recalFails ≠ 23 := by decide +kernel
/-- A training record with its CRC. -/
def trainRec : List Byte := List.replicate 31 0 ++ toLe 4 (crc32 (List.replicate 31 0)).toNat
theorem witness_Training_record : let l : LinkAt := .comb 0 4; let s := live.modLinkAt l (fun x => { x with state := 2 })
    (s.linkAt l).state = 2 ∧ l.lane = true ∧ fieldAt (fitTo 0 35 trainRec) 31 4 = (crc32 ((fitTo 0 35 trainRec).take 31)).toNat := by decide +kernel
theorem witness_LinkCommands : edge.ok = true ∧ ((linked 1).linkAt edge).state = 1 ∧ ((linked 3).linkAt edge).isUp = true ∧ ((linked 0).linkAt edge).state = 0 ∧
    ((linked 5).linkAt edge).state = 5 ∧ linkExists 0 1 = true ∧ (LinkAt.comb 0 0).ok = false := by decide +kernel
theorem witness_LinkCommands_granted : Granted served req sess (oref 0x6006 edge.no 0) [2] := granted admitted (by decide +kernel)
theorem witness_LinkCommands_laser : (live.laser 55).state = 0 ∧ ((live.setLaser 55 2 [0, 0, 0, 0]).laser 55).state = 2 := by decide +kernel

/-! ### Super fetches, swarm, stores -/

/-- Comb 0 with its octet in super mode, the lane of PR4 up, and fetches open. -/
def superOn (fs : List Fetch) : State :=
  ((live.modLinkAt (.comb 0 8) (fun x => { x with state := 3 })).setObj (objKey 0x6010 (octetOf 0) 0) [2]).modComb 0
    (fun c => { c with ports := Tbl.put PortRouter.reset c.ports 4 { fetches := fs, quarantined := [] } })
def fetch63 : Fetch :=
  { rid := 63, src := 0, tag := 1, object := 0, xform := 0x30, lines := 1, offset := 0, dest := live.eid 0 0xB8, store := 0, saddr := 0, outLines := 1,
    opened := true, seen := [], waiting := [], dup := false, ended := none }
/-- A FETCH_REQ of one RAW line. -/
def fetchReqPkt : DataPkt := mkData 0x18 (live.eid 0 0xB4) (live.eidOf a0.core) 0 0 0 1 (wordsOfBytes (List.replicate 64 0))
def superPkt (ty : Nat) (n : Nat) : DataPkt := mkData ty 0 0 0 0 0 63 (List.replicate n 0)
theorem witness_Fetches : (superOn []).superPort 0 4 = true ∧ (((superOn []).comb 0).link (laneLink 4)).isUp = true ∧ fetchReqPkt.dst = (superOn []).eid 0 0xB4 ∧
    admitData ((superOn []).epochOf 0 0xB4) fetchReqPkt = .ok ∧ fetchReqPkt.type = 0x18 ∧ fetchReqOk (fetchReqPkt.payload.flatMap wordBytes) = true ∧
    (((superOn []).comb 0).port 4).newRid = some 0 := by decide +kernel
theorem witness_Fetches_super : superOk (superPkt 0x19 64) = true ∧ superOk (superPkt 0x1A 1) = true ∧ (((superOn [fetch63]).comb 0).port 4).fetch 63 = some fetch63 ∧
    (superPkt 0x19 64).tag.toNat = 63 ∧ fetch63.opened = true ∧ (superOn [fetch63]).superPort 0 4 = true ∧ (((superOn [fetch63]).comb 0).link (laneLink 4)).isUp = true := by
  decide +kernel

/-- A swarm message of a kind for the west keeper from panel 5, of colony 63. -/
def swarmPkt (kind : Nat) (body : List Nat) : DataPkt :=
  mkData 0x1B (live.eid 0xF0 15) 0x05F000 0xFF 0 0 1 ([BitVec.ofNat 32 (63 * 65536 + kind), 0] ++ body.map (BitVec.ofNat 32))
/-- The keeper's panel by swarm number, where panels 1 and 5 have still to report a step of colony 63. -/
def swarming (panel cmd : Nat) (left : List Nat) : State :=
  (({ live with swarmMembers := [(0, []), (31, [])] } : State).setObj (objKey 0x2030 0 0) [BitVec.ofNat 8 panel]).modWork 63 (fun w => { w with swarm := some (cmd, left) })
theorem witness_Swarm_at : ∀ kind ∈ [1, 2, 3, 4, 5], let p := swarmPkt kind [1, 0, 0]
    p.type = 0x1B ∧ fld (plWord p 0) 15 0 = kind ∧ fld p.dst 7 0 < 16 ∧ p.dst = live.eid 0xF0 15 ∧ admitData (live.epochOf 0xF0 15) p = .ok ∧ fld (plWord p 0) 23 16 < 64 := by
  decide +kernel
theorem witness_Swarm_command : (∀ cmd ∈ [1, 5], let s := swarming 1 cmd []
    s.coordinates = false ∧ (swarmBody (swarmPkt 1 [cmd]) 0).toNat = cmd ∧ (s.eid 0xF0 15 = 0x01F00F)) ∧
    admitData ((swarming 1 1 []).epochOf 0xF0 15) { swarmPkt 1 [1] with dst := 0x01F00F, hcrc := dataHcrc { swarmPkt 1 [1] with dst := 0x01F00F } } = .ok ∧
    (swarming 0 4 []).coordinates = true ∧ (swarmBody (swarmPkt 1 [4]) 0).toNat = 4 := by decide +kernel
theorem witness_Swarm_stepDone : let s := swarming 0 5 [1, 5]; let t := swarming 0 5 [5]; let p := swarmPkt 2 [5, 0]; let q := swarmPkt 2 [5, 1]
    (s.work 63).swarm = some (5, [1, 5]) ∧ (t.work 63).swarm = some (5, [5]) ∧ s.coordinates = true ∧ (swarmBody p 0).toNat ≠ 7 ∧ (swarmBody q 1).toNat = 1 ∧
    (swarmBody p 1).toNat ≠ 1 ∧ [1, 5].filter (· != fromPanel p) ≠ [] ∧ [5].filter (· != fromPanel p) = [] := by decide +kernel
theorem witness_Swarm_segments : let p := swarmPkt 3 [0, 0x050000, 0x80010100]
    (swarmBody p 0).toNat < laySegs ((live.setObj (objKey 0x5010 63 0) [0, 0, 0, 0, 1, 0, 0, 0]).layout 63) ∧ fld (joinW (swarmBody p 1) (swarmBody p 2)) 23 16 = fromPanel p ∧
    rnkLegal (joinW (swarmBody p 1) (swarmBody p 2)) = true := by decide +kernel
theorem witness_Swarm_ack : let p := mkData 0x1C (live.eid 0xF0 15) 0x05F000 0xFF 0 0 1 [0, 0, 0]
    p.type = 0x1C ∧ fld p.dst 7 0 < 16 ∧ p.dst = live.eid 0xF0 15 ∧ admitData (live.epochOf 0xF0 15) p = .ok := by decide +kernel
theorem witness_Swarm_peerLost : let s := swarming 0 1 []
    s.coordinates = true ∧ (31 : Fin 32).val ≠ s.swarmPanel.toNat ∧ (∀ c < 64, layPanels (s.layout c) ≤ 1) ∧ s.swarmMembers.any (fun m => m.1 == 31) = true := by decide +kernel

/-- The last store, and store 0, serving. -/
def storing (n : Nat) : State := live.modStore n (fun x => { x with stb := 2 })
def stoPkt (ty n : Nat) (ws : List W32) : DataPkt := mkData ty (live.eid (storeCombs n).1 0xB8) (live.eidOf a0.core) 0xFF 0 0 1 ws
/-- A gather of one entry. -/
def gatherPkt : DataPkt := stoPkt 0x08 111 (List.replicate 32 0)
theorem witness_Stores_at : ∀ p ∈ [stoPkt 0x01 111 (List.replicate 64 0), stoPkt 0x03 111 [0], stoPkt 0x05 111 [0, 0, 0, 0, 0x19], gatherPkt, stoPkt 0x0A 111 (List.replicate 4 0),
    stoPkt 0x0B 111 (List.replicate 64 0), stoPkt 0x0C 111 [0x13F], stoPkt 0x0C 111 [0x3F]],
    pairHas 111 (fld p.dst 15 8) = true ∧ p.dst = (storing 111).eid (fld p.dst 15 8) 0xB8 ∧ admitData ((storing 111).epochOf (fld p.dst 15 8) 0xB8) p = .ok ∧
    ((storing 111).store 111).stb ≠ 0 ∧ ((storing 111).store 111).closed = none := by decide +kernel
theorem witness_Stores_access : let x := (storing 111).store 111
    x.access 0xFF 0 256 = none ∧ x.access 0xFF (storeBytes - 64) 64 = none ∧ x.access 0xFF storeBytes 64 = some nkAddrRange ∧ x.access 0 0 256 = some nkNotOwned ∧
    (∀ g ∈ granules 0 256, x.badGranule g = false) ∧ (∀ g ∈ granules 0 64, x.badGranule g = false) ∧ (0x19#32).toNat % 16 ≤ 9 := by decide +kernel
theorem witness_Stores_gather : gatherOk gatherPkt = true ∧ (gatherAddrs gatherPkt).findSome? (fun a => ((storing 111).store 111).access 0xFF a 256) = none ∧
    (State.gatherRead 111 1 (gatherAddrs gatherPkt) ((storing 111).takeData gatherPkt)).1.isSome = true := by decide +kernel
def chunk63 : Chunk := { rid := 63, router := live.eidOf a0.core, saddr := 0, xform := 0x30, lines := 0, src := 0, tag := 0, outLines := 0, got := [], dup := false }
theorem witness_Shards : ((storing 111).store 111).chunks.length < 8 ∧ isLanePort (live.eid 0 0xB4) = true ∧ isLanePort (live.eid 0 0xB7) = true ∧ isLanePort (stoPkt 0x0A 111 []).src = false ∧
    (((storing 111).modStore 111 (fun x => { x with chunks := [chunk63] })).store 111).chunk (stoPkt 0x0C 111 [0x3F]).src 63 = some chunk63 ∧
    fld (plWord (stoPkt 0x0C 111 [0x13F]) 0) 15 8 ≠ 0 ∧ fld (plWord (stoPkt 0x0C 111 [0x3F]) 0) 15 8 = 0 ∧ chunk63.dup = false ∧ chunk63.got.length = chunk63.lines := by
  decide +kernel
theorem witness_Shards_lane : let p := mkData 0x0A (live.eid (storeCombs 111).1 0xB8) (live.eid 0 0xB4) 0xFF 0 0 1 (List.replicate 4 0)
    p.dst = (storing 111).eid (fld p.dst 15 8) 0xB8 ∧ pairHas 111 (fld p.dst 15 8) = true ∧ admitData ((storing 111).epochOf (fld p.dst 15 8) 0xB8) p = .ok ∧ isLanePort p.src = true := by
  decide +kernel
theorem witness_Shards_done : ∀ w ∈ [0, 0xFF], let p := mkData 0x0D (live.eidOf a0.core) 0 0 0 0 1 [BitVec.ofNat 32 w]; let s := expects .shard
    p.dst = s.eid 0 0 ∧ (s.comb 0).logicalOf 0 ≠ 0xFF ∧ s.cellOff c0 = false ∧ s.cellAsleep c0 = false ∧ admitData (s.epochOf 0 0) p = .ok ∧
    (s.core a0.core).expecting (fun _ e => e.has p.tag && decide (e.answer = .shard)) = some (0, dExp .shard, ⟨1, .shard⟩) ∧ fld (plWord p 0) 7 0 = w := by decide +kernel
theorem witness_Shards_gatherRsp : let p := mkData 0x09 (live.eidOf a0.core) 0 0 0 0 1 (List.replicate 64 0); let s := expects (.gather [0] 1)
    p.dst = s.eid 0 0 ∧ admitData (s.epochOf 0 0) p = .ok ∧ p.type = 0x09 ∧ (s.core a0.core).expecting (fun _ e => e.has p.tag) = some (0, dExp (.gather [0] 1), ⟨1, .gather [0] 1⟩) ∧
    1 ≤ p.payload.length / 64 := by decide +kernel
theorem witness_Shards_kv : let k : KvOpen := ⟨63, 0, 0, 0, [], 0, []⟩; let s := (storing 111).modStore 111 (fun x => { x with kv := [k] })
    (s.store 111).kv.find? (fun k => k.colony = 63 ∧ k.entry = (0#64).toNat) = some k ∧ k.expect = [] ∧ (s.store 111).stb = 2 ∧ bit k.w4 31 = false := by decide +kernel
theorem witness_StoreBase : let x := (storing 111).store 111; let y := ((storing 111).modStore 111 (fun x => { x with stb := 1, ext := Tbl.put 0 x.ext 63 (1 <<< 63) })).store 111
    x.stb = 2 ∧ x.anyExtent = false ∧ y.anyExtent = true ∧ y.stb = 1 ∧ x.stb ≠ 0 ∧ x.zeroBusy = false ∧ nth false x.digBusy 1 = false ∧
    x.extLegal 111 63 ((1 <<< 63) + (720896 <<< 20)) = true ∧ x.colonyStopped 63 = true ∧ x.extLegal 111 63 ((1 <<< 63) + (720897 <<< 20)) = false := by decide +kernel
theorem witness_StoreBase_digest : let x := ((storing 111).modStore 111 (fun x => { x with digBusy := setNth x.digBusy 1 true, digLen := setNth x.digLen 1 1 })).store 111
    nth false x.digBusy 1 = true ∧ (∀ g ∈ granules ((nth 0 x.digAddr 1).toNat / 256 * 256) ((nth 0 x.digLen 1).toNat * 256), x.badGranule g = false) := by decide +kernel

/-! ### Colonies, sessions, weights, the voice service -/

/-- A layout of one segment on one panel. -/
def lay1 : List Byte := [0, 0, 0, 1, 1, 0, 0, 1, 0, 0xFF, 0, 0, 1, 0, 0, 0]
/-- Colony 63 in a state, with that layout. -/
def colSt (st : Nat) : State := (served.modColony 63 (fun k => { k with state := st })).setObj (objKey 0x5010 63 0) lay1
theorem witness_Colony_layout : Granted served req sess (oref 0x5010 63 0) lay1 ∧ layoutOk 63 lay1 = true ∧ uses4095 (words64 lay1) = false ∧
    served.colonyStatic 63 = true ∧ served.bothUp = true := ⟨granted admitted (by decide +kernel), by decide +kernel⟩
theorem witness_Colony_state : layPanels ((colSt csDefined).layout 63) ≤ 1 ∧ (colSt csDefined).boot.state = 6 ∧
    ∀ st ∈ [csDefined, csReady, csServing, csFailed, csDraining], ((colSt st).colony 63).state = st := by decide +kernel
theorem colSt_admitted (st : Nat) : Admitted (colSt st) req sess := by unfold Admitted; exact ⟨rfl, rfl, by decide, rfl, rfl, rfl, by decide, rfl⟩
theorem witness_Colony_deploy : Granted (colSt csDefined) req sess (oref 0x5002 63 0) [1] := granted (colSt_admitted _) (by decide +kernel)
theorem witness_Colony_start : Granted (colSt csReady) req sess (oref 0x5002 63 0) [2] := granted (colSt_admitted _) (by decide +kernel)
theorem witness_Colony_stop : Granted (colSt csServing) req sess (oref 0x5002 63 0) [3] := granted (colSt_admitted _) (by decide +kernel)
theorem witness_Colony_restart : Granted (colSt csServing) req sess (oref 0x5002 63 0) [4] := granted (colSt_admitted _) (by decide +kernel)
theorem witness_Colony_release : Granted (colSt csFailed) req sess (oref 0x5002 63 0) [5] := granted (colSt_admitted _) (by decide +kernel)
theorem witness_Colony_busy : Granted (colSt csServing) req sess (oref 0x5002 63 0) [2] := granted (colSt_admitted _) (by decide +kernel)
theorem witness_Colony_drained : (colSt csDraining).batchesDone 63 = true := by decide +kernel
theorem witness_Colony_bridges : Granted served req sess (oref 0x5011 63 0) (toLe 8 (0#64).toNat) := granted admitted (by decide +kernel)

/-- Word 0 of SESSION_CTRL: OP 1 or 2, colony 63 as home, slot 5. -/
def ctrlW (op : Nat) : W64 := BitVec.ofNat 64 (op * 2 ^ 56 + 63 * 2 ^ 48 + 5)
/-- The session in slot 5 of colony 63, of sequences in it alone. -/
def ses5 : Session :=
  { slot := 5, home := 63, peers := 0, ext := 0, live := [63], endReason := none, activity := 0, idle := 0, bindIn := [], bindOut := [], opener := none }
/-- Colony 63 with its region in unit 0 of store 0 and slots from 0; the bytes at an offset of it given. -/
def region (off : Nat) (bs : List Byte) : State :=
  (((live.modStore 0 (fun x => { x with stb := 2 }.write off bs)).modWork 63 (fun w => { w with region := some (0, 0, 0), slotBase := some 0 })).setObj
    (objKey 0x5014 63 0) [100, 0, 0, 0])
theorem witness_Session_ctrl : ∀ op ∈ [1, 2], Granted served req sess (oref 0x5040 0 0) (toLe 8 (ctrlW op).toNat ++ toLe 8 (0#64).toNat ++ toLe 8 (0#64).toNat) ∧ fld (ctrlW op) 63 56 = op := by
  intro op h
  rcases List.mem_cons.1 h with rfl | h
  · exact ⟨granted admitted (by decide +kernel), by decide +kernel⟩
  rcases List.mem_cons.1 h with rfl | h
  · exact ⟨granted admitted (by decide +kernel), by decide +kernel⟩
  · cases h
/-- The served panel with slots of colony 63 and the session in one. -/
def slots : State := { (served.modWork 63 (fun w => { w with slotBase := some 0 })).setObj (objKey 0x5014 63 0) [100, 0, 0, 0] with sessions := [ses5] }
theorem witness_Session_busy : fld (ctrlW 1) 55 48 = 63 ∧ fld (ctrlW 1) 23 0 = 5 ∧ slots.slotIn 63 5 = true ∧ (slots.colony 63).state ≠ csServing ∧ slots.session 5 = some ses5 ∧
    ses5.home = 63 := by decide +kernel
theorem slots_granted : ∀ op ∈ [1, 2], Granted slots req sess (oref 0x5040 0 0) (toLe 8 (ctrlW op).toNat ++ toLe 8 (0#64).toNat ++ toLe 8 (0#64).toNat) := by
  have a : Admitted slots req sess := by unfold Admitted; exact ⟨rfl, rfl, by decide, rfl, rfl, rfl, by decide, rfl⟩
  intro op h
  rcases List.mem_cons.1 h with rfl | h
  · exact granted a (by decide +kernel)
  rcases List.mem_cons.1 h with rfl | h
  · exact granted a (by decide +kernel)
  · cases h
theorem witness_Session_timeouts : let s := { region (rgState 5) (toLe 8 (stateWord 1 63 5)) with sessions := [ses5] }; let x := { ses5 with endReason := some 3 }
    let t := { live with sessions := [x] }
    s.session (5#24).toNat = some ses5 ∧ ses5.live.any (fun c => decide (s.seqState c 5 = 1)) = true ∧ t.session (5#24).toNat = some x ∧ x.endReason ≠ none ∧
    x.live.contains 63 = true ∧ s.sessions = [ses5] := by decide +kernel
/-- Colony 63 with a request of a kind in its ring. -/
def asking (k : Nat) : State := (region rgRqHead [1]).modStore 0 (fun x => x.write rgRqRing (toLe 8 (k * 2 ^ 56 + 5)))
theorem witness_Session_requests : ∀ k ∈ [0x81, 0x82, 0x83], ((asking k).nextRequest 63).map (fun bs => fld (reqWord bs 0) 63 56) = some k := by decide +kernel
theorem witness_Session_poll : ∀ c < 64, ringCount (live.rg64 c rgRqHead) (live.rg64 c rgRqTail) = 0 := by decide +kernel
theorem witness_Session_event : let s := live.modWork 63 (fun w => { w with events := [[1]] })
    (s.work 63).events = [[1]] ∧ s.eventsFull 63 = false := by decide +kernel

theorem witness_Weights_load : (∀ st ∈ [csLoading, csDraining], Granted (colSt st) req sess (oref 0x7100 63 0) (List.replicate 16 0) ∧ csLoading ≤ ((colSt st).colony 63).state ∧
      ((colSt st).colony 63).state ≤ csDraining) ∧
    weightRefOk (List.replicate 16 0) = true ∧ ((colSt csLoading).work 63).loading = false ∧ ((colSt csLoading).work 63).bankA.valid = false := by
  refine ⟨?_, by decide +kernel⟩
  intro st h
  rcases List.mem_cons.1 h with rfl | h
  · exact ⟨granted (colSt_admitted _) (by decide +kernel), by decide +kernel⟩
  rcases List.mem_cons.1 h with rfl | h
  · exact ⟨granted (colSt_admitted _) (by decide +kernel), by decide +kernel⟩
  · cases h
/-- Colony 63 with a load in a state and shards left, and its banks. -/
def loading (st : Nat) (left : List Nat) : State :=
  live.modWork 63 (fun w => { w with load := { w.load with state := st, left := left }, bankA := { w.bankA with valid := true }, bankB := { w.bankB with valid := false } })
theorem witness_Weights_checks : ((loading 1 []).work 63).load.state = 1 ∧ ((loading 2 [32767]).work 63).load.state = 2 ∧
    ((loading 2 [32767]).work 63).load.left.contains (32767#15).toNat = true ∧ ((loading 2 [32767]).work 63).load.bank = (0 : Fin 2).val ∧
    ((loading 2 []).work 63).load.left = [] ∧ layPanels ((loading 2 []).layout 63) ≤ 1 ∧ ((loading 2 []).work 63).loading = true := by decide +kernel
theorem witness_Weights_release : let s := (region rgAdmit [1]).modWork 63 (fun w => { w with bankA := { w.bankA with valid := true } })
    ((s.work 63).bank 0).valid = true ∧ s.bankInUse 63 0 = false := by decide +kernel
theorem witness_Weights_recheck : let s := (loading 0 []).setObj (objKey 0x7130 0 0) [1, 0, 0, 0]
    s.objU 0x7130 0 0 ≠ 0 ∧ (s.work 63).bankA.valid = true ∧ manShards (s.work 63).bankA.manifest = 0 ∧ (s.work 63).bankB.valid = false := by decide +kernel
theorem witness_Weights_activate : let s := (colSt csServing).modWork 63 (fun w => { w with bankA := { w.bankA with valid := true } })
    Granted s req sess (oref 0x7104 63 0) [0] ∧ Granted s req sess (oref 0x7104 63 0) [1] ∧ ((s.work 63).bank 0).valid = true ∧ ((s.work 63).bank 1).valid = false ∧ (1#8).toNat ≤ 1 := by
  have a : Admitted ((colSt csServing).modWork 63 (fun w => { w with bankA := { w.bankA with valid := true } })) req sess := by
    unfold Admitted; exact ⟨rfl, rfl, by decide, rfl, rfl, rfl, by decide, rfl⟩
  exact ⟨granted a (by decide +kernel), granted a (by decide +kernel), by decide +kernel⟩
/-- A manifest of one streamed shard of segment 0, and of one line. -/
def man1 : List Byte := List.replicate 8 0 ++ [1, 0, 0, 0] ++ List.replicate 52 0 ++ List.replicate 28 0 ++ [1] ++ List.replicate 99 0
/-- Colony 63 with an extent in store 0, a stream area, segment 0 at comb 0 and request 0 open. -/
def streaming : State :=
  ((live.modColony 63 (fun k => { k with extents := [(0, 0, 16)], placement := [1 <<< 63] })).setObj (objKey 0x7121 63 0) [2, 0, 0, 0]).modWork 63 (fun w =>
    { w with streams := [(0, 0, false)], bankA := { w.bankA with valid := true, manifest := man1 } })
theorem witness_Weights_stream : (streaming.streamAt 63 0).isSome = true ∧ streaming.streamUnits 63 ≠ 0 ∧
    (streaming.work 63).streams.find? (fun x => decide (x.1 = 0 ∧ x.2.1 = (0#64).toNat)) = some (0, 0, false) := by decide +kernel
theorem witness_Weights_streamDone : let a := (streaming.streamAt 63 0).getD 0; let u := streaming.modStore 0 (fun x => x.write (a + 0x1008) (toLe 8 65536))
    streaming.streamBad 63 0 (streaming.sr64 0 a 0x1000) (streaming.sr64 0 a 0x1008) = true ∧ (u.streamAt 63 0) = some a ∧
    u.streamBad 63 0 (u.sr64 0 a 0x1000) (u.sr64 0 a 0x1008) = false := by decide +kernel

/-- The last port, in service mode with its link up. -/
def svc : State := ((live.setObj (objKey 0x6010 111 0) [3]).setObj (objKey 0xB003 223 0) [1, 0, 0, 10]).modPortV 223 (fun x => { x with linkUp := true })
def dg (b : List Byte) : Datagram := { src := { v6 := false, addr := [10, 0, 0, 9], udp := 4000 }, dst := { v6 := false, addr := [10, 0, 0, 1], udp := 5004 }, payload := b }
/-- An ARP request and a UDP datagram for the port. -/
def arpBytes : List Byte := List.replicate 12 0 ++ [8, 6, 0, 1, 8, 0, 6, 4, 0, 1] ++ List.replicate 6 0 ++ [10, 0, 0, 9] ++ List.replicate 6 0 ++ [10, 0, 0, 1] ++ List.replicate 18 0
def udpBytes : List Byte := ipFrame (svc.portStation 223) [0, 0, 0, 0, 0, 0] false [10, 0, 0, 9] [10, 0, 0, 1] 17 64 0 (toBe 2 4000 ++ toBe 2 5004 ++ toBe 2 8 ++ [0, 0])
theorem witness_Ports : svc.octetMode ((223 : Nat) / 2) = 3 ∧ (svc.vport 223).linkUp = true := by decide +kernel
theorem witness_Ports_other : readFrame (svc.portStation 223) [] = .other := rfl
theorem witness_Ports_arp : readFrame (svc.portStation 223) arpBytes = .arp [0, 0, 0, 0, 0, 0] [10, 0, 0, 9] [10, 0, 0, 1] := by rfl
theorem witness_Ports_udp : readFrame (svc.portStation 223) udpBytes = .udp (fitTo 0 6 (svc.portStation 223).mac) (dg []) ∧ (dg []).dst.udp ≠ svc.objU 0xB030 0 0 ∧ (svc.vport 223).rtcpOf (dg []) = none :=
  ⟨by rfl, by decide +kernel⟩
/-- A direction of a session's media on the port. -/
def str (out : Bool) : Stream :=
  { index := 16383, slot := 5, home := 63, out := out, body := [], remote := ⟨false, [10, 0, 0, 9], 4000⟩, localUdp := 5004, ssrc := 0, anySsrc := false, srtp := false,
    rtcpMux := false, pt := 0, key := [], salt := [], ring := (0, 0), high := none, accepted := [], srtpHigh := none, srtpSeen := [], srtcp := 0, delivered := 0, dropped := 0,
    seq := 0, sent := 0, octets := 0, spent := false, timestamp := 0, reports := 0, lastSr := [] }
def bound (out : Bool) : State := svc.modPortV 223 (fun x => { x with streams := [str out], deliveries := [⟨0, 9, 0⟩] })
theorem witness_Ports_ack : let k := mkCtl 0x05 (live.voiceEid 223) 0 (BitVec.ofNat 64 (9 * 2 ^ 32))
    k.cls = 0x05 ∧ k.dst = (bound false).voiceEid 223 ∧ k.crc = ctlCrc6 k ∧ k.gen = 0 ∧
    ((bound false).vport 223).deliveries.find? (fun e => e.tag = bits k.payload 32 16) = some ⟨0, 9, 0⟩ := by decide +kernel
/-- An egress record of one byte for entry 16383. -/
def egress : DataPkt := mkData 0x01 (live.voiceEid 223) (live.eidOf a0.core) 63 0 0 1 ([0x13FFF] ++ List.replicate 63 0)
theorem witness_Ports_egress : egress.dst = (bound true).eid (portSite 223) 0xB4 ∧ egress.dst = (bound true).voiceEid 223 ∧ egressOk egress = true ∧
    ((bound true).vport 223).streams.find? (fun t => decide (t.index = fld (plWord egress 0) 13 0 ∧ t.home = egress.colony.toNat) && t.out) = some (str true) ∧
    ((bound false).vport 223).streams.find? (fun t => decide (t.index = fld (plWord egress 0) 13 0 ∧ t.home = egress.colony.toNat) && t.out) = none := by decide +kernel
theorem witness_Ports_egress_admit : admitData ((bound true).epochOf (portSite 223) 0xB4) egress = .ok ∧ admitData ((bound false).epochOf (portSite 223) 0xB4) egress = .ok := by decide +kernel
theorem witness_Ports_rtcp : ∀ out, ((bound out).vport 223).streams.find? (fun t => decide (t.index = (16383 : Fin 16384).val ∧ t.out = out)) = some (str out) ∧ (str out).srtp = false := by
  decide +kernel

/-- A control datagram of an operation: exchange 7, SEQ 1, slot 5 of colony 63, and a body. -/
def ctlBytes (op : Nat) (body : List Byte) : List Byte := fitTo 0 32 ([0, 0, 0, 0, 0, BitVec.ofNat 8 op, 0, 0, 0, 0, 0, 7, 0, 0, 0, 1, 0, 0, 0, 5, 63]) ++ body
/-- A BIND body: inbound, IPv4, port 223, remote port 4000, local port 5004, PCMU. -/
def bindBody : List Byte := fitTo 0 64 ([0, 4, 0, 223, 10, 0, 0, 9] ++ List.replicate 12 0 ++ [0x0F, 0xA0, 0x13, 0x8C, 0, 0, 0, 0, 0, 0, 0, 0])
/-- The panel with that exchange and the datagram waiting; sessions as given, and colony 63 with its media map. -/
def calling (op : Nat) (body : List Byte) (ss : List Session) : State :=
  { (((svc.setObj (objKey 0xB031 0 7) ([7, 0, 0, 0, 1] ++ List.replicate 43 0)).setObj (objKey 0xB020 63 0) (toLe 8 (2 ^ 44 + 100 * 2 ^ 37))).modWork 63 (fun w =>
      { w with slotBase := some 0, region := some (0, 0, 0) })).modComb 0 (fun c => { c with ranks := { c.ranks with
        dir := Tbl.put 0 c.ranks.dir 63 (2 ^ 63 + 2 ^ 16), mem := Tbl.put 0 c.ranks.mem 0 (2 ^ 63 + 2 ^ 48 + 2 ^ 40) } }) with
    sessions := ss, voice := { svc.voice with ctl := [(223, dg (ctlBytes op body))], events := [⟨7, 1, [], 49⟩, ⟨7, 2, [], 50⟩] } }
theorem witness_Control_datagrams : ∀ op ∈ [1, 2, 3], ∀ ss ∈ [[], [ses5]], let s := calling op bindBody ss; let b := ctlBytes op bindBody
    let x := Tbl.get Exchange.reset s.voice.exchanges 7
    s.voice.ctl = (223, dg b) :: [] ∧ beAt b 5 1 = op ∧ s.exchOf (beAt b 8 4) = some 7 ∧ x.answers.find? (fun a => a.1 = dgSeq b) = none ∧
    ¬(4096 ≤ x.behind (dgSeq b) ∧ x.behind (dgSeq b) < 2 ^ 31) ∧ dgOk b = true := by decide +kernel
theorem witness_Control_bind : let b := ctlBytes 2 bindBody; let s := calling 2 bindBody [ses5]
    s.bindRange (part b 32 64) = true ∧ (calling 2 bindBody []).homeSession (dgHome b) (dgSlot b) = none ∧ s.homeSession (dgHome b) (dgSlot b) = some ses5 ∧ ses5.endReason = none ∧
    bindCodec (part b 32 64) = true ∧ (s.ringOf 63 5).isSome = true ∧ s.keyInUse 63 5 (part b 32 64) = false ∧ s.bindIndex 63 5 (part b 32 64) = some 0 := by decide +kernel
theorem witness_Control_eventAck : let s := calling 4 [] []; let b := ctlBytes 4 []
    s.voice.ctl = (223, dg b) :: [] ∧ beAt b 5 1 = 4 ∧ s.exchOf (beAt b 8 4) = some 7 := by decide +kernel
theorem witness_Control_resend : let s := calling 4 [] []
    s.voice.events.find? (fun e => decide (e.exch = (7 : Fin 8).val ∧ e.serial = 1)) = some ⟨7, 1, [], 49⟩ ∧
    s.voice.events.find? (fun e => decide (e.exch = (7 : Fin 8).val ∧ e.serial = 2)) = some ⟨7, 2, [], 50⟩ := by decide +kernel
theorem witness_Control_map : Granted (colSt csDefined) req sess (oref 0xB020 63 0) (toLe 8 (BitVec.ofNat 64 (2 ^ 44 + 100 * 2 ^ 37)).toNat) ∧
    mapOk (setBits (BitVec.ofNat 64 (2 ^ 44 + 100 * 2 ^ 37)) 20 17 0) = true ∧ uses4095 ((colSt csDefined).layout 63) = false ∧ (colSt csDefined).colonyStatic 63 = true ∧
    (colSt csDefined).bothUp = true := ⟨granted (colSt_admitted _) (by decide +kernel), by decide +kernel⟩

/-! ### Power, heat, clocks -/

/-- The panel with blade 7 in a state after a number of recloses, and blade 6 connected. -/
def bladed (st n : Nat) : State := (live.setBlade 7 { live.blade 7 with state := st, recloses := n }).setBlade 6 { live.blade 6 with state := 1 }
theorem witness_Power_blades : ((bladed 0 0).blade 7).state = 0 ∧ (bladesOf (bladeHalf 7)).any (fun k => k != 7 && decide (((bladed 0 0).blade k).state = 1)) = true ∧
    ((bladed 1 0).blade 7).state = 1 ∧ ((bladed 5 2).blade 7).state = 5 ∧ ((bladed 5 2).blade 7).recloses < 3 ∧ 3 ≤ ((bladed 5 3).blade 7).recloses ∧ ((bladed 5 3).blade 7).state ≠ 0 := by
  decide +kernel
/-- The east half on or stopped, for a reason. -/
def half (on : Bool) (stop : Nat) : State := live.modHalf .east (fun p => { p with on := on, stop := stop })
theorem witness_Power_halves : ((half true 0).halfPower .east).on = true ∧ ((half false 1).halfPower .east).on = false ∧ ((half false 1).halfPower .east).stop ≤ 1 ∧
    ((half false 2).halfPower .east).on = false ∧ ((half false 2).halfPower .east).stop = 2 := by decide +kernel
theorem witness_Power_converters : (∀ st ∈ [0, 2, 3], ((live.setConv 63 { live.conv 63 with state := st }).conv 63).state = st) ∧
    ((live.modStore 111 (fun z => { z with zoneOpen := false })).store 111).zoneOpen = false := by decide +kernel
/-- Comb 0 with a domain in a state. -/
def domain (d : Nat) (on : Bool) (st : Nat) : State := live.setDom 0 d { on := on, state := st, reason := 0 }
theorem witness_Domains : domEntitled 0 79 (some .west) = false ∧ domEntitled 0 79 none = true ∧ domEntitled 0 64 (some (halfOf 0)) = true ∧ ((domain 79 false 0).comb 0).pw.dom 79 = ⟨false, 0, 0⟩ ∧
    ((domain 79 false 0).comb 0).pw.onOrder 79 = true ∧ ((domain 79 true 3).comb 0).pw.dom 79 = ⟨true, 3, 0⟩ ∧ ((domain 79 true 3).comb 0).pw.offOrder 79 = true ∧
    (((domain 0 true 1).comb 0).pw.dom 0).state = 1 := by decide +kernel
theorem witness_Domains_token : let s := live.modStore (storeOf 0) (fun z => { z with waiting := [(0, 79)], token := none, zoneOpen := false })
    let u := s.modStore (storeOf 0) (fun x => { x with zoneCurrent := 1890 })
    let t := live.modStore (storeOf 0) (fun z => { z with token := some (0, 69) })
    (s.store (storeOf 0)).waiting = (0, 79) :: [] ∧ (s.store (storeOf 0)).token = none ∧ (s.store (storeOf 0)).zoneOpen = false ∧
    rampNeed 79 + u.zoneGuard (storeOf 0) ≤ (u.store (storeOf 0)).headroom ∧ (t.store (storeOf 0)).token = some (0, 69) ∧ (69 < 65 ∨ 68 < 69) := by decide +kernel
theorem witness_Regulators : ((live.comb 0).pw.reg 46).phaseFail = 0 ∧ (46 : Fin 49).val < 48 ∧ (46 : Fin 49).val % 3 = 1 ∧ 600 ≤ fld (900#64) 15 0 ∧ fld (900#64) 15 0 ≤ 900 ∧ fld (599#64) 15 0 < 600 := by
  decide +kernel

/-- The cell's site in a state, with no task running. -/
def sited (st : Nat) : State := (live.modPw 0 (fun w => { w with siteState := Tbl.put 5 w.siteState 0 st })).modTask a0 (fun t => { t with st := .stopped })
theorem witness_Sites : (∀ st ∈ [0, 1, 3, 4], ((sited st).comb 0).siteSt 0 = st ∧ (sited st).siteIdle c0 = true) ∧ fld (0x100000#64) 20 16 ≤ 16 ∧ 16 < fld (0x110000#64) 20 16 := by decide +kernel
theorem witness_Sites_dawn : let s := (live.setDom 0 (dLogic 0) { on := true, state := 3, reason := 0 })
    ((s.comb 0).pw.dom (dLogic (frameOf 0))).state = 3 ∧ (s.comb 0).siteFenced 0 = false := by decide +kernel
theorem witness_Sites_clock : ((live.modPw 0 (fun w => { w with charAge := [(0, 14401)] })).comb 0).pw.overdue 0 = true ∧
    ((live.modCell c0 (fun c => { c with clk := { c.clk with changing := true } })).cell c0).clk.changing = true ∧ bit (0x100#64) 8 = true ∧ live.cellReach c0 = true ∧
    (live.cell c0).inReset = false ∧ (live.comb 0).siteSt 0 = 0 ∧ (live.cell c0).clk.changing = false := by decide +kernel
/-- Comb 0 with the frame meters given. -/
def framed (temp level lim heat : Nat) : State :=
  live.modPw 0 (fun w => { w with
    temp := [(15, BitVec.ofNat 16 temp)], sensLevel := [(15, level)], level := [(15, lim)]
    heat := BitVec.ofNat 16 heat,
    doms := [(dTransit 15, { on := true, state := 3, reason := 0 })] })
theorem witness_Frames_heat : 6 ≤ ((framed 0 0 6 0).comb 0).pw.levelOf 15 ∧ ((framed 0 0 0 0).comb 0).pw.levelOf 15 = 0 ∧
    degrees (Tbl.get 0 ((framed 1439 0 0 0).comb 0).pw.temp 15) < (Int.ofNat ((framed 1439 0 0 0).comb 0).pw.throttleC.toNat - 5) * 16 ∧
    2 ≤ Tbl.get 0 ((framed 1759 2 0 0).comb 0).pw.sensLevel 15 ∧ bit ((framed 1759 2 0 0).comb 0).pw.heat 15 = false ∧
    degrees (Tbl.get 0 ((framed 1759 2 0 0).comb 0).pw.temp 15) < 110 * 16 := by decide +kernel
theorem witness_Frames_return : let s : State := { framed 1359 0 8 0x8000 with log := { live.log with fences := [⟨2, 15, 0⟩] } }
    bit (s.comb 0).pw.heat 15 = true ∧ Tbl.get 0 (s.comb 0).pw.heatCount 15 < 3 ∧ s.log.fenced 2 ((0 : Site).val * 256 + 15) = true ∧
    degrees (Tbl.get 0 (s.comb 0).pw.temp 15) < (Int.ofNat (s.comb 0).pw.throttleC.toNat - 10) * 16 ∧ ((s.comb 0).pw.dom (dTransit 15)).state = 3 := by decide +kernel
theorem witness_PanelLoop : let s := (live.modHalf .west (fun p => { p with on := true })).modHalf .east (fun p => { p with on := false })
    (s.halfPower .west).on = true ∧ (s.halfPower .east).on = false ∧ ((s.loopHalf .west 1 1 0).halfPower .east).on = false ∧ halfOf 0 = halfOf 0 := by decide +kernel

/-- The east half on a reference, with input B valid or not. -/
def clocked (st : Nat) (b : Bool) : State := live.modHalf .east (fun p => { p with refState := st, refA := true, refB := b })
theorem witness_References : ((clocked 1 true).halfPower .east).refState = 1 ∧ ((clocked 1 true).halfPower .east).refB = true ∧ ((clocked 1 false).halfPower .east).refState = 1 ∧
    ((clocked 1 false).halfPower .east).refB = false ∧ ((clocked 3 false).halfPower .east).refState = 3 := by decide +kernel
/-- The served panel with the reference inputs of the east half. -/
def refs (b : Bool) : State := served.modHalf .east (fun p => { p with refA := true, refB := b })
theorem refs_admitted (b : Bool) : Admitted (refs b) req sess := by unfold Admitted; exact ⟨rfl, rfl, by decide, rfl, rfl, rfl, by decide, rfl⟩
theorem witness_References_select : Granted (refs false) req sess (oref 0x8051 0 Half.east.code) [1] ∧ Granted (refs true) req sess (oref 0x8051 0 Half.east.code) [1] ∧ (1#8).toNat ≤ 1 ∧
    ((refs false).halfPower .east).refOk ((1 : Byte) == 1) = false ∧ ((refs true).halfPower .east).refOk ((1 : Byte) == 1) = true ∧ (refs true).bothUp = true :=
  ⟨granted (refs_admitted _) (by decide +kernel), granted (refs_admitted _) (by decide +kernel), by decide +kernel⟩
theorem witness_References_inputs : hasInput 7 0 = true ∧ hasInput 0 2 = true ∧ hasInput 0 0 = false ∧ (live.comb 0).pw.clkSel.toNat ≠ 2 ∧ bit (live.comb 0).pw.clkLost (live.comb 0).pw.clkSel.toNat = false ∧
    [fld (0x22200#64) 10 8, fld (0x22200#64) 14 12, fld (0x22200#64) 18 16].all (hasInput 0) = true ∧ [fld (0#64) 10 8, fld (0#64) 14 12, fld (0#64) 18 16].all (hasInput 0) = false := by decide +kernel
theorem witness_References_time : Granted served req sess (oref 0x8052 0 Half.west.code) (toLe 8 (0xFFFFFFFFFFFFFFFF#64).toNat) := granted admitted (by decide +kernel)

/-! ### Firmware, starts, errors, the lead -/

/-- The loader of comb 0 in a state, with a length of one line. -/
def armed (st : Nat) : State := live.modLoader 0 (fun l => { l with state := st, cfg := 0x2000 })
/-- A block of one line at line 0, from a keeper. -/
def block : DataPkt := mkData 0x15 (live.eid 0 0xB9) (live.eid 0xF1 15) 0xFF 0 0 1 (List.replicate 64 0)
theorem witness_Loader : (∀ st ∈ [0, 1, 2, 3, 4, 5], ((armed st).comb 0).loader.state = st) ∧ block.dst = live.eid 0 0xB9 ∧ (block.lenM1.toNat + 1) % 4 = 0 ∧ (block.lenM1.toNat + 1) / 4 = 1 ∧
    live.fromKeeper block.src = true ∧ block.addr.toNat < 2 ^ 24 := by decide +kernel
theorem witness_Loader_admit : admitData (live.epochOf 0 0xB9) block = .ok ∧ block.type = 0x15 ∧
    block.addr.toNat + 1 ≤ ((armed 1).comb 0).loader.len := by decide +kernel
theorem witness_Start_cold : let s := (((live.modHalf .west (fun p => { p with on := true, stop := 0 })).modHalf .east (fun p => { p with on := true, stop := 0 })).setKeeper .west
      { live.keeper .west with health := 2 }).setKeeper .east { live.keeper .east with health := 2 }
    (s.halfPower .west).on = true ∧ (s.halfPower .west).stop ≠ 5 ∧ (s.keeper .west).health = 2 ∧ (s.halfPower .east).on = true ∧ (s.halfPower .east).stop ≠ 5 ∧ (s.keeper .east).health = 2 := by
  decide +kernel
/-- The served panel in another PANEL_STATE. -/
def stated (n : Nat) : State := { served with boot := { served.boot with state := n } }
theorem witness_Start_warm : served.boot.state = 6 ∧ Granted served req sess (oref 0x2003 0 0) [1] := ⟨rfl, granted admitted (by decide +kernel)⟩
theorem witness_Start_warmBusy : (stated 8).boot.state ≠ 6 ∧ Granted (stated 8) req sess (oref 0x2003 0 0) [1] := by
  have a : Admitted (stated 8) req sess := by unfold Admitted; exact ⟨rfl, rfl, by decide, rfl, rfl, rfl, by decide, rfl⟩
  exact ⟨by decide, granted a (by decide +kernel)⟩
theorem witness_Dumps : (served.keeper served.lead).health = 0 ∧ Granted served req sess (oref 0x9033 0 0) [1] ∧ Granted served req sess (oref 0x9033 0 0) [2] :=
  ⟨rfl, granted admitted (by decide +kernel), granted admitted (by decide +kernel)⟩

/-- An error record of comb 0. -/
def err0 : ErrRec := mkErr 0x0101 0 1 0 0 0 0 0
/-- Comb 223 with a number of records queued, one on its way, and an overflow record due. -/
def queued (n : Nat) : State :=
  { (served.modComb 223 (fun k => { k with erq := List.replicate n err0, erqPending := true })) with net := { served.net with err := [{ site := 223, rec_ := err0 }] } }
theorem witness_Errors : (queued 62).errWaits 223 err0 = true ∧ ((queued 62).comb 223).erq.length < 63 ∧ 63 ≤ ((queued 63).comb 223).erq.length ∧ ((queued 63).comb 223).erqPending = true ∧
    ((queued 63).comb 223).erq.length < 64 ∧ ((queued 1).comb 223).erq = err0 :: [] ∧ (queued 1).erqTarget 223 = (queued 1).lead ∧ ((queued 1).keeper (queued 1).lead).health = 0 := by decide +kernel
/-- Frame 15 of comb 0 with its logic domain on, ready for its patrol; its site map as given. -/
def patrolled (map : Nat) : State :=
  ((live.setDom 0 (dLogic 15) { on := true, state := 3, reason := 0 }).modComb 0 (fun k => { k with siteMap := Tbl.put 0 k.siteMap 15 (BitVec.ofNat 64 map) })).modGuard 0 15 (fun g =>
    { g with testPos := 15, mode := 0 })
theorem witness_Patrol_swap : let s := patrolled 0x0000BA9876543210; let w := (s.comb 0).mapWord 15
    s.patrolFree 0 15 = true ∧ sparePos w < 12 ∧ (sweepNext w (sparePos w) ((s.comb 0).guard 15).dir).isSome = true ∧ (sitePhys 15 (sparePos w)).isSome = true ∧ (sitePhys 15 11).isSome = true ∧
    (s.cell ⟨0, 190⟩).clk.changing = false := by decide +kernel
theorem witness_Patrol_done : let s := (patrolled 0).modGuard 0 15 (fun g => { g with testPos := 11, parked := none })
    ((s.comb 0).guard 15).testPos ≠ 0xF ∧ ((s.comb 0).guard 15).parked = none ∧ sitePhys 15 ((s.comb 0).guard 15).testPos.toNat = some 191 ∧ 8 ≤ (8 : Fin 17).val := by decide +kernel
theorem witness_Patrol_parked : let s := (patrolled 0x0000FA9876543210).modStore (parkStore 0) (fun x => { x with stb := 3 })
    sitePhys 15 (10 : Fin 12).val = some 190 ∧ (slotAt ((s.comb 0).mapWord 15) (10 : Fin 12).val).isSome = true ∧ s.patrolFree 0 15 = true ∧ 12 ≤ sparePos ((s.comb 0).mapWord 15) ∧
    (s.cell ⟨0, 190⟩).clk.changing = false ∧ (s.store (parkStore 0)).stb = 3 := by decide +kernel
theorem witness_Patrol_overdue : ∀ p : Phys, (live.comb 0).pw.overdue p.val = false := by decide +kernel
theorem witness_Lead : (served.keeper .west).health = 0 ∧ (served.keeper served.lead.other).health = 0 ∧ Granted served req sess (oref 0x9041 0 0) [1] :=
  ⟨rfl, rfl, granted admitted (by decide +kernel)⟩
/-- The served panel with the other keeper in rescue. -/
def alone : State := served.setKeeper served.lead.other { served.keeper served.lead.other with health := 2 }
theorem alone_admitted : Admitted alone req sess := by unfold Admitted; exact ⟨rfl, rfl, by decide, rfl, rfl, rfl, by decide, rfl⟩
theorem witness_Lead_busy : (alone.keeper alone.lead.other).health ≠ 0 ∧ Granted alone req sess (oref 0x9041 0 0) [1] := ⟨by decide +kernel, granted alone_admitted (by decide +kernel)⟩
theorem witness_Fence_ctrl : ∀ op ∈ [(1 : Byte), 2], let d := [op, 4, 0, 0, 111, 0, 0, 0]
    Granted served req sess (oref 0x9011 0 0) d ∧ fieldAt d 2 2 = 0 ∧ domainExists (fieldAt d 1 1) (fieldAt d 4 4) = true ∧ served.isFenced (fieldAt d 1 1) (fieldAt d 4 4) = false ∧
    fieldAt d 0 1 = op.toNat := by
  intro op h
  rcases List.mem_cons.1 h with rfl | h
  · exact ⟨granted admitted (by decide +kernel), by decide +kernel⟩
  rcases List.mem_cons.1 h with rfl | h
  · exact ⟨granted admitted (by decide +kernel), by decide +kernel⟩
  · cases h

/-! ### The management plane -/

/-- The served panel with 31 sessions or 32, one of them provisional. -/
def hosts (n : Nat) : State := { served with mgmt := { served.mgmt with sessions := List.replicate n { sess with id := 9, provisional := true } ++ [sess] } }
theorem witness_Mgmt_hello : served.serves = true ∧ served.mgmtSession 0 = none ∧ (1 : Byte) ≤ 1 ∧ (1 : Byte) < 2 := by decide +kernel
theorem witness_Mgmt_open : (1#8).toNat ≤ 3 ∧ (3#8).toNat ≤ 3 ∧ 1 ≤ (1#8).toNat ∧ (hosts 30).mgmt.sessions.length < 32 ∧ 32 ≤ (hosts 31).mgmt.sessions.length ∧ (hosts 31).serves = true := by
  decide +kernel
theorem witness_Mgmt_auth : let m := { sess with id := 9, provisional := true }
    (hosts 1).mgmtSession 9 = some m ∧ m.provisional = true ∧ (hosts 1).proofOk m [] (.eth true) = false ∧ fieldAt (List.replicate 132 0) 32 1 / 64 ≠ 3 ∧ (hosts 1).mgmtSession 7 = some sess ∧
    sess.provisional = false := ⟨by decide +kernel, rfl, rfl, by decide +kernel, by decide +kernel, rfl⟩
theorem witness_Mgmt_admitted : Admitted served req sess := admitted
/-- The served panel with an IPv4 address at the east management port, and frames for it. -/
def mgmtPort : State := served.setObj (objKey 0x1016 0 1) [1, 0, 0, 10]
def mgmtUdp : List Byte := ipFrame (mgmtPort.mgmtStation .east) [] false [10, 0, 0, 9] [10, 0, 0, 1] 17 64 0 (toBe 2 4000 ++ toBe 2 29450 ++ toBe 2 8 ++ [0, 0])
theorem witness_Mgmt_frames : (served.keeper .east).health = 0 ∧ (mgmtPort.keeper .east).health = 0 ∧ readFrame (served.mgmtStation .east) [] = .other ∧
    readFrame (mgmtPort.mgmtStation .east) arpBytes = .arp [0, 0, 0, 0, 0, 0] [10, 0, 0, 9] [10, 0, 0, 1] ∧
    readFrame (mgmtPort.mgmtStation .east) mgmtUdp = .udp (fitTo 0 6 (mgmtPort.mgmtStation .east).mac) { dg [] with dst := { v6 := false, addr := [10, 0, 0, 1], udp := 29450 } } :=
  ⟨rfl, rfl, rfl, by rfl, by rfl⟩
theorem witness_Can : let id : BitVec 11 := BitVec.ofNat 11 (0x400 + served.canNode * 8 + 7)
    (served.keeper .east).health = 0 ∧ (served.can .east 1).state ≠ 3 ∧ bit id 10 = true ∧ bit id 9 = false ∧ fld id 8 3 = served.canNode ∧ canLenOk false [0x80#8].length = true ∧
    [0x80#8] ≠ [] ∧ fld (nth 0 [0x80#8] 0) 7 0 = 0x80 := by decide +kernel
theorem witness_Can_busOff : ((served.modCan .east 1 (fun b => { b with state := 3 })).can .east 1).state = 3 := by decide +kernel
theorem witness_Keys : Granted served req sess (oref 0xA030 0 7) (List.replicate 32 1) ∧ Granted served req sess (oref 0xA031 0 7) (List.replicate 32 1) ∧
    Granted served req sess (oref 0xA040 0 0) (List.replicate 32 0) := ⟨granted admitted (by decide +kernel), granted admitted (by decide +kernel), granted admitted (by decide +kernel)⟩
/-- The served panel with a security version floor of 1 for KIND 3. -/
def floored : State := served.setObj (objKey 0xA020 0 3) [1, 0]
theorem floored_admitted : Admitted floored req sess := by unfold Admitted; exact ⟨rfl, rfl, by decide, rfl, rfl, rfl, by decide, rfl⟩
theorem witness_Floors : Granted floored req sess (oref 0xA020 0 3) (toLe 2 (0#16).toNat) ∧ Granted floored req sess (oref 0xA020 0 3) (toLe 2 (1#16).toNat) ∧
    (0#16).toNat < floored.svnFloor 3 ∧ (1#16).toNat = floored.svnFloor 3 ∧ floored.bothUp = true ∧ (floored.runningSvns 3).any (fun x => decide ((1#16).toNat > x)) = false :=
  ⟨granted floored_admitted (by decide +kernel), granted floored_admitted (by decide +kernel), by decide +kernel⟩
theorem witness_Reads : let u := served.admitted req sess
    (match u.objCheck 3 false (oref 0x1011 0 0) with | .ok row => decide (row.access ≠ .wo) | .error _ => false) = true ∧
    (match u.objCheck 3 false (oref 0x0FFF 0 0) with | .ok _ => false | .error _ => true) = true ∧ rowObjs.contains (oref 0x1011 0 0).idx.toNat = false := by decide +kernel
theorem witness_Commits : Granted served req sess (oref 0x2023 0 0) [0x41] ∧ (0x41#8).toNat ≤ 0x41 ∧ Granted served req sess (oref 0x2020 0 0) [1] ∧ Granted served req sess (oref 0x2020 0 0) [2] ∧
    served.boot.state = 6 ∧ served.mgmt.epoch.committing = false ∧ served.swarmHeld = false :=
  ⟨granted admitted (by decide +kernel), by decide, granted admitted (by decide +kernel), granted admitted (by decide +kernel), rfl, rfl, by decide +kernel⟩
theorem witness_Images : ∀ st ∈ [csReady, csDraining], Granted (colSt st) req sess (oref 0x5051 63 0) (List.replicate 16 0) ∧ imageRefOk true (List.replicate 16 0) = true ∧
    csReady ≤ ((colSt st).colony 63).state ∧ ((colSt st).colony 63).state ≤ csDraining ∧ ((colSt st).work 63).loading = false ∧ ((colSt st).work 63).updateDrain = false ∧
    (colSt st).sourceValid (List.replicate 16 0) = false := by
  intro st h
  rcases List.mem_cons.1 h with rfl | h
  · exact ⟨granted (colSt_admitted _) (by decide +kernel), by decide +kernel⟩
  rcases List.mem_cons.1 h with rfl | h
  · exact ⟨granted (colSt_admitted _) (by decide +kernel), by decide +kernel⟩
  · cases h
theorem witness_Restarts : Granted served req sess (oref 0x1023 0 Half.west.code) [1] ∧ Granted served req sess (oref 0x1023 0 Half.east.code) [1] ∧ served.lead.other ≠ served.lead ∧
    (served.keeper served.lead.other.other).health = 0 ∧ served.mgmt.rollState ≠ 1 ∧ Granted served req sess (oref 0x1024 0 0) [1] :=
  ⟨granted admitted (by decide +kernel), granted admitted (by decide +kernel), by decide +kernel, by decide +kernel, by decide +kernel, granted admitted (by decide +kernel)⟩
theorem witness_Counters : ∃ i : Site, let s := live.modRouter i (fun r => { r with tablesUp := true })
    (s.comb i).serves = true ∧ s.storeSteward (storeOf i) ≠ i.val := ⟨1, by decide +kernel⟩
theorem witness_Memories : State.reset.mgmt.sessions = [] ∧ (Ram.write (live.ram a0.core) 0 [1]).wf = true ∧ ((live.store 0).write 0 [1]).wf = true := by decide +kernel
theorem witness_Frame_values : (match exec (.add a0 ⟨3, 1, 2, 0⟩) live with | .next _ => true | _ => false) = true ∧ valuesWrittenBy (.add a0 ⟨3, 1, 2, 0⟩) = some (a0, some 3, none) := by decide +kernel
theorem witness_Frame_stores : (match exec (.sw a0 ⟨3, 1, 0⟩) live with | .next _ => true | _ => false) = true ∧ (wordsStoredBy live (.sw a0 ⟨3, 1, 0⟩)).isSome = true := by decide +kernel
theorem witness_Worker_words : workerWord (.add a0 ⟨31, 31, 31, 127⟩) ≠ none ∧ (workerWord (.wgoBarrier a0 ⟨3, 1, 2, 0⟩)).isSome = true ∧ bits (0#64) 26 4 = 0 := by decide +kernel

end Sys2Proof.Tests
end

namespace Sys2Proof.Laws

open Sys2Proof.Machine

/-! ### TSK_CELL_BIND: the fields of its value (R18, R62) -/

/-- A frame of the site map holds eleven slots (R18). -/
theorem slotAt_lt {w : W64} {pos k : Nat} (h : slotAt w pos = some k) : k < 11 :=
  List.mem_range.1 (List.mem_of_find?_eq_some h)

/-- A logical cell, or the 0xFF of a site that holds none, fits the LOGICAL field. -/
theorem logicalOf_lt (k : Comb) (p : Phys) : k.logicalOf p < 256 := by
  unfold Comb.logicalOf
  split
  · next slot h =>
    have hslot := slotAt_lt h
    have hframe : frameOf p < 16 := by have := p.isLt; unfold frameOf; omega
    omega
  · omega

/-- COLONY of a value of TSK_CELL_BIND. -/
theorem fld_bind_colony {col l : Nat} (hc : col < 256) (hl : l < 256) : fld (BitVec.ofNat 64 (col * 65536 + l)) 23 16 = col := by
  simp only [fld, BitVec.toNat_ofNat]; omega

/-- LOGICAL of a value of TSK_CELL_BIND. -/
theorem fld_bind_logical (col : Nat) {l : Nat} (hl : l < 256) : fld (BitVec.ofNat 64 (col * 65536 + l)) 7 0 = l := by
  simp only [fld, BitVec.toNat_ofNat]; omega

/-- A stopped cell takes a colony that exists, or the unbound one, beside its own LOGICAL. -/
theorem bindWrite_stopped {s : State} {c : CellAt} {col : Byte} (hcol : col.toNat < 64 ∨ col = 0xFF) (hstop : (s.cell c).stopped = true) :
    s.bindWrite c (BitVec.ofNat 64 (col.toNat * 65536 + (s.comb c.site).logicalOf c.phys)) =
      s.modCell c (fun x => { x with colony := col }) := by
  have hlegal : ¬ (col.toNat ≥ 64 ∧ col.toNat ≠ 0xFF) := by
    rintro ⟨hge, hne⟩
    exact hcol.elim (by omega) (fun h => hne (by rw [h]; rfl))
  unfold State.bindWrite
  simp only [fld_bind_colony col.isLt (logicalOf_lt _ _), fld_bind_logical _ (logicalOf_lt _ _)]
  rw [if_neg (by simpa using hlegal), if_neg (by simp [hstop]), BitVec.ofNat_toNat, BitVec.setWidth_eq]

/-! ### MXE_ACC_DATA (R169) -/

/-- A write of the accumulator window of a quiesced cell. -/
theorem accWrite_quiesced {s : State} {c : CellAt} (hq : (s.cell c).quiesced = true) (v : W64) :
    s.accWrite c v = s.modCell c (fun x => ({ x with acc := x.acc.write (2 * x.accPair.toNat) [loW v, hiW v] }).accStep) := by
  unfold State.accWrite
  rw [if_neg (by simp [hq])]

/-- A read of a pair of correctable words of a quiesced cell moves the pair alone. -/
theorem accRead_quiesced {s : State} {c : CellAt} (hq : (s.cell c).quiesced = true)
    (hue : (s.cell c).acc.firstUe (2 * (s.cell c).accPair.toNat) 2 = none) : (s.accRead c).2 = s.modCell c Cell.accStep := by
  unfold State.accRead
  simp [hq, hue]

/-! ### What a read's counts leave of a cell (R48, R63) -/

/-- A record sent leaves every cell. -/
@[simp] theorem cell_sendErr (s : State) (n : Nat) (r : ErrRec) (c : CellAt) : (s.sendErr n r).cell c = s.cell c := rfl

/-- Setting an error bit of a cell changes TSK_CELL_ERR of it alone. -/
theorem cell_setCellErr (s : State) (c : CellAt) (b : Nat) : ∃ e, (s.setCellErr c b).cell c = { s.cell c with err := e } := by
  unfold State.setCellErr
  split
  · exact ⟨_, rfl⟩
  · exact ⟨_, (cell_sendErr _ _ _ c).trans (cell_modCell s c _)⟩

/-- The counts that a read keeps: CMEM_ERR and TSK_CELL_ERR of the cell read from. -/
theorem cell_noteRead (s : State) (c : CellAt) (ces : List Nat) (ue : Option Nat) :
    ∃ n m a e, (s.noteRead c ces ue).cell c = { s.cell c with ceCount := n, ueCount := m, lastAddr := a, err := e } := by
  unfold State.noteRead
  cases ue with
  | none => cases ces.getLast? with
    | none => exact ⟨_, _, _, _, rfl⟩
    | some a => exact ⟨_, _, _, _, cell_modCell s c _⟩
  | some u =>
    have herr (t : State) (b : Nat) := cell_setCellErr t c b
    cases ces.getLast? with
    | none =>
      obtain ⟨e, he⟩ := herr (s.modCell c _) errCmemUe
      exact ⟨_, _, _, _, by rw [he, cell_modCell]⟩
    | some a =>
      obtain ⟨e, he⟩ := herr ((s.modCell c _).modCell c _) errCmemUe
      exact ⟨_, _, _, _, by rw [he, cell_modCell, cell_modCell]⟩

@[simp] theorem cmem_cell_noteRead (s : State) (c : CellAt) (ces : List Nat) (ue : Option Nat) :
    ((s.noteRead c ces ue).cell c).cmem = (s.cell c).cmem := by
  obtain ⟨_, _, _, _, h⟩ := cell_noteRead s c ces ue
  rw [h]

@[simp] theorem scrubRow_cell_noteRead (s : State) (c : CellAt) (ces : List Nat) (ue : Option Nat) :
    ((s.noteRead c ces ue).cell c).scrubRow = (s.cell c).scrubRow := by
  obtain ⟨_, _, _, _, h⟩ := cell_noteRead s c ces ue
  rw [h]

@[simp] theorem passes_cell_noteRead (s : State) (c : CellAt) (ces : List Nat) (ue : Option Nat) :
    ((s.noteRead c ces ue).cell c).passes = (s.cell c).passes := by
  obtain ⟨_, _, _, _, h⟩ := cell_noteRead s c ces ue
  rw [h]

/-! ### Registers of a steward's or keeper's core (R61, R121) -/

/-- A register's offset is a multiple of eight: its low bits are ignored (R61). -/
theorem off8_ofNat {n : Nat} (hlt : n < 65536) (hal : n % 8 = 0) : off8 (BitVec.ofNat 16 n) = n := by
  simp only [off8, BitVec.toNat_ofNat]; omega

/-- The task and the register that an offset in the task block names. -/
theorem taskOff_task (t : TaskId) {o : Nat} (hlt : o < 0x200) (hal : o % 8 = 0) : taskOff (0x1000 + 0x200 * t.val + o) = some (t, o) := by
  have ht := t.isLt
  unfold taskOff
  rw [dif_pos (by omega), Option.some.injEq, Prod.mk.injEq, Fin.ext_iff]
  constructor
  · show (0x1000 + 0x200 * t.val + o - 0x1000) / 0x200 = t.val
    omega
  · omega

/-- TSK_PC of a stopped task takes what is written. -/
theorem taskRegWrite_pc_stopped {s : State} {a : At} (hst : (s.task a).st = .stopped) (v : W64) :
    s.taskRegWrite a 0x010 v = s.modTask a (fun t => { t with pc := pcWrap a.core v.toNat }) := by
  simp [State.taskRegWrite, State.staticTask, State.taskStopped, hst]

/-- A steward's or keeper's core takes every register access. -/
theorem regOpen_not_cell {i : CoreId} (hi : isCell i = false) (s : State) (write : Bool) (off : Nat) (v : W64) :
    s.regOpen (.core i) write off v = true := by
  cases i with
  | cell => cases hi
  | steward => rfl
  | keeper => rfl

/-- A steward's or keeper's core does not sleep. -/
theorem regWake_not_cell {i : CoreId} (hi : isCell i = false) (s : State) : s.regWake (.core i) = s := by
  cases i with
  | cell => cases hi
  | steward => rfl
  | keeper => rfl

/-- An offset below the steward's own blocks is a register of the core. -/
theorem regWrite_not_cell {i : CoreId} (hi : isCell i = false) (s : State) {off : Nat} (hoff : off < 0x6000) (v : W64) (who : Option Half) :
    s.regWrite (.core i) off v who = s.coreRegWrite i off v := by
  cases i with
  | cell => cases hi
  | steward => exact if_pos hoff
  | keeper => rfl

/-- A write of TSK_PC of a stopped task of a steward's or keeper's core. -/
theorem regWrite_pc_not_cell {s : State} {a : At} (hst : (s.task a).st = .stopped) (hi : isCell a.core = false) (v : W64) (who : Option Half) :
    s.regWrite (.core a.core) (0x1000 + 0x200 * a.task.val + 0x10) v who = s.modTask a (fun t => { t with pc := BitVec.ofNat 24 v.toNat }) := by
  have ht := a.task.isLt
  rw [regWrite_not_cell hi s (by omega), State.coreRegWrite, taskOff_task a.task (by omega) (by omega)]
  simpa [pcWrap, hi] using taskRegWrite_pc_stopped hst v

/-! ### The commands -/

/-- A cell out of reset takes the commands on its own registers. -/
theorem cellUp_of_not_inReset {s : State} {c : CellAt} (h : (s.cell c).inReset = false) : s.cellUp c = true := by
  simp [State.cellUp, h]

/-! What each command does to a cell out of reset. -/

theorem exec_cellBindWrite_up {s : State} {c : CellAt} (h : (s.cell c).inReset = false) (v : W64) :
    exec (.cellBindWrite c v) s = .next (s.bindWrite c v) :=
  congrArg Host.Outcome.next (if_pos (cellUp_of_not_inReset h))

theorem exec_accDataAccess_write_up {s : State} {c : CellAt} (h : (s.cell c).inReset = false) (v : W64) :
    exec (.accDataAccess c (some v)) s = .next (s.accWrite c v) :=
  congrArg Host.Outcome.next (if_pos (cellUp_of_not_inReset h))

theorem exec_accDataAccess_read_up {s : State} {c : CellAt} (h : (s.cell c).inReset = false) :
    exec (.accDataAccess c none) s = .next (s.accRead c).2 :=
  congrArg Host.Outcome.next (if_pos (cellUp_of_not_inReset h))

theorem exec_cmemErrRead_up {s : State} {c : CellAt} (h : (s.cell c).inReset = false) :
    exec (.cmemErrRead c) s = .next (s.cmemErrRead c).2 :=
  congrArg Host.Outcome.next (if_pos (cellUp_of_not_inReset h))

theorem exec_cmemArbStatRead_up {s : State} {c : CellAt} (h : (s.cell c).inReset = false) :
    exec (.cmemArbStatRead c) s = .next (s.arbRead c).2 :=
  congrArg Host.Outcome.next (if_pos (cellUp_of_not_inReset h))

theorem exec_tskClkMonRead_up {s : State} {c : CellAt} (h : (s.cell c).inReset = false) :
    exec (.tskClkMonRead c) s = .next (s.clkMonRead c).2 :=
  congrArg Host.Outcome.next (if_pos (cellUp_of_not_inReset h))

/-- The scrubber of a running cell moves to the next row, counts a pass after the last, and changes no word (R48, R49). -/
theorem exec_cellScrubTick_running {s : State} {c : CellAt} (hreset : (s.cell c).inReset = false) (hq : (s.cell c).quiesced = false)
    (hsite : (s.comb c.site).siteSt c.phys = 0) :
    Answers (.cellScrubTick c) s (fun t =>
      (t.cell c).scrubRow = ((s.cell c).scrubRow + 1) % 448 ∧ (t.cell c).cmem.words = (s.cell c).cmem.words ∧
      (t.cell c).passes = (if (s.cell c).scrubRow = 447 then (s.cell c).passes + 1 else (s.cell c).passes)) := by
  have hrun : ¬ ((s.cell c).inReset ∨ (s.cell c).quiesced ∨ (s.comb c.site).siteSt c.phys ≠ 0) := by simp [hreset, hq, hsite]
  exact ⟨_, congrArg Host.Outcome.next (if_neg hrun), by simp⟩

/-- A register write that its block can take is made. -/
theorem exec_registerWrite_open {s : State} {w : RegWr} (h : s.regOpen w.unit true (off8 w.off) w.val = true) :
    exec (.registerWrite w) s =
      .next ((s.regWake w.unit).regWrite w.unit (off8 w.off) w.val (if w.keeper then some (unitHalf w.unit) else none)) :=
  congrArg Host.Outcome.next (if_pos h)

theorem exec_registerWrite_pc {s : State} {a : At} (hst : (s.task a).st = .stopped) (hi : isCell a.core = false) (v : W64) :
    exec (.registerWrite ⟨.core a.core, BitVec.ofNat 16 (0x1000 + 0x200 * a.task.val + 0x10), v, true⟩) s =
      .next (s.modTask a (fun t => { t with pc := BitVec.ofNat 24 v.toNat })) := by
  have ht := a.task.isLt
  have hoff : off8 (BitVec.ofNat 16 (0x1000 + 0x200 * a.task.val + 0x10)) = 0x1000 + 0x200 * a.task.val + 0x10 :=
    off8_ofNat (by omega) (by omega)
  rw [exec_registerWrite_open (regOpen_not_cell hi ..)]
  simp only [hoff, regWake_not_cell hi, regWrite_pc_not_cell hst hi]

/-- The safe point of a comb's blocks gives GRD_PERIOD the value that waits (R59, R493). -/
theorem exec_safePointApply_comb (s : State) (i : Site) :
    Answers (.safePointApply (.combBlk i)) s (fun t =>
      (t.comb i).guardPeriod = (s.comb i).guardLatch.getD (s.comb i).guardPeriod ∧ (t.comb i).guardLatch = none) :=
  ⟨_, rfl, by simp⟩

/-- Settles O18, by the rule of each command at a block that takes it; a safe point other than the comb's is the one update that its block
names. -/
theorem registerCommandsAct : Obligations.RegisterCommandsAct := by
  unfold Obligations.RegisterCommandsAct
  refine ⟨fun s c hreset => ⟨?bind, ?acc, ?cmemErr, ?arb, ?clkMon, ?scrub⟩, fun s w hopen => ?write, fun s a v hst hi => ?pc,
    fun s i p k st => ?safe⟩
  case bind =>
    intro col hcol hstop
    rw [exec_cellBindWrite_up hreset, bindWrite_stopped hcol hstop]
  case acc =>
    refine fun hq => ⟨fun v => ?_, fun hue => ?_⟩
    · rw [exec_accDataAccess_write_up hreset, accWrite_quiesced hq]; rfl
    · rw [exec_accDataAccess_read_up hreset, accRead_quiesced hq hue]
  case cmemErr => exact exec_cmemErrRead_up hreset
  case arb => exact exec_cmemArbStatRead_up hreset
  case clkMon => exact exec_tskClkMonRead_up hreset
  case scrub => exact fun hq hsite => exec_cellScrubTick_running hreset hq hsite
  case write => exact exec_registerWrite_open hopen
  case pc => exact exec_registerWrite_pc hst hi v
  case safe => exact ⟨rfl, rfl, rfl, rfl, rfl, exec_safePointApply_comb s i⟩

end Sys2Proof.Laws

namespace Sys2Proof.Laws

open Sys2Proof.Machine

/-! ### No command changes birth map, identity or queue (R33)

Laws/Fixed*.lean say this of every operation of the panel; here it is said of the commands, which are made of those operations. A command
that only composes operations needs no more than their laws; one whose effect branches on what the panel holds is split along its
branches. -/

/-- An outcome that goes on has the birth map, the identities and the queue of `s`. -/
def KeepsFixed (s : State) (o : Host.Outcome State Fault Refusal) : Prop := ∀ t, o = .next t → t.fixed = s.fixed

namespace KeepsFixed

variable {s t : State}

theorem next (h : t.fixed = s.fixed) : KeepsFixed s (.next t) := by rintro _ ⟨⟩; exact h

/-- A command that changes nothing under a condition. -/
theorem nextUnless {c : Prop} [Decidable c] (h : t.fixed = s.fixed) : KeepsFixed s (.next (if c then s else t)) := by
  refine next ?_
  split
  · rfl
  · exact h

theorem fault (f : Fault) : KeepsFixed s (.fault f) := fun _ h => by cases h

theorem refused (r : Refusal) : KeepsFixed s (.refused r) := fun _ h => by cases h

theorem ite {c : Prop} [Decidable c] {a b : Host.Outcome State Fault Refusal} (ha : KeepsFixed s a) (hb : KeepsFixed s b) :
    KeepsFixed s (if c then a else b) := by split <;> assumption

theorem onLink {l : LinkAt} (h : t.fixed = s.fixed) : KeepsFixed s (onLink l t) := ite (next h) (fault _)

theorem linkCommand (s : State) (v : Nat) (l : LinkSel) (r : Option Req) : KeepsFixed s (s.linkCommand v l r) := by
  refine ite (next ?_) (fault _)
  cases r <;> simp

end KeepsFixed

/-! ### The worker and the tile units -/

theorem keepsFixed_waitw (s : State) (a : At) (f : OpRRf) : KeepsFixed s (exec (.waitw a f) s) := by
  refine .next (fx_State_issue _ _ _ _ _ fun y => ?_)
  dsimp only
  split
  · simp
  · split <;> next h => simp [fe_State_memRead h]

theorem keepsFixed_undefinedDescriptor (s : State) (i : CoreId) (u : BitVec 3) : KeepsFixed s (exec (.undefinedDescriptor i u) s) := by
  refine .next ?_
  dsimp only
  split
  · split
    · split <;> simp
    · rfl
  · (repeat' split) <;> simp

theorem keepsFixed_moverDescriptorStart (s : State) (m : MovAt) : KeepsFixed s (exec (.moverDescriptorStart m) s) := by
  refine .next ?_
  split
  · rfl
  · split
    · split
      · simp
      · split
        · split <;> next h => simp [fe_State_memRead h]
        · simp
    · rfl

theorem keepsFixed_nput (s : State) (m : MovAt) : KeepsFixed s (exec (.nput m) s) := by
  refine .next (fx_State_moverRow _ _ _ _ fun d y => ?_)
  split
  · split
    · simp
    · split
      · simp
      · split <;> next h => simp [fe_State_memRead h]
  · simp

theorem keepsFixed_smpFetch (s : State) (c : CellAt) (p : DataPkt) : KeepsFixed s (exec (.smpFetch c p) s) := by
  refine .nextUnless (fx_State_atCell _ _ _ _ fun y => ?_)
  dsimp only
  split
  · simp
  · split
    · simp
    · split <;> next h => simp [fe_State_wideRead h]

theorem keepsFixed_smpResult (s : State) (c : CellAt) (p : DataPkt) : KeepsFixed s (exec (.smpResult c p) s) := by
  refine .nextUnless ?_
  split
  · simp
  · exact fx_State_atCell _ _ _ _ fun y => by split <;> simp

/-! ### Packets -/

theorem keepsFixed_readReqPacket (s : State) (u : RegUnit) (p : DataPkt) : KeepsFixed s (exec (.readReqPacket u p) s) := by
  refine .nextUnless (fx_State_rxUnit _ _ _ _ _ _ _ fun i a y => ?_)
  split <;> next h => simp [fe_State_memRead h]

theorem keepsFixed_atomicPacket (s : State) (c : CellAt) (p : DataPkt) : KeepsFixed s (exec (.atomicPacket c p) s) := by
  refine .nextUnless ?_
  split
  · exact fx_State_atCell _ _ _ _ fun _ => fx_State_nackData ..
  · refine fx_State_rxCell _ _ _ _ _ _ _ fun a y => ?_
    split <;> next h => simp [fe_State_memRead h]

theorem keepsFixed_ackPacket (s : State) (u : RegUnit) (p : CtlPkt) : KeepsFixed s (exec (.ackPacket u p) s) := by
  refine .nextUnless ?_
  cases u with
  | core i => exact fx_State_coreAck ..
  | store st => exact fx_State_ctlAtStore _ _ _ _ fun _ => fx_State_kvAck ..
  | port i pr => exact fx_State_ctlAtPort _ _ _ _ _ fun _ => fx_State_portAck ..
  | sampler i k => rfl

theorem keepsFixed_nackPacket (s : State) (u : RegUnit) (p : CtlPkt) : KeepsFixed s (exec (.nackPacket u p) s) := by
  refine .nextUnless ?_
  cases u with
  | core i => exact fx_State_coreNack ..
  | store st => exact fx_State_ctlAtStore _ _ _ _ fun _ => fx_State_kvNack ..
  | port i pr => exact fx_State_ctlAtPort _ _ _ _ _ fun _ => fx_State_portNack ..
  | sampler i k => rfl

theorem keepsFixed_storeReadReq (s : State) (st : StoreId) (p : DataPkt) : KeepsFixed s (exec (.storeReadReq st p) s) := by
  refine .nextUnless (fx_State_atStore _ _ _ _ fun e y => ?_)
  split
  · simp
  · split <;> next h => simp [fe_State_storeRead h]

theorem keepsFixed_storeAtomic (s : State) (st : StoreId) (p : DataPkt) : KeepsFixed s (exec (.storeAtomic st p) s) := by
  refine .nextUnless (fx_State_atStore _ _ _ _ fun e y => ?_)
  split
  · simp
  · split
    · simp
    · split <;> next h => simp [fe_State_storeRead h]

theorem keepsFixed_gather (s : State) (st : StoreId) (p : DataPkt) : KeepsFixed s (exec (.gather st p) s) := by
  refine .nextUnless (fx_State_atStore _ _ _ _ fun e y => ?_)
  split
  · simp
  · split
    · simp
    · split <;> next h => simp [fe_State_gatherRead h]

theorem keepsFixed_digestDone (s : State) (st : StoreId) (k : Fin 2) : KeepsFixed s (exec (.digestDone st k) s) := by
  refine .nextUnless ?_
  split <;> next h => simp [fe_State_storeRead h]

theorem keepsFixed_ringDeliveryAck (s : State) (p : PortId) (k : CtlPkt) : KeepsFixed s (exec (.ringDeliveryAck p k) s) := by
  refine .nextUnless (fx_State_arriveCtl _ _ _ _ _ fun y => ?_)
  dsimp only
  (repeat' split) <;> simp

/-! ### The Waggle network and the links -/

theorem keepsFixed_waggleUpToken (s : State) (i : Site) (k : BitVec 3) (p : WagPkt) : KeepsFixed s (exec (.waggleUpToken i k p) s) := by
  refine .next ?_
  dsimp only
  split
  · next h => simp [fx_State_wagGood _ _ _ _ h]
  · simp

theorem keepsFixed_waggleDownToken (s : State) (i : Site) (p : WagPkt) : KeepsFixed s (exec (.waggleDownToken i p) s) := by
  refine .next ?_
  dsimp only
  split
  · next h => simp [fx_State_wagGood _ _ _ _ h]
  · (repeat' split) <;> simp

theorem keepsFixed_unitEpochSwap (s : State) (b : Block) : KeepsFixed s (exec (.unitEpochSwap b) s) := by
  refine .next ?_
  cases b with
  | storeBlk st => dsimp only; (repeat' split) <;> simp
  | _ => simp

theorem keepsFixed_linkFrameReceive (s : State) (l : LinkAt) (ch : Fin 16) (f : LinkFrame) :
    KeepsFixed s (exec (.linkFrameReceive l ch f) s) := by
  refine .onLink ?_
  split
  · rfl
  · split
    · cases l <;> simp
    · simp

theorem keepsFixed_waggleBlock (s : State) (l : LinkAt) (t0 t1 : W32) : KeepsFixed s (exec (.waggleBlock l t0 t1) s) := by
  refine .onLink ?_
  cases l <;> simp

/-! ### Power and the guard patrol -/

theorem keepsFixed_zoneFeedTrip (s : State) (z : StoreId) : KeepsFixed s (exec (.zoneFeedTrip z) s) := by
  refine .nextUnless ?_
  rw [fx_State_zoneStoreFence, fx_foldl _ _ _ fun y i => fx_State_sendErr .., fx_foldl _ _ _ fun y i => ?_, fx_State_modStore]
  exact fx_foldl _ _ _ fun y d => fx_State_domOff ..

theorem keepsFixed_frameLimiterTick (s : State) (i : Site) (f : Frame) (power : Nat) (reads : List (Fin 49 × RegRead)) :
    KeepsFixed s (exec (.frameLimiterTick i f power reads) s) :=
  .next ((fx_State_modPw ..).trans (fx_foldl _ _ _ fun _ _ => fx_State_modReg ..))

theorem keepsFixed_powerReport (s : State) (m : Meter) : KeepsFixed s (exec (.powerReport m) s) := by
  refine .next ?_
  simp only [fx_mk, fx_fold, fx_State_modHalf]
  rw [fx_foldl _ _ _ fun y c => fx_State_setConv .., fx_foldl _ _ _ fun y b => fx_State_setBlade ..]

theorem keepsFixed_heatFrameReturn (s : State) (i : Site) (f : Frame) (passed : BitVec 12) :
    KeepsFixed s (exec (.heatFrameReturn i f passed) s) := by
  refine .nextUnless ?_
  rw [fx_State_openFrame, fx_foldl _ _ _ fun y p => fx_State_sendErr ..]
  simp

theorem keepsFixed_parkedTest (s : State) (i : Site) (f : Frame) (q : Fin 12) : KeepsFixed s (exec (.parkedTest i f q) s) := by
  have image {α : Type} (l : List α) (n : Nat) (g : α → Store → Store) (y : State) :
      (l.foldl (fun y e => y.modStore n (g e)) y).fixed = y.fixed := fx_foldl _ _ _ fun y e => fx_State_modStore ..
  refine .next ?_
  split
  · split
    · rfl
    · simp [image]
  · rfl

/-! ### Management, colonies and voice -/

theorem keepsFixed_sessionAuth (s : State) (r : Req) (proof : List Byte) : KeepsFixed s (exec (.sessionAuth r proof) s) := by
  have boot (n : Nat) (v : List Byte) : (s.putStored n v fun s => s.supplyRec s.lead 0#64).2.fixed = s.fixed :=
    fx_State_putStored _ _ _ _ fun s => fx_State_supplyRec ..
  refine .nextUnless ?_
  split
  · simp
  · split <;> simp [boot]

theorem keepsFixed_loadComplete (s : State) (c : ColonyId) : KeepsFixed s (exec (.loadComplete c) s) := by
  have told (l : List Nat) : (l.foldl (fun y p => y.swarmMsg p 1 c.val 6 [7#32]) s).fixed = s.fixed :=
    fx_foldl _ _ _ fun y p => fx_State_swarmMsg ..
  exact .next (by simp [told])

theorem keepsFixed_swarmStepDone (s : State) (h : Half) (p : DataPkt) (img : Option (List Byte)) (delivered : Bool) :
    KeepsFixed s (exec (.swarmStepDone h p img delivered) s) := by
  refine .next (fx_State_swarmIn _ _ _ _ _ fun c y => ?_)
  dsimp only
  (repeat' split) <;> simp

theorem keepsFixed_controlDatagramBind (s : State) : KeepsFixed s (exec .controlDatagramBind s) := by
  refine .next (fx_State_ctlRequest _ _ _ fun n b y => ?_)
  dsimp only
  (repeat' split) <;> simp

/-- The write of SVC_MEDIA_MAP (R282), with the map that it writes as a variable: the kernel compares too deep over its bits. -/
theorem fx_mediaMapWrite (s : State) (r : Req) (c : ColonyId) (v w : W64) : (s.writeReq r (oref 0xB020 c.val 0) (toLe 8 v.toNat) (fun s =>
    if !mapOk w ∨ (w ≠ 0 ∧ uses4095 (s.layout c.val)) then (coRange, s)
    else if !s.colonyStatic c.val then (coBusy, s)
    else s.putStored (objKey 0xB020 c.val 0) (toLe 8 w.toNat) id)).fixed = s.fixed := by
  refine fx_State_writeReq _ _ _ _ _ fun y => ?_
  split
  · rfl
  · split
    · rfl
    · exact fx_State_putStored _ _ _ _ fun _ => rfl

/-! ### Every command -/

/-- The rule of every command: the laws of its operations, and a split along its branches where it has any. -/
theorem exec_keepsFixed (c : Instr) (s : State) : KeepsFixed s (exec c s) := by
  cases c with
  | waitw => exact keepsFixed_waitw _ _ _
  | undefinedDescriptor => exact keepsFixed_undefinedDescriptor _ _ _
  | smpFetch => exact keepsFixed_smpFetch _ _ _
  | smpResult => exact keepsFixed_smpResult _ _ _
  | nput => exact keepsFixed_nput _ _
  | moverDescriptorStart => exact keepsFixed_moverDescriptorStart _ _
  | readReqPacket => exact keepsFixed_readReqPacket _ _ _
  | atomicPacket => exact keepsFixed_atomicPacket _ _ _
  | ackPacket => exact keepsFixed_ackPacket _ _ _
  | nackPacket => exact keepsFixed_nackPacket _ _ _
  | waggleUpToken => exact keepsFixed_waggleUpToken _ _ _ _
  | waggleDownToken => exact keepsFixed_waggleDownToken _ _ _
  | unitEpochSwap => exact keepsFixed_unitEpochSwap _ _
  | linkFrameReceive => exact keepsFixed_linkFrameReceive _ _ _ _
  | waggleBlock => exact keepsFixed_waggleBlock _ _ _ _
  | swarmStepDone => exact keepsFixed_swarmStepDone _ _ _ _ _
  | storeReadReq => exact keepsFixed_storeReadReq _ _ _
  | storeAtomic => exact keepsFixed_storeAtomic _ _ _
  | gather => exact keepsFixed_gather _ _ _
  | digestDone => exact keepsFixed_digestDone _ _ _
  | loadComplete => exact keepsFixed_loadComplete _ _
  | ringDeliveryAck => exact keepsFixed_ringDeliveryAck _ _ _
  | controlDatagramBind => exact keepsFixed_controlDatagramBind _
  | zoneFeedTrip => exact keepsFixed_zoneFeedTrip _ _
  | frameLimiterTick => exact keepsFixed_frameLimiterTick _ _ _ _ _
  | heatFrameReturn => exact keepsFixed_heatFrameReturn _ _ _ _
  | powerReport => exact keepsFixed_powerReport _ _
  | parkedTest => exact keepsFixed_parkedTest _ _ _ _
  | sessionAuth => exact keepsFixed_sessionAuth _ _ _
  | prd | pwr => exact .ite (.refused _) (.next (fx_State_issuePrv _ _ _ _ _ fun _ => by simp))
  | crecv => exact .next (fx_State_issuePrv _ _ _ _ _ fun _ => by split <;> simp)
  | accZero => exact .next (fx_State_engineRow _ _ _ _ _ _ fun _ _ => by simp)
  | putimm | ratom => exact .next (fx_State_moverRow _ _ _ _ fun _ _ => by split <;> simp)
  | copy | sgather => exact .next (fx_State_moverRow _ _ _ _ fun _ _ => by split <;> next h => simp [fe_State_memRead h])
  | readRspPacket | atomicRspPacket | gatherRsp | shardDone =>
    exact .nextUnless (fx_State_atCore _ _ _ _ fun _ => by (repeat' split) <;> simp)
  | storeWritePacket | shardEnd => exact .nextUnless (fx_State_atStore _ _ _ _ fun _ _ => by split <;> simp)
  | smpData => exact .nextUnless (fx_State_arriveData _ _ _ _ _ fun _ => fx_State_modSmp ..)
  | fetchReq | egressRecord => exact .nextUnless (fx_State_arriveData _ _ _ _ _ fun _ => by (repeat' split) <;> simp)
  | census => exact .next (fx_State_writeReq _ _ _ _ _ fun _ => by (repeat' split) <;> simp)
  | attestNonce => exact .next (fx_State_writeReq _ _ _ _ _ fun _ => fx_State_modSession ..)
  | epochDiscard => exact .next (fx_State_writeReq _ _ _ _ _ fun _ => fx_State_modMgmt ..)
  | sessionClose => exact .next (fx_State_request _ _ _ _ fun _ _ => fx_State_closeSession ..)
  | ciardRead => exact .next (fx_State_request _ _ _ _ fun _ _ => by (repeat' split) <;> simp)
  | controlDatagramEnd => exact .next (fx_State_ctlRequest _ _ _ fun _ _ _ => by split <;> simp)
  | svcMediaMapWrite => exact .next (fx_mediaMapWrite _ _ _ _ _)
  | acknak | acknakSendTimer | creditBlock | linkRecalibration | linkTraining | lnkCountsRead | lockLoss | replayTimeout
  | routeFlipTimer | routeRestoreTimer | trainingRecord =>
    exact .onLink (by simp)
  | linkRetrain | linkDisable | linkEnable | linkRelease => exact .linkCommand _ _ _ _
  | tileCommandComplete | waggleLimitExpiry | manifestCheck | containerCheck | transitInputLoss | canFrameReceive =>
    refine .next ?_
    dsimp only
    (repeat' split) <;> simp
  | fenceWaitEnd | tqQueueRoom | waitwTimeout | loadDataReturn | muldivResult | safePointApply | selectionComplete | partTimeout
  | moverDescriptorComplete | regWr | packetHop | drainConfirmTimeout | drainRetry | fetchNoProgress | swarmHeartbeat
  | kvEntryComplete | rnkDataAccess | sessionEndTimeout | shardDigestCheck | streamRingPoll | rtcpReportTimer | eventResend
  | phaseFailure | inrushGrant | domainPowerGood | domainRampTimeout | sensorConversion | warmRestart | errRecordAckTimeout
  | provisionalTimeout | sessionIdleTimeout =>
    refine .next ?_
    split <;> simp
  | controlAccessTimeout | accDataAccess | samplerCommandStart | smpGdataAccess | smpHdataAccess | moverTimeout | regRd | holdExpiry
  | fetchData | fetchEnd | openTimeout | streamRequestDone | serviceFrameReceive | eventAck | errorRecordLog | guardSwap
  | guardTestDone | mgmtFrameReceive =>
    refine .next ?_
    (repeat' split) <;> simp
  | _ => exact .next (by simp)

/-- Settles O58, by cases on the command; every operation that a command is made of keeps the birth map, the identities and the queue. -/
theorem noCommandChangesBirthMapOrQueue : Obligations.NoCommandChangesBirthMapOrQueue := by
  unfold Obligations.NoCommandChangesBirthMapOrQueue
  intro c s t h
  have hfixed : t.fixed = s.fixed := exec_keepsFixed c s t h
  simpa only [State.fixed, State.SameBirth, Prod.mk.injEq] using hfixed

end Sys2Proof.Laws

namespace Sys2Proof.Laws
open Sys2Proof.Machine

/-! ### Commands on link ends (R14, R341, R371) -/

theorem onLink_of_ok {l : LinkAt} (h : l.ok = true) (t : State) : onLink l t = .next t := if_pos h

theorem onLink_of_not_ok {l : LinkAt} (h : l.ok = false) (t : State) : onLink l t = .fault .noSuchUnit := if_neg (by simp [h])

/-- A write of LNK_CTRL of one link end that exists. -/
theorem linkCommand_one {l : LinkAt} (h : l.ok = true) (s : State) (v : Nat) :
    s.linkCommand v (.one l) none = .next (s.linkCtrl v l) := by
  simp [State.linkCommand, LinkSel.ends, h]

/-- A granted write of the LINK_CTRL object of one link end that exists. -/
theorem linkCommand_one_granted {l : LinkAt} (h : l.ok = true) {s : State} {r : Req} {m : MgmtSession} {v : Nat}
    (hg : Granted s r m (oref 0x6006 l.no 0) [BitVec.ofNat 8 v]) :
    s.linkCommand v (.one l) (some r) = .next (s.performed r m (fun t => (0, t.linkCtrl v l))) := by
  simp only [State.linkCommand, LinkSel.ends, LinkSel.no, List.all_cons, List.all_nil, h, Bool.and_self, if_true, List.foldl_cons,
    List.foldl_nil, writeReq_ok hg, coOk]

theorem linkCommand_one_not_ok {l : LinkAt} (h : l.ok = false) (s : State) (v : Nat) (r : Option Req) :
    s.linkCommand v (.one l) r = .fault .noSuchUnit := by
  simp [State.linkCommand, LinkSel.ends, h]

/-! What each command does to a link end (R371, R373). -/

theorem linkCtrl_disable (s : State) (l : LinkAt) : s.linkCtrl 2 l = s.linkDown l 0 13 := rfl

theorem linkCtrl_retrain_down {s : State} {l : LinkAt} (h : (s.linkAt l).state = 1) : s.linkCtrl 1 l = s.startTraining l := if_pos h

theorem linkCtrl_retrain_up {s : State} {l : LinkAt} (h : (s.linkAt l).isUp = true) : s.linkCtrl 1 l = s.retrain l true :=
  if_neg fun hdown => by simp [Link.isUp, hdown] at h

theorem linkCtrl_enable_off {s : State} {l : LinkAt} (h : (s.linkAt l).state = 0) : s.linkCtrl 3 l = s.startTraining l := if_pos h

theorem linkCtrl_release_quarantined {s : State} {l : LinkAt} (h : (s.linkAt l).state = 5) :
    s.linkCtrl 4 l = (s.modLinkAt l (fun x => { x with history := [], recalFails := 0 })).startTraining l := if_pos h

/-- The link end of a comb after it is changed. -/
@[simp] theorem link_comb_modLink (s : State) (i : Site) (k : Nat) (f : Link → Link) :
    ((s.modLink i k f).comb i).link k = f ((s.comb i).link k) := by
  simp [State.modLink, Comb.link, Tbl_get_put_same]

/-! ### Laser modules (R28, R366) -/

@[simp] theorem laser_setLaser (s : State) (n st : Nat) (tele : List W32) :
    (s.setLaser n st tele).laser n = { state := st, tele := tele, at_ := some s.leadTime } := Tbl_get_put_same ..

theorem exec_laserInsert_empty {s : State} {n : Fin 56} (h : (s.laser n.val).state = 0) (accepted : Bool) (tele : List W32) :
    exec (.laserInsert n accepted tele) s =
      .next (if accepted then (s.setLaser n.val 2 (fitTo 0 4 tele)).relight n.val else s.setLaser n.val 5 [0, 0, 0, 0]) :=
  congrArg Host.Outcome.next (if_neg (not_not_intro h))

theorem exec_laserWorn_ok {s : State} {n : Fin 56} (h : (s.laser n.val).state = 2) (tele : List W32) :
    exec (.laserWorn n tele) s = .next (s.setLaser n.val 3 (fitTo 0 4 tele)) :=
  congrArg Host.Outcome.next (if_pos h)

/-- A module within specification is removed, or fails. -/
theorem exec_laserLoss_ok {s : State} {n : Fin 56} (h : (s.laser n.val).state = 2) (removed : Bool) :
    exec (.laserLoss n removed) s =
      .next (if removed then (s.setLaser n.val 0 [0, 0, 0, 0]).relight n.val
        else (s.setLaser n.val 4 (s.laser n.val).tele).relight n.val) := by
  have hfull : ¬ (s.laser n.val).state = 0 := by simp [h]
  have hknown : ¬ (s.laser n.val).state = 5 := by simp [h]
  refine congrArg Host.Outcome.next ((if_neg hfull).trans ?_)
  cases removed with
  | false => exact if_neg hknown
  | true => rfl

/-! ### The census (R368, R369) -/

/-- A granted census of the panel whose condition holds is performed. -/
theorem exec_census_panel {s : State} {r : Req} {m : MgmtSession} {ctrl : List Byte} {ls : List LinkAt}
    (hg : Granted s r m (oref 0x6031 0 0) ctrl) (hscope : fieldAt ctrl 0 2 = 2)
    (hls : (s.admitted r m).censusScope 2 (fieldAt ctrl 2 2) = some ls) (o : CensusOut) :
    exec (.census r ctrl o) s =
      .next (s.performed r m (fun t => (0, (t.censusOf ls o.onDie o).modMgmt (fun x => { x with census := 2 })))) := by
  have hall : o.onDie.filter (fun _ => true) = o.onDie := List.filter_eq_self.2 fun _ _ => rfl
  refine congrArg Host.Outcome.next ((writeReq_ok hg _).trans (perf_congr ?_))
  simp [hscope, hls, coOk, hall]

/-- Settles O36, by the rule of each command; a command on a link end that R14 does not provide stops before it has any effect. -/
theorem linkAndLightCommandsAct : Obligations.LinkAndLightCommandsAct := by
  unfold Obligations.LinkAndLightCommandsAct
  refine ⟨fun s l hl => ⟨?disable, fun hdown => ?retrainDown, fun hup => ?retrainUp, fun hoff => ?enable, fun hq => ?release⟩,
    fun s l r m hl hg => ?object, fun s i k hk => ?counts, fun s n tele => ⟨fun hempty => ⟨?accepted, ?incompatible⟩,
    fun hok => ⟨?worn, ?fails, ?removed⟩⟩, fun s r m ctrl o ls hg hscope hls => ?census, fun s l ch hl => ?absent⟩
  case disable => exact linkCommand_one hl s 2
  case retrainDown => exact (linkCommand_one hl s 1).trans (congrArg _ (linkCtrl_retrain_down hdown))
  case retrainUp => exact (linkCommand_one hl s 1).trans (congrArg _ (linkCtrl_retrain_up hup))
  case enable => exact (linkCommand_one hl s 3).trans (congrArg _ (linkCtrl_enable_off hoff))
  case release => exact (linkCommand_one hl s 4).trans (congrArg _ (linkCtrl_release_quarantined hq))
  case object => exact linkCommand_one_granted hl hg
  case counts => exact ⟨_, onLink_of_ok (l := .comb i k) hk _, by simp [Link.clearCounts]⟩
  case accepted => exact exec_laserInsert_empty hempty true tele
  case incompatible => exact ⟨_, exec_laserInsert_empty hempty false tele, by simp⟩
  case worn => exact ⟨_, exec_laserWorn_ok hok tele, by simp⟩
  case fails => exact exec_laserLoss_ok hok false
  case removed => exact exec_laserLoss_ok hok true
  case census => exact exec_census_panel hg hscope hls o
  case absent =>
    simp only [List.forall_mem_cons, List.not_mem_nil, false_imp_iff, implies_true, and_true]
    have hlink := onLink_of_not_ok hl
    have hcommand := linkCommand_one_not_ok hl s
    exact ⟨hlink _, hlink _, hlink _, hlink _, hlink _, hlink _, hlink _, hlink _, hlink _, hlink _, hlink _, hcommand 1 none,
      hcommand 2 none, hcommand 3 none, hcommand 4 none⟩

end Sys2Proof.Laws

namespace Sys2Proof.Laws
open Sys2Proof.Machine

/-- Equal panels are equal answers. -/
theorem next_congr {t u : State} (h : t = u) : (.next t : Host.Outcome State Fault Refusal) = .next u := congrArg _ h

/-! ### Memories: what a write leaves and what it puts (R46–R48, R382–R384) -/

/-- A zeroed range of a store reads zero throughout. -/
theorem Store_bytes_zeroRange (x : Store) (p n : Nat) : (x.zeroRange p n).bytes p n = List.replicate n 0 := by
  refine Tbl_getAll_const 0 _ n p fun k hk => ?_
  rw [Store_byte_zeroRange, if_neg (by omega)]

/-- Settles O57, by the laws of the sparse tables that hold the memories. -/
theorem memoryWritesAreReadBackAndCanonical : Obligations.MemoryWritesAreReadBackAndCanonical := by
  unfold Obligations.MemoryWritesAreReadBackAndCanonical
  refine ⟨fun r p ws hwf => ⟨Ram_write_wf r p ws hwf, Ram_read_write r p ws, fun k hk => ?marks, fun q hq => ⟨?words, ?otherMarks⟩⟩,
    fun x p bs hwf => ⟨Store_write_wf x p bs hwf, Store_bytes_write x p bs, fun q hq => Store_byte_write_other x p q bs hq⟩,
    fun x p n hwf => ⟨Store_zeroRange_wf x p n hwf, Store_bytes_zeroRange x p n, fun q hq => ?zeroOther⟩,
    fun s i p ws hwf => ram_memWrite_wf s i p ws hwf⟩
  case marks => rw [Ram_ecc_write, if_neg (by omega)]
  case words => exact Ram_word_write_other r p q ws hq
  case otherMarks => rw [Ram_ecc_write, if_pos hq]
  case zeroOther => rw [Store_byte_zeroRange, if_pos hq]

/-! ### The panel at reset (R45, R57, R62, R204, R439) -/

/-- Every core of the panel at reset is a core after reset. -/
theorem core_reset (i : CoreId) : State.reset.core i = Core.reset := by
  cases i with
  | cell => rfl
  | steward => rfl
  | keeper h k => cases h <;> rfl

/-- Every task of the panel at reset is a task after reset. -/
theorem task_reset (a : At) : State.reset.task a = Task.reset := by
  simp [State.task, core_reset, Core.reset, Vector.get]

/-- Every local memory of the panel at reset lists no word and no mark. -/
theorem ram_reset (i : CoreId) : State.reset.ram i = Ram.zero := by
  cases i with
  | cell => rfl
  | steward => rfl
  | keeper h k => cases h <;> rfl

/-- A task after reset reads zero in every register. -/
theorem x_reset (r : Reg) : Task.reset.x r = 0 := by
  simp [Task.x, Task.reset, Vector.get]

/-- Settles O56, by the reset value of every core, memory and table. -/
theorem resetLeavesCellsStoppedAndMemoriesCanonical : Obligations.ResetLeavesCellsStoppedAndMemoriesCanonical := by
  unfold Obligations.ResetLeavesCellsStoppedAndMemoriesCanonical
  refine ⟨fun c => ⟨rfl, rfl, rfl, rfl⟩, fun a r => ?task, fun i p => ?ram, fun n => rfl, fun n => rfl, rfl, rfl⟩
  case task =>
    rw [task_reset]
    exact ⟨rfl, rfl, rfl, rfl, x_reset r⟩
  case ram =>
    rw [ram_reset]
    exact ⟨rfl, rfl, rfl⟩

/-! ### Stop and the values of a task (R42, R114) -/

/-- A STOPPING task with no load on its way is STOPPED at once where nothing of it is outstanding. -/
theorem settleStop_stopping {s : State} {a : At} (hst : (s.task a).st = .stopping) (hload : (s.task a).load = none) :
    (s.settleStop a).task a = { s.task a with st := if s.outstanding a = 0 then .stopped else .stopping } := by
  unfold State.settleStop
  by_cases h : s.outstanding a = 0
  · rw [if_pos ⟨hst, h, hload⟩, task_modTask, if_pos h]
  · rw [if_neg (fun ⟨_, h0, _⟩ => h h0), if_neg h, ← hst]

/-- A ready stop leaves the task at its next instruction, STOPPING until nothing of it is outstanding. -/
theorem exec_stop_ready {s : State} {a : At} (h : Ready s a []) :
    exec (.stop a ⟨0, 0, 0⟩) s = .next (((s.issued a).step1 a (fun t => { t with st := .stopping })).settleStop a) :=
  next_congr (issue_ready h _)

theorem task_stop_ready {s : State} {a : At} (h : Ready s a []) :
    (((s.issued a).step1 a (fun t => { t with st := .stopping })).settleStop a).task a =
      { s.task a with pc := nextPc a.core (s.task a).pc, st := if (s.issued a).outstanding a = 0 then .stopped else .stopping } := by
  rw [settleStop_stopping] <;> simp [State.step1, outstanding_modTask, ready_load h]

/-- Settles O10, by the rule of issue for a ready task. -/
theorem stopAndTaskValuesAct : Obligations.StopAndTaskValuesAct := by
  unfold Obligations.StopAndTaskValuesAct
  intro s a hready
  refine ⟨⟨_, exec_stop_ready hready, task_stop_ready hready⟩, fun rd => ⟨?tid, ?rdp, fun hrd => ?wrp⟩⟩
  case tid => exact next_congr (issue_ready hready _)
  case rdp =>
    refine next_congr ((issue_ready hready _).trans ?_)
    rw [task_issued]; rfl
  case wrp =>
    refine next_congr ((issue_ready hrd _).trans ?_)
    simp only [State.step1, State.modTask, task_issued]

/-! ### Instructions that do not do their work (R36, R100, R117, R118) -/

/-- A task whose fetch meets a trap takes it, with its pc as the address. -/
theorem issue_fetchTrap {s : State} {a : At} {reads : List Reg} {cause : Byte} (hissue : s.canIssue a reads = true)
    (hfetch : (s.fetch a).1 = some cause) (ill : Bool) (body : State → State) :
    s.issue a reads ill body = (s.fetch a).2.trap a cause ((s.task a).pc.setWidth 64) := by
  unfold State.issue
  rw [if_pos hissue]
  split
  · next e => rw [e] at hfetch ⊢; cases hfetch; rfl
  · next e => rw [e] at hfetch; cases hfetch

/-- A ready task whose instruction has a bit set that R100 forbids traps ILLEGAL. -/
theorem issue_illegal_of {s : State} {a : At} {reads : List Reg} (h : Ready s a reads) {ill : Bool} (hill : ill = true) (body : State → State) :
    s.issue a reads ill body = (s.issued a).trap a 0x01 0 := by
  subst hill; exact issue_illegal h body

/-- Settles O12, by the three ends of an issue that are not the instruction's own work. -/
theorem illegalFieldsTrapAndStoppedTasksWait : Obligations.IllegalFieldsTrapAndStoppedTasksWait := by
  unfold Obligations.IllegalFieldsTrapAndStoppedTasksWait
  refine fun s a => ⟨fun f hno => ?waits, fun f cause hissue hfetch => ?fetch, fun f hready hfh => ?alu, fun f hready hf => ?misc,
    fun f hready hz => ?pred, fun hcell c va => trap_cell s a c va hcell⟩
  case waits => exact ⟨next_congr (issue_not hno _ _), next_congr (issue_not hno _ _), next_congr (issue_not hno _ _)⟩
  case fetch => exact ⟨next_congr (issue_fetchTrap hissue hfetch _ _), next_congr (issue_fetchTrap hissue hfetch _ _)⟩
  case alu =>
    have hill : (f.fh != 0) = true := bne_iff_ne.2 hfh
    exact ⟨next_congr (issue_illegal_of hready hill _), next_congr (issue_illegal_of hready hill _), next_congr (issue_illegal_of hready hill _)⟩
  case misc =>
    have hill : (f.rs1 != 0 || f.imm != 0) = true := by simpa using hf
    have hyield : (f.rd != 0 || f.rs1 != 0 || f.imm != 0) = true := by rw [Bool.or_assoc, hill, Bool.or_true]
    exact ⟨next_congr (issue_illegal_of hready hill _), next_congr (issue_illegal_of hready hill _), next_congr (issue_illegal_of hready hyield _)⟩
  case pred =>
    have hill : (f.z != 0) = true := bne_iff_ne.2 hz
    exact ⟨next_congr (issue_illegal_of hready hill _), next_congr (issue_illegal_of hready hill _)⟩

/-! ### rdreg and wrreg (R45, R115, R116) -/

/-- A ready instruction whose fields obey R100 does its own work. -/
theorem issue_ready_of {s : State} {a : At} {reads : List Reg} (h : Ready s a reads) {ill : Bool} (hill : ill = false) (body : State → State) :
    s.issue a reads ill body = body (s.issued a) := by
  subst hill; exact issue_ready h body

/-- A worker's write of TSK_CTRL of another task is that control write. -/
theorem workerWrite_ctrl (s : State) {a : At} {k : TaskId} (hk : k ≠ a.task) (v : W64) :
    s.workerWrite a (0x1000 + 0x200 * k.val) v = s.taskCtrl ⟨a.core, k⟩ v := by
  unfold State.workerWrite
  rw [← Nat.add_zero (0x1000 + 0x200 * k.val), taskOff_task k (by omega) (by omega)]
  exact if_pos ⟨rfl, hk⟩

/-- A worker's write of TSK_PC of another task that is STOPPED sets its pc. -/
theorem workerWrite_pc_stopped {s : State} {a : At} {k : TaskId} (hk : k ≠ a.task) (hst : (s.task ⟨a.core, k⟩).st = .stopped) (v : W64) :
    s.workerWrite a (0x1000 + 0x200 * k.val + 0x10) v = s.modTask ⟨a.core, k⟩ (fun t => { t with pc := pcWrap a.core v.toNat }) := by
  unfold State.workerWrite
  rw [taskOff_task k (by omega) (by omega)]
  exact ((if_neg (by simp)).trans (if_pos ⟨rfl, hk⟩)).trans (if_pos hst)

/-- A ready wrreg writes the register at its offset once its task has moved on. -/
theorem exec_wrreg_ready {s : State} {a : At} {f : OpRI} (h : Ready s a [f.rs1]) (hrd : f.rd = 0) :
    exec (.wrreg a f) s =
      .next (((s.issued a).modTask a (Task.next a.core)).workerWrite a (f.imm.toNat / 8 * 8) ((s.task a).x f.rs1)) := by
  refine next_congr ((issue_ready_of h (by simp [hrd]) _).trans ?_)
  rw [task_issued]; rfl

/-- Settles O13, by the rule of issue for a ready task and the worker's reads and writes of registers. -/
theorem workersReadAndWriteRegisters : Obligations.WorkersReadAndWriteRegisters := by
  unfold Obligations.WorkersReadAndWriteRegisters
  refine ⟨fun s a f hready hrs1 => ?read, fun s a f k hready hrd hk => ⟨fun hoff => ?ctrl, fun hoff hst => ?pc⟩⟩
  case read => exact next_congr (issue_ready_of hready (by simp [hrs1]) _)
  case ctrl => rw [exec_wrreg_ready hready hrd, hoff, workerWrite_ctrl _ hk]
  case pc =>
    have hother : (⟨a.core, k⟩ : At) ≠ a := fun e => hk (congrArg At.task e)
    rw [exec_wrreg_ready hready hrd, hoff, workerWrite_pc_stopped hk (by rw [task_modTask_ne _ _ _ _ hother, task_issued, hst])]

end Sys2Proof.Laws

namespace Sys2Proof.Laws
open Sys2Proof.Machine

/-! ### What the parts keep: accumulators, stores and the services (R92) -/

theorem keepsRest_refl (s : State) : s.KeepsRest s := ⟨fun _ => rfl, fun _ => rfl, rfl, rfl, rfl, rfl, rfl, rfl, rfl⟩

theorem keepsRest_trans {s t u : State} (h : s.KeepsRest t) (g : t.KeepsRest u) : s.KeepsRest u := by
  obtain ⟨hacc, hstore, hcol, hses, hvoice, hpower, hmgmt, hlog, hboot⟩ := h
  obtain ⟨gacc, gstore, gcol, gses, gvoice, gpower, gmgmt, glog, gboot⟩ := g
  exact ⟨fun c => (gacc c).trans (hacc c), fun n => (gstore n).trans (hstore n), gcol.trans hcol, gses.trans hses, gvoice.trans hvoice,
    gpower.trans hpower, gmgmt.trans hmgmt, glog.trans hlog, gboot.trans hboot⟩

/-- A record on its way touches the network alone. -/
theorem keepsRest_sendErr (s : State) (n : Nat) (r : ErrRec) : s.KeepsRest (s.sendErr n r) := keepsRest_refl s

/-- A change to a comb that leaves the accumulators of its cells. -/
theorem keepsRest_modComb (s : State) (i : Site) (f : Comb → Comb) (h : ∀ p, ((f (s.comb i)).cell p).acc = ((s.comb i).cell p).acc) :
    s.KeepsRest (s.modComb i f) := by
  refine ⟨fun c => ?_, fun _ => rfl, rfl, rfl, rfl, rfl, rfl, rfl, rfl⟩
  unfold State.cell
  by_cases hsite : c.site = i
  · rw [hsite, comb_modComb, h]
  · rw [comb_modComb_ne _ _ _ _ hsite]

/-- A change to a cell that leaves its accumulators. -/
theorem keepsRest_modCell (s : State) (c : CellAt) (f : Cell → Cell) (h : (f (s.cell c)).acc = (s.cell c).acc) : s.KeepsRest (s.modCell c f) := by
  refine keepsRest_modComb s c.site _ fun p => ?_
  by_cases hp : p = c.phys
  · rw [hp, cell_setCell_comb]; exact h
  · rw [cell_setCell_comb_ne _ _ _ _ hp]

theorem keepsRest_setKeeper (s : State) (h : Half) (k : Keeper) : s.KeepsRest (s.setKeeper h k) := by
  cases h <;> exact ⟨fun _ => rfl, fun _ => rfl, rfl, rfl, rfl, rfl, rfl, rfl, rfl⟩

theorem keepsRest_modCore (s : State) (i : CoreId) (f : Core → Core) : s.KeepsRest (s.modCore i f) := by
  cases i with
  | cell si p => exact keepsRest_modCell s ⟨si, p⟩ _ rfl
  | steward si => exact keepsRest_modComb s si _ fun _ => rfl
  | keeper h k => exact keepsRest_setKeeper s h _

theorem keepsRest_modTask (s : State) (a : At) (f : Task → Task) : s.KeepsRest (s.modTask a f) := keepsRest_modCore s a.core _

theorem keepsRest_setRam (s : State) (i : CoreId) (r : Ram) : s.KeepsRest (s.setRam i r) := by
  cases i with
  | cell si p => exact keepsRest_modCell s ⟨si, p⟩ _ rfl
  | steward si => exact keepsRest_modComb s si _ fun _ => rfl
  | keeper h k => exact keepsRest_setKeeper s h _

theorem keepsRest_setCellErr (s : State) (c : CellAt) (b : Nat) : s.KeepsRest (s.setCellErr c b) := by
  unfold State.setCellErr
  split
  · exact keepsRest_refl s
  · exact keepsRest_trans (keepsRest_modCell s c _ rfl) (keepsRest_sendErr _ _ _)

theorem keepsRest_noteRead (s : State) (c : CellAt) (ces : List Nat) (ue : Option Nat) : s.KeepsRest (s.noteRead c ces ue) := by
  have hcount (t : State) (a : Nat) :
      t.KeepsRest ((t.modCell c (fun x => { x with ueCount := satInc x.ueCount, lastAddr := BitVec.ofNat 19 a })).setCellErr c errCmemUe) :=
    keepsRest_trans (keepsRest_modCell t c _ rfl) (keepsRest_setCellErr _ _ _)
  unfold State.noteRead
  cases ces.getLast? with
  | none => cases ue with
    | none => exact keepsRest_refl s
    | some u => exact hcount s u
  | some a => cases ue with
    | none => exact keepsRest_modCell s c _ rfl
    | some u => exact keepsRest_trans (keepsRest_modCell s c _ rfl) (hcount _ u)

theorem keepsRest_memRead (s : State) (i : CoreId) (a n : Nat) : s.KeepsRest (s.memRead i a n).2 := by
  rw [memRead_snd]
  split
  · exact keepsRest_noteRead _ _ _ _
  · exact keepsRest_refl s

theorem keepsRest_fetch (s : State) (a : At) : s.KeepsRest (s.fetch a).2 := by
  unfold State.fetch
  split
  · exact keepsRest_refl s
  · exact keepsRest_refl s
  · next p _ =>
    have h := keepsRest_memRead s a.core (p / 64 * 64) 64
    split <;> (next e => rw [e] at h; exact h)

theorem keepsRest_trap (s : State) (a : At) (c : Byte) (v : W64) : s.KeepsRest (s.trap a c v) := by
  have hreport (f : Task → Task) (n : Nat) (r : ErrRec) : s.KeepsRest ((s.modTask a f).sendErr n r) :=
    keepsRest_trans (keepsRest_modTask s a f) (keepsRest_sendErr _ n r)
  unfold State.trap State.trapAt
  split
  · exact hreport _ _ _
  · split
    · exact hreport _ _ _
    · exact keepsRest_modTask s a _
  · split
    · exact hreport _ _ _
    · exact keepsRest_modTask s a _

/-! ### What a task keeps (R92, R126) -/

theorem keeps_refl (cell : Bool) (t : Task) (rd : Option Reg) (pd : Option PReg) : t.Keeps cell t rd pd :=
  ⟨fun _ _ => rfl, fun _ _ => rfl, rfl, rfl, rfl, rfl, rfl, rfl, rfl, rfl, fun _ => rfl⟩

theorem keeps_trans {cell : Bool} {t u v : Task} {rd : Option Reg} {pd : Option PReg} (h : t.Keeps cell u rd pd) (g : u.Keeps cell v rd pd) :
    t.Keeps cell v rd pd := by
  obtain ⟨hx, hp, hc0, hc1, hs0, hs1, hs2, hs3, htvec, hscr, hprv⟩ := h
  obtain ⟨gx, gp, gc0, gc1, gs0, gs1, gs2, gs3, gtvec, gscr, gprv⟩ := g
  exact ⟨fun r hr => (gx r hr).trans (hx r hr), fun n hn => (gp n hn).trans (hp n hn), gc0.trans hc0, gc1.trans hc1, gs0.trans hs0,
    gs1.trans hs1, gs2.trans hs2, gs3.trans hs3, gtvec.trans htvec, gscr.trans hscr, fun e => (gprv e).trans (hprv e)⟩

/-- Register n of a task, as an element of its register file. -/
theorem x_eq (t : Task) (n : Reg) : t.x n = if n = 0 then 0 else t.regs[n.toNat] := rfl

/-- A write of a register leaves every other register. -/
theorem x_set_ne (t : Task) {rd r : Reg} (v : W64) (h : r ≠ rd) : (t.set rd v).x r = t.x r := by
  have hne : rd.toNat ≠ r.toNat := fun e => h (BitVec.eq_of_toNat_eq e.symm)
  by_cases hrd : rd = 0
  · rw [Task.set, if_pos hrd]
  · rw [Task.set, if_neg hrd]
    simp [x_eq, hne]

/-- A number with one bit replaced, by its digits above and below that bit. -/
theorem nat_setBit_eq (x i c : Nat) : x - x / 2 ^ i % 2 * 2 ^ i + c * 2 ^ i = 2 ^ i * (2 * (x / 2 ^ (i + 1)) + c) + x % 2 ^ i := by
  have hlow := Nat.mod_add_div x (2 ^ i)
  have hhigh := Nat.mod_add_div (x / 2 ^ i) 2
  rw [Nat.div_div_eq_div_mul, ← Nat.pow_succ] at hhigh
  have hx : x = x % 2 ^ i + 2 ^ i * (x / 2 ^ i % 2) + 2 ^ i * (2 * (x / 2 ^ (i + 1))) := by
    rw [Nat.add_assoc, ← Nat.mul_add, hhigh, hlow]
  rw [Nat.mul_add, Nat.mul_comm c, Nat.mul_comm (x / 2 ^ i % 2)]
  omega

/-- The bits of a number that lie above and below one bit do not change with it. -/
theorem nat_testBit_setBit_ne (x : Nat) {i j c : Nat} (hc : c < 2) (h : j ≠ i) :
    (x - x / 2 ^ i % 2 * 2 ^ i + c * 2 ^ i).testBit j = x.testBit j := by
  have hsame : x = 2 ^ i * (2 * (x / 2 ^ (i + 1)) + x / 2 ^ i % 2) + x % 2 ^ i := by
    rw [← nat_setBit_eq]
    exact (Nat.sub_add_cancel (Nat.le_trans (Nat.mul_le_mul_right _ (Nat.mod_le ..)) (Nat.div_mul_le_self x _))).symm
  have hlow : x % 2 ^ i < 2 ^ i := Nat.mod_lt _ (Nat.two_pow_pos i)
  have hbit : x.testBit j = if j < i then (x % 2 ^ i).testBit j else (2 * (x / 2 ^ (i + 1)) + x / 2 ^ i % 2).testBit (j - i) :=
    (congrArg (fun y => y.testBit j) hsame).trans (Nat.testBit_two_pow_mul_add _ hlow j)
  rw [hbit, nat_setBit_eq, Nat.testBit_two_pow_mul_add _ hlow]
  split
  · rfl
  · obtain ⟨k, hk⟩ : ∃ k, j - i = k + 1 := ⟨j - i - 1, by omega⟩
    have hhalf : (2 * (x / 2 ^ (i + 1)) + c) / 2 = (2 * (x / 2 ^ (i + 1)) + x / 2 ^ i % 2) / 2 := by omega
    rw [hk, Nat.testBit_succ, Nat.testBit_succ, hhalf]

/-- A bit set leaves every other bit of a word. -/
theorem bit_setBit_ne {n : Nat} (w : BitVec n) {i j : Nat} (b : Bool) (h : j ≠ i) : bit (setBit w i b) j = bit w j := by
  have hc : b2n b < 2 := by cases b <;> decide
  have hnat := nat_testBit_setBit_ne w.toNat hc h
  by_cases hj : j < n
  · simp only [bit, setBit, setBits, BitVec.getLsbD_ofNat, hj, decide_true, Bool.true_and, Nat.pow_one, Nat.mod_eq_of_lt hc, hnat]; rfl
  · simp [bit, BitVec.getLsbD_of_ge, Nat.le_of_not_lt hj]
/-- A write of a predicate leaves every other predicate. -/
theorem p_setP_ne (t : Task) {n m : PReg} (b : Bool) (h : m ≠ n) : (t.setP n b).p m = t.p m :=
  bit_setBit_ne _ _ fun e => h (BitVec.eq_of_toNat_eq e)

theorem keeps_set (cell : Bool) (t : Task) (rd : Reg) (v : W64) (pc : BitVec 24) :
    t.Keeps cell { t.set rd v with pc := pc } (some rd) none := by
  have hx (r : Reg) (hr : some r ≠ some rd) : (t.set rd v).x r = t.x r := x_set_ne t v fun e => hr (congrArg some e)
  by_cases hrd : rd = 0
  · rw [Task.set, if_pos hrd]
    exact keeps_refl cell t _ _
  · have h := hx
    rw [Task.set, if_neg hrd] at h ⊢
    exact ⟨h, fun _ _ => rfl, rfl, rfl, rfl, rfl, rfl, rfl, rfl, rfl, fun _ => rfl⟩

theorem keeps_setP (cell : Bool) (t : Task) (n : PReg) (b : Bool) (pc : BitVec 24) :
    t.Keeps cell { t.setP n b with pc := pc } none (some n) :=
  ⟨fun _ _ => rfl, fun _ hm => p_setP_ne t b fun e => hm (congrArg some e), rfl, rfl, rfl, rfl, rfl, rfl, rfl, rfl, fun _ => rfl⟩

/-- The entry to a privileged core's trap handler saves the pc, the cause and the address alone (R126). -/
theorem keeps_enterTrap (t : Task) (rd : Option Reg) (pd : Option PReg) (cause : Byte) (pc : BitVec 24) (addr : W64) :
    t.Keeps false (t.enterTrap cause pc addr) rd pd :=
  ⟨fun _ _ => rfl, fun _ _ => rfl, rfl, rfl, rfl, rfl, rfl, rfl, rfl, rfl, fun h => by cases h⟩

/-! ### The frame of an instruction of one task (R92, R101–R108) -/

/-- The task waits in no waitw (R112). -/
def NoWatch (t : Task) : Prop := ∀ rd p v w, t.wait ≠ .waitw rd p v w

/-- From s to t one task alone moves, in rd, pd and its progress; a waitw does not begin, and no memory changes. -/
structure TaskFrame (a : At) (rd : Option Reg) (pd : Option PReg) (s t : State) : Prop where
  others : ∀ b, b ≠ a → t.task b = s.task b
  own : (s.task a).Keeps (isCell a.core) (t.task a) rd pd
  noWatch : NoWatch (s.task a) → NoWatch (t.task a)
  rest : s.KeepsRest t
  ram : ∀ j, t.ram j = s.ram j

section
variable {a : At} {rd : Option Reg} {pd : Option PReg} {s t u : State}

/-- A panel with the same tasks and memories. -/
theorem TaskFrame.of_task_eq (htask : ∀ b, t.task b = s.task b) (hrest : s.KeepsRest t) (hram : ∀ j, t.ram j = s.ram j) :
    TaskFrame a rd pd s t :=
  ⟨fun b _ => htask b, by rw [htask]; exact keeps_refl .., fun h => by rwa [htask], hrest, hram⟩

theorem TaskFrame.refl (s : State) : TaskFrame a rd pd s s := .of_task_eq (fun _ => rfl) (keepsRest_refl s) fun _ => rfl

theorem TaskFrame.trans (h : TaskFrame a rd pd s t) (g : TaskFrame a rd pd t u) : TaskFrame a rd pd s u :=
  ⟨fun b hb => (g.others b hb).trans (h.others b hb), keeps_trans h.own g.own, fun w => g.noWatch (h.noWatch w),
    keepsRest_trans h.rest g.rest, fun j => (g.ram j).trans (h.ram j)⟩

theorem TaskFrame.modTask (f : Task → Task) (hown : (s.task a).Keeps (isCell a.core) (f (s.task a)) rd pd)
    (hwatch : NoWatch (s.task a) → NoWatch (f (s.task a))) : TaskFrame a rd pd s (s.modTask a f) :=
  ⟨fun b hb => task_modTask_ne s a b f hb, by rwa [task_modTask], by rwa [task_modTask], keepsRest_modTask s a f, fun j => ram_modTask s a f j⟩

theorem TaskFrame.sendErr (n : Nat) (r : ErrRec) : TaskFrame a rd pd s (s.sendErr n r) :=
  .of_task_eq (task_sendErr s n r) (keepsRest_sendErr s n r) (ram_sendErr s n r)

theorem TaskFrame.memRead (i : CoreId) (p n : Nat) : TaskFrame a rd pd s (s.memRead i p n).2 :=
  .of_task_eq (fun b => by rw [State.task, core_memRead]; rfl) (keepsRest_memRead s i p n) fun j => ram_memRead s i p n j

theorem TaskFrame.rdMem (b : At) (va : W64) (n : Nat) : TaskFrame a rd pd s (s.rdMem b va n).2 := by
  unfold State.rdMem
  split
  · exact .refl s
  · next p _ =>
    have hread : TaskFrame a rd pd s (s.memRead b.core p n).2 := .memRead _ _ _
    split <;> (next e => rw [e] at hread; exact hread)

theorem TaskFrame.issued : TaskFrame a rd pd s (s.issued a) :=
  .of_task_eq (fun b => task_issued s a b) (keepsRest_trans (keepsRest_fetch s a) (keepsRest_modCore _ _ _)) fun j => ram_issued s a j

theorem TaskFrame.fetch : TaskFrame a rd pd s (s.fetch a).2 :=
  .of_task_eq (fun b => by rw [State.task, core_fetch]; rfl) (keepsRest_fetch s a) fun j => ram_fetch s a j

/-- A trap stops the task or enters its handler: its registers stay. -/
theorem TaskFrame.trap (c : Byte) (v : W64) : TaskFrame a rd pd s (s.trap a c v) := by
  have hstop (cause : Byte) (n : Nat) (r : ErrRec) : TaskFrame a rd pd s
      ((s.modTask a (fun t => { t with st := .trapped, trapCause := cause, pc := (s.task a).pc, wait := .none })).sendErr n r) :=
    .trans (.modTask _ (keeps_refl ..) fun _ _ _ _ _ h => by cases h) (.sendErr n r)
  have henter (hcore : isCell a.core = false) : TaskFrame a rd pd s (s.modTask a (fun t => t.enterTrap c (s.task a).pc v)) :=
    .modTask _ (by rw [hcore]; exact keeps_enterTrap ..) fun _ _ _ _ _ h => by cases h
  unfold State.trap State.trapAt
  split
  · exact hstop _ _ _
  · next e =>
    split
    · exact hstop _ _ _
    · exact henter (by rw [e]; rfl)
  · next e =>
    split
    · exact hstop _ _ _
    · exact henter (by rw [e]; rfl)

/-- The frame of an issue is that of the instruction's own work. -/
theorem TaskFrame.issue (reads : List Reg) (ill : Bool) (body : State → State) (hbody : ∀ u, TaskFrame a rd pd u (body u)) :
    TaskFrame a rd pd s (s.issue a reads ill body) := by
  have hfetch : TaskFrame a rd pd s (s.fetch a).2 := .fetch
  have hissued : TaskFrame a rd pd s (s.issued a) := .issued
  unfold State.issue
  split
  · split
    · next e => rw [e] at hfetch; exact hfetch.trans (.trap _ _)
    · next e =>
      rw [State.issued, e] at hissued
      split
      · exact hissued.trans (.trap _ _)
      · exact hissued.trans (hbody _)
  · exact .refl s

theorem TaskFrame.setRd (rd : Reg) (v : W64) : TaskFrame a (some rd) none s (s.setRd a rd v) :=
  .modTask (fun t => { t.set rd v with pc := nextPc a.core t.pc }) (keeps_set ..) fun h => by unfold Task.set; split <;> exact h

theorem TaskFrame.setPd (n : PReg) (b : Bool) : TaskFrame a none (some n) s (s.setPd a n b) :=
  .modTask (fun t => { t.setP n b with pc := nextPc a.core t.pc }) (keeps_setP ..) id

/-! The shapes of the worker's instructions. -/

theorem TaskFrame.aluRR (f : OpRR) (op : W64 → W64 → W64) : TaskFrame a (some f.rd) none s (s.aluRR a f op) :=
  .issue _ _ _ fun _ => .setRd _ _

theorem TaskFrame.aluR (f : OpRR) (op : W64 → W64) : TaskFrame a (some f.rd) none s (s.aluR a f op) :=
  .issue _ _ _ fun _ => .setRd _ _

theorem TaskFrame.aluRI (f : OpRI) (op : W64 → BitVec 16 → W64) : TaskFrame a (some f.rd) none s (s.aluRI a f op) :=
  .issue _ _ _ fun _ => .setRd _ _

theorem TaskFrame.plog2 (f : OpPL) (op : Bool → Bool → Bool) : TaskFrame a none (some f.pd) s (s.plog2 a f op) :=
  .issue _ _ _ fun _ => .setPd _ _

/-- A multiply or divide puts its result on its way (R95). -/
theorem TaskFrame.mulRR (f : OpRR) (op : W64 → W64 → W64) : TaskFrame a none none s (s.mulRR a f op) := by
  refine .issue _ _ _ fun u => .modTask _ ?_ fun h => ?_
  · dsimp only
    unfold Task.defer
    split <;> exact keeps_refl ..
  · dsimp only
    unfold Task.defer
    split <;> exact h

/-- A load puts its data on its way (R95). -/
theorem TaskFrame.load (f : OpRI) (n : Nat) (conv : W64 → W64) : TaskFrame a none none s (s.load a f n conv) := by
  refine .issue _ _ _ fun u => ?_
  have hread : TaskFrame a none none u (u.rdMem a (dataVa (u.task a) f.rs1 f.imm) n).2 := .rdMem _ _ _
  dsimp only
  split
  · next e => rw [e] at hread; exact hread.trans (.trap _ _)
  · next e => rw [e] at hread; exact hread.trans (.modTask _ (keeps_refl ..) id)

theorem TaskFrame.branch (reads : List Reg) (ill : Bool) (cond : Task → Bool) (off : BitVec 16) :
    TaskFrame a none none s (s.branch a reads ill cond off) :=
  .issue _ _ _ fun _ => .modTask _ (keeps_refl ..) id

/-- jal and jalr write the link register and go elsewhere. -/
theorem TaskFrame.link (reads : List Reg) (rd : Reg) (v : Task → W64) (pc : Task → BitVec 24) :
    TaskFrame a (some rd) none s (s.issue a reads false (fun s => s.modTask a (fun t => { (t.set rd (v t)) with pc := pc t }))) :=
  .issue _ _ _ fun _ => .modTask _ (keeps_set ..) fun h => by unfold Task.set; split <;> exact h

/-- The frame of every instruction that changes one task alone. -/
theorem exec_taskFrame {i : Instr} (hi : valuesWrittenBy i = some (a, rd, pd)) (hexec : exec i s = .next t) : TaskFrame a rd pd s t := by
  cases i with
  | add | sub | and_ | or_ | xor_ | andn | sll | srl | sra | addw | subw | min | max | minu | maxu =>
    cases hi; cases hexec; exact .aluRR _ _
  | clz | ctz | popc => cases hi; cases hexec; exact .aluR _ _
  | mul | mulh | mulhu | div | divu | rem | remu => cases hi; cases hexec; exact .mulRR _ _
  | addi | andi | ori | xori | shori => cases hi; cases hexec; exact .aluRI _ _
  | sel | shi | bfx | bfi | movi | tid | rdp => cases hi; cases hexec; exact .issue _ _ _ fun _ => .setRd _ _
  | jal | jalr => cases hi; cases hexec; exact .link _ _ _ _
  | cmp | cmpi | pnot | pset | pclr => cases hi; cases hexec; exact .issue _ _ _ fun _ => .setPd _ _
  | pand | por | pxor | pandn => cases hi; cases hexec; exact .plog2 _ _
  | lw | lwu | ld => cases hi; cases hexec; exact .load _ _ _
  | beq | bne | blt | bge | bltu | bgeu | bp | bnp => cases hi; cases hexec; exact .branch _ _ _ _
  | _ => cases hi

/-! ### Writes to local memory, and the tasks that wait for them (R93, R112, R186) -/

/-- A change to a comb that leaves its cells and its steward leaves every core. -/
theorem core_modComb (s : State) (i : Site) (f : Comb → Comb) (j : CoreId) (hcell : ∀ k p, (f k).cell p = k.cell p)
    (hsteward : ∀ k, (f k).steward = k.steward) : (s.modComb i f).core j = s.core j := by
  have hcomb (si : Site) : ((s.modComb i f).comb si).steward = (s.comb si).steward ∧
      ∀ p, ((s.modComb i f).comb si).cell p = (s.comb si).cell p := by
    by_cases e : si = i
    · rw [e, comb_modComb]; exact ⟨hsteward _, hcell _⟩
    · rw [comb_modComb_ne _ _ _ _ e]; exact ⟨rfl, fun _ => rfl⟩
  cases j with
  | cell si p => exact congrArg Cell.core ((hcomb si).2 p)
  | steward si => exact (hcomb si).1
  | keeper h k => cases h <;> rfl

/-- New contents of a local memory leave every core. -/
theorem core_setRam (s : State) (i : CoreId) (r : Ram) (j : CoreId) : (s.setRam i r).core j = s.core j := by
  cases i with
  | cell si p => exact core_modCell s ⟨si, p⟩ _ j fun _ => rfl
  | steward si => exact core_modComb s si _ j (fun _ _ => rfl) fun _ => rfl
  | keeper h k => cases j with
    | cell => simp [State.core, State.setRam]
    | steward => simp [State.core, State.setRam]
    | keeper g l => cases h <;> cases g <;> rfl

theorem task_setRam (s : State) (i : CoreId) (r : Ram) (b : At) : (s.setRam i r).task b = s.task b := by
  rw [State.task, core_setRam]; rfl

/-- From s to t no task moves but those in a waitw, which a write to local memory may end. -/
structure WakeFrame (s t : State) : Prop where
  task : ∀ b, NoWatch (s.task b) → t.task b = s.task b
  rest : s.KeepsRest t

theorem WakeFrame.refl (s : State) : WakeFrame s s := ⟨fun _ _ => rfl, keepsRest_refl s⟩

theorem WakeFrame.trans (h : WakeFrame s t) (g : WakeFrame t u) : WakeFrame s u :=
  ⟨fun b hb => (g.task b (by rwa [h.task b hb])).trans (h.task b hb), keepsRest_trans h.rest g.rest⟩

/-- A panel where one task alone moved, and that one in a waitw. -/
theorem WakeFrame.of_taskFrame (h : TaskFrame a rd pd s t) (hwatch : ¬ NoWatch (s.task a)) : WakeFrame s t :=
  ⟨fun b hb => h.others b fun e => hwatch (by rwa [← e]), h.rest⟩

/-- A waitw that looks again moves its own task alone: it reads memory, and traps, goes on or waits. -/
theorem WakeFrame.evalWaitw (b : At) : WakeFrame s (s.evalWaitw b) := by
  unfold State.evalWaitw
  split
  · next rd p v w hwait =>
    have hwatch : ¬ NoWatch (s.task b) := fun h => h rd p v w hwait
    have hread : TaskFrame b (some rd) none s (s.memRead b.core p 1).2 := .memRead _ _ _
    have hend (u : State) : TaskFrame b (some rd) none u (u.endWait b rd 0) :=
      .modTask _ (keeps_set (isCell b.core) (u.task b) rd 0 (nextPc b.core (u.task b).pc)) fun _ _ _ _ _ h => by cases h
    split
    · split
      · next e => rw [e] at hread; exact .of_taskFrame (hread.trans (.trap _ _)) hwatch
      · next e =>
        rw [e] at hread
        split
        · exact .of_taskFrame hread hwatch
        · exact .of_taskFrame (hread.trans (hend _)) hwatch
    · exact .refl s
  · exact .refl s

theorem WakeFrame.foldl {α : Type} (f : State → α → State) (h : ∀ s x, WakeFrame s (f s x)) (l : List α) : WakeFrame s (l.foldl f s) := by
  induction l generalizing s with
  | nil => exact .refl s
  | cons x l ih => exact (h s x).trans ih

theorem WakeFrame.wake (i : CoreId) (p n : Nat) : WakeFrame s (s.wake i p n) := by
  refine .foldl _ (fun s b => ?_) _
  split
  · exact .evalWaitw b
  · exact .refl s

theorem WakeFrame.memWrite (i : CoreId) (p : Nat) (ws : List W32) : WakeFrame s (s.memWrite i p ws) :=
  .trans ⟨fun b _ => task_setRam s i _ b, keepsRest_setRam s i _⟩ (.wake i p ws.length)

/-- A write to local memory leaves every word outside the words written. -/
theorem word_memWrite_other (s : State) (i j : CoreId) (p q : Nat) (ws : List W32) (h : ¬ sameRam i j ∨ q < p ∨ p + ws.length ≤ q) :
    ((s.memWrite i p ws).ram j).word q = (s.ram j).word q := by
  by_cases hram : sameRam i j
  · rw [ram_sameRam _ hram, ram_sameRam s hram, ram_memWrite, Ram_word_write_other _ _ _ _ (h.resolve_left (not_not_intro hram))]
  · rw [ram_memWrite_ne _ _ _ _ _ hram]

/-! ### The frame of a store or an atomic (R94, R106, R107) -/

/-- From s to t a task has stored words of some physical range of its core's memory, or none: every register and predicate stays, every
task but those in a waitw, and every word outside the range. -/
structure StoreFrame (a : At) (outside : CoreId → Nat → Prop) (s t : State) : Prop where
  others : ∀ b, b ≠ a → NoWatch (s.task b) → t.task b = s.task b
  own : NoWatch (s.task a) → (s.task a).Keeps (isCell a.core) (t.task a) none none
  rest : s.KeepsRest t
  word : ∀ j p, outside j p → (t.ram j).word p = (s.ram j).word p

variable {outside : CoreId → Nat → Prop}

/-- A task that stores nothing. -/
theorem TaskFrame.storeFrame (h : TaskFrame a none none s t) : StoreFrame a outside s t :=
  ⟨fun b hb _ => h.others b hb, fun _ => h.own, h.rest, fun j p _ => by rw [h.ram]⟩

theorem StoreFrame.memWrite (h : TaskFrame a none none s t) {p : Nat} {ws : List W32}
    (houtside : ∀ j q, outside j q → ¬ sameRam a.core j ∨ q < p ∨ p + ws.length ≤ q) : StoreFrame a outside s (t.memWrite a.core p ws) := by
  have hwake : WakeFrame t (t.memWrite a.core p ws) := .memWrite _ _ _
  refine ⟨fun b hb hwatch => ?_, fun hwatch => ?_, keepsRest_trans h.rest hwake.rest, fun j q hq => ?_⟩
  · rw [hwake.task b (by rwa [h.others b hb]), h.others b hb]
  · rw [hwake.task a (h.noWatch hwatch)]; exact h.own
  · rw [word_memWrite_other t a.core j p q ws (houtside j q hq), h.ram]

/-- The frame of an issue that stores is that of its own work on the panel as issued. -/
theorem StoreFrame.issue (reads : List Reg) (ill : Bool) (body : State → State) (hbody : StoreFrame a outside s (body (s.issued a))) :
    StoreFrame a outside s (s.issue a reads ill body) := by
  have hfetch : TaskFrame a none none s (s.fetch a).2 := .fetch
  have hissued : TaskFrame a none none s (s.issued a) := .issued
  unfold State.issue
  split
  · split
    · next e => rw [e] at hfetch; exact (hfetch.trans (.trap _ _)).storeFrame
    · next e =>
      rw [State.issued, e] at hissued hbody
      split
      · exact (hissued.trans (.trap _ _)).storeFrame
      · exact hbody
  · exact (TaskFrame.refl s).storeFrame

/-- The words outside n words at a virtual address of a task that the access rights of the access let it reach. -/
def OutsideAccess (s : State) (a : At) (va : W64) (n : Nat) (q : Right) (j : CoreId) (p : Nat) : Prop :=
  ∀ k, s.dataCheck a va n q = .ok k → ¬ sameRam a.core j ∨ p < k ∨ k + n ≤ p

theorem length_valWords (v : W64) {n : Nat} (hn : n = 1 ∨ n = 2) : (valWords v n).length = n := by
  rcases hn with rfl | rfl <;> rfl

theorem length_amoWords (code : Nat) (w64 : Bool) (old x cmp : W64) : (amoWords code w64 old x cmp).length = if w64 then 2 else 1 := by
  cases w64 <;> rfl

theorem StoreFrame.storeOp (f : OpST) {n : Nat} (hn : n = 1 ∨ n = 2) :
    StoreFrame a (OutsideAccess s a (dataVa (s.task a) f.rs1 f.imm) n rightW) s (s.storeOp a f n) := by
  have hissued : TaskFrame a none none s (s.issued a) := .issued
  refine .issue _ _ _ ?_
  simp only [task_issued, dataCheck_issued]
  split
  · exact (hissued.trans (.trap _ _)).storeFrame
  · next p hp =>
    refine .memWrite (hissued.trans (.modTask _ (keeps_refl ..) id)) fun j q hq => ?_
    rw [length_valWords _ hn]
    exact hq p hp

theorem StoreFrame.amo (f : OpAmo) (code : Nat) (reads : List Reg) :
    StoreFrame a (OutsideAccess s a ((s.task a).x f.rs1) (if bit f.fh 6 then 2 else 1) rightRW) s (s.amo a f code reads) := by
  have hissued : TaskFrame a none none s (s.issued a) := .issued
  unfold State.amo
  dsimp only
  by_cases hwaits : (bit f.fh 4 && decide (s.outstanding a ≠ 0)) = true
  · rw [if_pos hwaits]
    exact (TaskFrame.refl s).storeFrame
  · rw [if_neg hwaits]
    refine .issue _ _ _ ?_
    simp only [task_issued, dataCheck_issued]
    cases hp : s.dataCheck a ((s.task a).x f.rs1) (if bit f.fh 6 then 2 else 1) rightRW with
    | error c => exact (hissued.trans (.trap _ _)).storeFrame
    | ok p =>
      have hread := hissued.trans (.memRead a.core p (if bit f.fh 6 then 2 else 1))
      dsimp only
      rcases hmem : (s.issued a).memRead a.core p (if bit f.fh 6 then 2 else 1) with ⟨_ | ws, s1⟩
      · rw [hmem] at hread
        exact (hread.trans (.trap _ _)).storeFrame
      · rw [hmem] at hread
        refine .memWrite (hread.trans (.modTask _ (keeps_refl ..) id)) fun j q hq => ?_
        rw [length_amoWords]
        exact hq p hp

/-- The frame of every instruction that stores. -/
theorem exec_storeFrame {i : Instr} {va : W64} {n : Nat} {q : Right} (hi : wordsStoredBy s i = some (a, va, n, q)) (hexec : exec i s = .next t) :
    StoreFrame a (OutsideAccess s a va n q) s t := by
  cases i with
  | sw => cases hi; cases hexec; exact .storeOp _ (.inl rfl)
  | sd => cases hi; cases hexec; exact .storeOp _ (.inr rfl)
  | amoswap | amoadd | amoand | amoor | amoxor | amomin | amomax | amominu | amomaxu | amocas =>
    cases hi; cases hexec; exact .amo _ _ _
  | _ => cases hi

end

/-- Settles O60, by the frame of each shape of instruction: an issue, its one change to its task, and a store's write with the waits that it
ends. -/
theorem workerInstructionsChangeNothingElse : Obligations.WorkerInstructionsChangeNothingElse := by
  unfold Obligations.WorkerInstructionsChangeNothingElse
  refine ⟨fun s t i a rd pd hi hexec => ?_, fun s t i a va n q hi hexec => ?_⟩
  · have h := exec_taskFrame hi hexec
    exact ⟨h.others, h.own, h.rest, fun j p => by rw [h.ram]⟩
  · have h := exec_storeFrame hi hexec
    exact ⟨h.others, h.own, h.rest, h.word⟩

end Sys2Proof.Laws

namespace Sys2Proof.Laws
open Sys2Proof.Machine

/-! ### TSK_CELL_CTRL (R57, R58, R62) -/

/-- An access wakes no site that is in Noon. -/
theorem accessWake_noon {s : State} {c : CellAt} (h : (s.comb c.site).siteSt c.phys = 0) : s.accessWake c = s := by
  simp [State.accessWake, State.dawn, h]

/-- A write of TSK_CELL_CTRL acts at a cell in Noon that is out of reset, or whose value resets it. -/
theorem cellCtrlAccess_noon {s : State} {c : CellAt} (h : (s.comb c.site).siteSt c.phys = 0) {v : W64}
    (hreset : (s.cell c).inReset = false ∨ bit v 0 = true) : s.cellCtrlAccess c v = s.cellCtrl c v := by
  unfold State.cellCtrlAccess
  rw [if_neg (by simp [State.cellReach, h]), if_neg (by rcases hreset with h | h <;> simp [h]), accessWake_noon h]

/-- What its packets say of a cell: its endpoint, its colony and its epoch (R301). -/
def senderOf (s : State) (c : CellAt) : Eid × Byte × Nat :=
  (s.eidOf (.cell c.site c.phys), s.coreColony (.cell c.site c.phys), s.coreEpoch (.cell c.site c.phys))

/-- The logical cells of a comb are its site map's. -/
theorem logicalOf_congr {k l : Comb} (h : k.siteMap = l.siteMap) (p : Phys) : k.logicalOf p = l.logicalOf p := by
  simp only [Comb.logicalOf, Comb.mapWord, h]

/-- A change to a comb that leaves its site map, its epochs and its cells' colonies. -/
theorem senderOf_modComb (s : State) (i : Site) (f : Comb → Comb) (c : CellAt) (hmap : (f (s.comb i)).siteMap = (s.comb i).siteMap)
    (hepochs : (f (s.comb i)).epochs = (s.comb i).epochs) (hinit : (f (s.comb i)).epochInit = (s.comb i).epochInit)
    (hcolony : ∀ p, ((f (s.comb i)).cell p).colony = ((s.comb i).cell p).colony) : senderOf (s.modComb i f) c = senderOf s c := by
  obtain ⟨si, p⟩ := c
  have hsite : si.val < 224 := si.isLt
  by_cases e : si = i
  · subst e
    refine Prod.ext ?_ (Prod.ext ?_ ?_)
    · show (s.modComb si f).eid _ (((s.modComb si f).comb si).logicalOf p) = _
      rw [comb_modComb, logicalOf_congr hmap]; rfl
    · show (((s.modComb si f).comb si).cell p).colony = _
      rw [comb_modComb, hcolony]; rfl
    · simp [senderOf, State.coreEpoch, State.epochOf, hsite, hepochs, hinit]
  · refine Prod.ext ?_ (Prod.ext ?_ ?_)
    · show (s.modComb i f).eid _ (((s.modComb i f).comb si).logicalOf p) = _
      rw [comb_modComb_ne _ _ _ _ e]; rfl
    · show (((s.modComb i f).comb si).cell p).colony = _
      rw [comb_modComb_ne _ _ _ _ e]; rfl
    · simp [senderOf, State.coreEpoch, State.epochOf, hsite, comb_modComb_ne _ _ _ _ e]

/-- A change to a cell that leaves its colony. -/
theorem senderOf_modCell (s : State) (d : CellAt) (f : Cell → Cell) (c : CellAt) (h : (f (s.cell d)).colony = (s.cell d).colony) :
    senderOf (s.modCell d f) c = senderOf s c := by
  refine senderOf_modComb s d.site _ c rfl rfl rfl fun p => ?_
  by_cases hp : p = d.phys
  · rw [hp, cell_setCell_comb]; exact h
  · rw [cell_setCell_comb_ne _ _ _ _ hp]

@[simp] theorem senderOf_setKeeper (s : State) (h : Half) (k : Keeper) (c : CellAt) : senderOf (s.setKeeper h k) c = senderOf s c := by
  have hsite : c.site.val < 224 := c.site.isLt
  refine Prod.ext ?_ (Prod.ext ?_ ?_)
  · cases h <;> rfl
  · cases h <;> rfl
  · simp [senderOf, State.coreEpoch, State.epochOf, hsite]

@[simp] theorem senderOf_modCore (s : State) (i : CoreId) (f : Core → Core) (c : CellAt) : senderOf (s.modCore i f) c = senderOf s c := by
  cases i with
  | cell si p => exact senderOf_modCell s ⟨si, p⟩ _ c rfl
  | steward si => exact senderOf_modComb s si _ c rfl rfl rfl fun _ => rfl
  | keeper h k => exact senderOf_setKeeper s h _ c

@[simp] theorem senderOf_modTask (s : State) (a : At) (f : Task → Task) (c : CellAt) : senderOf (s.modTask a f) c = senderOf s c :=
  senderOf_modCore s a.core _ c

@[simp] theorem senderOf_sendErr (s : State) (n : Nat) (r : ErrRec) (c : CellAt) : senderOf (s.sendErr n r) c = senderOf s c := rfl

@[simp] theorem senderOf_setRam (s : State) (i : CoreId) (r : Ram) (c : CellAt) : senderOf (s.setRam i r) c = senderOf s c := by
  cases i with
  | cell si p => exact senderOf_modCell s ⟨si, p⟩ _ c rfl
  | steward si => exact senderOf_modComb s si _ c rfl rfl rfl fun _ => rfl
  | keeper h k => exact senderOf_setKeeper s h _ c

@[simp] theorem senderOf_setCellErr (s : State) (d : CellAt) (b : Nat) (c : CellAt) : senderOf (s.setCellErr d b) c = senderOf s c := by
  unfold State.setCellErr
  split
  · rfl
  · exact (senderOf_sendErr _ _ _ c).trans (senderOf_modCell s d _ c rfl)

@[simp] theorem senderOf_noteRead (s : State) (d : CellAt) (ces : List Nat) (ue : Option Nat) (c : CellAt) :
    senderOf (s.noteRead d ces ue) c = senderOf s c := by
  have hcount (t : State) (a : Nat) :
      senderOf ((t.modCell d (fun x => { x with ueCount := satInc x.ueCount, lastAddr := BitVec.ofNat 19 a })).setCellErr d errCmemUe) c =
        senderOf t c := (senderOf_setCellErr _ _ _ c).trans (senderOf_modCell t d _ c rfl)
  unfold State.noteRead
  cases ces.getLast? with
  | none => cases ue with
    | none => rfl
    | some u => exact hcount s u
  | some a => cases ue with
    | none => exact senderOf_modCell s d _ c rfl
    | some u => exact (hcount _ u).trans (senderOf_modCell s d _ c rfl)

@[simp] theorem senderOf_memRead (s : State) (i : CoreId) (a n : Nat) (c : CellAt) : senderOf (s.memRead i a n).2 c = senderOf s c := by
  rw [memRead_snd]
  split
  · exact senderOf_noteRead _ _ _ _ c
  · rfl

@[simp] theorem senderOf_trap (s : State) (a : At) (cause : Byte) (v : W64) (c : CellAt) : senderOf (s.trap a cause v) c = senderOf s c := by
  unfold State.trap State.trapAt
  split
  · simp
  · split <;> simp
  · split <;> simp

@[simp] theorem senderOf_evalWaitw (s : State) (a : At) (c : CellAt) : senderOf (s.evalWaitw a) c = senderOf s c := by
  unfold State.evalWaitw
  split
  · next p _ _ _ =>
    have hread := senderOf_memRead s a.core p 1 c
    split
    · split
      · next e => rw [e] at hread; simpa using hread
      · next e =>
        rw [e] at hread
        split
        · exact hread
        · exact (senderOf_modTask _ _ _ c).trans hread
    · rfl
  · rfl

/-- A write to a local memory, with the waits that it ends. -/
@[simp] theorem senderOf_memWrite (s : State) (i : CoreId) (p : Nat) (ws : List W32) (c : CellAt) :
    senderOf (s.memWrite i p ws) c = senderOf s c := by
  have hwake (t : State) (l : List At) :
      senderOf (l.foldl (fun u b => if (u.task b).watches p ws.length then u.evalWaitw b else u) t) c = senderOf t c := by
    refine foldl_keeps (γ := Eid × Byte × Nat) _ (fun u : State => senderOf u c) (fun u b => ?_) l t
    split
    · exact senderOf_evalWaitw u b c
    · rfl
  exact (hwake _ _).trans (senderOf_setRam s i _ c)

/-- What a sender learns of its line leaves what every cell's packets say of it. -/
@[simp] theorem senderOf_nbrAnswer (s : State) (i : Site) (l : NbrLine) (r : Nat) (c : CellAt) : senderOf (s.nbrAnswer i l r) c = senderOf s c := by
  unfold State.nbrAnswer
  dsimp only
  split
  · simp [State.setExpect, State.modMov]
  · split <;> simp [State.setExpect, State.failDesc, State.modMov]

theorem eidOf_of_senderOf {s t : State} {c : CellAt} (h : senderOf t c = senderOf s c) :
    t.eidOf (.cell c.site c.phys) = s.eidOf (.cell c.site c.phys) := congrArg Prod.fst h

theorem coreColony_of_senderOf {s t : State} {c : CellAt} (h : senderOf t c = senderOf s c) :
    t.coreColony (.cell c.site c.phys) = s.coreColony (.cell c.site c.phys) := congrArg (fun x => x.2.1) h

theorem coreEpoch_of_senderOf {s t : State} {c : CellAt} (h : senderOf t c = senderOf s c) :
    t.coreEpoch (.cell c.site c.phys) = s.coreEpoch (.cell c.site c.phys) := congrArg (fun x => x.2.2) h

theorem colony_of_senderOf {s t : State} {c : CellAt} (h : senderOf t c = senderOf s c) : (t.cell c).colony = (s.cell c).colony :=
  coreColony_of_senderOf h

/-- A cell reset refuses the lines in the elastic buffers and leaves the cell as after a reset (R57). -/
theorem cell_cellReset {s : State} {c : CellAt} (h : (s.cell c).clk.changing = false) :
    ∃ x : Cell, (s.cellReset c).cell c = x.afterReset ∧ x.colony = (s.cell c).colony := by
  have hreset : s.cellReset c = ((s.cell c).elastic.foldl (fun s l => s.nbrAnswer c.site l.2 nkInReset) s).modCell c Cell.afterReset :=
    if_neg (by simp [h])
  have hsender (l : List (Dir × NbrLine)) : senderOf (l.foldl (fun s l => s.nbrAnswer c.site l.2 nkInReset) s) c = senderOf s c := by
    refine foldl_keeps (γ := Eid × Byte × Nat) _ (fun u : State => senderOf u c) (fun u l => ?_) l s
    exact senderOf_nbrAnswer u c.site l.2 nkInReset c
  exact ⟨_, by rw [hreset, cell_modCell], colony_of_senderOf (hsender _)⟩

/-- A quiesced cell reads QUIESCED. -/
theorem quiesced_quiesce (s : State) (c : CellAt) : ((s.quiesce c).cell c).quiesced = true := by
  unfold State.quiesce
  split
  · assumption
  · rw [cell_modCell]

/-- Settles O17, by the rule of TSK_CELL_CTRL at a cell in Noon. -/
theorem cellControlResetsQuiescesAndResumes : Obligations.CellControlResetsQuiescesAndResumes := by
  unfold Obligations.CellControlResetsQuiescesAndResumes
  intro s c hnoon hclk
  have hreset : exec (.cellReset c 1) s = .next (s.cellReset c) := next_congr (cellCtrlAccess_noon hnoon (.inr rfl))
  refine ⟨hreset, ⟨_, hreset, ?reset⟩, fun hup => ⟨⟨_, next_congr (cellCtrlAccess_noon hnoon (.inl hup)), quiesced_quiesce s c, ?quiesced⟩,
    fun hq => next_congr (cellCtrlAccess_noon hnoon (.inl hup)), fun hq => ?running⟩⟩
  case reset =>
    obtain ⟨x, hx, hcol⟩ := cell_cellReset (s := s) hclk
    rw [hx]
    exact ⟨rfl, rfl, hcol, rfl, rfl⟩
  case quiesced => exact fun hq => if_pos hq
  case running =>
    have hstays : s.resume c = s := if_pos (by simp [hq])
    exact next_congr ((cellCtrlAccess_noon hnoon (.inl hup)).trans hstays)

/-! ### Inbound packets at a cell (R54, R173, R177, R178, R181) -/

/-- An inbound access at a cell that takes traffic is checked and done on the panel without the packet. -/
theorem rxCell_ok {s : State} {c : CellAt} {p : DataPkt} (h : AtCell s c p) (hholds : s.cellHolds c = false) (n : Nat) (q : Right) (wide : Bool)
    (body : Nat → State → State) :
    s.rxCell c p n q wide body = match (s.takeData p).rxCheck c p n q wide with
      | .refuse r w => (s.takeData p).rxRefuse c p r w
      | .ok a => body a (s.takeData p) := by
  unfold State.rxCell State.atCell
  rw [hholds]
  exact atCell_ok h _

/-- An access that passes its check is done. -/
theorem rxCell_pass {s : State} {c : CellAt} {p : DataPkt} (h : AtCell s c p) (hholds : s.cellHolds c = false) {n : Nat} {q : Right} {wide : Bool}
    {a : Nat} (hcheck : (s.takeData p).rxCheck c p n q wide = .ok a) (body : Nat → State → State) :
    s.rxCell c p n q wide body = body a (s.takeData p) := by
  rw [rxCell_ok h hholds, hcheck]

/-- An access that its check refuses is refused. -/
theorem rxCell_refuse {s : State} {c : CellAt} {p : DataPkt} (h : AtCell s c p) (hholds : s.cellHolds c = false) {n : Nat} {q : Right} {wide : Bool}
    {r : Nat} {w : Bool} (hcheck : (s.takeData p).rxCheck c p n q wide = .refuse r w) (body : Nat → State → State) :
    s.rxCell c p n q wide body = (s.takeData p).rxRefuse c p r w := by
  rw [rxCell_ok h hholds, hcheck]

/-- A read of the panel without a packet answers the words that the panel with it holds. -/
theorem memRead_takeData {s : State} {i : CoreId} {a n : Nat} (h : (s.ram i).firstUe a n = none) (p : DataPkt) :
    (s.takeData p).memRead i a n = (.ok ((s.ram i).read a n), ((s.takeData p).memRead i a n).2) := by
  cases i <;> exact memRead_ok _ _ _ _ h

section
variable {s : State} {c : CellAt} {p : DataPkt} {a : Nat}

/-- A write that passes its check is made, and acknowledged by the cell (R178). -/
theorem exec_cellWritePacket_ok (hat : AtCell s c p) (hholds : s.cellHolds c = false) (htype : p.type = 0x01)
    (hcheck : (s.takeData p).rxCheck c p p.payload.length rightW true = .ok a) :
    exec (.cellWritePacket (.core (.cell c.site c.phys)) p) s =
      .next (((s.takeData p).memWrite (.cell c.site c.phys) a p.payload).ackData ((s.takeData p).eidOf (.cell c.site c.phys)) p) := by
  refine next_congr ((if_neg (by simp [htype, State.voicePort])).trans ?_)
  exact rxCell_pass hat hholds hcheck _

/-- A write that a receive window refuses sets RX_WIN and is refused (R54). -/
theorem exec_cellWritePacket_refuse (hat : AtCell s c p) (hholds : s.cellHolds c = false) (htype : p.type = 0x01) {r : Nat}
    (hcheck : (s.takeData p).rxCheck c p p.payload.length rightW true = .refuse r true) :
    exec (.cellWritePacket (.core (.cell c.site c.phys)) p) s =
      .next (((s.takeData p).setCellErr c 4).nackData ((s.takeData p).eidOf (.cell c.site c.phys)) p r) := by
  refine next_congr ((if_neg (by simp [htype, State.voicePort])).trans ?_)
  exact (rxCell_refuse hat hholds hcheck _).trans rfl

/-- A write of one or two words that passes its check is made, and acknowledged by the cell (R302). -/
theorem exec_writeWordPacket_ok (hat : AtCell s c p) (hholds : s.cellHolds c = false) (htype : p.type = 0x02)
    (hcheck : (s.takeData p).rxCheck c p (if bit (plWord p 2) 0 then 2 else 1) rightW false = .ok a) :
    exec (.writeWordPacket (.core (.cell c.site c.phys)) p) s =
      .next (((s.takeData p).memWrite (.cell c.site c.phys) a (p.payload.take (if bit (plWord p 2) 0 then 2 else 1))).ackData
        ((s.takeData p).eidOf (.cell c.site c.phys)) p) := by
  refine next_congr ((if_neg (by simp [htype])).trans ?_)
  exact rxCell_pass hat hholds hcheck _

/-- A read that passes its check and meets no uncorrectable word is answered with the words (R177). -/
theorem exec_readReqPacket_ok (hat : AtCell s c p) (hholds : s.cellHolds c = false) (htype : p.type = 0x03)
    (hcheck : (s.takeData p).rxCheck c p ((fld (plWord p 0) 3 0 + 1) * 64) rightR true = .ok a)
    (hue : (s.ram (.cell c.site c.phys)).firstUe a ((fld (plWord p 0) 3 0 + 1) * 64) = none) :
    exec (.readReqPacket (.core (.cell c.site c.phys)) p) s =
      .next (((s.takeData p).memRead (.cell c.site c.phys) a ((fld (plWord p 0) 3 0 + 1) * 64)).2.sendData
        (mkData 0x04 p.src ((s.takeData p).eidOf (.cell c.site c.phys)) ((s.takeData p).coreColony (.cell c.site c.phys))
          ((s.takeData p).coreEpoch (.cell c.site c.phys)) p.addr.toNat p.tag
          ((s.ram (.cell c.site c.phys)).read a ((fld (plWord p 0) 3 0 + 1) * 64)))) := by
  refine next_congr ((if_neg (by simp [htype])).trans ((rxCell_pass hat hholds hcheck _).trans ?_))
  dsimp only
  rw [memRead_takeData hue]
  rfl

/-- An atomic that passes its check and meets no uncorrectable word is performed, and answered with the old value (R181). -/
theorem exec_atomicPacket_ok (hat : AtCell s c p) (hholds : s.cellHolds c = false) (htype : p.type = 0x05) (hop : fld (plWord p 4) 3 0 ≤ 9)
    (hcheck : (s.takeData p).rxCheck c p (if bit (plWord p 4) 4 then 2 else 1) rightRW false = .ok a)
    (hue : (s.ram (.cell c.site c.phys)).firstUe a (if bit (plWord p 4) 4 then 2 else 1) = none) :
    let m := if bit (plWord p 4) 4 then 2 else 1
    let old := wordsVal ((s.ram (.cell c.site c.phys)).read a m) m
    exec (.atomicPacket c p) s =
      .next ((((s.takeData p).memRead (.cell c.site c.phys) a m).2.memWrite (.cell c.site c.phys) a
          (amoWords (fld (plWord p 4) 3 0) (bit (plWord p 4) 4) old (plW64 p 0) (plW64 p 2))).sendData
        (mkData 0x06 p.src ((s.takeData p).eidOf (.cell c.site c.phys)) ((s.takeData p).coreColony (.cell c.site c.phys))
          ((s.takeData p).coreEpoch (.cell c.site c.phys)) p.addr.toNat p.tag [loW old, hiW old])) := by
  refine next_congr ((if_neg (by simp [htype])).trans ((if_neg (by omega)).trans ((rxCell_pass hat hholds hcheck _).trans ?_)))
  dsimp only
  rw [memRead_takeData hue]

end

/-- Settles O26, by the check of an inbound access and the one access that its type makes. -/
theorem inboundPacketsReadAndWriteMemory : Obligations.InboundPacketsReadAndWriteMemory := by
  unfold Obligations.InboundPacketsReadAndWriteMemory
  intro s c p hat hholds
  refine ⟨fun a htype hcheck => ?write, fun r htype hcheck => ?refused,
    fun a htype hcheck => ?word, fun a htype hcheck hue => ?read,
    fun a htype hop hcheck hue => ?atomic⟩
  case atomic =>
    refine ⟨_, exec_atomicPacket_ok hat hholds htype hop hcheck hue, _, ?type, ?dst, ?tag, rfl⟩
    case type => rfl
    case dst => rfl
    case tag => rfl
  case write =>
    dsimp only
    rw [eidOf_of_senderOf (senderOf_memWrite ..)]
    exact exec_cellWritePacket_ok hat hholds htype hcheck
  case refused =>
    dsimp only
    rw [eidOf_of_senderOf (senderOf_setCellErr ..)]
    exact exec_cellWritePacket_refuse hat hholds htype hcheck
  case word =>
    dsimp only
    rw [eidOf_of_senderOf (senderOf_memWrite ..)]
    exact exec_writeWordPacket_ok hat hholds htype hcheck
  case read =>
    have hsender := senderOf_memRead (s.takeData p) (.cell c.site c.phys) a ((fld (plWord p 0) 3 0 + 1) * 64) c
    dsimp only
    rw [eidOf_of_senderOf hsender, coreColony_of_senderOf hsender, coreEpoch_of_senderOf hsender]
    exact exec_readReqPacket_ok hat hholds htype hcheck hue

/-! ### Neighbour lines and answers (R39–R41, R58, R177, R181) -/

/-- Settles O27, by the rule of an arrival at a core and the descriptor that expects the answer. -/
theorem linesAndAnswersLand : Obligations.LinesAndAnswersLand := by
  unfold Obligations.LinesAndAnswersLand
  refine ⟨fun s c d l hoff hasleep => ⟨fun hq hqing => ?delivered, fun hq => ?held⟩,
    fun s i p mv d e hat => ⟨fun a n htype hexp hans => ?lines, fun htype hexp => ?old⟩,
    fun s i p mv d e hat => ⟨fun hcls hexp => ?ack, fun hcls hnet hexp => ?nack⟩⟩
  case delivered =>
    refine next_congr ((if_neg (by simp [hoff])).trans ((if_neg (by simp [hasleep])).trans ((if_neg (by simp [hq, hqing])).trans rfl)))
  case held =>
    refine next_congr ((if_neg (by simp [hoff])).trans ((if_neg (by simp [hasleep])).trans ((if_pos (.inl hq)).trans rfl)))
  case lines =>
    have hcore : ((s.takeData p).core i).expecting (fun _ e => e.has p.tag) = some (mv, d, e) := by cases i <;> exact hexp
    refine next_congr ((if_neg (by simp [htype])).trans ((atCore_ok hat _).trans ?_))
    rw [hcore]
    dsimp only
    rw [hans]
  case old =>
    have hcore : ((s.takeData p).core i).expecting (fun _ e => e.has p.tag && decide (e.answer = .old)) = some (mv, d, e) := by
      cases i <;> exact hexp
    refine next_congr ((if_neg (by simp [htype])).trans ((atCore_ok hat _).trans ?_))
    rw [hcore]
  case ack =>
    have hcore : ((s.takeCtl p).core i).expecting (fun _ e => e.has (p.payload.extractLsb' 0 16) && decide (e.answer = .ack)) = some (mv, d, e) := by
      cases i <;> exact hexp
    refine next_congr ((if_neg (by simp [hcls, State.voicePort])).trans ((ctlAtCore_ok hat _).trans ?_))
    simp only [bits, hcore]
  case nack =>
    have hcore : ((s.takeCtl p).core i).expecting (fun _ e => e.has (p.payload.extractLsb' 32 16)) = some (mv, d, e) := by
      cases i <;> exact hexp
    refine next_congr ((if_neg (by simp [hcls, State.voicePort])).trans ((ctlAtCore_ok hat _).trans ?_))
    simp only [hnet, State.dataNack, bits, hcore]
    rfl

end Sys2Proof.Laws

namespace Sys2Proof.Laws
open Sys2Proof.Machine

/-! ### Register packets (R60, R299, R300) -/

/-- A control packet with a good CRC is taken and does its work. -/
theorem arriveCtl_ok {p : CtlPkt} (hcrc : p.crc = ctlCrc6 p) (hgen : p.gen = 0) (s : State) (site ep : Nat) (body : State → State) :
    s.arriveCtl site ep p body = body (s.takeCtl p) := by
  simp only [State.arriveCtl, admitCtl_ok hcrc hgen]

section
variable {s : State} {u : RegUnit} {p b : CtlPkt} {site ep : Nat}

/-- A packet taken off the network changes no source's right to a block. -/
@[simp] theorem regSource_takeCtl (s : State) (q : CtlPkt) (u : RegUnit) (src : Eid) : (s.takeCtl q).regSource u src = s.regSource u src := by
  cases u with
  | core i => cases i <;> rfl
  | sampler => rfl
  | port => rfl
  | store => rfl

/-- Nor what a block can take. -/
@[simp] theorem regOpen_takeCtl (s : State) (q : CtlPkt) (u : RegUnit) (write : Bool) (off : Nat) (v : W64) :
    (s.takeCtl q).regOpen u write off v = s.regOpen u write off v := by
  cases u with
  | core i => cases i <;> rfl
  | sampler => rfl
  | port => rfl
  | store => rfl

/-- A register read that reaches its block does its work on the panel without the packet. -/
theorem exec_regRd_arrives (hplace : s.regPlace u p.dst = some (site, ep)) (hcrc : p.crc = ctlCrc6 p) (hgen : p.gen = 0) (hcls : p.cls = 0x01) :
    exec (.regRd u p) s = .next (
      if !s.regSource u p.src then (s.takeCtl p).regNack u p.dst p nkNotPermitted
      else if !s.regOpen u false (fld p.payload 15 0 / 8 * 8) 0 then (s.takeCtl p).regNack u p.dst p nkInReset
      else
        let r := ((s.takeCtl p).regWake u).regRead u (fld p.payload 15 0 / 8 * 8)
        r.2.sendCtl (mkCtl (0x08 + fld p.payload 18 16) p.src p.dst r.1)) := by
  refine next_congr ((if_neg (by simp [hcls])).trans ?_)
  simp only [hplace, arriveCtl_ok hcrc hgen, regSource_takeCtl, regOpen_takeCtl]

/-- A linked pair from a source that may make it writes the register and is acknowledged (R300). -/
theorem exec_regWr_pair (hplace : s.regPlace u p.dst = some (site, ep)) (hcrc : p.crc = ctlCrc6 p) (hgen : p.gen = 0) (hcls : p.cls = 0x02)
    (hbcls : b.cls = 0x03) (hbdst : b.dst = p.dst) (hbcrc : b.crc = ctlCrc6 b) (hsrc : s.regSource u p.src = true)
    (hopen : s.regOpen u true (fld p.payload 15 0 / 8 * 8) b.payload = true) :
    exec (.regWr u p b) s = .next (((((s.takeCtl b).takeCtl p).regWake u).regWrite u (fld p.payload 15 0 / 8 * 8) b.payload
      (s.srcKeeper p.src)).sendCtl (mkCtl (0x10 + fld p.payload 18 16) p.src p.dst 0)) := by
  refine next_congr ?_
  have hgood (q : CtlPkt) (h : q.crc = ctlCrc6 q) : ¬ (!decide (q.crc = ctlCrc6 q)) = true := by simp [← h]
  simp only [hplace]
  rw [if_pos ⟨hcls, hbcls, hbdst⟩, if_neg (hgood p hcrc), if_neg (hgood b hbcrc), arriveCtl_ok hcrc hgen]
  simp only [regSource_takeCtl, regOpen_takeCtl, hsrc, hopen]
  rfl

end

/-! ### The answers to control accesses, and messages (R122, R123, R299) -/

/-- The class of an answer names its kind and its task (R299). -/
theorem cls_fields {cls : Byte} {n : Nat} {t : TaskId} (h : cls.toNat = 8 * n + t.val) : fld cls 7 3 = n ∧ (bits cls 0 3).toFin = t := by
  have hcls := cls.isLt
  have htask := t.isLt
  constructor
  · simp only [fld]; omega
  · refine Fin.ext ?_
    show (cls.extractLsb' 0 3).toNat = t.val
    rw [BitVec.extractLsb'_toNat, h]; simp

/-- The answer to the cread of a waiting task ends it. -/
theorem accessAnswer_cread {s : State} {a : At} {rd : Reg} {pd : PReg} (hst : (s.task a).st = .waiting) (hwait : (s.task a).wait = .cread rd pd)
    (ok : Bool) (v : W64) : s.accessAnswer a false ok v = s.endAccess a pd ok rd v := by
  simp [State.accessAnswer, hst, hwait]

/-- The acknowledgement of the cwrite of a waiting task ends it. -/
theorem accessAnswer_cwrite {s : State} {a : At} {pd : PReg} (hst : (s.task a).st = .waiting) (hwait : (s.task a).wait = .cwrite pd)
    (ok : Bool) (v : W64) : s.accessAnswer a true ok v = s.endAccess a pd ok 0 0 := by
  simp [State.accessAnswer, hst, hwait]

/-- A packet taken off the network leaves every task. -/
theorem task_takeCtl (s : State) (q : CtlPkt) (b : At) : (s.takeCtl q).task b = s.task b := by
  obtain ⟨i, t⟩ := b
  cases i with
  | cell => rfl
  | steward => rfl
  | keeper h k => cases h <;> rfl

/-- Nor the endpoint of a core. -/
theorem eidOf_takeCtl (s : State) (q : CtlPkt) (i : CoreId) : (s.takeCtl q).eidOf i = s.eidOf i := by
  cases i <;> rfl

/-- Settles O28, by the rule of an arrival at a block or a core. -/
theorem controlPacketsReachRegistersAndQueues : Obligations.ControlPacketsReachRegistersAndQueues := by
  unfold Obligations.ControlPacketsReachRegistersAndQueues
  refine ⟨fun s u p b site ep hplace hcrc hgen => ⟨fun hcls hsrc hopen => ?read, fun hcls hsrc => ?refused,
      fun hcls hbcls hbdst hbcrc hsrc hopen => exec_regWr_pair hplace hcrc hgen hcls hbcls hbdst hbcrc hsrc hopen⟩,
    fun s i p t hat hst => ⟨fun rd pd hcls hwait => ?readAnswer, fun pd hcls hwait => ?writeAck⟩,
    fun s i p hat hlow hhigh => ?message⟩
  case read =>
    rw [exec_regRd_arrives hplace hcrc hgen hcls, if_neg (by rw [hsrc]; decide), if_neg (by rw [hopen]; decide)]
  case refused => rw [exec_regRd_arrives hplace hcrc hgen hcls, if_pos (by simp [hsrc])]
  case readAnswer =>
    obtain ⟨hkind, htask⟩ := cls_fields (n := 1) hcls
    refine next_congr ((if_neg (not_not_intro hkind)).trans ((ctlAtCore_ok hat _).trans ?_))
    rw [htask]
    exact accessAnswer_cread (by rw [task_takeCtl, hst]) (by rw [task_takeCtl, hwait]) true p.payload
  case writeAck =>
    obtain ⟨hkind, htask⟩ := cls_fields (n := 2) hcls
    refine next_congr ((if_neg (not_not_intro hkind)).trans ((ctlAtCore_ok hat _).trans ?_))
    rw [htask]
    exact accessAnswer_cwrite (by rw [task_takeCtl, hst]) (by rw [task_takeCtl, hwait]) true 0
  case message =>
    have hdefined : clsDefined p.cls.toNat = true := by simp [clsDefined, hlow, hhigh]
    refine next_congr ((if_neg (by simp; omega)).trans ((ctlAtCore_ok hat _).trans ?_))
    rw [if_neg (by rw [hdefined]; decide), eidOf_takeCtl]

end Sys2Proof.Laws

namespace Sys2Proof.Laws
open Sys2Proof.Machine

/-! ### Fields of words (R98)

A word is a concatenation of its fields; a field is read by its place. The width of a concatenation is a sum, which the index of `simp` would
evaluate: `no_index` keeps these laws usable at any widths. -/

/-- A field that lies in the low part of a concatenation. -/
@[simp] theorem extractLsb'_append_low {m n start len : Nat} (x : BitVec m) (y : BitVec n) (h : start + len ≤ n) :
    (no_index (x ++ y)).extractLsb' start len = y.extractLsb' start len := BitVec.extractLsb'_append_eq_of_add_le h

/-- A field that lies in the high part of a concatenation. -/
@[simp] theorem extractLsb'_append_high {m n start len : Nat} (x : BitVec m) (y : BitVec n) (h : n ≤ start) :
    (no_index (x ++ y)).extractLsb' start len = x.extractLsb' (start - n) len := BitVec.extractLsb'_append_eq_of_le h

/-- Two neighbouring fields of a word are one field. -/
@[simp] theorem extractLsb'_append_extractLsb' {n i j k l : Nat} (w : BitVec n) (h : i = j + k) :
    HAppend.hAppend (γ := no_index (BitVec (l + k))) (w.extractLsb' i l) (w.extractLsb' j k) = w.extractLsb' j (l + k) :=
  BitVec.extractLsb'_append_extractLsb'_eq_extractLsb' h

/-! The fields of a word that a format spells. -/

@[simp] theorem opRR_append (op : BitVec 6) (f : OpRR) (fn : BitVec 8) : opRR (no_index (op ++ (f.rd ++ f.rs1 ++ f.rs2 ++ f.fh ++ fn))) = f := by
  simp [opRR]

@[simp] theorem opAmo_append (op : BitVec 6) (f : OpAmo) (fn : BitVec 4) :
    opAmo (no_index (op ++ (f.rd ++ f.rs1 ++ f.rs2 ++ f.fh ++ fn))) = f := by
  simp [opAmo]

@[simp] theorem opRRf_append (op : BitVec 6) (f : OpRRf) : opRRf (no_index (op ++ (f.rd ++ f.rs1 ++ f.rs2 ++ f.fn))) = f := by
  simp [opRRf]

@[simp] theorem opRI_append (op : BitVec 6) (f : OpRI) : opRI (no_index (op ++ (f.rd ++ f.rs1 ++ f.imm))) = f := by
  simp [opRI]

@[simp] theorem opST_append (op : BitVec 6) (f : OpST) : opST (no_index (op ++ (f.rs2 ++ f.rs1 ++ f.imm))) = f := by
  simp [opST]

@[simp] theorem opBR_append (op : BitVec 6) (f : OpBR) : opBR (no_index (op ++ (f.rs1 ++ f.rs2 ++ f.off))) = f := by
  simp [opBR]

@[simp] theorem opLI_append (op : BitVec 6) (f : OpLI) : opLI (no_index (op ++ (f.rd ++ f.imm))) = f := by
  simp [opLI]

@[simp] theorem opPC_append (op : BitVec 6) (f : OpPC) : opPC (no_index (op ++ (f.top ++ f.pd ++ f.rs1 ++ f.rs2 ++ f.fn))) = f := by
  simp [opPC]

@[simp] theorem opPI_append (op : BitVec 6) (f : OpPI) : opPI (no_index (op ++ (f.pd ++ f.cc ++ f.rs1 ++ f.imm))) = f := by
  simp [opPI]

@[simp] theorem opPL_append (op : BitVec 6) (f : OpPL) (op2 : BitVec 3) : opPL (no_index (op ++ (f.pd ++ f.pa ++ f.pb ++ f.z ++ op2))) = f := by
  simp [opPL]

@[simp] theorem opBP_append (op : BitVec 6) (f : OpBP) (neg : BitVec 1) : opBP (no_index (op ++ (f.top ++ f.pn ++ neg ++ f.z ++ f.off))) = f := by
  simp [opBP]

@[simp] theorem opMS_append (op : BitVec 6) (f : OpMS) (fn : BitVec 8) : opMS (no_index (op ++ (f.rd ++ f.rs1 ++ f.imm ++ fn))) = f := by
  simp [opMS]

@[simp] theorem opCnt_append (op : BitVec 6) (f : OpCnt) (b : BitVec 1) :
    opCnt (no_index (op ++ (f.rd ++ f.rs1 ++ f.imm ++ f.fh ++ b ++ f.unit))) = f := by
  simp [opCnt]

/-- The major opcode of a word. -/
theorem opcode_append (op : BitVec 6) (r : BitVec 26) : (op ++ r).extractLsb' 26 6 = op := by
  simp

/-- The operation code at the low end of a word. -/
theorem code_append {k m n : Nat} (op : BitVec k) (x : BitVec m) (code : BitVec n) : (op ++ (x ++ code)).extractLsb' 0 n = code := by
  simp

/-- NEG of a bp word. -/
theorem neg_append (op : BitVec 6) (x : BitVec 5) (neg : BitVec 1) (z : BitVec 4) (off : BitVec 16) :
    (op ++ (x ++ neg ++ z ++ off)).extractLsb' 20 1 = neg := by
  simp

/-- FN[3] of a tcount or twait word. -/
theorem cntBit_append (op : BitVec 6) (x : BitVec 22) (b : BitVec 1) (unit : BitVec 3) :
    (op ++ (x ++ b ++ unit)).extractLsb' 3 1 = b := by
  simp

/-! ### The word of an instruction decodes to it (R98–R114, R326) -/

section
variable (x : Reg → W64) (a : At)

/-! The major opcodes whose words hold an operation code besides. -/

theorem decodeWorker_alu (r : BitVec 26) : decodeWorker x a (0x01#6 ++ r) = decodeAlu a (0x01#6 ++ r) := by
  rw [decodeWorker, opcode_append]; rfl

theorem decodeWorker_plog (r : BitVec 26) : decodeWorker x a (0x0d#6 ++ r) = decodePlog a (0x0d#6 ++ r) := by
  rw [decodeWorker, opcode_append]; rfl

theorem decodeWorker_amo (r : BitVec 26) : decodeWorker x a (0x13#6 ++ r) = decodeAmo a (0x13#6 ++ r) := by
  rw [decodeWorker, opcode_append]; rfl

theorem decodeWorker_fence (r : BitVec 26) : decodeWorker x a (0x14#6 ++ r) = decodeFence a (0x14#6 ++ r) := by
  rw [decodeWorker, opcode_append]; rfl

theorem decodeWorker_bp (r : BitVec 26) : decodeWorker x a (0x1b#6 ++ r) = decodeBp a (0x1b#6 ++ r) := by
  rw [decodeWorker, opcode_append]; rfl

theorem decodeWorker_cnt (r : BitVec 26) : decodeWorker x a (0x1f#6 ++ r) = decodeCnt a (0x1f#6 ++ r) := by
  rw [decodeWorker, opcode_append]; rfl

theorem decodeWorker_misc (r : BitVec 26) : decodeWorker x a (0x21#6 ++ r) = decodeMisc a (0x21#6 ++ r) := by
  rw [decodeWorker, opcode_append]; rfl

/-- A wgo decodes by the operation that its register names (R326). -/
theorem decodeWorker_wgo (f : OpRRf) {n : BitVec 4} (hop : bits (x f.rs1) 26 4 = n) :
    decodeWorker x a (0x24#6 ++ (f.rd ++ f.rs1 ++ f.rs2 ++ f.fn)) = decodeWgo a (0x24#6 ++ (f.rd ++ f.rs1 ++ f.rs2 ++ f.fn)) n.toNat := by
  rw [decodeWorker, opcode_append]
  refine congrArg (decodeWgo a _) ?_
  rw [opRRf_append, ← hop]; rfl

end

/-- The word of an instruction decodes to it for the task that it names, where the register of a wgo names the operation. -/
theorem decodeWorker_workerWord {i : Instr} {w : BitVec 32} {x : Reg → W64} (h : workerWord i = some w)
    (hwgo : ∀ e ∈ wgoRows, ∀ (a : At) (f : OpRRf), i = e.1 a f → bits (x f.rs1) 26 4 = e.2) : ∃ a : At, decodeWorker x a w = some i := by
  cases i with
  | addi | andi | ori | xori | shi | shori | bfx | bfi | lw | lwu | ld | jalr | rdreg | wrreg | prd | pwr | movi | jal | cmp | cmpi | sw | sd
  | beq | bne | blt | bge | bltu | bgeu | tq | waitw | cread | cwrite | csend | crecv | tret =>
    rename_i a f
    cases h
    refine ⟨a, ?_⟩
    rw [decodeWorker, opcode_append]
    exact congrArg some (by simp)
  | add | sub | and_ | or_ | xor_ | andn | sll | srl | sra | addw | subw | mul | mulh | mulhu | div | divu | rem | remu | min | max | minu | maxu
  | clz | ctz | popc | sel =>
    rename_i a f
    cases h
    refine ⟨a, ?_⟩
    rw [decodeWorker_alu, decodeAlu, code_append]
    exact congrArg some (by simp)
  | pand | por | pxor | pandn | pnot | pset | pclr =>
    rename_i a f
    cases h
    refine ⟨a, ?_⟩
    rw [decodeWorker_plog, decodePlog, code_append]
    exact congrArg some (by simp)
  | amoswap | amoadd | amoand | amoor | amoxor | amomin | amomax | amominu | amomaxu | amocas =>
    rename_i a f
    cases h
    refine ⟨a, ?_⟩
    rw [decodeWorker_amo, decodeAmo, code_append]
    exact congrArg some (by simp)
  | fenceTask | fenceCell | fenceColony | fencePanel | fenceSwarm =>
    rename_i a z
    cases h
    refine ⟨a, ?_⟩
    rw [decodeWorker_fence, decodeFence, code_append]
    exact congrArg some (by simp)
  | bp | bnp =>
    rename_i a f
    cases h
    refine ⟨a, ?_⟩
    rw [decodeWorker_bp, decodeBp, neg_append]
    exact congrArg some (by simp)
  | tcount | twait =>
    rename_i a f
    cases h
    refine ⟨a, ?_⟩
    rw [decodeWorker_cnt, decodeCnt, cntBit_append]
    exact congrArg some (by simp)
  | yield | stop | tid | rdp | wrp | swtrap =>
    rename_i a f
    cases h
    refine ⟨a, ?_⟩
    rw [decodeWorker_misc, decodeMisc, code_append]
    exact congrArg some (by simp)
  | wgoBarrier | wgoAnd | wgoOr | wgoXor | wgoAdd | wgoMaxu | wgoMinu | wgoMax | wgoMin | wgoQuery | wgoDigest | wgoCommit | wgoAbortStage
  | wgoAbort =>
    rename_i a f
    cases h
    refine ⟨a, ?_⟩
    simp [wgoRows] at hwgo
    rw [decodeWorker_wgo x a f hwgo]
    exact congrArg some (by simp)
  | _ => cases h

/-! ### A word that decodes is its instruction's word (R98–R114, R326) -/

section
variable {w : BitVec 32} {op : BitVec 6} (hop : (w.extractLsb' 26 6).toNat = op.toNat)
include hop

/-! A word is what its opcode, its fields and its operation code spell. -/

theorem append_opRR {fn : BitVec 8} (hfn : (w.extractLsb' 0 8).toNat = fn.toNat) :
    op ++ ((opRR w).rd ++ (opRR w).rs1 ++ (opRR w).rs2 ++ (opRR w).fh ++ fn) = w := by
  simp [← BitVec.eq_of_toNat_eq hop, ← BitVec.eq_of_toNat_eq hfn, opRR]

theorem append_opAmo {fn : BitVec 4} (hfn : (w.extractLsb' 0 4).toNat = fn.toNat) :
    op ++ ((opAmo w).rd ++ (opAmo w).rs1 ++ (opAmo w).rs2 ++ (opAmo w).fh ++ fn) = w := by
  simp [← BitVec.eq_of_toNat_eq hop, ← BitVec.eq_of_toNat_eq hfn, opAmo]

theorem append_opRRf : op ++ ((opRRf w).rd ++ (opRRf w).rs1 ++ (opRRf w).rs2 ++ (opRRf w).fn) = w := by
  simp [← BitVec.eq_of_toNat_eq hop, opRRf]

theorem append_opRI : op ++ ((opRI w).rd ++ (opRI w).rs1 ++ (opRI w).imm) = w := by
  simp [← BitVec.eq_of_toNat_eq hop, opRI]

theorem append_opST : op ++ ((opST w).rs2 ++ (opST w).rs1 ++ (opST w).imm) = w := by
  simp [← BitVec.eq_of_toNat_eq hop, opST]

theorem append_opBR : op ++ ((opBR w).rs1 ++ (opBR w).rs2 ++ (opBR w).off) = w := by
  simp [← BitVec.eq_of_toNat_eq hop, opBR]

theorem append_opLI : op ++ ((opLI w).rd ++ (opLI w).imm) = w := by
  simp [← BitVec.eq_of_toNat_eq hop, opLI]

theorem append_opPC : op ++ ((opPC w).top ++ (opPC w).pd ++ (opPC w).rs1 ++ (opPC w).rs2 ++ (opPC w).fn) = w := by
  simp [← BitVec.eq_of_toNat_eq hop, opPC]

theorem append_opPI : op ++ ((opPI w).pd ++ (opPI w).cc ++ (opPI w).rs1 ++ (opPI w).imm) = w := by
  simp [← BitVec.eq_of_toNat_eq hop, opPI]

theorem append_opPL {op2 : BitVec 3} (hop2 : (w.extractLsb' 0 3).toNat = op2.toNat) :
    op ++ ((opPL w).pd ++ (opPL w).pa ++ (opPL w).pb ++ (opPL w).z ++ op2) = w := by
  simp [← BitVec.eq_of_toNat_eq hop, ← BitVec.eq_of_toNat_eq hop2, opPL]

theorem append_opBP {neg : BitVec 1} (hneg : w.extractLsb' 20 1 = neg) :
    op ++ ((opBP w).top ++ (opBP w).pn ++ neg ++ (opBP w).z ++ (opBP w).off) = w := by
  simp [← BitVec.eq_of_toNat_eq hop, ← hneg, opBP]

theorem append_opMS {fn : BitVec 8} (hfn : (w.extractLsb' 0 8).toNat = fn.toNat) :
    op ++ ((opMS w).rd ++ (opMS w).rs1 ++ (opMS w).imm ++ fn) = w := by
  simp [← BitVec.eq_of_toNat_eq hop, ← BitVec.eq_of_toNat_eq hfn, opMS]

theorem append_opCnt {b : BitVec 1} (hb : w.extractLsb' 3 1 = b) :
    op ++ ((opCnt w).rd ++ (opCnt w).rs1 ++ (opCnt w).imm ++ (opCnt w).fh ++ b ++ (opCnt w).unit) = w := by
  simp [← BitVec.eq_of_toNat_eq hop, ← hb, opCnt]

theorem append_scope {scope : BitVec 3} (hscope : (w.extractLsb' 0 3).toNat = scope.toNat) : op ++ (w.extractLsb' 3 23 ++ scope) = w := by
  simp [← BitVec.eq_of_toNat_eq hop, ← BitVec.eq_of_toNat_eq hscope]

theorem append_rest : op ++ w.extractLsb' 0 26 = w := by
  simp [← BitVec.eq_of_toNat_eq hop]

end

/-- A bit that is not 0 is 1. -/
theorem bitVec1_eq_one {b : BitVec 1} (h : b.toNat ≠ 0) : b = 1#1 := BitVec.eq_of_toNat_eq (by have := b.isLt; show b.toNat = 1; omega)

section
variable {w : BitVec 32} {a : At} {i : Instr}

/-! The opcodes with an operation code besides. -/

theorem workerWord_of_decodeAlu (hop : (w.extractLsb' 26 6).toNat = 0x01) (h : decodeAlu a w = some i) : workerWord i = some w := by
  unfold decodeAlu at h
  split at h
  case h_27 => cases h
  all_goals
    next hfn =>
    cases h
    exact congrArg some (append_opRR hop hfn)

theorem workerWord_of_decodePlog (hop : (w.extractLsb' 26 6).toNat = 0x0d) (h : decodePlog a w = some i) : workerWord i = some w := by
  unfold decodePlog at h
  split at h
  case h_8 => cases h
  all_goals
    next hfn =>
    cases h
    exact congrArg some (append_opPL hop hfn)

theorem workerWord_of_decodeAmo (hop : (w.extractLsb' 26 6).toNat = 0x13) (h : decodeAmo a w = some i) : workerWord i = some w := by
  unfold decodeAmo at h
  split at h
  case h_11 => cases h
  all_goals
    next hfn =>
    cases h
    exact congrArg some (append_opAmo hop hfn)

theorem workerWord_of_decodeFence (hop : (w.extractLsb' 26 6).toNat = 0x14) (h : decodeFence a w = some i) : workerWord i = some w := by
  unfold decodeFence at h
  split at h
  case h_6 => cases h
  all_goals
    next hscope =>
    cases h
    exact congrArg some (append_scope hop hscope)

theorem workerWord_of_decodeBp (hop : (w.extractLsb' 26 6).toNat = 0x1b) (h : decodeBp a w = some i) : workerWord i = some w := by
  unfold decodeBp at h
  split at h
  · next hneg => cases h; exact congrArg some (append_opBP hop (BitVec.eq_of_toNat_eq hneg))
  · next hneg => cases h; exact congrArg some (append_opBP hop (bitVec1_eq_one hneg))

theorem workerWord_of_decodeCnt (hop : (w.extractLsb' 26 6).toNat = 0x1f) (h : decodeCnt a w = some i) : workerWord i = some w := by
  unfold decodeCnt at h
  split at h
  · next hb => cases h; exact congrArg some (append_opCnt hop (BitVec.eq_of_toNat_eq hb))
  · next hb => cases h; exact congrArg some (append_opCnt hop (bitVec1_eq_one hb))

theorem workerWord_of_decodeMisc (hop : (w.extractLsb' 26 6).toNat = 0x21) (h : decodeMisc a w = some i) : workerWord i = some w := by
  unfold decodeMisc at h
  split at h
  case h_7 => cases h
  all_goals
    next hfn =>
    cases h
    exact congrArg some (append_opMS hop hfn)

/-- Every row of wgo has one word, whatever its operation. -/
theorem workerWord_of_decodeWgo {n : Nat} (hop : (w.extractLsb' 26 6).toNat = 0x24) (h : decodeWgo a w n = some i) : workerWord i = some w := by
  unfold decodeWgo at h
  split at h
  all_goals
    cases h
    exact congrArg some (append_opRRf hop)

end

/-- A word that decodes to an instruction is the word of that instruction. -/
theorem workerWord_of_decodeWorker {i : Instr} {w : BitVec 32} {x : Reg → W64} {a : At} (h : decodeWorker x a w = some i) :
    workerWord i = some w := by
  unfold decodeWorker at h
  split at h
  case h_1 hop => exact workerWord_of_decodeAlu hop h
  case h_7 hop | h_28 hop => cases h; exact congrArg some (append_opLI hop)
  case h_11 hop => cases h; exact congrArg some (append_opPC hop)
  case h_12 hop => cases h; exact congrArg some (append_opPI hop)
  case h_13 hop => exact workerWord_of_decodePlog hop h
  case h_17 hop | h_18 hop => cases h; exact congrArg some (append_opST hop)
  case h_19 hop => exact workerWord_of_decodeAmo hop h
  case h_20 hop => exact workerWord_of_decodeFence hop h
  case h_21 hop | h_22 hop | h_23 hop | h_24 hop | h_25 hop | h_26 hop => cases h; exact congrArg some (append_opBR hop)
  case h_27 hop => exact workerWord_of_decodeBp hop h
  case h_31 hop => exact workerWord_of_decodeCnt hop h
  case h_33 hop => exact workerWord_of_decodeMisc hop h
  case h_36 hop => exact workerWord_of_decodeWgo hop h
  case h_30 hop | h_32 hop | h_37 hop | h_38 hop | h_39 hop | h_40 hop => cases h; exact congrArg some (append_opRRf hop)
  case h_43 hop => cases h; exact congrArg some (append_rest hop)
  case h_44 => cases h
  all_goals
    next hop =>
    cases h
    exact congrArg some (append_opRI hop)

/-- Settles O59: each direction goes by the formats, whose fields and codes fill a word. -/
theorem workerWordsDecodeToTheirInstruction : Obligations.WorkerWordsDecodeToTheirInstruction := by
  unfold Obligations.WorkerWordsDecodeToTheirInstruction
  exact ⟨fun _ _ _ h hwgo => decodeWorker_workerWord h hwgo, fun _ _ _ _ h => workerWord_of_decodeWorker h⟩

end Sys2Proof.Laws

namespace Sys2Proof.Laws
open Sys2Proof.Machine

/-! ### The integer instructions of a ready task (R95, R101–R105) -/

/-- A value written to rd with the step to the next instruction. -/
theorem setRd_eq (s : State) (a : At) (rd : Reg) (v : W64) : s.setRd a rd v = s.modTask a (Task.wrote a.core rd v) := rfl

/-- A predicate written with the step to the next instruction. -/
theorem setPd_eq (s : State) (a : At) (n : PReg) (b : Bool) : s.setPd a n b = s.modTask a (Task.wroteP a.core n b) := rfl

section
variable {s : State} {a : At}

/-- A ready instruction whose fields obey R100 and whose result is made from the task writes it to rd. -/
theorem issue_setRd_ready {reads : List Reg} (h : Ready s a reads) {ill : Bool} (hill : ill = false) (rd : Reg) (v : Task → W64) :
    s.issue a reads ill (fun s => s.setRd a rd (v (s.task a))) = (s.issued a).modTask a (Task.wrote a.core rd (v (s.task a))) := by
  rw [issue_ready_of h hill, task_issued, setRd_eq]

/-- And to a predicate. -/
theorem issue_setPd_ready {reads : List Reg} (h : Ready s a reads) {ill : Bool} (hill : ill = false) (n : PReg) (b : Task → Bool) :
    s.issue a reads ill (fun s => s.setPd a n (b (s.task a))) = (s.issued a).modTask a (Task.wroteP a.core n (b (s.task a))) := by
  rw [issue_ready_of h hill, task_issued, setPd_eq]

/-! The shapes of the ALU group (R101). -/

theorem aluRR_ready {f : OpRR} (h : Ready s a [f.rs1, f.rs2]) (hfh : f.fh = 0) (op : W64 → W64 → W64) :
    s.aluRR a f op = (s.issued a).modTask a (Task.wrote a.core f.rd (op ((s.task a).x f.rs1) ((s.task a).x f.rs2))) :=
  issue_setRd_ready h (by simp [hfh]) f.rd fun t => op (t.x f.rs1) (t.x f.rs2)

theorem aluR_ready {f : OpRR} (h : Ready s a [f.rs1]) (hfh : f.fh = 0) (hrs2 : f.rs2 = 0) (op : W64 → W64) :
    s.aluR a f op = (s.issued a).modTask a (Task.wrote a.core f.rd (op ((s.task a).x f.rs1))) :=
  issue_setRd_ready h (by simp [hfh, hrs2]) f.rd fun t => op (t.x f.rs1)

end

/-- Settles O1, by the rule of issue for a ready task, and the order of words as numbers. -/
theorem aluGroupWritesItsResult : Obligations.AluGroupWritesItsResult := by
  unfold Obligations.AluGroupWritesItsResult
  intro s a f h x y gives
  refine ⟨fun hfh => ?zeroFh, next_congr (issue_setRd_ready h rfl f.rd fun t => if t.p f.fh then t.x f.rs1 else t.x f.rs2)⟩
  case zeroFh =>
    have hrr (op : W64 → W64 → W64) : (.next (s.aluRR a f op) : Host.Outcome State Fault Refusal) = gives (op x y) :=
      next_congr (aluRR_ready h hfh op)
    refine ⟨hrr _, hrr _, hrr _, hrr _, hrr _, hrr _, hrr _, hrr _, hrr _, hrr _, hrr _, ?min, ?max, ?minu, ?maxu, fun hrs2 => ?counts⟩
    case min => exact (hrr _).trans (congrArg gives (by simp only [BitVec.slt_iff_toInt_lt]))
    case max => exact (hrr _).trans (congrArg gives (by simp only [BitVec.slt_iff_toInt_lt]))
    case minu => exact (hrr _).trans (congrArg gives (by simp only [BitVec.ult_iff_toNat_lt]))
    case maxu => exact (hrr _).trans (congrArg gives (by simp only [BitVec.ult_iff_toNat_lt]))
    case counts =>
      have hr (op : W64 → W64) : (.next (s.aluR a f op) : Host.Outcome State Fault Refusal) = gives (op x) :=
        next_congr (aluR_ready (ready_sub h (by simp)) hfh hrs2 op)
      exact ⟨hr _, hr _, hr _⟩

/-! Multiply and divide (R103). -/

section
variable {s : State} {a : At}

theorem mulRR_ready {f : OpRR} (h : Ready s a [f.rs1, f.rs2]) (hfh : f.fh = 0) (op : W64 → W64 → W64) :
    s.mulRR a f op =
      (s.issued a).modTask a (fun t => { t.defer f.rd (op ((s.task a).x f.rs1) ((s.task a).x f.rs2)) with pc := nextPc a.core t.pc }) := by
  unfold State.mulRR
  rw [issue_ready_of h (by simp [hfh])]
  unfold State.step1 State.modTask
  rw [task_issued]

/-- The high half of a signed product. -/
theorem mulhS_eq (x y : W64) : mulhS x y = BitVec.ofInt 64 (x.toInt * y.toInt / 2 ^ 64) := by
  have hprod : x.signExtend 128 * y.signExtend 128 = BitVec.ofInt 128 (x.toInt * y.toInt) := (BitVec.ofInt_mul _ _).symm
  apply BitVec.eq_of_toNat_eq
  rw [mulhS, hprod]
  simp only [BitVec.extractLsb'_toNat, BitVec.toNat_ofInt, Nat.shiftRight_eq_div_pow]
  omega

/-- The high half of an unsigned product. -/
theorem mulhU_eq (x y : W64) : mulhU x y = BitVec.ofNat 64 (x.toNat * y.toNat / 2 ^ 64) := by
  apply BitVec.eq_of_toNat_eq
  simp only [mulhU, BitVec.extractLsb'_toNat, BitVec.toNat_mul, BitVec.toNat_setWidth, BitVec.toNat_ofNat, Nat.shiftRight_eq_div_pow]
  rw [← Nat.mul_mod]
  omega

end

/-- Settles O2: the quotients and remainders are the statement's own; the high halves of the products are laws of numbers. -/
theorem multiplyAndDivideGiveTheirResults : Obligations.MultiplyAndDivideGiveTheirResults := by
  unfold Obligations.MultiplyAndDivideGiveTheirResults
  refine ⟨?gives, fun s a rd e hpend => ?arrives⟩
  case gives =>
    intro s a f h hfh x y gives
    have hrr (op : W64 → W64 → W64) : (.next (s.mulRR a f op) : Host.Outcome State Fault Refusal) = gives (op x y) :=
      next_congr (mulRR_ready h hfh op)
    exact ⟨hrr _, (hrr _).trans (congrArg gives (mulhS_eq x y)), (hrr _).trans (congrArg gives (mulhU_eq x y)), hrr _, hrr _, hrr _,
      hrr _⟩
  case arrives =>
    refine next_congr ?_
    rw [hpend]

/-! Immediates and bit fields (R102). -/

section
variable {s : State} {a : At}

theorem aluRI_ready {f : OpRI} (h : Ready s a [f.rs1]) (op : W64 → BitVec 16 → W64) :
    s.aluRI a f op = (s.issued a).modTask a (Task.wrote a.core f.rd (op ((s.task a).x f.rs1) f.imm)) :=
  issue_setRd_ready h rfl f.rd fun t => op (t.x f.rs1) f.imm

end

/-- Settles O3, by the rule of issue for a ready task. -/
theorem immediateInstructionsWriteTheirResults : Obligations.ImmediateInstructionsWriteTheirResults := by
  unfold Obligations.ImmediateInstructionsWriteTheirResults
  refine ⟨?rs1, fun s a f h hz hlen => ?bfi, fun s a f h => next_congr (issue_setRd_ready h rfl _ fun _ => _),
    fun s a f => ⟨fun h hbad => ?shiBad, fun h hbad => ?bfxBad, fun h hbad => ?bfiBad⟩⟩
  case rs1 =>
    intro s a f h x gives
    have hri (op : W64 → BitVec 16 → W64) : (.next (s.aluRI a f op) : Host.Outcome State Fault Refusal) = gives (op x f.imm) :=
      next_congr (aluRI_ready h op)
    exact ⟨hri _, hri _, hri _, hri _, hri _,
      fun hz hk => next_congr (issue_setRd_ready h (by simp [hz, hk]) f.rd fun t => shiOp f.imm (t.x f.rs1)),
      fun hz hlen => next_congr (issue_setRd_ready h (by simp [hz, bfPos, bfLen, hlen]) f.rd fun t => bfxVal f.imm (t.x f.rs1))⟩
  case bfi =>
    exact next_congr (issue_setRd_ready h (by simp [hz, bfPos, bfLen, hlen]) f.rd fun t => setBits (t.x f.rd) _ _ (t.x f.rs1).toNat)
  case shiBad => exact next_congr (issue_illegal_of h (decide_eq_true hbad) _)
  case bfxBad => exact next_congr (issue_illegal_of h (decide_eq_true hbad) _)
  case bfiBad => exact next_congr (issue_illegal_of h (decide_eq_true hbad) _)

/-! Compares and predicate logic (R104, R105). -/

/-- Words are compared by their equality. -/
theorem word_beq (x y : W64) : (x == y) = decide (x = y) := rfl

/-- The condition of cmp, by the order of words as numbers. -/
theorem cmpCond_eq {c : Nat} (x y : W64) : cmpCond c x y =
    if c = 0 then decide (x = y) else if c = 1 then decide (x ≠ y) else if c = 2 then decide (x.toInt < y.toInt)
    else if c = 3 then decide (y.toInt ≤ x.toInt) else if c = 4 then decide (x.toNat < y.toNat) else decide (y.toNat ≤ x.toNat) := by
  simp only [cmpCond, BitVec.slt, BitVec.ult, word_beq, bne, ← decide_not, Int.not_lt, Nat.not_lt]

/-- The condition of cmpi, by the order of words as numbers. -/
theorem cmpiCond_eq {c : Nat} (x y : W64) : cmpiCond c x y =
    if c = 0 then decide (x = y) else if c = 1 then decide (x ≠ y) else if c = 2 then decide (x.toInt < y.toInt)
    else decide (x.toNat < y.toNat) := by
  simp only [cmpiCond, BitVec.slt, BitVec.ult, word_beq, bne, ← decide_not]

/-- Operation 7 of the predicate group is no instruction (R105). -/
theorem decodeWorker_plog_seven (x : Reg → W64) (a : At) {w : BitVec 32} (hop : fld w 31 26 = 0x0D) (hop2 : fld w 2 0 = 7) :
    decodeWorker x a w = none := by
  have h6 : (w.extractLsb' 26 6).toNat = 0x0D := hop ▸ by simp [fld, Nat.shiftRight_eq_div_pow]
  have h3 : (w.extractLsb' 0 3).toNat = 7 := hop2 ▸ by simp [fld]
  unfold decodeWorker
  rw [h6]
  show decodePlog a w = none
  rw [decodePlog, h3]
  rfl

/-- Settles O4, by the rule of issue for a ready task. -/
theorem comparesAndPredicateLogicWriteOnePredicate : Obligations.ComparesAndPredicateLogicWriteOnePredicate := by
  unfold Obligations.ComparesAndPredicateLogicWriteOnePredicate
  refine ⟨fun s a f h htop hfn hc => ?cmp, fun s a f h => ?cmpi, ?plog, fun s a f h hbad => ?cmpBad,
    fun s a f h => ⟨fun hz => ?plogBad, fun hbad => ?pnotBad, fun hbad => ?psetBad⟩,
    fun x a w hop hop2 => decodeWorker_plog_seven x a hop hop2⟩
  case cmp =>
    dsimp only
    rw [← cmpCond_eq]
    exact next_congr (issue_setPd_ready h (by simp [htop, hfn, hc]) f.pd fun t => cmpCond _ (t.x f.rs1) (t.x f.rs2))
  case cmpi =>
    dsimp only
    rw [← cmpiCond_eq]
    exact next_congr (issue_setPd_ready h rfl f.pd fun t => cmpiCond _ (t.x f.rs1) _)
  case plog =>
    intro s a f h hz x y gives
    have hp {ill : Bool} (hill : ill = false) (b : Task → Bool) :
        (.next (s.issue a [] ill (fun s => s.setPd a f.pd (b (s.task a)))) : Host.Outcome State Fault Refusal) = gives (b (s.task a)) :=
      next_congr (issue_setPd_ready h hill f.pd b)
    have hp2 (op : Bool → Bool → Bool) : (.next (s.plog2 a f op) : Host.Outcome State Fault Refusal) = gives (op x y) :=
      hp (by simp [hz]) fun t => op (t.p f.pa) (t.p f.pb)
    exact ⟨hp2 _, hp2 _, hp2 _, hp2 _, fun hpb => hp (by simp [hz, hpb]) fun t => !t.p f.pa,
      fun hpa hpb => ⟨hp (by simp [hz, hpa, hpb]) fun _ => true, hp (by simp [hz, hpa, hpb]) fun _ => false⟩⟩
  case cmpBad => exact next_congr (issue_illegal_of h (decide_eq_true hbad) _)
  case plogBad =>
    have hill : (f.z != 0) = true := bne_iff_ne.2 hz
    have hbad (op : Bool → Bool → Bool) :
        (.next (s.plog2 a f op) : Host.Outcome State Fault Refusal) = .next ((s.issued a).trap a 0x01 0) :=
      next_congr (issue_illegal_of h hill _)
    simp only [List.forall_mem_cons]
    exact ⟨hbad _, hbad _, hbad _, hbad _, fun _ hi => nomatch hi⟩
  case pnotBad => exact next_congr (issue_illegal_of h (by simpa using hbad) _)
  case psetBad =>
    have hill : (f.z != 0 || f.pa != 0 || f.pb != 0) = true := by simpa [or_assoc] using hbad
    exact ⟨next_congr (issue_illegal_of h hill _), next_congr (issue_illegal_of h hill _)⟩

end Sys2Proof.Laws

namespace Sys2Proof.Laws
open Sys2Proof.Machine

/-! ### Loads, stores and atomics of a ready task (R94, R95, R106, R107) -/

/-- A read leaves every task. -/
theorem task_memRead (s : State) (i : CoreId) (p n : Nat) (b : At) : (s.memRead i p n).2.task b = s.task b := by
  rw [State.task, core_memRead]; rfl

/-- Changes that agree on the task are one change. -/
theorem modTask_congr {s : State} {a : At} {f g : Task → Task} (h : f (s.task a) = g (s.task a)) : s.modTask a f = s.modTask a g :=
  congrArg (s.setTask a) h

/-- The value of one word read. -/
theorem wordsVal_read_one (r : Ram) (p : Nat) : wordsVal (r.read p 1) 1 = (r.word p).setWidth 64 := rfl

/-- The value of two words read: the word at the lower address is the low half (R94). -/
theorem wordsVal_read_two (r : Ram) (p : Nat) : wordsVal (r.read p 2) 2 = r.word (p + 1) ++ r.word p := rfl

/-- The low word of a zero-extended word is that word. -/
theorem loW_setWidth (v : W32) : loW (v.setWidth 64) = v := by
  simp [loW]

section
variable {s : State} {a : At}

/-- A checked read of a panel as issued answers the words. -/
theorem memRead_issued {p n : Nat} (hue : (s.ram a.core).firstUe p n = none) :
    (s.issued a).memRead a.core p n = (.ok ((s.ram a.core).read p n), ((s.issued a).memRead a.core p n).2) := by
  have h := memRead_ok (s.issued a) a.core p n
  rw [ram_issued] at h
  exact h hue

/-- A ready load puts the words that it reads on their way to rd. -/
theorem load_ready {f : OpRI} (h : Ready s a [f.rs1]) {n p : Nat}
    (hcheck : s.dataCheck a ((s.task a).x f.rs1 + f.imm.signExtend 64) n rightR = .ok p) (hue : (s.ram a.core).firstUe p n = none)
    (conv : W64 → W64) :
    (s.load a f n conv).task a = { (s.task a).next a.core with load := some (f.rd, conv (wordsVal ((s.ram a.core).read p n) n)) } := by
  have hread : (s.issued a).rdMem a (dataVa (s.task a) f.rs1 f.imm) n =
      (.ok ((s.ram a.core).read p n), ((s.issued a).memRead a.core p n).2) := by
    have hok := rdMem_ok (s.issued a) a (dataVa (s.task a) f.rs1 f.imm) n p
    rw [dataCheck_issued, ram_issued] at hok
    exact hok hcheck hue
  unfold State.load
  rw [issue_ready h]
  simp only [task_issued, hread, State.step1, task_modTask, task_memRead]
  rfl

/-- A ready store goes on and writes the words of its value. -/
theorem storeOp_ready {f : OpST} (h : Ready s a [f.rs1, f.rs2]) {n p : Nat}
    (hcheck : s.dataCheck a ((s.task a).x f.rs1 + f.imm.signExtend 64) n rightW = .ok p) :
    s.storeOp a f n = ((s.issued a).modTask a (Task.next a.core)).memWrite a.core p (valWords ((s.task a).x f.rs2) n) := by
  have hva : s.dataCheck a (dataVa (s.task a) f.rs1 f.imm) n rightW = .ok p := hcheck
  unfold State.storeOp
  rw [issue_ready h]
  simp only [task_issued, dataCheck_issued, hva]
  rfl

end

/-- Settles O5, by the rule of issue for a ready task and the check of its one access. -/
theorem loadsAndStoresAccessTheirAddress : Obligations.LoadsAndStoresAccessTheirAddress := by
  unfold Obligations.LoadsAndStoresAccessTheirAddress
  refine ⟨fun s a f p h => ⟨fun hcheck hue => ⟨⟨_, rfl, ?lw⟩, ⟨_, rfl, load_ready h hcheck hue _⟩⟩,
      fun hcheck hue => ⟨_, rfl, load_ready h hcheck hue _⟩⟩,
    fun s a f p h => ⟨fun hcheck => next_congr (storeOp_ready h hcheck), fun hcheck => next_congr (storeOp_ready h hcheck)⟩,
    fun s a rd v hload hstop => ?arrives⟩
  case lw =>
    refine (load_ready h hcheck hue _).trans ?_
    rw [wordsVal_read_one]
    simp [sext64]
  case arrives =>
    refine next_congr ?_
    simp only [hload, hstop]
    rfl

/-! Atomics (R107, R191). -/

section
variable {s : State} {a : At}

/-- The old value of an atomic, by its width. -/
theorem wordsVal_read_width (r : Ram) (p : Nat) (w64 : Bool) : wordsVal (r.read p (if w64 then 2 else 1)) (if w64 then 2 else 1) =
    if w64 then r.word (p + 1) ++ r.word p else (r.word p).setWidth 64 := by
  cases w64
  · exact wordsVal_read_one r p
  · exact wordsVal_read_two r p

/-- A ready atomic that waits for nothing reads the old value, puts it on its way to rd, and writes the new one. -/
theorem amo_ready {f : OpAmo} {reads : List Reg} (h : Ready s a reads) {p : Nat} (hz : fld f.fh 3 0 = 0)
    (hrel : bit f.fh 4 = true → s.outstanding a = 0)
    (hcheck : s.dataCheck a ((s.task a).x f.rs1) (if bit f.fh 6 then 2 else 1) rightRW = .ok p)
    (hue : (s.ram a.core).firstUe p (if bit f.fh 6 then 2 else 1) = none) (code : Nat) :
    let old : W64 := if bit f.fh 6 then (s.ram a.core).word (p + 1) ++ (s.ram a.core).word p else ((s.ram a.core).word p).setWidth 64
    s.amo a f code reads =
      (((s.issued a).memRead a.core p (if bit f.fh 6 then 2 else 1)).2.modTask a (fun t =>
        { t.next a.core with load := some (f.rd, if bit f.fh 6 then old else sext64 (loW old)) })).memWrite a.core p
        (amoWords code (bit f.fh 6) old ((s.task a).x f.rs2) ((s.task a).x f.rd)) := by
  have hgoes : ¬ (bit f.fh 4 && decide (s.outstanding a ≠ 0)) = true := by
    simpa using hrel
  unfold State.amo
  dsimp only
  rw [if_neg hgoes, issue_ready_of h (by simp [hz])]
  simp only [task_issued, dataCheck_issued, hcheck]
  rw [memRead_issued hue]
  simp only [wordsVal_read_width]
  rfl

end

/-! The signed and unsigned choices of a word are the minimum and maximum of numbers. -/

theorem toInt_slt_least {n : Nat} (x y : BitVec n) : (if x.slt y then x else y).toInt = min x.toInt y.toInt := by
  simp only [BitVec.slt_iff_toInt_lt]
  split <;> omega

theorem toInt_slt_greatest {n : Nat} (x y : BitVec n) : (if x.slt y then y else x).toInt = max x.toInt y.toInt := by
  simp only [BitVec.slt_iff_toInt_lt]
  split <;> omega

theorem toNat_ult_least {n : Nat} (x y : BitVec n) : (if x.ult y then x else y).toNat = min x.toNat y.toNat := by
  simp only [BitVec.ult_iff_toNat_lt]
  split <;> omega

theorem toNat_ult_greatest {n : Nat} (x y : BitVec n) : (if x.ult y then y else x).toNat = max x.toNat y.toNat := by
  simp only [BitVec.ult_iff_toNat_lt]
  split <;> omega

/-- Settles O6: an atomic is one read and one write of a ready task; the new values are the cases of `amoOp`. -/
theorem atomicsExchangeOldForNew : Obligations.AtomicsExchangeOldForNew := by
  unfold Obligations.AtomicsExchangeOldForNew
  refine ⟨?does, fun old x cmp => ⟨rfl, rfl, rfl, rfl, rfl, toInt_slt_least old x, toInt_slt_greatest old x, toNat_ult_least old x,
    toNat_ult_greatest old x, rfl⟩⟩
  case does =>
    intro s a f p n va m old back x cmp hz hrel hcheck hue does
    have hback : (if bit f.fh 6 then old else sext64 (loW old)) = back := by
      show (if bit f.fh 6 then old else _) = if bit f.fh 6 then old else _
      split
      · rfl
      · next hw => rw [show old = (m.word p).setWidth 64 from if_neg hw, loW_setWidth]; rfl
    have hdoes {reads : List Reg} (h : Ready s a reads) (code : Nat) :
        ∃ t, (.next (s.amo a f code reads) : Host.Outcome State Fault Refusal) = .next t ∧
          ∃ u : State, t = u.memWrite a.core p (amoWords code (bit f.fh 6) old x cmp) ∧ u.ram a.core = m ∧
            u.task a = { (s.task a).next a.core with load := some (f.rd, back) } := by
      refine ⟨_, rfl, _, amo_ready h hz hrel hcheck hue code, ?_, ?_⟩
      · rw [ram_modTask, ram_memRead, ram_issued]
      · rw [task_modTask, task_memRead, task_issued, ← hback]
    exact ⟨fun h => ⟨hdoes h 0, hdoes h 1, hdoes h 2, hdoes h 3, hdoes h 4, hdoes h 5, hdoes h 6, hdoes h 7, hdoes h 8⟩, fun h => hdoes h 9⟩

end Sys2Proof.Laws

namespace Sys2Proof.Laws
open Sys2Proof.Machine

/-! ### Branches and jumps of a ready task (R92, R108) -/

section
variable {s : State} {a : At}

/-- A ready branch goes to its target where its condition holds of the task. -/
theorem branch_ready {reads : List Reg} (h : Ready s a reads) {ill : Bool} (hill : ill = false) (cond : Task → Bool) (off : BitVec 16)
    {c : Prop} [Decidable c] (hc : cond (s.task a) = true ↔ c) :
    s.branch a reads ill cond off =
      (s.issued a).modTask a (fun t => { t with pc := if c then relPc a.core t.pc off else nextPc a.core t.pc }) := by
  unfold State.branch
  rw [issue_ready_of h hill]
  refine modTask_congr ?_
  simp only [task_issued, hc]

end

/-- A signed offset in the 24 bits of a program counter. -/
theorem toNat_signExtend24 (off : BitVec 16) : ((off.signExtend 24).toNat : Int) = off.toInt % 2 ^ 24 := by
  rw [BitVec.signExtend, BitVec.toNat_ofInt]
  omega

/-- A relative target of a cell task wraps at 20 bits. -/
theorem relPc_cell (i : Site) (p : Phys) (pc : BitVec 24) (off : BitVec 16) :
    ((relPc (.cell i p) pc off).toNat : Int) = ((pc.toNat : Int) + off.toInt) % 2 ^ 20 := by
  have hoff := toNat_signExtend24 off
  simp only [relPc, pcWrap, isCell, if_true, BitVec.toNat_ofNat]
  omega

/-- So does the next instruction. -/
theorem nextPc_cell (i : Site) (p : Phys) (pc : BitVec 24) : (nextPc (.cell i p) pc).toNat = (pc.toNat + 1) % 2 ^ 20 := by
  simp only [nextPc, pcWrap, isCell, if_true, BitVec.toNat_ofNat]
  omega

/-- Settles O7, by the rule of a ready branch and the wrap of the program counter. -/
theorem branchesAndJumpsGoToTheirTarget : Obligations.BranchesAndJumpsGoToTheirTarget := by
  unfold Obligations.BranchesAndJumpsGoToTheirTarget
  refine ⟨?branches, ?predicates, fun s a f h => next_congr (issue_ready h _), fun s a f h => next_congr (issue_ready h _),
    fun i p pc off _ => ⟨relPc_cell i p pc off, nextPc_cell i p pc⟩⟩
  case branches =>
    intro s a f h x y goes
    have hgoes (cond : W64 → W64 → Bool) {c : Prop} [Decidable c] (hc : cond x y = true ↔ c) :
        (.next (s.branchRR a f cond) : Host.Outcome State Fault Refusal) = goes c :=
      next_congr (branch_ready h rfl _ f.off hc)
    exact ⟨hgoes _ beq_iff_eq, hgoes _ bne_iff_ne, hgoes _ BitVec.slt_iff_toInt_lt, hgoes _ (by simp [BitVec.slt]),
      hgoes _ BitVec.ult_iff_toNat_lt, hgoes _ (by simp [BitVec.ult])⟩
  case predicates =>
    intro s a f h htop hz goes
    have hill : (f.top != 0 || f.z != 0) = false := by simp [htop, hz]
    exact ⟨next_congr (branch_ready h hill _ f.off Iff.rfl), next_congr (branch_ready h hill _ f.off (Iff.of_eq (Bool.not_eq_true' _)))⟩

/-! ### Tile issue and counts of a ready task (R109–R111) -/

section
variable {s : State} {a : At}

/-- The forms of tq that R109 allows. -/
theorem tqIllegal_false {i : CoreId} {f : OpRRf} (hrd : f.rd = 0) (hrs2 : f.rs2 = 0) (hfn : fld f.fn 10 3 = 0) (hfour : f.rs1.toNat % 4 = 0)
    (hne : f.rs1 ≠ 0) (hunit : fld f.fn 2 0 < 5) (hmover : isCell i = false → fld f.fn 2 0 = 2 ∨ fld f.fn 2 0 = 3) :
    tqIllegal i f = false := by
  have hpriv : (!isCell i && decide (fld f.fn 2 0 ≠ 2 ∧ fld f.fn 2 0 ≠ 3)) = false := by
    cases hi : isCell i with
    | true => rfl
    | false => rcases hmover hi with hu | hu <;> simp [hu]
  have hw0 : (f.rs1 == 0) = false := beq_eq_false_iff_ne.2 hne
  unfold tqIllegal
  dsimp only
  rw [hpriv, hw0]
  simp [hrd, hrs2, hfn, hfour, hunit]

/-- A descriptor whose operands pass their checks enters the queue. -/
theorem tqEnter_ok {rs1 : Reg} {unit : Nat} {q : Queued}
    (hq : s.translate a unit ((s.task a).descriptor a.task (s.core a.core).serial rs1) = .ok q) :
    s.tqEnter a rs1 unit = (s.enqueue a.core unit q).endWait a 0 0 := by
  unfold State.tqEnter
  rw [hq]

end

/-- Settles O8, by the rule of issue for a ready task and the room in the unit's queue. -/
theorem tileIssueQueuesOrWaits : Obligations.TileIssueQueuesOrWaits := by
  unfold Obligations.TileIssueQueuesOrWaits
  refine ⟨fun s a f q h hrd hrs2 hfn hfour hne hunit hmover => ?tq, fun s a rs1 n q hwait hst hruns hroom hq => ?room,
    fun s a f h hfh h5 h6 => ⟨fun himm => ?tcount, fun hrd => ?twait⟩⟩
  case tq =>
    have hill := tqIllegal_false hrd hrs2 hfn hfour hne hunit hmover
    refine ⟨fun hfull => ?waits, fun hroom hq => ?enters⟩
    case waits => exact next_congr ((issue_ready_of h hill _).trans (if_pos hfull))
    case enters => exact next_congr ((issue_ready_of h hill _).trans ((if_neg (by simp [hroom])).trans (tqEnter_ok hq)))
  case room =>
    refine next_congr ?_
    rw [hwait]
    exact (if_pos ⟨hst, hruns, hroom⟩).trans (tqEnter_ok hq)
  case tcount => exact next_congr (issue_ready_of h (by rw [beq_eq_false_iff_ne.2 h5, beq_eq_false_iff_ne.2 h6]; simp [hfh, himm]) _)
  case twait => exact next_congr (issue_ready_of h (by rw [beq_eq_false_iff_ne.2 h5, beq_eq_false_iff_ne.2 h6]; simp [hfh, hrd]) _)

/-! ### Fences, word waits and yields (R112–R114, R189) -/

section
variable {s : State} {a : At}

/-- A ready fence goes on where its condition holds, and else waits. -/
theorem fence_ready (h : Ready s a []) (scope : Nat) :
    s.fence a 0 scope = if (s.issued a).fenceMet a scope then (s.issued a).modTask a (Task.next a.core)
      else (s.issued a).modTask a (fun t => { t with st := .waiting, wait := .fence (BitVec.ofNat 3 scope) }) :=
  issue_ready h _

/-- A ready waitw that may read its word waits while it equals the value, and else writes 0 to rd and goes on. -/
theorem task_waitw_ready {f : OpRRf} (h : Ready s a [f.rs1, f.rs2]) (hfn : fld f.fn 10 5 = 0) {p : Nat}
    (hcheck : s.dataCheck a ((s.task a).x f.rs1) 1 rightR = .ok p) (hue : (s.ram a.core).firstUe p 1 = none) :
    Answers (.waitw a f) s (fun t => t.task a =
      if (s.ram a.core).word p = ((s.task a).x f.rs2).setWidth 32 then
        { s.task a with st := .waiting, wait := .waitw f.rd p (((s.task a).x f.rs2).setWidth 32) (decide (fld f.fn 4 0 ≠ 31)) }
      else (s.task a).wrote a.core f.rd 0) := by
  refine ⟨_, next_congr (issue_ready_of h (by simp [hfn]) _), ?_⟩
  simp only [task_issued, dataCheck_issued, hcheck]
  rw [memRead_issued hue]
  show State.task (if (s.ram a.core).word p = ((s.task a).x f.rs2).setWidth 32 then _ else _) a = _
  split
  · rw [State.waitFor, task_modTask, task_memRead, task_issued]; rfl
  · rw [setRd_eq, task_modTask, task_memRead, task_issued]

end

/-- Settles O9, by the rule of issue for a ready task and the end of its wait. -/
theorem fencesWordWaitsAndYieldsBeginAndEnd : Obligations.FencesWordWaitsAndYieldsBeginAndEnd := by
  unfold Obligations.FencesWordWaitsAndYieldsBeginAndEnd
  refine ⟨fun s a h => ⟨rfl, next_congr (fence_ready h 0), next_congr (fence_ready h 1), next_congr (fence_ready h 2),
      next_congr (fence_ready h 3), next_congr (fence_ready h 4)⟩,
    fun s a sc hwait hst hruns hmet => ?fenceEnd, fun s a f p h hfn hcheck hue => task_waitw_ready h hfn hcheck hue,
    fun s a rd p v hwait hst hruns => ?timeout, fun s a h => next_congr (issue_ready h _), fun s a hwait hst hruns => ?yieldEnd⟩
  case fenceEnd =>
    refine next_congr ?_
    rw [hwait]
    exact if_pos ⟨hst, hruns, hmet⟩
  case timeout =>
    refine next_congr ?_
    rw [hwait]
    exact if_pos ⟨hst, hruns⟩
  case yieldEnd => exact next_congr (if_pos ⟨hwait, hst, hruns⟩)

/-! ### Traps of a privileged core (R118, R119, R126) -/

section
variable {s : State} {a : At}

/-- A privileged core outside a trap enters its handler (R126). -/
theorem trapAt_privileged (hcore : isCell a.core = false) (hfree : bit (s.task a).prv.tstatus 0 = false) (cause : Byte) (pc : BitVec 24)
    (addr : W64) : s.trapAt a cause pc addr = s.modTask a (fun t => t.enterTrap cause pc addr) := by
  unfold State.trapAt
  split
  · next e => rw [e] at hcore; cases hcore
  · exact if_neg (by simp [hfree])
  · exact if_neg (by simp [hfree])

/-- The low bit of a word after it was set. -/
theorem bit_setBit_zero_true (w : BitVec 2) : bit (setBit w 0 true) 0 = true := by
  revert w; decide

/-- A ready swtrap whose IMM8[7] is zero takes its trap. -/
theorem exec_swtrap_ready (h : Ready s a []) {n : Byte} (hn : n.toNat < 128) :
    exec (.swtrap a ⟨0, 0, n⟩) s = .next ((s.issued a).trap a (0x80 + n) 0) := by
  have hbit : bit n 7 = false := Nat.testBit_lt_two_pow hn
  exact next_congr (issue_ready_of h (by simp [hbit]) _)

end

/-- Settles O11, by the two ends of a trap. -/
theorem swtrapTakesItsTrap : Obligations.SwtrapTakesItsTrap := by
  unfold Obligations.SwtrapTakesItsTrap
  refine ⟨fun s a n h hn => ⟨fun hcell => ⟨_, exec_swtrap_ready h hn, ?cell⟩, fun hcore hfree => ?privileged⟩,
    fun s a cause pc addr hcore hfree => ?saves⟩
  case cell => exact (trap_cell _ _ _ _ hcell).trans (by rw [task_issued])
  case privileged =>
    rw [exec_swtrap_ready h hn, State.trap, trapAt_privileged hcore (by rwa [task_issued])]
    exact next_congr (modTask_congr rfl)
  case saves =>
    rw [trapAt_privileged hcore hfree, task_modTask]
    exact ⟨rfl, rfl, rfl, bit_setBit_zero_true _, rfl, rfl⟩

/-! ### The privileged accesses of a ready task (R122, R123) -/

section
variable {s : State} {a : At}

/-- A ready instruction of the privileged extension does its own work on a steward or keeper core. -/
theorem issuePrv_ready {reads : List Reg} (h : Ready s a reads) (hcore : isCell a.core = false) {ill : Bool} (hill : ill = false)
    (body : State → State) : s.issuePrv a reads ill body = body (s.issued a) := by
  unfold State.issuePrv
  rw [issue_ready h, if_neg (by simp [hcore]), if_neg (by simp [hill])]

/-- An issue leaves the receive queue. -/
theorem rx_issued (s : State) (a : At) : ((s.issued a).core a.core).rx = (s.core a.core).rx := by
  unfold State.issued State.noteIssue
  rw [core_modCore, core_fetch]

end

/-- Settles O14, by the rule of issue for a ready privileged task and the end of its access. -/
theorem privilegedAccessesSendAndReceive : Obligations.PrivilegedAccessesSendAndReceive := by
  unfold Obligations.PrivilegedAccessesSendAndReceive
  refine ⟨fun s a f hcore hfn => ⟨fun h => ?cread, fun h => ?cwrite, fun h hrd hhigh hlo hhi => ?csend,
      fun h hrd heven => ?crecv⟩,
    fun s a hst => ⟨fun rd pd hwait => ?creadEnd, fun pd hwait => ?cwriteEnd⟩⟩
  case cread =>
    refine next_congr ((issuePrv_ready h hcore (by simp [hfn]) _).trans ?_)
    rw [task_issued]; rfl
  case cwrite =>
    refine next_congr ((issuePrv_ready h hcore (by simp [hfn]) _).trans ?_)
    rw [task_issued]; rfl
  case csend =>
    refine next_congr ((issuePrv_ready h hcore (by simp [hfn, hrd]) _).trans ?_)
    rw [task_issued]
    exact if_neg (by omega)
  case crecv =>
    have hill : (decide (fld f.fn 10 3 ≠ 0 ∨ f.rd = 0) || bit f.rd 0) = false := by
      rw [decide_eq_false (not_or.2 ⟨not_not_intro hfn, hrd⟩), heven, Bool.or_false]
    refine ⟨fun p ps hrx => ?takes, fun hrx => ?waits⟩
    case takes =>
      refine next_congr ((issuePrv_ready h hcore hill _).trans ?_)
      rw [rx_issued, hrx]
    case waits =>
      refine next_congr ((issuePrv_ready h hcore hill _).trans ?_)
      rw [rx_issued, hrx]
  case creadEnd =>
    refine next_congr ((if_neg (by simp [hst])).trans ?_)
    rw [hwait]; rfl
  case cwriteEnd =>
    refine next_congr ((if_neg (by simp [hst])).trans ?_)
    rw [hwait]; rfl

end Sys2Proof.Laws

namespace Sys2Proof.Laws
open Sys2Proof.Machine

/-! ### Engines of a cell: the running command (R131, R136) -/

@[simp] theorem eng_setEng (k : Cell) (e : Eng) (x : Engine) : (k.setEng e x).eng e = x := by
  cases e <;> rfl

/-- The engine runs the command of a descriptor. -/
def Runs (c : CellAt) (e : Eng) (q : Queued) (t : State) : Prop := ∃ r, ((t.cell c).eng e).running = some r ∧ r.q = q

section
variable {c : CellAt}

theorem runs_engRun (s : State) (c : CellAt) (e : Eng) (q : Queued) (st : Nat) (flags : BitVec 4) (detail : Nat) :
    Runs c e q (s.engRun c e q st flags detail) := by
  unfold Runs State.engRun
  simp

theorem runs_accFail (s : State) (q : Queued) (idx : Nat) : Runs c .mxe q (s.accFail c q idx) := runs_engRun _ _ _ _ _ _ _

theorem runs_mxeDone (s : State) (q : Queued) (acc : Ram) (ar : Ar) : Runs c .mxe q (s.mxeDone c q acc ar) := runs_engRun _ _ _ _ _ _ _

theorem runs_vecFinish (s : State) (q : Queued) (d : Opnd) (k : Conv) (rows : List (List FV)) (ar : Ar) :
    Runs c .vxe q (s.vecFinish c q d k rows ar) := runs_engRun _ _ _ _ _ _ _

/-- A vector command runs whether its sources are read or meet an uncorrectable word (R138). -/
theorem runs_vecRead (s : State) (q : Queued) (ranges : List (Nat × Nat)) {body : State → State} (hbody : ∀ u, Runs c .vxe q (body u)) :
    Runs c .vxe q (s.vecRead c q ranges body) := by
  unfold State.vecRead
  split
  · exact runs_engRun _ _ _ _ _ _ _
  · exact hbody _

/-! The work of each opcode leaves its command running, whatever its sources and accumulators hold. -/

theorem runs_mmaBody (s : State) (q : Queued) : Runs c .mxe q (s.mmaBody c q) := by
  unfold State.mmaBody
  dsimp only
  split
  · exact runs_engRun _ _ _ _ _ _ _
  · split
    · exact runs_accFail _ _ _
    · exact runs_mxeDone _ _ _ _

theorem runs_accLoadBody (s : State) (q : Queued) : Runs c .mxe q (s.accLoadBody c q) := by
  unfold State.accLoadBody
  split
  · exact runs_engRun _ _ _ _ _ _ _
  · exact runs_mxeDone _ _ _ _

theorem runs_accStoreBody (s : State) (q : Queued) : Runs c .mxe q (s.accStoreBody c q) := by
  unfold State.accStoreBody
  dsimp only
  split
  · exact runs_accFail _ _ _
  · exact runs_mxeDone _ _ _ _

theorem runs_accScaleBody (s : State) (q : Queued) : Runs c .mxe q (s.accScaleBody c q) := by
  unfold State.accScaleBody
  dsimp only
  split
  · exact runs_engRun _ _ _ _ _ _ _
  · split
    · exact runs_accFail _ _ _
    · exact runs_mxeDone _ _ _ _

theorem runs_packBody (s : State) (q : Queued) : Runs c .mxe q (s.packBody c q) := by
  unfold State.packBody
  dsimp only
  split
  · exact runs_engRun _ _ _ _ _ _ _
  · exact runs_mxeDone _ _ _ _

theorem runs_vbinBody (s : State) (q : Queued) : Runs c .vxe q (s.vbinBody c q) :=
  runs_vecRead _ _ _ fun _ => runs_vecFinish _ _ _ _ _ _

theorem runs_vunBody (s : State) (q : Queued) : Runs c .vxe q (s.vunBody c q) :=
  runs_vecRead _ _ _ fun _ => runs_vecFinish _ _ _ _ _ _

theorem runs_vredBody (s : State) (q : Queued) : Runs c .vxe q (s.vredBody c q) :=
  runs_vecRead _ _ _ fun _ => runs_vecFinish _ _ _ _ _ _

theorem runs_vnormBody (s : State) (q : Queued) : Runs c .vxe q (s.vnormBody c q) :=
  runs_vecRead _ _ _ fun _ => runs_vecFinish _ _ _ _ _ _

theorem runs_vropeBody (s : State) (q : Queued) : Runs c .vxe q (s.vropeBody c q) :=
  runs_vecRead _ _ _ fun _ => runs_vecFinish _ _ _ _ _ _

theorem runs_vsmxuBody (s : State) (q : Queued) : Runs c .vxe q (s.vsmxuBody c q) :=
  runs_vecRead _ _ _ fun _ => runs_engRun _ _ _ _ _ _ _

end

section
variable {s : State} {c : CellAt} {e : Eng} {q : Queued} {op : Nat} {check : Queued → Option Nat} {body : Queued → State → State}

/-- A head descriptor of the opcode with a field error runs BAD_FIELD and does nothing else (R136). -/
theorem engineRow_bad (hhead : s.engHead c e = some q) (hop : q.opcode = op) {b : Nat} (hcheck : check q = some b) :
    s.engineRow c e op check body = s.engRun c e q stBadField 0 b := by
  unfold State.engineRow
  simp [hhead, hop, hcheck]

/-- One whose fields are good does the work of its opcode (R131). -/
theorem engineRow_good (hhead : s.engHead c e = some q) (hop : q.opcode = op) (hcheck : check q = none) :
    s.engineRow c e op check body = body q s := by
  unfold State.engineRow
  simp [hhead, hop, hcheck]

/-- What a tile command does where the head of its engine's queue is its own: it runs, and BAD_FIELD with a field error. -/
theorem exec_engineRow_takes {i : Instr} (hexec : exec i s = .next (s.engineRow c e op check body)) (hbody : ∀ u q, Runs c e q (body q u))
    (hhead : s.engHead c e = some q) (hop : q.opcode = op) :
    Answers i s (Runs c e q) ∧
      ∀ b, check q = some b → exec i s = .next (s.modCell c (fun k => k.setEng e
        { k.eng e with queue := (k.eng e).queue.drop 1, running := some ⟨q, 0x02, 0, b⟩ })) := by
  refine ⟨⟨_, hexec, ?_⟩, fun b hcheck => ?_⟩
  · cases hcheck : check q with
    | none => rw [engineRow_good hhead hop hcheck]; exact hbody s q
    | some b => rw [engineRow_bad hhead hop hcheck]; exact runs_engRun _ _ _ _ _ _ _
  · rw [hexec, engineRow_bad hhead hop hcheck]; rfl

end

/-- Settles O19, by the row of an engine opcode; the work of each opcode ends with its command running. -/
theorem tileCommandsTakeTheHeadOfTheQueue : Obligations.TileCommandsTakeTheHeadOfTheQueue := by
  unfold Obligations.TileCommandsTakeTheHeadOfTheQueue
  intro s c q
  exact ⟨exec_engineRow_takes rfl runs_mmaBody, exec_engineRow_takes rfl runs_accLoadBody, exec_engineRow_takes rfl runs_accStoreBody,
    exec_engineRow_takes rfl fun _ _ => runs_mxeDone _ _ _ _, exec_engineRow_takes rfl runs_accScaleBody, exec_engineRow_takes rfl runs_packBody,
    exec_engineRow_takes rfl runs_vbinBody, exec_engineRow_takes rfl runs_vunBody, exec_engineRow_takes rfl runs_vredBody,
    exec_engineRow_takes rfl runs_vnormBody, exec_engineRow_takes rfl runs_vropeBody, exec_engineRow_takes rfl runs_vsmxuBody⟩

end Sys2Proof.Laws

namespace Sys2Proof.Laws
open Sys2Proof.Machine

/-! ### What the work of tasks leaves of a cell: its engines, movers and sampler commands (R93, R97, R112, R134)

Completion records and counters are writes to local memory, which may end waits of tasks; a count that falls may stop a task or end its
wait. All of that touches the tasks of a cell, its memory and the counts of its reads. -/

/-- The cell with other tasks, another memory and other counts of reads. -/
def taskWork (x : Cell) (tasks : Vector Task 8) (cmem : Ram) (ce ue : BitVec 16) (last : BitVec 19) (err : BitVec 5) : Cell :=
  { x with core := { x.core with tasks := tasks }, cmem := cmem, ceCount := ce, ueCount := ue, lastAddr := last, err := err }

/-- From s to t no cell changes but in its tasks, its memory and the counts of its reads. -/
def KeepsUnits (s t : State) : Prop := ∀ c, ∃ ts m ce ue last err, t.cell c = taskWork (s.cell c) ts m ce ue last err

namespace KeepsUnits

variable {s t u : State}

theorem of_cell_eq (h : ∀ c, t.cell c = s.cell c) : KeepsUnits s t := fun c => ⟨_, _, _, _, _, _, h c⟩

theorem refl (s : State) : KeepsUnits s s := of_cell_eq fun _ => rfl

theorem trans (h : KeepsUnits s t) (g : KeepsUnits t u) : KeepsUnits s u := by
  intro c
  obtain ⟨_, _, _, _, _, _, ht⟩ := h c
  obtain ⟨_, _, _, _, _, _, hu⟩ := g c
  exact ⟨_, _, _, _, _, _, by rw [hu, ht]; rfl⟩

theorem foldl {α : Type} (f : State → α → State) (h : ∀ s x, KeepsUnits s (f s x)) (l : List α) (s : State) : KeepsUnits s (l.foldl f s) := by
  induction l generalizing s with
  | nil => exact refl s
  | cons x l ih => exact (h s x).trans (ih _)

/-- A change to one cell in those parts. -/
theorem modCell (s : State) (d : CellAt) (f : Cell → Cell)
    (h : ∃ ts m ce ue last err, f (s.cell d) = taskWork (s.cell d) ts m ce ue last err) : KeepsUnits s (s.modCell d f) := by
  intro c
  by_cases e : c = d
  · rw [e, cell_modCell]; exact h
  · exact ⟨_, _, _, _, _, _, cell_modCell_ne s d c f e⟩

/-- A change to a comb outside its cells. -/
theorem modComb (s : State) (i : Site) (f : Comb → Comb) (h : ∀ k p, (f k).cell p = k.cell p) : KeepsUnits s (s.modComb i f) := by
  refine of_cell_eq fun c => ?_
  unfold State.cell
  by_cases e : c.site = i
  · rw [e, comb_modComb, h]
  · rw [comb_modComb_ne _ _ _ _ e]

theorem setKeeper (s : State) (h : Half) (k : Keeper) : KeepsUnits s (s.setKeeper h k) := by
  cases h <;> exact refl s

theorem modTask (s : State) (a : At) (f : Task → Task) : KeepsUnits s (s.modTask a f) := by
  obtain ⟨i, k⟩ := a
  cases i with
  | cell si p => exact modCell s ⟨si, p⟩ _ ⟨_, _, _, _, _, _, rfl⟩
  | steward si => exact modComb s si _ fun _ _ => rfl
  | keeper h _ => exact setKeeper s h _

theorem sendErr (s : State) (n : Nat) (r : ErrRec) : KeepsUnits s (s.sendErr n r) := refl s

theorem setRam (s : State) (i : CoreId) (r : Ram) : KeepsUnits s (s.setRam i r) := by
  cases i with
  | cell si p => exact modCell s ⟨si, p⟩ _ ⟨_, _, _, _, _, _, rfl⟩
  | steward si => exact modComb s si _ fun _ _ => rfl
  | keeper h _ => exact setKeeper s h _

theorem setCellErr (s : State) (c : CellAt) (b : Nat) : KeepsUnits s (s.setCellErr c b) := by
  unfold State.setCellErr
  split
  · exact refl s
  · exact (modCell s c _ ⟨_, _, _, _, _, _, rfl⟩).trans (sendErr _ _ _)

theorem noteRead (s : State) (c : CellAt) (ces : List Nat) (ue : Option Nat) : KeepsUnits s (s.noteRead c ces ue) := by
  have hce (a : Nat) : KeepsUnits s
      (s.modCell c (fun x => { x with ceCount := BitVec.ofNat 16 (satAdd 16 x.ceCount.toNat ces.length), lastAddr := BitVec.ofNat 19 a })) :=
    modCell s c _ ⟨_, _, _, _, _, _, rfl⟩
  have hue (t : State) (a : Nat) : KeepsUnits t
      ((t.modCell c (fun x => { x with ueCount := satInc x.ueCount, lastAddr := BitVec.ofNat 19 a })).setCellErr c errCmemUe) :=
    (modCell t c _ ⟨_, _, _, _, _, _, rfl⟩).trans (setCellErr _ _ _)
  unfold State.noteRead
  cases ces.getLast? with
  | none => cases ue with
    | none => exact refl s
    | some u => exact hue s u
  | some a => cases ue with
    | none => exact hce a
    | some u => exact (hce a).trans (hue _ u)

theorem memRead (s : State) (i : CoreId) (a n : Nat) : KeepsUnits s (s.memRead i a n).2 := by
  rw [memRead_snd]
  split
  · exact noteRead _ _ _ _
  · exact refl s

theorem trap (s : State) (a : At) (cause : Byte) (v : W64) : KeepsUnits s (s.trap a cause v) := by
  have hreport (f : Task → Task) (n : Nat) (r : ErrRec) : KeepsUnits s ((s.modTask a f).sendErr n r) := (modTask s a f).trans (sendErr _ n r)
  unfold State.trap State.trapAt
  split
  · exact hreport _ _ _
  · split
    · exact hreport _ _ _
    · exact modTask s a _
  · split
    · exact hreport _ _ _
    · exact modTask s a _

theorem endWait (s : State) (a : At) (rd : Reg) (v : W64) : KeepsUnits s (s.endWait a rd v) := modTask s a _

theorem evalWaitw (s : State) (a : At) : KeepsUnits s (s.evalWaitw a) := by
  unfold State.evalWaitw
  split
  · next p _ _ _ =>
    have hread := memRead s a.core p 1
    split
    · split
      · next e => rw [e] at hread; exact hread.trans (trap _ _ _ _)
      · next e =>
        rw [e] at hread
        split
        · exact hread
        · exact hread.trans (endWait _ _ _ _)
    · exact refl s
  · exact refl s

theorem wake (s : State) (i : CoreId) (a n : Nat) : KeepsUnits s (s.wake i a n) := by
  refine foldl _ (fun s b => ?_) _ s
  split
  · exact evalWaitw s b
  · exact refl s

theorem memWrite (s : State) (i : CoreId) (a : Nat) (ws : List W32) : KeepsUnits s (s.memWrite i a ws) :=
  (setRam s i _).trans (wake _ _ _ _)

theorem bumpCounter (s : State) (i : CoreId) (p : Nat) : KeepsUnits s (s.bumpCounter i p) := by
  have hread := memRead s i p 1
  unfold State.bumpCounter
  split
  · next e => rw [e] at hread; exact hread
  · next e => rw [e] at hread; exact hread.trans (memWrite _ _ _ _)

/-- The record and the counter of a completion (R134). -/
theorem signal (s : State) (i : CoreId) (q : Queued) (unit status : Nat) (flags : BitVec 4) (detail : Nat) :
    KeepsUnits s (s.signal i q unit status flags detail) := by
  have hrecord (ws : List W32) : KeepsUnits s (if q.cmode = 1 ∨ q.cmode = 3 then s.memWrite i q.caddr ws else s) := by
    split
    · exact memWrite s i _ ws
    · exact refl s
  unfold State.signal
  split
  · exact refl s
  · dsimp only
    split
    · exact (hrecord _).trans (bumpCounter _ _ _)
    · split
      · exact (hrecord _).trans (bumpCounter _ _ _)
      · exact hrecord _

/-- A count that falls may stop its task or end its twait (R42, R111). -/
theorem countFell (s : State) (a : At) : KeepsUnits s (s.countFell a) := by
  have hstop : KeepsUnits s (s.settleStop a) := by
    unfold State.settleStop
    split
    · exact modTask s a _
    · exact refl s
  have hwait (t : State) : KeepsUnits t (t.evalTwait a) := by
    unfold State.evalTwait
    split
    · split
      · exact endWait t a 0 0
      · exact refl t
    · exact refl t
  exact hstop.trans (hwait _)

/-! What is kept. -/

theorem eng (h : KeepsUnits s t) (c : CellAt) (e : Eng) : (t.cell c).eng e = (s.cell c).eng e := by
  obtain ⟨_, _, _, _, _, _, hc⟩ := h c
  rw [hc]
  cases e <;> rfl

theorem mov0 (h : KeepsUnits s t) (c : CellAt) : (t.core (.cell c.site c.phys)).mov0 = (s.core (.cell c.site c.phys)).mov0 := by
  obtain ⟨_, _, _, _, _, _, hc⟩ := h c
  show (t.cell c).core.mov0 = (s.cell c).core.mov0
  rw [hc]; rfl

theorem movDone (h : KeepsUnits s t) (c : CellAt) : (t.core (.cell c.site c.phys)).movDone = (s.core (.cell c.site c.phys)).movDone := by
  obtain ⟨_, _, _, _, _, _, hc⟩ := h c
  show (t.cell c).core.movDone = (s.cell c).core.movDone
  rw [hc]; rfl

end KeepsUnits

/-! ### Completions and undefined descriptors (R128, R131, R134, R168, R194) -/

/-- An error record of a unit leaves every core. -/
theorem core_unitErr (s : State) (i : CoreId) (code : Nat) (info : W64) (j : CoreId) : (s.unitErr i code info).core j = s.core j := by
  cases i <;> exact core_sendErr _ _ _ _

/-- A status noted in an engine's error register changes that register alone. -/
theorem eng_noteEng (s : State) (c : CellAt) (e : Eng) (status : Nat) :
    ∃ err last, ((s.noteEng c e status).cell c).eng e = { (s.cell c).eng e with err := err, lastStatus := last } := by
  unfold State.noteEng
  split
  · exact ⟨_, _, rfl⟩
  · next b _ =>
    have hmod (x : Engine) : ((s.modCell c fun k => k.setEng e x).cell c).eng e = x := by simp
    dsimp only
    split <;> exact ⟨_, _, hmod _⟩

/-- A mover's status noted changes MOV_ERR alone; the movers and their counter stay. -/
theorem core_noteMov (s : State) (i : CoreId) (status : Nat) (reason : Option Nat) :
    ∃ err, (s.noteMov i status reason).core i = { s.core i with movErr := err } := by
  have hnoted (err : MovErr) (rises : Bool) (info : W64) :
      (if rises then (s.modCore i (fun c => { c with movErr := err })).unitErr i 0x0106 info
        else s.modCore i (fun c => { c with movErr := err })).core i = { s.core i with movErr := err } := by
    split
    · exact (core_unitErr _ _ _ _ _).trans (core_modCore _ _ _)
    · exact core_modCore _ _ _
  unfold State.noteMov
  split
  · exact ⟨_, rfl⟩
  · exact ⟨_, hnoted _ _ _⟩

/-- The status of an engine noted, and a count fallen: its queue, its running command and its counter of commands stay. -/
theorem eng_noteEng_countFell (s : State) (c : CellAt) (e : Eng) (status : Nat) (a : At) :
    ∃ err last, (((s.noteEng c e status).countFell a).cell c).eng e = { (s.cell c).eng e with err := err, lastStatus := last } := by
  rw [(KeepsUnits.countFell _ a).eng c e]
  exact eng_noteEng s c e status

/-- The status of a mover of a cell noted, and a count fallen: mover 0 and the counter of descriptors stay. -/
theorem mov0_noteMov_countFell (s : State) (c : CellAt) (status : Nat) (reason : Option Nat) (a : At) :
    (((s.noteMov (.cell c.site c.phys) status reason).countFell a).core (.cell c.site c.phys)).mov0 = (s.core (.cell c.site c.phys)).mov0 ∧
      (((s.noteMov (.cell c.site c.phys) status reason).countFell a).core (.cell c.site c.phys)).movDone =
        (s.core (.cell c.site c.phys)).movDone := by
  have hunits := KeepsUnits.countFell (s.noteMov (.cell c.site c.phys) status reason) a
  obtain ⟨_, hnote⟩ := core_noteMov s (.cell c.site c.phys) status reason
  rw [hunits.mov0 c, hunits.movDone c, hnote]
  exact ⟨rfl, rfl⟩

/-- A running command of an engine that is neither parked nor stopped signals its completion, leaves the engine and is counted (R134). -/
theorem exec_tileCommandComplete_running {s : State} {c : CellAt} {e : Eng} (n : BitVec 30) {r : Running}
    (hrun : ((s.cell c).eng e).running = some r) (hparked : ((s.cell c).eng e).parked = false)
    (hcore : s.coreRuns (.cell c.site c.phys) = true) :
    exec (.tileCommandComplete c e n) s = .next
      ((((s.signal (.cell c.site c.phys) r.q (engUnit e) r.status.toNat r.flags (if r.status.toNat = 0 then n.toNat else r.detail)).modCell c
        (fun k => k.setEng e { k.eng e with running := none, done := (k.eng e).done + 1,
                                            busy := if r.status.toNat = stBadField then (k.eng e).busy else (k.eng e).busy + n.setWidth 64 })
        ).noteEng c e r.status.toNat).countFell ⟨.cell c.site c.phys, r.q.task⟩) := by
  refine congrArg Host.Outcome.next ?_
  simp only [hrun]
  exact if_neg (by simp [hparked, hcore])

/-- The engine is then idle, and has counted the command. -/
theorem tileCommandComplete_idles {s : State} {c : CellAt} {e : Eng} (n : BitVec 30) {r : Running}
    (hrun : ((s.cell c).eng e).running = some r) (hparked : ((s.cell c).eng e).parked = false)
    (hcore : s.coreRuns (.cell c.site c.phys) = true) :
    Answers (.tileCommandComplete c e n) s (fun t =>
      ((t.cell c).eng e).running = none ∧ ((t.cell c).eng e).done = ((s.cell c).eng e).done + 1) := by
  refine ⟨_, exec_tileCommandComplete_running n hrun hparked hcore, ?_⟩
  obtain ⟨_, _, hnote⟩ := eng_noteEng_countFell _ c e r.status.toNat ⟨.cell c.site c.phys, r.q.task⟩
  rw [hnote, cell_modCell, eng_setEng, (KeepsUnits.signal s _ _ _ _ _ _).eng c e]
  exact ⟨rfl, rfl⟩

section
variable {s : State} {c : CellAt} {q : Queued} {tl : List Queued}

/-- An undefined head descriptor of an idle engine leaves its queue and is counted. -/
theorem exec_undefinedDescriptor_engine {e : Eng} (hcore : s.coreRuns (.cell c.site c.phys) = true) (hidle : ((s.cell c).eng e).running = none)
    (hqueue : ((s.cell c).eng e).queue = q :: tl) (hparked : ((s.cell c).eng e).parked = false)
    (hundef : opcodeDefined (engUnit e) q.opcode = false) (hstart : s.mayStart (.cell c.site c.phys) (engUnit e) q = true) :
    Answers (.undefinedDescriptor (.cell c.site c.phys) (BitVec.ofNat 3 (engUnit e))) s (fun t =>
      ((t.cell c).eng e).queue = tl ∧ ((t.cell c).eng e).done = ((s.cell c).eng e).done + 1) := by
  have hexec : exec (.undefinedDescriptor (.cell c.site c.phys) (BitVec.ofNat 3 (engUnit e))) s = .next
      (((s.modCell c (fun k => k.setEng e { (s.cell c).eng e with queue := tl, done := ((s.cell c).eng e).done + 1 })).noteEng c e stBadOpcode).countFell
        ⟨.cell c.site c.phys, q.task⟩) := by
    cases e <;>
    · refine congrArg Host.Outcome.next ?_
      simp only [engUnit] at hundef hstart
      simp [engUnit, hidle, hqueue, hparked, hundef, hstart, hcore]
  refine ⟨_, hexec, ?_⟩
  obtain ⟨_, _, hnote⟩ := eng_noteEng_countFell _ c e stBadOpcode ⟨.cell c.site c.phys, q.task⟩
  rw [hnote, cell_modCell, eng_setEng]
  exact ⟨rfl, rfl⟩

/-- An undefined head descriptor of mover 0 with nothing started leaves its queue and is counted. -/
theorem exec_undefinedDescriptor_mover (hcore : s.coreRuns (.cell c.site c.phys) = true)
    (hqueue : (s.core (.cell c.site c.phys)).mov0.queue = q :: tl) (hidle : (s.core (.cell c.site c.phys)).mov0.started = [])
    (hparked : (s.core (.cell c.site c.phys)).mov0.parked = false) (hundef : opcodeDefined 2 q.opcode = false)
    (hstart : s.mayStart (.cell c.site c.phys) 2 q = true) :
    Answers (.undefinedDescriptor (.cell c.site c.phys) 2) s (fun t =>
      (t.core (.cell c.site c.phys)).mov0.queue = tl ∧
        (t.core (.cell c.site c.phys)).movDone = (s.core (.cell c.site c.phys)).movDone + 1) := by
  have hexec : exec (.undefinedDescriptor (.cell c.site c.phys) 2) s = .next
      (((s.modCore (.cell c.site c.phys) (fun k =>
        { k with mov0 := { (s.core (.cell c.site c.phys)).mov0 with queue := tl }, movDone := k.movDone + 1 })).noteMov (.cell c.site c.phys)
          stBadOpcode none).countFell ⟨.cell c.site c.phys, q.task⟩) := by
    refine congrArg Host.Outcome.next ?_
    simp [Core.mover, Core.setMover, hqueue, hidle, hparked, hundef, hstart, hcore]
  refine ⟨_, hexec, ?_⟩
  obtain ⟨hmov, hdone⟩ := mov0_noteMov_countFell _ c stBadOpcode none ⟨.cell c.site c.phys, q.task⟩
  rw [hmov, hdone, core_modCore]
  exact ⟨rfl, rfl⟩

end

/-! ### ACC_ZERO (R144, R148) -/

/-- Tile t set to +0 where its bit of the mask is set. -/
def zeroTile (mask : Nat) (r : Ram) (t : Nat) : Ram :=
  if mask / 2 ^ t % 2 = 1 then { words := Tbl.clear r.words (t * 4096) 4096, ecc := Tbl.clear r.ecc (t * 4096) 4096 } else r

theorem accZeroTiles_eq (r : Ram) (mask : Nat) : accZeroTiles r mask = (List.range 16).foldl (zeroTile mask) r := rfl

/-- A tile set to zero holds the 4096 words from its first; every other word stays. -/
theorem word_zeroTile (mask : Nat) (r : Ram) (t n : Nat) :
    (zeroTile mask r t).word n = if n / 4096 = t ∧ mask / 2 ^ (n / 4096) % 2 = 1 then 0 else r.word n := by
  unfold zeroTile
  by_cases hmask : mask / 2 ^ t % 2 = 1
  · rw [if_pos hmask]
    refine (Tbl_get_clear _ _ _ _ _).trans ?_
    by_cases hn : n / 4096 = t
    · rw [if_neg (by omega), if_pos ⟨hn, by rw [hn]; exact hmask⟩]; rfl
    · rw [if_pos (by omega), if_neg fun h => hn h.1]; rfl
  · rw [if_neg hmask, if_neg]
    rintro ⟨hn, hbit⟩
    exact hmask (by rw [← hn]; exact hbit)

/-- Tiles set to zero one after another. -/
theorem word_foldl_zeroTile (mask : Nat) (ts : List Nat) (r : Ram) (n : Nat) :
    (ts.foldl (zeroTile mask) r).word n = if n / 4096 ∈ ts ∧ mask / 2 ^ (n / 4096) % 2 = 1 then 0 else r.word n := by
  induction ts generalizing r with
  | nil => simp
  | cons t ts ih =>
    rw [List.foldl_cons, ih, word_zeroTile]
    by_cases ht : n / 4096 = t
    · subst ht
      by_cases hbit : mask / 2 ^ (n / 4096) % 2 = 1
      · simp only [hbit, and_true, List.mem_cons, true_or, if_true, ite_self]
      · simp only [hbit, and_false, if_false]
    · simp only [ht, List.mem_cons, false_or, false_and, if_false]

theorem word_accZeroTiles (r : Ram) (mask : Nat) {n : Nat} (hn : n < 65536) :
    (accZeroTiles r mask).word n = if mask / 2 ^ (n / 4096) % 2 = 1 then 0 else r.word n := by
  have htile : n / 4096 ∈ List.range 16 := List.mem_range.2 (by omega)
  rw [accZeroTiles_eq, word_foldl_zeroTile]
  simp [htile]

/-- A matrix command done leaves its accumulator content. -/
theorem acc_mxeDone (s : State) (c : CellAt) (q : Queued) (acc : Ram) (ar : Ar) : ((s.mxeDone c q acc ar).cell c).acc = acc := by
  unfold State.mxeDone State.engRun
  rw [cell_modCell, cell_modCell]
  rfl

/-- Settles O20, by the completion of a running command, the rule of an undefined descriptor, and the words of the tiles cleared. -/
theorem enginesCompleteAndDropUndefinedDescriptors : Obligations.EnginesCompleteAndDropUndefinedDescriptors := by
  unfold Obligations.EnginesCompleteAndDropUndefinedDescriptors
  refine ⟨fun s c e n r hrun hparked hcore => tileCommandComplete_idles n hrun hparked hcore,
    fun s c q tl hcore => ⟨fun e hidle hqueue hparked hundef hstart => ?engine, fun hqueue hidle hparked hundef hstart => ?mover⟩,
    fun s c q hhead hop hcheck => ⟨_, congrArg Host.Outcome.next (engineRow_good hhead hop hcheck), fun n hn => ?zero⟩⟩
  case engine => exact exec_undefinedDescriptor_engine hcore hidle hqueue hparked hundef hstart
  case mover => exact exec_undefinedDescriptor_mover hcore hqueue hidle hparked hundef hstart
  case zero => rw [acc_mxeDone, word_accZeroTiles _ _ hn]

end Sys2Proof.Laws

namespace Sys2Proof.Laws
open Sys2Proof.Machine

/-! ### Samplers: what an operation leaves of a sampler (R166, R170, R244) -/

/-- A sampler whose last selection has ended stops where STOP asked for it; nothing else of it changes. -/
theorem smp_smpSettle (s : State) (a : SmpAt) : ∃ stopped req, (s.smpSettle a).smp a = { s.smp a with stopped := stopped, stopReq := req } := by
  unfold State.smpSettle
  split
  · exact ⟨_, _, smp_modSmp s a _⟩
  · exact ⟨_, _, rfl⟩

theorem ctx_smpSettle (s : State) (a : SmpAt) (c : Nat) : ((s.smpSettle a).smp a).ctx c = (s.smp a).ctx c := by
  obtain ⟨_, _, h⟩ := smp_smpSettle s a
  rw [h]; rfl

theorem history_smpSettle (s : State) (a : SmpAt) : ((s.smpSettle a).smp a).history = (s.smp a).history := by
  obtain ⟨_, _, h⟩ := smp_smpSettle s a
  rw [h]

/-- A selection that ends leaves the open list; its answers leave the sampler. -/
theorem smp_smpFinish (s : State) (a : SmpAt) (y : Selection) (status flags : Nat) (w0 w1 : W32) :
    (s.smpFinish a y status flags w0 w1).smp a =
      { s.smp a with open_ := (s.smp a).open_.filter (fun z => z.serial ≠ y.serial ∨ z.ctx ≠ y.ctx) } := by
  unfold State.smpFinish
  refine (foldl_keeps (γ := Sampler) _ (fun u : State => u.smp a) (fun u p => ?_) y.parts _).trans (smp_modSmp s a _)
  rfl

/-! ### Sampler commands of a cell, and their parts at a sampler (R161–R163) -/

/-- The head of a cell's sampler queue, its fields good, goes out as SMP_CMD. -/
theorem exec_samplerCommandStart_good {s : State} {c : CellAt} {q : Queued} {tl : List Queued} (hqueue : (s.cell c).smpQ = q :: tl)
    (hdef : opcodeDefined 4 q.opcode = true) (hstart : s.mayStart (.cell c.site c.phys) 4 q = true)
    (hcore : s.coreRuns (.cell c.site c.phys) = true) (hcheck : smpCheck q = none) :
    exec (.samplerCommandStart c) s = .next ((s.modCell c (fun k =>
      { k with smpQ := tl, smpOut := k.smpOut ++ [⟨q, (s.core (.cell c.site c.phys)).nextTag, none⟩],
               core := { k.core with nextTag := k.core.nextTag + 1 } })).sendData
        (mkData 0x10 (s.eid c.site.val (0xBA + fld q.w0 45 44)) (s.eidOf (.cell c.site c.phys)) (s.cell c).colony (s.epochOf c.site.val 0) 0
          (s.core (.cell c.site c.phys)).nextTag q.words)) := by
  refine congrArg Host.Outcome.next ?_
  simp only [hqueue]
  refine (if_neg (by simp [hdef, hstart, hcore])).trans ?_
  simp only [hcheck]

section
variable {s : State} {a : SmpAt} {p : DataPkt} {ctx : Ctx}

/-- A part that arrives at a ready sampler, for a selection that is not open, opens one or is refused. -/
theorem smpPart_opens (hat : AtEndpoint s a.site.val (0xBA + a.smp.val) p) (htype : p.type = 0x10) (hready : (s.smp a).ready = true)
    (hctx : fld (plW64 p 0) 53 46 = ctx.val)
    (hnew : (s.smp a).open_.find? (fun y => decide (y.ctx = ctx ∧ y.serial = BitVec.ofNat 32 (fld (plW64 p 4) 51 20))) = none)
    {op : Nat} (hop : fld (plW64 p 0) 7 0 = op) :
    s.smpPart a p op = (s.takeData p).smpOpen a ctx (BitVec.ofNat 32 (fld (plW64 p 4) 51 20)) (partOf p) := by
  have hctx' : (⟨fld (plW64 p 0) 53 46 % 256, Nat.mod_lt _ (by decide)⟩ : Ctx) = ctx := by
    refine Fin.ext ?_
    rw [hctx]
    exact Nat.mod_eq_of_lt ctx.isLt
  have hhere : ¬ (p.type ≠ 0x10 ∨ p.dst ≠ s.eid a.site.val (smpEp a) ∨ fld (plW64 p 0) 7 0 ≠ op) := by
    simpa [htype, hop, smpEp] using hat.1
  have hready' : ((s.takeData p).smp a).ready = true := hready
  have hnew' : ((s.takeData p).smp a).open_.find? (fun y => decide (y.ctx = ctx ∧ y.serial = BitVec.ofNat 32 (fld (plW64 p 4) 51 20))) = none := hnew
  unfold State.smpPart
  rw [if_neg hhere, smpEp, endpoint_ok hat, if_neg (by simp [hready'])]
  simp only [hctx', hnew']

/-- With room, in a configured context, it opens a selection and asks for its lines. -/
theorem smpOpen_room (hrun : (s.smp a).stopped = false) (hroom : (s.smp a).open_.length < 4) (hcfg : bit ((s.smp a).ctx ctx.val).mode 63 = true)
    (serial : W32) (n : SmpPart) :
    s.smpOpen a ctx serial n = (s.modSmp a (fun x => { x with open_ := x.open_ ++ [⟨ctx, serial, [n]⟩] })).smpFetches a n := by
  unfold State.smpOpen
  simp only [hrun, hcfg, Bool.false_or, decide_eq_true_eq]
  rw [if_neg (by omega)]
  rfl

/-- At a stopped sampler, or one with four selections open, it is refused SMP_BUSY. -/
theorem smpOpen_busy (hbusy : (s.smp a).stopped = true ∨ 4 ≤ (s.smp a).open_.length) (serial : W32) (n : SmpPart) :
    s.smpOpen a ctx serial n =
      ((s.modSmp a (fun x => { x with busyRefused := satInc x.busyRefused })).setSmpErr a 0).smpAnswer a n.src n.tag 0x06 0 0 0 :=
  if_pos (by simpa using hbusy)

end

/-- Settles O21, by the start of a cell's command and the arrival of a part. -/
theorem samplerCommandsReachTheirSampler : Obligations.SamplerCommandsReachTheirSampler := by
  unfold Obligations.SamplerCommandsReachTheirSampler
  refine ⟨fun s c q tl => ?start, fun s a p ctx hat htype hready hctx => ?part⟩
  case start =>
    intro _ hqueue hdef hstart hcore hcheck
    exact exec_samplerCommandStart_good hqueue hdef hstart hcore hcheck
  case part =>
    intro serial hnew does
    have hdoes {i : Instr} {op : Nat} (hexec : exec i s = .next (s.smpPart a p op)) (hop : fld (plW64 p 0) 7 0 = op) : does i := by
      rw [smpPart_opens hat htype hready hctx hnew hop] at hexec
      exact ⟨fun hrun hroom hcfg => hexec.trans (congrArg _ (smpOpen_room (s := s.takeData p) hrun hroom hcfg _ _)),
        fun hbusy => hexec.trans (congrArg _ (smpOpen_busy (s := s.takeData p) hbusy _ _))⟩
    exact ⟨hdoes rfl, hdoes rfl⟩

/-! ### Fetches, lines, completions and results (R162–R164, R166) -/

section
variable {s : State} {c : CellAt} {p : DataPkt}

/-- A packet at a cell that takes traffic does its work on the panel without the packet. -/
theorem atCell_takes (hat : AtCell s c p) (hholds : s.cellHolds c = false) (body : State → State) : s.atCell c p body = body (s.takeData p) := by
  unfold State.atCell
  rw [hholds]
  exact atCell_ok hat body

/-- A wide read of one range that meets no uncorrectable word. -/
theorem wideRead_one {a n : Nat} (hue : (s.cell c).cmem.firstUe a n = none) :
    s.wideRead c [(a, n)] = (none, s.noteRead c ((s.cell c).cmem.ceIn a n) none) := by
  simp [State.wideRead, hue]

/-- A fetch inside the command that its TAG names is answered with the lines. -/
theorem exec_smpFetch_serves {o : SmpOut} (hat : AtCell s c p) (hholds : s.cellHolds c = false)
    (hfind : (s.cell c).smpOut.find? (fun o => o.tag = p.tag && o.done.isNone) = some o) (htype : p.type = 0x11)
    (hrange : (plWord p 0).toNat + fld (plWord p 1) 15 0 ≤ o.q.sLines)
    (hue : (s.cell c).cmem.firstUe (o.q.a + (plWord p 0).toNat * 64) (fld (plWord p 1) 15 0 * 64) = none) :
    exec (.smpFetch c p) s = .next (((s.takeData p).noteRead c
        ((s.cell c).cmem.ceIn (o.q.a + (plWord p 0).toNat * 64) (fld (plWord p 1) 15 0 * 64)) none).sendData
      (mkData 0x12 p.src (s.eidOf (.cell c.site c.phys)) (s.cell c).colony (s.epochOf c.site.val 0) (plWord p 0).toNat p.tag
        ((s.cell c).cmem.read (o.q.a + (plWord p 0).toNat * 64) (fld (plWord p 1) 15 0 * 64)))) := by
  have hcell : (s.takeData p).cell c = s.cell c := rfl
  refine congrArg Host.Outcome.next ((if_neg (by simp [htype])).trans ((atCell_takes hat hholds _).trans ?_))
  simp only [hcell, hfind]
  refine (if_neg (by omega)).trans ?_
  rw [wideRead_one (by rw [hcell]; exact hue)]
  rfl

/-- A result that comes OK is written to RADDR, and its command ends. -/
theorem exec_smpResult_ok {o : SmpOut} (hat : AtCell s c p) (hholds : s.cellHolds c = false)
    (hfind : (s.cell c).smpOut.find? (fun o => o.tag = p.tag && o.done.isNone) = some o) (htype : p.type = 0x13)
    (hstatus : fld (plWord p 2) 7 0 = 0) :
    exec (.smpResult c p) s = .next
      ((((s.takeData p).memWrite (.cell c.site c.phys) o.q.d [plWord p 0, plWord p 1]).draw).2.smpEnd c o 0 ((plWord p 2).extractLsb' 8 4)
        (((s.takeData p).memWrite (.cell c.site c.phys) o.q.d [plWord p 0, plWord p 1]).draw).1.toNat) := by
  have hcell : (s.takeData p).cell c = s.cell c := rfl
  have hup : (s.cell c).inReset = false := by
    obtain ⟨_, _, hoff, _, _⟩ := hat
    exact (Bool.or_eq_false_iff.1 hoff).1
  refine congrArg Host.Outcome.next ((if_neg (by simp [htype])).trans ((if_neg (by simp [hup])).trans ((atCell_takes hat hholds _).trans ?_)))
  simp only [hcell, hfind, hstatus]
  rfl

end

section
variable {s : State} {a : SmpAt}

/-- Fetched lines are held at the part that they are for. -/
theorem exec_smpData_arrives {p : DataPkt} (hat : AtEndpoint s a.site.val (0xBA + a.smp.val) p) (htype : p.type = 0x12) :
    exec (.smpData a p) s = .next ((s.takeData p).modSmp a (fun x => { x with open_ := x.open_.map (fun y => { y with parts := y.parts.map (fun q =>
      if q.src = p.src ∧ q.tag = p.tag then q.addLines p.addr.toNat (linesOf (p.payload.length / 64) p.payload) else q) }) })) := by
  have hhere : ¬ (p.type ≠ 0x12 ∨ p.dst ≠ s.eid a.site.val (smpEp a)) := by simpa [htype, smpEp] using hat.1
  exact congrArg Host.Outcome.next ((if_neg hhere).trans (endpoint_ok hat _))

/-- The first selection of a context, once complete, is computed and committed, and answered to every part (R164). -/
theorem exec_selectionComplete_first {ctx : Ctx} {y : Selection} (hfirst : (s.smp a).open_.find? (fun y => decide (y.ctx = ctx)) = some y)
    (hcomplete : y.complete = true) (hready : (s.smp a).ready = true) :
    let o := (s.smp a).compute y s.free
    let r := (s.smp a).conclude y o
    let s1 := { s with free := o.free }.modSmp a (fun _ => r.1)
    exec (.selectionComplete a ctx y.serial) s = .next (((if o.fault then s1.setCfgErr a 2 else s1).smpFinish a y stOk (b2n o.inv)
      (resultWord (r.1.accepts ctx.val) o.tok) r.2.1).smpSettle a) := by
  refine congrArg Host.Outcome.next ?_
  simp only [hfirst]
  exact if_neg (by simp [hcomplete, hready])

/-- It is then no longer open. -/
theorem selectionComplete_closes {ctx : Ctx} {y : Selection} (hfirst : (s.smp a).open_.find? (fun y => decide (y.ctx = ctx)) = some y)
    (hcomplete : y.complete = true) (hready : (s.smp a).ready = true) :
    Answers (.selectionComplete a ctx y.serial) s (fun t => ∀ z ∈ (t.smp a).open_, ¬(z.ctx = ctx ∧ z.serial = y.serial)) := by
  have hctx : y.ctx = ctx := by simpa using List.find?_some hfirst
  refine ⟨_, exec_selectionComplete_first hfirst hcomplete hready, fun z hz => ?_⟩
  obtain ⟨_, _, hsettle⟩ := smp_smpSettle (State.smpFinish _ a y stOk _ _ _) a
  rw [hsettle, smp_smpFinish] at hz
  rintro ⟨hzctx, hzserial⟩
  have hother := (List.mem_filter.1 hz).2
  simp [hzctx, hzserial, hctx] at hother

/-- A selection with a part missing ends PART_TIMEOUT. -/
theorem exec_partTimeout_missing {ctx : Ctx} {y : Selection}
    (hopen : (s.smp a).open_.find? (fun z => decide (z.ctx = ctx ∧ z.serial = y.serial)) = some y)
    (hmissing : y.parts.length < ((y.parts.map (·.parts)).headD 0)) :
    exec (.partTimeout a ctx y.serial) s = .next (((s.smpFinish a y 0x07 0 0 0).setSmpErr a 2).smpSettle a) := by
  refine congrArg Host.Outcome.next ?_
  simp only [hopen]
  exact if_neg (by omega)

end

/-- Settles O22, by the rule of each packet and of each end of a selection. -/
theorem selectionsFetchCompleteAndAnswer : Obligations.SelectionsFetchCompleteAndAnswer := by
  unfold Obligations.SelectionsFetchCompleteAndAnswer
  exact ⟨fun s c p o hat hholds hfind => ⟨fun htype hrange hue => exec_smpFetch_serves hat hholds hfind htype hrange hue,
      fun htype hstatus => exec_smpResult_ok hat hholds hfind htype hstatus⟩,
    fun s a p hat htype => exec_smpData_arrives hat htype,
    fun s a ctx y => ⟨fun hfirst hcomplete hready => selectionComplete_closes hfirst hcomplete hready,
      fun hopen hmissing => exec_partTimeout_missing hopen hmissing⟩⟩

/-! ### Registers of a ready sampler (R166, R170, R244–R247, R254) -/

section
variable {s : State} {a : SmpAt}

/-! A write of SMP_CTRL with one bit set. -/

theorem smpCtrl_reset (s : State) (a : SmpAt) :
    s.smpCtrl a 1 = (s.smpAbandon a (s.smp a).open_).modSmp a (fun x => { x with ready := true, stopped := false, stopReq := false }) := rfl

theorem smpCtrl_stop (s : State) (a : SmpAt) : s.smpCtrl a 2 = (s.modSmp a (fun x => { x with stopReq := !x.stopped })).smpSettle a := rfl

theorem smpCtrl_start (s : State) (a : SmpAt) : s.smpCtrl a 4 = s.modSmp a (fun x => { x with stopped := false, stopReq := false }) := rfl

/-- A sampler asked to stop with no selection open stops. -/
theorem stopped_smpSettle_idle (hreq : (s.smp a).stopReq = true) (hidle : (s.smp a).open_ = []) : ((s.smpSettle a).smp a).stopped = true := by
  unfold State.smpSettle
  rw [if_pos (by simp [hreq, hidle]), smp_modSmp]

theorem exec_smpStop_idle (hready : (s.smp a).ready = true) (hidle : (s.smp a).open_ = []) (hrun : (s.smp a).stopped = false) :
    Answers (.smpStop a 2) s (fun t => (t.smp a).stopped = true) := by
  refine ⟨_, congrArg Host.Outcome.next (if_pos (by simp [hready]; rfl)), ?_⟩
  rw [smpCtrl_stop]
  exact stopped_smpSettle_idle (by simp [smp_modSmp, hrun]) (by simp [smp_modSmp, hidle])

/-- A context's number as written to SMP_CTX_RESET. -/
theorem fld_ctx (ctx : Ctx) : fld (BitVec.ofNat 64 ctx.val) 7 0 = ctx.val := by
  have := ctx.isLt
  simp only [fld, BitVec.toNat_ofNat]; omega

/-- A context reset puts its history back to the start; its configuration and its counts stay (R247). -/
theorem ctx_ctxReset (x : Sampler) (c : Nat) : ∃ gram rng, (x.ctxReset c).ctx c = { x.ctx c with gram := gram, rng := rng, head := 0, total := 0 } :=
  ⟨_, _, Tbl_get_put_same _ _ _ _⟩

theorem history_ctxReset (x : Sampler) {c i : Nat} (h : c * 1024 ≤ i ∧ i < c * 1024 + 1024) : Tbl.get 0 (x.ctxReset c).history i = 0 :=
  (Tbl_get_clear _ _ _ _ _).trans (if_neg (by omega))

/-- A ready sampler resets the context named. -/
theorem exec_smpCtxReset_ready (hready : (s.smp a).ready = true) (ctx : Ctx) :
    Answers (.smpCtxReset a (BitVec.ofNat 64 ctx.val)) s (fun t =>
      ((t.smp a).ctx ctx.val).head = 0 ∧ ((t.smp a).ctx ctx.val).total = 0 ∧
        ∀ k : Nat, k < 1024 → Tbl.get 0 (t.smp a).history (ctx.val * 1024 + k) = 0) := by
  refine ⟨_, congrArg Host.Outcome.next (if_pos hready), ?_⟩
  simp only [State.ctxResetWrite, fld_ctx, ctx_smpSettle, history_smpSettle, smp_modSmp]
  obtain ⟨_, _, hctx⟩ := ctx_ctxReset (State.smp _ a) ctx.val
  rw [hctx]
  exact ⟨rfl, rfl, fun k hk => history_ctxReset _ (by omega)⟩

/-- A legal configuration word other than MODE waits as it is for the safe point (R245). -/
theorem exec_smpCfgWrite_legal (hready : (s.smp a).ready = true) (ctx : Ctx) {w : Fin 4} (hw : w ≠ 0) {v : W64}
    (hlegal : (s.smp a).cfgLegal w.val v = true) :
    exec (.smpCfgWrite a ctx w v) s =
      .next (s.modSmp a (fun x => x.modCtx ctx.val (fun k => { k with staged := k.staged ++ [(w.val, v)] }))) := by
  have hword : w.val ≠ 0 := fun h => hw (Fin.ext h)
  refine congrArg Host.Outcome.next ((if_pos hready).trans ((if_pos hlegal).trans ?_))
  simp only [if_neg hword]

/-- A legal grammar descriptor is written where no running context names the grammar (R254). -/
theorem exec_smpGrmDescWrite_stopped (hready : (s.smp a).ready = true) {g : Fin 16} {v : W64} (hlegal : grmLegal v = true)
    (hstopped : (s.smp a).grammarRuns g.val = false) :
    Answers (.smpGrmDescWrite a g v) s (fun t => Tbl.get 0 (t.smp a).grmDesc g.val = keep v grmMask) := by
  refine ⟨_, congrArg Host.Outcome.next ((if_pos hready).trans ((if_neg (by simp [hlegal])).trans (if_neg (by simp [hstopped])))), ?_⟩
  refine (congrArg (fun x : Sampler => Tbl.get 0 x.grmDesc g.val) (smp_modSmp s a _)).trans ?_
  exact Tbl_get_put_same _ _ _ _

/-! The steps of the indices leave the memories. -/

theorem grammar_gStep (x : Sampler) : x.gStep.grammar = x.grammar := by
  unfold Sampler.gStep
  split <;> rfl

theorem history_hStep (x : Sampler) : x.hStep.history = x.history := by
  unfold Sampler.hStep
  split <;> rfl

/-- A grammar word is written where no running grammar holds it (R254). -/
theorem exec_smpGdataAccess_stopped (hready : (s.smp a).ready = true) (v : W64) (hstopped : (s.smp a).gWordRuns (s.smp a).gIndex.toNat = false) :
    Answers (.smpGdataAccess a (some v)) s (fun t => Tbl.get 0 (t.smp a).grammar (s.smp a).gIndex.toNat = v) := by
  refine ⟨_, congrArg Host.Outcome.next (if_neg (by simp [hready])), ?_⟩
  unfold State.gdataWrite
  dsimp only
  rw [if_neg (by simp [hstopped]), smp_modSmp, grammar_gStep, smp_modSmp]
  exact Tbl_get_put_same _ _ _ _

/-- A history word is written where its context is stopped (R244). -/
theorem exec_smpHdataAccess_stopped (hready : (s.smp a).ready = true) (v : W64)
    (hstopped : (s.smp a).ctxStopped ((s.smp a).hIndex.toNat / 1024) = true) :
    Answers (.smpHdataAccess a (some v)) s (fun t => Tbl.get 0 (t.smp a).history (s.smp a).hIndex.toNat = v.setWidth 21) := by
  refine ⟨_, congrArg Host.Outcome.next (if_neg (by simp [hready])), ?_⟩
  unfold State.hdataWrite
  dsimp only
  rw [if_pos hstopped, smp_modSmp, history_hStep, smp_modSmp]
  exact Tbl_get_put_same _ _ _ _

end

/-- Settles O23, by the rule of each register command at a ready sampler. -/
theorem samplerRegisterCommandsAct : Obligations.SamplerRegisterCommandsAct := by
  unfold Obligations.SamplerRegisterCommandsAct
  intro s a hready
  refine ⟨?reset, ?start, exec_smpStop_idle hready, exec_smpCtxReset_ready hready,
    fun ctx w v hw hlegal => exec_smpCfgWrite_legal hready ctx hw hlegal,
    fun g v hlegal hstopped => exec_smpGrmDescWrite_stopped hready hlegal hstopped,
    exec_smpGdataAccess_stopped hready, exec_smpHdataAccess_stopped hready, ?gread, ?hread, ?counts, fun ctx => ?stCount⟩
  case reset => exact congrArg Host.Outcome.next ((if_pos (by simp [hready]; rfl)).trans (smpCtrl_reset s a))
  case start => exact congrArg Host.Outcome.next ((if_pos (by simp [hready]; rfl)).trans (smpCtrl_start s a))
  case gread => exact congrArg Host.Outcome.next (if_neg (by simp [hready]))
  case hread => exact congrArg Host.Outcome.next (if_neg (by simp [hready]))
  case counts => exact congrArg Host.Outcome.next (if_pos hready)
  case stCount => exact congrArg Host.Outcome.next (if_pos hready)

end Sys2Proof.Laws

namespace Sys2Proof.Laws
open Sys2Proof.Machine

/-! ### What a completion leaves of the movers (R97, R111, R134)

A completion record and its counter are writes to local memory, which may end waits of tasks; a count that falls may stop a task or end its
wait. Of a core, all of that touches the tasks alone. -/

/-- From s to t no core changes but in its tasks. -/
def KeepsMovers (s t : State) : Prop := ∀ i, ∃ tasks, t.core i = { s.core i with tasks := tasks }

namespace KeepsMovers

variable {s t u : State}

theorem of_core_eq (h : ∀ i, t.core i = s.core i) : KeepsMovers s t := fun i => ⟨_, h i⟩

theorem refl (s : State) : KeepsMovers s s := of_core_eq fun _ => rfl

theorem trans (h : KeepsMovers s t) (g : KeepsMovers t u) : KeepsMovers s u := by
  intro i
  obtain ⟨_, ht⟩ := h i
  obtain ⟨_, hu⟩ := g i
  exact ⟨_, by rw [hu, ht]⟩

theorem foldl {α : Type} (f : State → α → State) (h : ∀ s x, KeepsMovers s (f s x)) (l : List α) (s : State) :
    KeepsMovers s (l.foldl f s) := by
  induction l generalizing s with
  | nil => exact refl s
  | cons x l ih => exact (h s x).trans (ih _)

theorem modTask (s : State) (a : At) (f : Task → Task) : KeepsMovers s (s.modTask a f) := by
  intro i
  by_cases h : i = a.core
  · rw [h]; exact ⟨_, core_modCore _ _ _⟩
  · exact ⟨_, core_modCore_ne _ _ _ _ h⟩

theorem sendErr (s : State) (n : Nat) (r : ErrRec) : KeepsMovers s (s.sendErr n r) := of_core_eq (core_sendErr s n r)

theorem memRead (s : State) (i : CoreId) (a n : Nat) : KeepsMovers s (s.memRead i a n).2 := of_core_eq (core_memRead s i a n)

theorem draw (s : State) : KeepsMovers s s.draw.2 := of_core_eq fun i => by
  cases i with
  | keeper h _ => cases h <;> rfl
  | _ => rfl

theorem trap (s : State) (a : At) (cause : Byte) (v : W64) : KeepsMovers s (s.trap a cause v) := by
  have hreport (f : Task → Task) (n : Nat) (r : ErrRec) : KeepsMovers s ((s.modTask a f).sendErr n r) :=
    (modTask s a f).trans (sendErr _ n r)
  unfold State.trap State.trapAt
  split
  · exact hreport _ _ _
  · split
    · exact hreport _ _ _
    · exact modTask s a _
  · split
    · exact hreport _ _ _
    · exact modTask s a _

theorem endWait (s : State) (a : At) (rd : Reg) (v : W64) : KeepsMovers s (s.endWait a rd v) := modTask s a _

/-- A waitw that looks again reads memory, and traps, goes on or waits (R112). -/
theorem evalWaitw (s : State) (a : At) : KeepsMovers s (s.evalWaitw a) := by
  unfold State.evalWaitw
  split
  · next p _ _ _ =>
    have hread := memRead s a.core p 1
    split
    · split
      · next e => rw [e] at hread; exact hread.trans (trap _ _ _ _)
      · next e =>
        rw [e] at hread
        split
        · exact hread
        · exact hread.trans (endWait _ _ _ _)
    · exact refl s
  · exact refl s

theorem memWrite (s : State) (i : CoreId) (a : Nat) (ws : List W32) : KeepsMovers s (s.memWrite i a ws) := by
  refine (of_core_eq (core_setRam s i _)).trans (foldl _ (fun s b => ?_) _ _)
  split
  · exact evalWaitw s b
  · exact refl s

theorem bumpCounter (s : State) (i : CoreId) (p : Nat) : KeepsMovers s (s.bumpCounter i p) := by
  have hread := memRead s i p 1
  unfold State.bumpCounter
  split
  · next e => rw [e] at hread; exact hread
  · next e => rw [e] at hread; exact hread.trans (memWrite _ _ _ _)

/-- The record and the counter of a completion (R134). -/
theorem signal (s : State) (i : CoreId) (q : Queued) (unit status : Nat) (flags : BitVec 4) (detail : Nat) :
    KeepsMovers s (s.signal i q unit status flags detail) := by
  have hrecord (ws : List W32) : KeepsMovers s (if q.cmode = 1 ∨ q.cmode = 3 then s.memWrite i q.caddr ws else s) := by
    split
    · exact memWrite s i _ ws
    · exact refl s
  unfold State.signal
  split
  · exact refl s
  · dsimp only
    split
    · exact (hrecord _).trans (bumpCounter _ _ _)
    · split
      · exact (hrecord _).trans (bumpCounter _ _ _)
      · exact hrecord _

/-- A count that falls may stop its task or end its twait (R42, R111). -/
theorem countFell (s : State) (a : At) : KeepsMovers s (s.countFell a) := by
  have hstop : KeepsMovers s (s.settleStop a) := by
    unfold State.settleStop
    split
    · exact modTask s a _
    · exact refl s
  have hwait (t : State) : KeepsMovers t (t.evalTwait a) := by
    unfold State.evalTwait
    split
    · split
      · exact endWait t a 0 0
      · exact refl t
    · exact refl t
  exact hstop.trans (hwait _)

theorem mov (h : KeepsMovers s t) (m : MovAt) : t.mov m = s.mov m := by
  obtain ⟨_, hcore⟩ := h m.core
  rw [State.mov, hcore]; rfl

theorem movDone (h : KeepsMovers s t) (i : CoreId) : (t.core i).movDone = (s.core i).movDone := by
  obtain ⟨_, hcore⟩ := h i
  rw [hcore]

end KeepsMovers

/-! ### Movers: start, completion and timeout (R171, R176, R178, R184) -/

theorem mover_setMover (k : Core) (n : Fin 2) (x : Mover) : (k.setMover n x).mover n = x := by
  unfold Core.setMover Core.mover
  split <;> rfl

theorem movDone_setMover (k : Core) (n : Fin 2) (x : Mover) : (k.setMover n x).movDone = k.movDone := by
  unfold Core.setMover
  split <;> rfl

theorem mov_modMov (s : State) (m : MovAt) (f : Mover → Mover) : (s.modMov m f).mov m = f (s.mov m) := by
  rw [State.mov, State.modMov, core_modCore, mover_setMover]; rfl

theorem movDone_modMov (s : State) (m : MovAt) (f : Mover → Mover) : ((s.modMov m f).core m.core).movDone = (s.core m.core).movDone := by
  rw [State.modMov, core_modCore, movDone_setMover]

theorem mov_noteMov (s : State) (m : MovAt) (status : Nat) (reason : Option Nat) : (s.noteMov m.core status reason).mov m = s.mov m := by
  obtain ⟨_, hnoted⟩ := core_noteMov s m.core status reason
  rw [State.mov, hnoted]; rfl

theorem movDone_noteMov (s : State) (i : CoreId) (status : Nat) (reason : Option Nat) :
    ((s.noteMov i status reason).core i).movDone = (s.core i).movDone := by
  obtain ⟨_, hnoted⟩ := core_noteMov s i status reason
  rw [hnoted]

section
variable {s : State} {m : MovAt}

/-- A ready mover takes its head descriptor, whose fields are good, as started. RATOM and SATOM stand aside: they may read a compare value (R181). -/
theorem exec_moverDescriptorStart_good {q : Queued} {tl : List Queued} (hqueue : (s.mov m).queue = q :: tl) (hready : s.movReady m q = true)
    (hgood : firstBad (moverChecks (isCell m.core) q) = none) (hratom : q.opcode ≠ 0x87) (hsatom : q.opcode ≠ 0x88) :
    exec (.moverDescriptorStart m) s = .next (s.movPush m (Started.new q)) := by
  have hatomic : ¬ ((q.opcode = 0x87 ∨ q.opcode = 0x88) ∧ q.sub = 9) := fun h => h.1.elim hratom hsatom
  refine next_congr ?_
  simp only [hqueue, if_pos hready, hgood, if_neg hatomic]

/-- A ready mover ends its head descriptor BAD_FIELD where a field is bad, with the bit of the field (R176). -/
theorem exec_moverDescriptorStart_bad {q : Queued} {tl : List Queued} (hqueue : (s.mov m).queue = q :: tl) (hready : s.movReady m q = true)
    {b : Nat} (hbad : firstBad (moverChecks (isCell m.core) q) = some b) :
    exec (.moverDescriptorStart m) s = .next (s.movPush m { Started.new q with status := 0x02, detail := b, ran := true }) := by
  refine next_congr ?_
  simp only [hqueue, if_pos hready, hbad]
  rfl

/-- After a signal the oldest started descriptor leaves its mover, which counts it; the status noted and the count fallen leave that so. -/
theorem mov_retired {u : State} (h : KeepsMovers s u) (status : Nat) (reason : Option Nat) (a : At) :
    let t := (((u.modMov m (fun x => { x with started := x.started.drop 1 })).modCore m.core
      (fun k => { k with movDone := k.movDone + 1 })).noteMov m.core status reason).countFell a
    (t.mov m).started = (s.mov m).started.drop 1 ∧ (t.core m.core).movDone = (s.core m.core).movDone + 1 := by
  intro t
  have hfell : KeepsMovers _ t := .countFell _ a
  rw [hfell.mov, hfell.movDone, mov_noteMov, movDone_noteMov, State.mov, core_modCore, ← h.mov, ← h.movDone]
  exact ⟨congrArg Mover.started (mov_modMov u m _), congrArg (· + 1) (movDone_modMov u m _)⟩

/-- A descriptor whose work is done and whose answers are in signals its completion, leaves its mover and is counted (R134, R171). -/
theorem exec_moverDescriptorComplete_answered {d : Started} {tl : List Started} (hstarted : (s.mov m).started = d :: tl)
    (hran : d.ran = true) (hanswered : d.expect = []) (hparked : (s.mov m).parked = false) (hruns : s.coreRuns m.core = true) :
    Answers (.moverDescriptorComplete m) s (fun t =>
      (t.mov m).started = tl ∧ (t.core m.core).movDone = (s.core m.core).movDone + 1) := by
  have hgoes : ¬ (d.ran = false ∨ (!d.expect.isEmpty) = true ∨ (s.mov m).parked = true ∨ s.coreRuns m.core = false) := by
    simp [hran, hanswered, hparked, hruns]
  have htime : KeepsMovers s (if d.status.toNat = stOk then s.draw.2 else s) := by
    split
    · exact .draw s
    · exact .refl s
  have hsignal := htime.trans (.signal _ m.core d.q (movUnit m) d.status.toNat 0 (if d.status.toNat = stOk then s.draw.1.toNat else d.detail))
  refine ⟨_, next_congr (by simp only [hstarted, if_neg hgoes]; rfl), ?_⟩
  have hretired := mov_retired (m := m) hsignal d.status.toNat (if d.reason = 0 then none else some d.reason) ⟨m.core, d.q.task⟩
  rw [hstarted] at hretired
  exact hretired

/-- An answer given up ends its expectation and makes its descriptor TIMEOUT (R184). -/
theorem exec_moverTimeout_expecting {tag : BitVec 16} {d : Started} {e : Expect} (hruns : s.coreRuns m.core = true)
    (hexpects : (s.core m.core).expecting (fun _ e => e.has tag) = some (m.mov, d, e)) :
    exec (.moverTimeout m tag) s = .next ((s.setExpect m d.q.serial e []).failDesc m d.q.serial 0x17 0 0) := by
  refine next_congr ((if_neg (by simp [hruns])).trans ?_)
  simp only [hexpects, if_true]
  rfl

end

/-- Settles O24, by the rule of each command at a mover that runs; a completion's signal leaves the movers. -/
theorem moversStartCompleteAndTimeOut : Obligations.MoversStartCompleteAndTimeOut := by
  unfold Obligations.MoversStartCompleteAndTimeOut
  exact fun s m => ⟨fun q tl hqueue hready =>
      ⟨exec_moverDescriptorStart_good hqueue hready, fun b => exec_moverDescriptorStart_bad hqueue hready⟩,
    fun d tl hstarted hran hanswered hparked hruns => exec_moverDescriptorComplete_answered hstarted hran hanswered hparked hruns,
    fun tag d e hruns hexpects => exec_moverTimeout_expecting hruns hexpects⟩

end Sys2Proof.Laws

namespace Sys2Proof.Laws
open Sys2Proof.Machine

/-! ### The work of each mover opcode (R175, R177–R181) -/

section
variable {s : State} {m : MovAt} {d : Started}

/-- The row of an opcode acts on the descriptor being worked where the mover runs and the opcode is the row's (R58, R171). -/
theorem moverRow_cur (hparked : (s.mov m).parked = false) (hruns : s.coreRuns m.core = true) (hcur : (s.mov m).cur = some d) {op : Nat}
    (hop : d.q.opcode = op) (body : Started → State → State) : s.moverRow m op body = body d s := by
  unfold State.moverRow
  rw [if_neg (by simp [hparked, hruns]), hcur]
  exact if_pos hop

/-- So does a command that is the row of an opcode. -/
theorem next_moverRow (hparked : (s.mov m).parked = false) (hruns : s.coreRuns m.core = true) (hcur : (s.mov m).cur = some d) {op : Nat}
    (hop : d.q.opcode = op) {body : Started → State → State} {t : State} (hwork : body d s = t) :
    (.next (s.moverRow m op body) : Host.Outcome State Fault Refusal) = .next t :=
  next_congr ((moverRow_cur hparked hruns hcur hop body).trans hwork)

variable (hparked : (s.mov m).parked = false) (hruns : s.coreRuns m.core = true) (hcur : (s.mov m).cur = some d)
include hparked hruns hcur

/-- COPY moves its lines, where all of them can be read (R48). -/
theorem exec_copy_readable (hop : d.q.opcode = 0x80) (hue : (s.ram m.core).firstUe d.q.a (64 * d.q.lines) = none) :
    exec (.copy m) s = .next (((s.memRead m.core d.q.a (64 * d.q.lines)).2.memWrite m.core d.q.b
      ((s.ram m.core).read d.q.a (64 * d.q.lines))).curDone m) := by
  refine next_moverRow hparked hruns hcur hop ?_
  rw [memRead_ok _ _ _ _ hue]

/-- NPUT where the cell has no neighbour on the channel ends NO_NEIGHBOUR (R39, R174). -/
theorem exec_nput_alone (hop : d.q.opcode = 0x81) {si : Site} {p : Phys} (hcell : m.core = .cell si p)
    (halone : s.neighbour ⟨si, p⟩ (dirOf d.q.sub) = none) : exec (.nput m) s = .next (s.curFail m 0x10 0 0) := by
  refine next_moverRow hparked hruns hcur hop ?_
  simp only [hcell, halone]
  rfl

/-- NPUT sends its lines to a neighbour out of reset (R39–R41). -/
theorem exec_nput_neighbour (hop : d.q.opcode = 0x81) {si : Site} {p : Phys} (hcell : m.core = .cell si p) {n : CellAt}
    (hneighbour : s.neighbour ⟨si, p⟩ (dirOf d.q.sub) = some n) (hreset : (s.cell n).inReset = false)
    (hue : (s.ram m.core).firstUe d.q.a (64 * d.q.lines) = none) :
    exec (.nput m) s = .next (State.nputLines m p n (dirOf d.q.sub) d.q
      (numbered d.q.lines 0 ((s.ram m.core).read d.q.a (64 * d.q.lines))) (s.memRead m.core d.q.a (64 * d.q.lines)).2) := by
  refine next_moverRow hparked hruns hcur hop ?_
  rw [hcell] at hue ⊢
  simp only [hneighbour, hreset, Bool.false_eq_true, if_false]
  rw [memRead_ok _ _ _ _ hue]

/-- PUTIMM sends its word or two to its remote target (R175, R302). -/
theorem exec_putimm_target (hop : d.q.opcode = 0x86) {e : Eid} (htarget : s.remTarget m.core d.q.w2 = some e) :
    exec (.putimm m) s = .next ((s.movSend m 0x02 e (fld d.q.w2 23 0)
      [d.q.w1.setWidth 32, d.q.w1.extractLsb' 32 32, if d.q.w64 then 1 else 0] .ack).curDone m) := by
  have hw64 : BitVec.ofNat 32 (b2n d.q.w64) = if d.q.w64 then 1 else 0 := by cases d.q.w64 <;> rfl
  refine next_moverRow hparked hruns hcur hop ?_
  simp only [htarget, hw64]
  rfl

/-- RATOM sends its atomic to its remote target (R181). -/
theorem exec_ratom_target (hop : d.q.opcode = 0x87) {e : Eid} (htarget : s.remTarget m.core d.q.w2 = some e) :
    exec (.ratom m) s = .next ((s.movSend m 0x05 e (fld d.q.w2 23 0) (atomicWords d) .old).curDone m) := by
  refine next_moverRow hparked hruns hcur hop ?_
  simp only [htarget]

/-- SGATHER, where its list can be read, sends the requests of its entries before the first that fails its check, and ends WINDOW there (R179). -/
theorem exec_sgather_readable (hop : d.q.opcode = 0x89) (hue : (s.ram m.core).firstUe d.q.b (2 * (fld d.q.w3 7 0 + 1)) = none) :
    let r := gatherAll (isCell m.core) d.q 0 (pairsOf ((s.ram m.core).read d.q.b (2 * (fld d.q.w3 7 0 + 1))))
    let u := State.sendGroups m d.q.lines (gatherGroups r.1) (s.memRead m.core d.q.b (2 * (fld d.q.w3 7 0 + 1))).2
    exec (.sgather m) s = .next (if r.2 then u.curFail m 0x19 0 0 else u.curDone m) := by
  refine next_moverRow hparked hruns hcur hop ?_
  dsimp only
  rw [memRead_ok _ _ _ _ hue]
  rfl

/-- SFETCH on a cell task ends NOT_PERMITTED (R180). -/
theorem exec_sfetch_cell (hop : d.q.opcode = 0x8A) (hcell : isCell m.core = true) : exec (.sfetch m) s = .next (s.curFail m 0x14 0 0) :=
  next_moverRow hparked hruns hcur hop (if_pos hcell)

/-- SFETCH on a privileged core sends its request to the port that it names (R180, R357). -/
theorem exec_sfetch_privileged (hop : d.q.opcode = 0x8A) (hcore : isCell m.core = false) :
    exec (.sfetch m) s = .next ((s.movSend m 0x18 (BitVec.ofNat 24 (fld d.q.w1 23 0)) 0 (fetchWords s d.q) .shard).curDone m) :=
  next_moverRow hparked hruns hcur hop (if_neg (by simp [hcore]))

end

/-- Settles O25, by the row of each opcode at a mover that runs; PUT, GET, SREAD, SWRITE and SATOM do what their rows say, with no case apart. -/
theorem moverOpcodesDoTheirWork : Obligations.MoverOpcodesDoTheirWork := by
  unfold Obligations.MoverOpcodesDoTheirWork
  intro s m d hparked hruns hcur
  exact ⟨exec_copy_readable hparked hruns hcur,
    fun hop si p hcell => ⟨exec_nput_alone hparked hruns hcur hop hcell, fun n => exec_nput_neighbour hparked hruns hcur hop hcell⟩,
    fun hop => next_moverRow hparked hruns hcur hop rfl, fun hop => next_moverRow hparked hruns hcur hop rfl,
    fun hop => next_moverRow hparked hruns hcur hop rfl, fun hop => next_moverRow hparked hruns hcur hop rfl,
    fun e htarget => ⟨fun hop => exec_putimm_target hparked hruns hcur hop htarget, fun hop => exec_ratom_target hparked hruns hcur hop htarget⟩,
    fun hop => next_moverRow hparked hruns hcur hop rfl, exec_sgather_readable hparked hruns hcur,
    fun hop => ⟨exec_sfetch_cell hparked hruns hcur hop, exec_sfetch_privileged hparked hruns hcur hop⟩⟩

end Sys2Proof.Laws

namespace Sys2Proof.Laws
open Sys2Proof.Machine

/-! ### Packets at a store's port (R181, R377–R380, R384) -/

/-- A packet taken off the network leaves every store. -/
theorem store_takeData (s : State) (p : DataPkt) (n : Nat) : (s.takeData p).store n = s.store n := rfl

section
variable {s : State} {st : StoreId} {p : DataPkt}

/-- A write that passes the checks stores its lines, and is acknowledged by the port (R377). -/
theorem exec_storeWritePacket_ok (hat : AtStore s st.val p) (htype : p.type = 0x01)
    (haccess : (s.store st.val).access p.colony (stoAddr p) (4 * p.payload.length) = none) :
    exec (.storeWritePacket st p) s = .next (((s.takeData p).modStore st.val
      (fun x => x.write (stoAddr p) (p.payload.flatMap wordBytes))).ackData (s.eid (fld p.dst 15 8) 0xB8) p) := by
  refine next_congr ((if_neg (by simp [htype])).trans ((atStore_ok hat _).trans ?_))
  simp only [store_takeData, haccess]

/-- A write that fails a check is refused with its reason (R378, R380). -/
theorem exec_storeWritePacket_refuse (hat : AtStore s st.val p) (htype : p.type = 0x01) {r : Nat}
    (haccess : (s.store st.val).access p.colony (stoAddr p) (4 * p.payload.length) = some r) :
    exec (.storeWritePacket st p) s = .next ((s.takeData p).nackData (s.eid (fld p.dst 15 8) 0xB8) p r) := by
  refine next_congr ((if_neg (by simp [htype])).trans ((atStore_ok hat _).trans ?_))
  simp only [store_takeData, haccess]

/-- A read that passes the checks and meets no unreadable granule is answered with the bytes at its address (R377, R384). -/
theorem exec_storeReadReq_ok (hat : AtStore s st.val p) (htype : p.type = 0x03)
    (haccess : (s.store st.val).access p.colony (stoAddr p) ((fld (plWord p 0) 3 0 + 1) * 256) = none)
    (hgood : ∀ g ∈ granules (stoAddr p) ((fld (plWord p 0) 3 0 + 1) * 256), (s.store st.val).badGranule g = false) :
    let v := ((s.takeData p).storeTouch st.val (stoAddr p) ((fld (plWord p 0) 3 0 + 1) * 256)).2
    exec (.storeReadReq st p) s = .next (v.sendData (mkData 0x04 p.src (s.eid (fld p.dst 15 8) 0xB8) p.colony (v.store st.val).epoch.epoch
      p.addr.toNat p.tag (wordsOfBytes ((v.store st.val).bytes (stoAddr p) ((fld (plWord p 0) 3 0 + 1) * 256))))) := by
  have hread := read_ok (s.takeData p) st.val (stoAddr p) _ hgood
  refine next_congr ((if_neg (by simp [htype])).trans ((atStore_ok hat _).trans ?_))
  simp only [store_takeData, haccess, hread]

/-- An atomic that passes the checks and meets no unreadable granule stores its new value, and is answered with the old one (R181, R377). -/
theorem exec_storeAtomic_ok (hat : AtStore s st.val p) (htype : p.type = 0x05) (hop : fld (plWord p 4) 3 0 ≤ 9)
    (haccess : (s.store st.val).access p.colony (stoAddr p) 64 = none)
    (hgood : ∀ g ∈ granules (stoAddr p) 64, (s.store st.val).badGranule g = false) :
    let v := ((s.takeData p).storeTouch st.val (stoAddr p) 64).2
    let k := if bit (plWord p 4) 4 then 2 else 1
    let old := wordsVal (wordsOfBytes (((v.store st.val).bytes (stoAddr p) 64).take (4 * k))) k
    exec (.storeAtomic st p) s = .next ((v.modStore st.val (fun x =>
        x.write (stoAddr p) ((amoWords (fld (plWord p 4) 3 0) (bit (plWord p 4) 4) old (plW64 p 0) (plW64 p 2)).flatMap wordBytes))).sendData
      (mkData 0x06 p.src (s.eid (fld p.dst 15 8) 0xB8) p.colony (v.store st.val).epoch.epoch p.addr.toNat p.tag [loW old, hiW old])) := by
  have hread := read_ok (s.takeData p) st.val (stoAddr p) 64 hgood
  refine next_congr ((if_neg (by simp [htype])).trans ((atStore_ok hat _).trans ((if_neg (by omega)).trans ?_)))
  simp only [store_takeData, haccess, hread]

/-- A well-formed gather whose entries all pass the checks and can be read is answered with their lines (R379). -/
theorem exec_gather_ok (hat : AtStore s st.val p) (htype : p.type = 0x08) (hlist : gatherOk p = true)
    (haccess : (gatherAddrs p).findSome? (fun a => (s.store st.val).access p.colony a (256 * (fld (plWord p 0) 5 0 + 1))) = none)
    {bs : List Byte} {v : State} (hread : State.gatherRead st.val (fld (plWord p 0) 5 0 + 1) (gatherAddrs p) (s.takeData p) = (some bs, v)) :
    exec (.gather st p) s = .next (State.sendLinesOf st.val (s.eid (fld p.dst 15 8) 0xB8) p 256 0 bs v) := by
  refine next_congr ((if_neg (by simp [htype])).trans ((atStore_ok hat _).trans ((if_neg (by simp [hlist])).trans ?_)))
  simp only [store_takeData, haccess, hread]

end

/-- Settles O39, by the arrival at a store's port, the check of the access, and the read of granules that are not bad. -/
theorem storePacketsAccessTheStore : Obligations.StorePacketsAccessTheStore := by
  unfold Obligations.StorePacketsAccessTheStore
  exact fun s st p hat => ⟨exec_storeWritePacket_ok hat, fun r htype => exec_storeWritePacket_refuse hat htype, exec_storeReadReq_ok hat,
    exec_storeAtomic_ok hat, fun bs v htype hlist haccess => exec_gather_ok hat htype hlist haccess⟩

end Sys2Proof.Laws

namespace Sys2Proof.Laws
open Sys2Proof.Machine

/-! ### A swarm epoch that arrives (R334, R360, R516) -/

/-- Writing a group leaves UP_PANEL of every comb. -/
theorem upPanel_writeGroup (s : State) (g : Nat) (i : Site) :
    ((s.writeGroup g).comb i).waggle.upPanel = (s.comb i).waggle.upPanel := by
  unfold State.writeGroup
  dsimp only
  refine foldl_keeps (γ := Byte) _ (fun u : State => (u.comb i).waggle.upPanel) (fun u j => ?_) _ s
  by_cases hij : i = j
  · subst hij
    simp only [State.modWag, comb_modComb]
  · simp only [State.modWag, comb_modComb_ne _ _ _ _ hij]

/-- The swarm's tree puts this panel's parent into UP_PANEL of the panel root (R334). -/
theorem upPanel_swarmTree (s : State) :
    (s.swarmTree.comb s.panelRoot).waggle.upPanel = BitVec.ofNat 8 s.swarmUp := by
  unfold State.swarmTree
  refine (foldl_keeps (γ := Byte) _ (fun u : State => (u.comb s.panelRoot).waggle.upPanel)
    (fun u g => upPanel_writeGroup u g s.panelRoot) _ _).trans ?_
  simp [State.modWag]

/-- The panel with the epoch that a message gives: its number and its members. -/
def takeSwarmEpoch (s : State) (p : DataPkt) : State :=
  { s with swarmEpoch := swarmBody p 0, swarmMembers := membersOf (min 32 (swarmBody p 1).toNat) (p.payload.drop 4) }

/-- An EPOCH that arrives is acknowledged and taken over, and the swarm's tree is written anew (R334, R516). -/
theorem exec_swarmEpoch_at {s : State} {h : Half} {p : DataPkt} (hat : SwarmAt s h p 4) :
    exec (.swarmEpoch h p) s = .next (takeSwarmEpoch (s.swarmTook h p) p).swarmTree :=
  next_congr (swarm_ok hat _)

/-- Panel 1, of no swarm yet. -/
def panelOne : State := State.reset.setObj (objKey 0x2030 0 0) [1]

/-- Panel 0's EPOCH to the west keeper of panel 1: epoch 1, of panels 0 and 1. -/
def epochOfTwo : DataPkt := mkData 0x1B 0x01F000 0x00F000 0xFF 0 0 1 [4, 0, 1, 2, 0, 0, 0, 1, 0, 0]

theorem swarmAt_epochOfTwo : SwarmAt panelOne .west epochOfTwo 4 :=
  ⟨rfl, rfl, by decide, rfl, by decide +kernel⟩

/-- The parent of panel 1 in the swarm that the message commits is panel 0. -/
theorem swarmUp_panelOne : (takeSwarmEpoch (panelOne.swarmTook .west epochOfTwo) epochOfTwo).swarmUp = 0 := rfl

/-- Refutes O38 by its EPOCH clause, which leaves out the swarm's tree: panel 1, told that the swarm is panels 0 and 1, has 0xFF (no parent) in
UP_PANEL of its panel root before, and 0 after (R334). -/
theorem not_swarmMessagesAreAnsweredAndDone : ¬ Obligations.SwarmMessagesAreAnsweredAndDone := by
  unfold Obligations.SwarmMessagesAreAnsweredAndDone
  rintro ⟨hmessages, -⟩
  obtain ⟨-, -, -, -, hepoch, -⟩ := hmessages panelOne .west epochOfTwo none true
  let u := takeSwarmEpoch (panelOne.swarmTook .west epochOfTwo) epochOfTwo
  have hsame : u.swarmTree = u :=
    Host.Outcome.next.inj ((exec_swarmEpoch_at swarmAt_epochOfTwo).symm.trans (hepoch swarmAt_epochOfTwo))
  have hbefore : (u.comb u.panelRoot).waggle.upPanel = 0xFF := rfl
  have hafter := upPanel_swarmTree u
  rw [hsame, hbefore, swarmUp_panelOne] at hafter
  exact absurd hafter (by decide)

end Sys2Proof.Laws

namespace Sys2Proof.Laws
open Sys2Proof.Machine

/-! ### COLONY_LAYOUT (R199, R210) -/

/-- A legal layout, with segment 4,095 free, of a colony in FREE or DEFINED is stored, and leaves DEFINED. -/
theorem layoutWrite_ok {s : State} {c : Nat} {bytes : List Byte} (hok : layoutOk c bytes = true)
    (h4095 : uses4095 (words64 bytes) = false) (hstatic : s.colonyStatic c = true) (hup : s.bothUp = true) :
    s.layoutWrite c bytes = (0, ((s.setObj (objKey 0x5010 c 0) (bytes64 (layMask (words64 bytes)))).burn (objKey 0x5010 c 0)
      (bytes64 (layMask (words64 bytes)))).setCol c csDefined (s.colony c).reason) := by
  unfold State.layoutWrite
  rw [if_neg (by simp [hok, h4095]), if_neg (by simp [hstatic])]
  exact if_pos hup

/-! ### COLONY_CTRL (R210, R213) -/

section
variable {s : State} {c v : Nat} {img : Option (List Byte)} {dl : Bool}

/-- A command that R210 has no row for is BUSY. -/
theorem colonyCtrl_not_taken (h : s.ctrlTaken c v = false) : s.colonyCtrl c v img dl = (coBusy, s) :=
  if_pos (by simp [h])

/-- A command with a row, of a colony on this panel alone, is done at once. -/
theorem colonyCtrl_taken (h : s.ctrlTaken c v = true) (hpanels : layPanels (s.layout c) ≤ 1) :
    s.colonyCtrl c v img dl = (0, s.ctrlAct c v img dl) :=
  (if_neg (by simp [h])).trans (if_pos hpanels)

variable {r : Req} {m : MgmtSession} {o : ObjRef} {data : List Byte}

/-- A granted command with a row, of a colony on this panel alone. -/
theorem writeReq_ctrl_taken (hg : Granted s r m o data) (hpanels : layPanels (s.layout c) ≤ 1) (htaken : s.ctrlTaken c v = true)
    {act : State → State} (hact : (s.admitted r m).ctrlAct c v img dl = act (s.admitted r m)) :
    s.writeReq r o data (fun t => t.colonyCtrl c v img dl) = s.performed r m (fun t => (0, act t)) :=
  (writeReq_ok hg _).trans (perf_congr ((colonyCtrl_taken (s := s.admitted r m) htaken hpanels).trans (by rw [hact])))

/-- A granted command without a row. -/
theorem writeReq_ctrl_not_taken (hg : Granted s r m o data) (htaken : s.ctrlTaken c v = false) :
    s.writeReq r o data (fun t => t.colonyCtrl c v img dl) = s.performed r m (fun t => (coBusy, t)) :=
  (writeReq_ok hg _).trans (perf_congr (colonyCtrl_not_taken (s := s.admitted r m) htaken))

end

/-! The rows of R210 -/

section
variable {s : State} {c : Nat}

theorem ctrlTaken_deploy (hboot : s.boot.state = 6) (hst : (s.colony c).state = csDefined) : s.ctrlTaken c 1 = true := by
  simp [State.ctrlTaken, hboot, hst]

theorem ctrlTaken_start (hboot : s.boot.state = 6) (hst : (s.colony c).state = csReady) : s.ctrlTaken c 2 = true := by
  simp [State.ctrlTaken, hboot, hst]

theorem ctrlTaken_start_serving (hst : (s.colony c).state = csServing) : s.ctrlTaken c 2 = false := by
  simp [State.ctrlTaken, hst, csReady, csServing, csRestarting]

theorem ctrlTaken_stop (hst : (s.colony c).state = csServing) : s.ctrlTaken c 3 = true := by
  simp [State.ctrlTaken, hst]

theorem ctrlTaken_restart (hboot : s.boot.state = 6) (hst : (s.colony c).state = csServing) : s.ctrlTaken c 4 = true := by
  simp [State.ctrlTaken, hboot, hst]

theorem ctrlTaken_release (hst : (s.colony c).state = csFailed) : s.ctrlTaken c 5 = true := by
  simp [State.ctrlTaken, hst]

/-- START of a READY colony. -/
theorem ctrlAct_start (hst : (s.colony c).state = csReady) (img : Option (List Byte)) (dl : Bool) :
    s.ctrlAct c 2 img dl = (s.setCol c csServing crNone).startTasks c :=
  if_neg (by simp [hst, csReady, csRestarting])

/-- STOP of a SERVING colony. -/
theorem ctrlAct_stop (hst : (s.colony c).state = csServing) (img : Option (List Byte)) (dl : Bool) :
    s.ctrlAct c 3 img dl = s.modColony c (fun k => { k with state := csDraining }) :=
  if_neg (by simp [hst, csServing, csRestarting])

end

/-! ### Draining (R210) -/

theorem exec_drainTimeout_draining {s : State} {c : ColonyId} (hst : (s.colony c.val).state = csDraining) (dl : Bool) :
    exec (.drainTimeout c dl) s = .next (s.drained c.val dl) :=
  next_congr (if_pos hst)

theorem exec_drainComplete_done {s : State} {c : ColonyId} (hst : (s.colony c.val).state = csDraining)
    (hdone : s.batchesDone c.val = true) (dl : Bool) : exec (.drainComplete c dl) s = .next (s.drained c.val dl) :=
  next_congr (if_pos ⟨hst, hdone⟩)

/-- Settles O42, by the check of each write and the row of R210 of each command. -/
theorem colonyCommandsFollowTheStateTable : Obligations.ColonyCommandsFollowTheStateTable := by
  unfold Obligations.ColonyCommandsFollowTheStateTable
  refine fun s r m c img dl => ⟨fun bytes hg hok h4095 hstatic hup => ?layout, fun hpanels hboot => ⟨fun hg hst => ?deploy,
    fun hg hst => ?start, fun hg hst => ?stop, fun hg hst => ?restart, fun hg hst => ?release, fun hg hst => ?busy⟩,
    fun hst => ⟨exec_drainTimeout_draining hst dl, fun hdone => exec_drainComplete_done hst hdone dl⟩, fun v hg => ?bridges⟩
  case layout =>
    exact next_congr ((writeReq_ok hg _).trans (perf_congr (layoutWrite_ok (s := s.admitted r m) hok h4095 hstatic hup)))
  case deploy => exact next_congr (writeReq_ctrl_taken hg hpanels (ctrlTaken_deploy hboot hst) rfl)
  case start =>
    exact next_congr (writeReq_ctrl_taken hg hpanels (ctrlTaken_start hboot hst) (ctrlAct_start (s := s.admitted r m) hst none true))
  case stop =>
    exact next_congr (writeReq_ctrl_taken hg hpanels (ctrlTaken_stop hst) (ctrlAct_stop (s := s.admitted r m) hst none true))
  case restart => exact next_congr (writeReq_ctrl_taken hg hpanels (ctrlTaken_restart hboot hst) rfl)
  case release => exact next_congr (writeReq_ctrl_taken hg hpanels (ctrlTaken_release hst) rfl)
  case busy => exact next_congr (writeReq_ctrl_not_taken hg (ctrlTaken_start_serving hst))
  case bridges => exact next_congr (writeReq_ok hg _)

end Sys2Proof.Laws

namespace Sys2Proof.Laws
open Sys2Proof.Machine

/-! ### Sites (R422–R428, R440, R449, R450, R455) -/

section
variable {s : State} {c : CellAt}

theorem exec_siteDuskEntry_idle (hst : (s.comb c.site).siteSt c.phys = 0) (hidle : s.siteIdle c = true) :
    exec (.siteDuskEntry c) s = .next (s.deeper c) :=
  next_congr (if_pos ⟨hst, hidle⟩)

theorem exec_siteDescend_idle (hlow : 1 ≤ (s.comb c.site).siteSt c.phys) (hhigh : (s.comb c.site).siteSt c.phys ≤ 4)
    (hidle : s.siteIdle c = true) : exec (.siteDescend c) s = .next (s.deeper c) :=
  next_congr (if_pos ⟨hlow, hhigh, hidle⟩)

theorem exec_siteWake_shallow (hst : (s.comb c.site).siteSt c.phys ≤ 3) : exec (.siteWake c) s = .next (s.dawn c) :=
  next_congr (if_pos hst)

theorem exec_siteDawn_powered (hpower : ((s.comb c.site).pw.dom (dLogic (frameOf c.phys))).state = 3)
    (hfence : (s.comb c.site).siteFenced c.phys = false) : exec (.siteDawn c) s = .next (s.dawn c) :=
  next_congr (if_pos ⟨hpower, by simp [hfence]⟩)

theorem exec_fmxCapWrite_legal {v : W64} (hcode : fld v 20 16 ≤ 16) : exec (.fmxCapWrite c v) s = .next (s.setCap c (fld v 20 16)) :=
  next_congr (if_neg (Nat.not_lt.2 hcode))

theorem exec_fmxCapWrite_illegal {v : W64} (hcode : 16 < fld v 20 16) : exec (.fmxCapWrite c v) s = .next (s.setPstErr c.site psBadWr) :=
  next_congr (if_pos hcode)

theorem exec_characterisationOverdue_overdue (h : (s.comb c.site).pw.overdue c.phys.val = true) :
    exec (.characterisationOverdue c) s = .next (s.retune c) :=
  next_congr (if_pos h)

theorem exec_clockRelock_changing (h : (s.cell c).clk.changing = true) : exec (.clockRelock c) s =
    .next (State.advanceFrame c.site (frameOf c.phys) 13 ((s.clockLocked c).lowerVset c.site (frameOf c.phys))) :=
  next_congr (if_neg (by simp [h]))

theorem exec_clockGo_reached {v : W64} (hgo : bit v 8 = true) (hreach : s.cellReach c = true) (hreset : (s.cell c).inReset = false) :
    exec (.clockGo c v) s = .next ((s.accessWake c).clkCtrlWrite c v) :=
  next_congr (if_neg (by simp [hgo, hreach, hreset]))

/-- Stretched cycles of a running clock are counted as cycles too (R450, R453). -/
theorem exec_droopStretch_running (n : Nat) (hst : (s.comb c.site).siteSt c.phys = 0) (hclk : (s.cell c).clk.changing = false) :
    Answers (.droopStretch c n) s (fun t =>
      (t.cell c).clk.stretch = (s.cell c).clk.stretch + BitVec.ofNat 64 n ∧ (t.cell c).cycles = (s.cell c).cycles + BitVec.ofNat 64 n) :=
  ⟨_, next_congr (if_neg (by simp [hst, hclk])), by simp⟩

end

/-! ### Frames: limiter, throttle and heat (R429, R431, R433–R435) -/

/-- The power registers of a comb after they are changed. -/
@[simp] theorem pw_comb_modPw (s : State) (i : Site) (f : CombPower → CombPower) : ((s.modPw i f).comb i).pw = f (s.comb i).pw := by
  simp [State.modPw]

/-- A record that is sent leaves every comb. -/
@[simp] theorem comb_sendErr (s : State) (n : Nat) (r : ErrRec) (i : Site) : (s.sendErr n r).comb i = s.comb i := rfl

/-- HEAT_OFF is set with no record of its own, and leaves LEVEL and the heat mark of every frame (R438). -/
theorem pw_setPstErr_heat (s : State) (i : Site) : ∃ e, ((s.setPstErr i psHeat).comb i).pw = { (s.comb i).pw with pstErr := e } := by
  unfold State.setPstErr
  split
  · exact ⟨_, rfl⟩
  · exact ⟨setBit (s.comb i).pw.pstErr psHeat true, by simp⟩

/-- A bit of a word after it is set. -/
theorem bit_setBit_same {n : Nat} (w : BitVec n) {i : Nat} (hi : i < n) (b : Bool) : bit (setBit w i b) i = b := by
  have hc : b2n b < 2 := by cases b <;> decide
  have hnat : (w.toNat - w.toNat / 2 ^ i % 2 * 2 ^ i + b2n b * 2 ^ i).testBit i = b := by
    rw [nat_setBit_eq, Nat.testBit_two_pow_mul_add _ (Nat.mod_lt _ (Nat.two_pow_pos i)), if_neg (Nat.lt_irrefl i), Nat.sub_self,
      Nat.testBit_zero, Nat.mul_add_mod, Nat.mod_eq_of_lt hc]
    cases b <;> rfl
  simp only [bit, setBit, setBits, BitVec.getLsbD_ofNat, hi, decide_true, Bool.true_and, Nat.pow_one, Nat.mod_eq_of_lt hc, hnat]

section
variable {s : State} {i : Site} {f : Frame}

theorem exec_frameLimiterTick_power {power : Nat} (h : power ≤ 65535) :
    Answers (.frameLimiterTick i f power []) s (fun t => Tbl.get 0 (t.comb i).pw.power f.val = power) :=
  ⟨_, rfl, by simp [Tbl_get_put_same, h]⟩

theorem exec_runDownshift_limited (h : 6 ≤ (s.comb i).pw.levelOf f.val) : exec (.runDownshift i f) s = .next (s.shiftFrame i f.val false) :=
  next_congr (if_pos h)

theorem exec_runUpshift_free (h : (s.comb i).pw.levelOf f.val = 0) : exec (.runUpshift i f) s = .next (s.shiftFrame i f.val true) :=
  next_congr (if_pos h)

/-- TLIMIT of a frame below THROTTLE_C − 5 °C is lifted (R433). -/
theorem exec_throttleStep_cool (h : degrees (Tbl.get 0 (s.comb i).pw.temp f.val) < (Int.ofNat (s.comb i).pw.throttleC.toNat - 5) * 16) :
    Answers (.throttleStep i f) s (fun t => (t.comb i).pw.tlimitOf f.val = 2000) := by
  refine ⟨_, rfl, ?_⟩
  dsimp only
  rw [pw_comb_modPw, if_pos (decide_eq_true h)]
  exact Tbl_get_put_same 2000 (s.comb i).pw.tlimit f.val 2000

/-- A frame at CRITICAL, below the 110 °C at which its domains go off at once, is at LEVEL 8 and marked off for heat (R434). -/
theorem exec_frameHeatOff_critical (hlevel : 2 ≤ Tbl.get 0 (s.comb i).pw.sensLevel f.val) (hheat : bit (s.comb i).pw.heat f.val = false)
    (htemp : degrees (Tbl.get 0 (s.comb i).pw.temp f.val) < 110 * 16) :
    Answers (.frameHeatOff i f) s (fun t => (t.comb i).pw.levelOf f.val = 8 ∧ bit (t.comb i).pw.heat f.val = true) := by
  refine ⟨_, next_congr ((if_neg (by simp [hheat]; omega)).trans (if_neg (Int.not_le.2 htemp))), ?_⟩
  obtain ⟨e, he⟩ := pw_setPstErr_heat (s.modPw i _) i
  rw [comb_sendErr, he, pw_comb_modPw]
  exact ⟨Tbl_get_put_same 0 (s.comb i).pw.level f.val 8, bit_setBit_same _ f.isLt true⟩

/-- A frame that has cooled comes back into service with the positions that pass their test (R435). -/
theorem exec_heatFrameReturn_cool (passed : BitVec 12) (hheat : bit (s.comb i).pw.heat f.val = true)
    (hcount : Tbl.get 0 (s.comb i).pw.heatCount f.val < 3) (hfence : s.log.fenced 2 (i.val * 256 + f.val) = true)
    (htemp : degrees (Tbl.get 0 (s.comb i).pw.temp f.val) < (Int.ofNat (s.comb i).pw.throttleC.toNat - 10) * 16)
    (hpower : ((s.comb i).pw.dom (dTransit f.val)).state = 3) :
    Answers (.heatFrameReturn i f passed) s (fun t => ∃ u : State, t = u.openFrame i f.val) :=
  ⟨_, next_congr (if_neg (not_or.2 ⟨by simp [hheat], not_or.2 ⟨Nat.not_le.2 hcount, not_or.2 ⟨by simp [hfence],
    not_or.2 ⟨Int.not_le.2 htemp, not_not_intro hpower⟩⟩⟩⟩)), _, rfl⟩

end

/-! ### Halves, the panel loop, reports and energy (R216, R430, R433, R436) -/

theorem exec_thermalTrip_on {s : State} {h : Half} (hon : (s.halfPower h).on = true) : exec (.thermalTrip h) s =
    .next ((s.halfStop h 3).sendErr (0xF0 + (s.halfStop h 3).lead.code) (mkErr 0x0804 2 8 h.code (s.eid (0xF0 + h.code) 0) 0 0 0)) :=
  next_congr (if_neg (by simp [hon]))

/-- The panel loop where the west half alone has power. -/
theorem exec_panelLoop_west {s : State} {m : PowerMeas} (hwest : (s.halfPower .west).on = true)
    (heast : ((s.loopHalf .west m.inWest (m.inWest + m.inEast) m.otherWest).halfPower .east).on = false) :
    exec (.panelLoop m) s = .next (s.loopHalf .west m.inWest (m.inWest + m.inEast) m.otherWest) := by
  refine next_congr ?_
  rw [if_pos hwest, if_neg (by simp [heast])]

/-- A change of a half's readings leaves PANEL_ENERGY. -/
theorem input_modHalf (s : State) (h : Half) (f : HalfPower → HalfPower) : (s.modHalf h f).power.input = s.power.input := by
  cases h <;> rfl

/-- PANEL_ENERGY grows by what the blades have delivered, and its mark follows; the readings before leave it (R436). -/
theorem exec_powerReport_inputs (s : State) (m : Meter) : Answers (.powerReport m) s (fun t =>
    t.power.input = s.power.input + BitVec.ofNat 64 (m.blades.foldl (fun a b => a + b.2.2.2) 0) ∧ t.power.inputMark = t.power.input) := by
  refine ⟨_, rfl, congrArg (· + BitVec.ofNat 64 (m.blades.foldl (fun a b => a + b.2.2.2) 0)) ?_, rfl⟩
  rw [input_modHalf, input_modHalf]
  refine (foldl_keeps (γ := W64) _ (fun u : State => u.power.input) ?convs _ _).trans
    (foldl_keeps (γ := W64) _ (fun u : State => u.power.input) ?blades _ _)
  case convs => exact fun _ _ => rfl
  case blades => exact fun _ _ => rfl

/-- The energy of a frame of the half, of a store and of the rest is charged in turn (R216). -/
theorem exec_energyCharge_one {s : State} {h : Half} {i : Site} (hhalf : halfOf i = h) (f : Frame) (st : StoreId) (n k other : Nat) :
    exec (.energyCharge h [(i, f, n)] [(st, k)] other) s = .next (((s.chargeFrame i f.val n).chargeStore st.val k).charge none other) :=
  next_congr (by simp [hhalf])

/-- Settles O49, by the rule of each command. -/
theorem sitesFramesAndHalvesFollowPowerAndHeat : Obligations.SitesFramesAndHalvesFollowPowerAndHeat := by
  unfold Obligations.SitesFramesAndHalvesFollowPowerAndHeat
  exact ⟨fun s c => ⟨exec_siteDuskEntry_idle, exec_siteDescend_idle, exec_siteWake_shallow, exec_siteDawn_powered,
      fun v => ⟨exec_fmxCapWrite_legal, exec_fmxCapWrite_illegal⟩, exec_characterisationOverdue_overdue, exec_clockRelock_changing,
      fun v => exec_clockGo_reached, exec_droopStretch_running⟩,
    fun s i f => ⟨rfl, fun power => exec_frameLimiterTick_power, exec_runDownshift_limited, exec_runUpshift_free, exec_throttleStep_cool,
      exec_frameHeatOff_critical, exec_heatFrameReturn_cool⟩,
    fun s h => exec_thermalTrip_on, fun s h n v => rfl, fun s m hwest _ => exec_panelLoop_west hwest, exec_powerReport_inputs,
    fun s h i f st n k other hhalf => exec_energyCharge_one hhalf f st n k other⟩

end Sys2Proof.Laws

namespace Sys2Proof.Laws
open Sys2Proof.Machine

/-! ### SESSION_CTRL (R232) -/

section
variable {s : State} {home slot : Nat} {w0 w1 w2 : W64}

/-- A slot of a home that does not serve is not opened. -/
theorem openCheck_not_serving {peers : W64} (hin : s.slotIn home slot = true) (hst : (s.colony home).state ≠ csServing) :
    s.openCheck home slot peers = coBusy := by
  unfold State.openCheck
  have hbusy : (sessColonies home peers).any (fun c => !decide ((s.colony c).state = 5)) = true :=
    List.any_eq_true.2 ⟨home, List.mem_cons_self, by simpa [csServing] using hst⟩
  rw [if_neg (by simp [hin]), if_pos hbusy]

/-- An OPEN that a check refuses is answered with its status and changes nothing. -/
theorem openSession_refused {peers ext : W64} {opener : Option Nat} {e : Nat} (h : s.openCheck home slot peers = e) (he : e ≠ coOk) :
    s.openSession home slot peers ext opener = (e, s) := by
  subst h
  exact if_pos he

theorem sessionCtrl_open (hop : fld w0 63 56 = 1) :
    s.sessionCtrl w0 w1 w2 = s.openSession (fld w0 55 48) (fld w0 23 0) w1 w2 none :=
  if_pos hop

/-- END of a slot by the home of its session. -/
theorem sessionCtrl_end {x : Session} (hop : fld w0 63 56 = 2) (hx : s.session (fld w0 23 0) = some x) (hhome : x.home = fld w0 55 48) :
    s.sessionCtrl w0 w1 w2 = (coOk, s.endSession x 0) := by
  unfold State.sessionCtrl
  rw [if_neg (by omega), if_pos hop, hx]
  exact congrArg _ (if_pos hhome)

variable {r : Req} {m : MgmtSession}

/-- A granted write of SESSION_CTRL whose OP is not END acts on the panel that admitted it. -/
theorem exec_sessionCtrlOpen_granted (hg : Granted s r m (oref 0x5040 0 0) (toLe 8 w0.toNat ++ toLe 8 w1.toNat ++ toLe 8 w2.toNat))
    (hop : fld w0 63 56 ≠ 2) {act : State → Nat × State} (hact : (s.admitted r m).sessionCtrl w0 w1 w2 = act (s.admitted r m)) :
    exec (.sessionCtrlOpen r w0 w1 w2) s = .next (s.performed r m act) :=
  next_congr ((if_neg hop).trans ((writeReq_ok hg _).trans (perf_congr hact)))

/-- A granted write of SESSION_CTRL whose OP is END acts on the panel that admitted it. -/
theorem exec_sessionCtrlEnd_granted (hg : Granted s r m (oref 0x5040 0 0) (toLe 8 w0.toNat ++ toLe 8 w1.toNat ++ toLe 8 w2.toNat))
    (hop : fld w0 63 56 = 2) {act : State → Nat × State} (hact : (s.admitted r m).sessionCtrl w0 w1 w2 = act (s.admitted r m)) :
    exec (.sessionCtrlEnd r w0 w1 w2) s = .next (s.performed r m act) :=
  next_congr ((if_neg (not_not_intro hop)).trans ((writeReq_ok hg _).trans (perf_congr hact)))

end

/-! ### Late and idle sessions (R234, R235) -/

section
variable {s : State} {slot : BitVec 24} {x : Session}

/-- An OPEN that a colony has not taken up in time ends the session with REASON 3. -/
theorem exec_openTimeout_opening (hx : s.session slot.toNat = some x) (hopening : x.live.any (fun c => decide (s.seqState c x.slot = 1)) = true) :
    exec (.openTimeout slot) s = .next (s.endSession x 3) := by
  refine next_congr ?_
  rw [hx]
  exact if_pos hopening

/-- A colony that still holds a sequence of an ended session receives a contained error. -/
theorem exec_sessionEndTimeout_live (hx : s.session slot.toNat = some x) {c : ColonyId} (hended : x.endReason ≠ none)
    (hlive : x.live.contains c.val = true) : exec (.sessionEndTimeout c slot) s = .next (s.sendErr (0xF0 + s.lead.code)
      (mkErr 0x0602 1 6 c.val (s.eid (0xF0 + s.lead.code) 0) 0 (BitVec.ofNat 64 x.slot) 0)) := by
  refine next_congr ?_
  rw [hx]
  exact if_pos (Bool.and_eq_true_iff.2 ⟨Option.isSome_iff_ne_none.2 hended, hlive⟩)

theorem exec_sessionIdleCheck_one (hone : s.sessions = [x]) : exec .sessionIdleCheck s = .next (s.idleCheck x) :=
  next_congr (by rw [hone]; rfl)

end

/-! ### Requests and events of colonies (R233, R243) -/

section
variable {s : State} {c : Nat} {bs : List Byte}

/-- The next request of a ring is done and taken, where its KIND is the one asked for. -/
theorem serveRequest_of_kind {kind : Nat} {t : State} (hnext : s.nextRequest c = some bs) (hkind : fld (reqWord bs 0) 63 56 = kind)
    (hdone : s.doRequest c bs = t) : s.serveRequest c (fun k => k == kind) = t.takeRequest c := by
  unfold State.serveRequest
  rw [hnext, ← hdone]
  exact if_pos (beq_iff_eq.2 hkind)

/-! What each KIND asks -/

theorem doRequest_end (hkind : fld (reqWord bs 0) 63 56 = 0x81) : s.doRequest c bs = s.doReqEnd c bs :=
  if_pos hkind

theorem doRequest_retired (hkind : fld (reqWord bs 0) 63 56 = 0x82) : s.doRequest c bs = s.doReqRetired c bs :=
  (if_neg (by omega)).trans (if_pos hkind)

theorem doRequest_profile (hkind : fld (reqWord bs 0) 63 56 = 0x83) : s.doRequest c bs = s.doReqProfile c bs :=
  (if_neg (by omega)).trans ((if_neg (by omega)).trans (if_pos hkind))

/-- With every ring empty the poll takes no request, and only applies the ENDs that met OPENING. -/
theorem exec_requestRingPoll_empty (hempty : ∀ c < 64, ringCount (s.rg64 c rgRqHead) (s.rg64 c rgRqTail) = 0) :
    exec .requestRingPoll s = .next s.applyEnds := by
  refine next_congr (congrArg State.applyEnds ?_)
  refine List.foldlRecOn (motive := fun t => t = s) _ _ rfl fun t ht c hc => ?_
  subst ht
  rw [hempty c (List.mem_range.1 hc)]
  rfl

/-- The one event that waits is posted where the ring has room. -/
theorem flushEvents_one {e : List Byte} (hone : (s.work c).events = [e]) (hroom : s.eventsFull c = false) :
    State.flushEvents c 1 s = (s.modWork c (fun w => { w with events := [] })).ringEvent c e := by
  unfold State.flushEvents
  rw [hone]
  exact if_neg (by simp [hroom])

end

theorem exec_eventQueuePost_one {s : State} {c : ColonyId} {e : List Byte} (hone : (s.work c.val).events = [e])
    (hroom : s.eventsFull c.val = false) :
    exec (.eventQueuePost c) s = .next ((s.modWork c.val (fun w => { w with events := [] })).ringEvent c.val e) :=
  next_congr ((congrArg (State.flushEvents c.val · s) (congrArg List.length hone)).trans (flushEvents_one hone hroom))

/-- Settles O43, by the check and effect of each SESSION_CTRL, the KIND of each request and the rule of each timer. -/
theorem sessionsOpenEndAndTimeOut : Obligations.SessionsOpenEndAndTimeOut := by
  unfold Obligations.SessionsOpenEndAndTimeOut
  refine ⟨fun s r m w0 w1 w2 hg => ⟨fun hop => ?opened, fun hop hin hst => ?busy, fun x hop hx hhome => ?ended⟩,
    fun s slot x hx => ⟨exec_openTimeout_opening hx, fun c => exec_sessionEndTimeout_live hx⟩,
    fun s c bs hnext => ⟨fun hkind => ?reqEnd, fun hkind => ?reqRetired, fun hkind => ?reqProfile⟩,
    fun s => exec_requestRingPoll_empty, fun s x => exec_sessionIdleCheck_one, fun s c e => exec_eventQueuePost_one⟩
  case opened => exact exec_sessionCtrlOpen_granted hg (by omega) (sessionCtrl_open hop)
  case busy =>
    exact exec_sessionCtrlOpen_granted hg (by omega) ((sessionCtrl_open hop).trans
      (openSession_refused (openCheck_not_serving (s := s.admitted r m) hin hst) (by decide)))
  case ended => exact exec_sessionCtrlEnd_granted hg hop (sessionCtrl_end (s := s.admitted r m) hop hx hhome)
  case reqEnd => exact next_congr (serveRequest_of_kind hnext hkind (doRequest_end hkind))
  case reqRetired => exact next_congr (serveRequest_of_kind hnext hkind (doRequest_retired hkind))
  case reqProfile => exact next_congr (serveRequest_of_kind hnext hkind (doRequest_profile hkind))

end Sys2Proof.Laws

namespace Sys2Proof.Laws
open Sys2Proof.Machine

/-! ### Shards at a store's port (R266, R386) -/

section
variable {s : State} {st : StoreId} {p : DataPkt}

/-- A port router's SHARD_OPEN opens a chunk of that router with no line received, and is acknowledged while a buffer is free. -/
theorem exec_shardOpen_lane (hat : AtStore s st.val p) (htype : p.type = 0x0A) (hroom : (s.store st.val).chunks.length < 8)
    (hlane : isLanePort p.src = true) : Answers (.shardOpen st p) s (fun t => ∃ c : Chunk, c.router = p.src ∧ c.got = [] ∧
      t = ((s.takeData p).modStore st.val (fun x => { x with chunks := x.chunks ++ [c] })).ackData (s.eid (fld p.dst 15 8) 0xB8) p) :=
  ⟨_, next_congr ((if_neg (by simp [htype, hroom])).trans ((atStore_ok hat _).trans (if_neg (by simp [hlane])))), _, rfl, rfl, rfl⟩

/-- A SHARD_OPEN of any other source is refused. -/
theorem exec_shardOpen_other (hat : AtStore s st.val p) (htype : p.type = 0x0A) (hroom : (s.store st.val).chunks.length < 8)
    (hlane : isLanePort p.src = false) : exec (.shardOpen st p) s =
      .next ((s.takeData p).nackData (s.eid (fld p.dst 15 8) 0xB8) p nkNotPermitted) :=
  next_congr ((if_neg (by simp [htype, hroom])).trans ((atStore_ok hat _).trans (if_pos (by simp [hlane]))))

/-- SHARD_DATA adds its lines one after another. -/
theorem exec_shardData_lines (hat : AtStore s st.val p) (htype : p.type = 0x0B) : exec (.shardData st p) s =
    .next ((linesFrom (fld p.addr 11 0) 16 p.payload).foldl (fun s l => s.shardLine st.val p.src (fld p.addr 17 12) l) (s.takeData p)) :=
  next_congr ((if_neg (by simp [htype])).trans (atStore_ok hat _))

section
variable {c : Chunk} (hat : AtStore s st.val p) (htype : p.type = 0x0C) (hchunk : (s.store st.val).chunk p.src (fld (plWord p 0) 5 0) = some c)
include hat htype hchunk

/-- SHARD_END closes its chunk, and ends it by its own status, by the lines that came, or by landing it. -/
theorem exec_shardEnd_chunk :
    let v := (s.takeData p).modStore st.val (fun x => { x with chunks := x.chunks.erase c })
    exec (.shardEnd st p) s = .next (if fld (plWord p 0) 15 8 ≠ 0 then v.shardDone st.val c 2
      else if c.dup ∨ c.got.length ≠ c.lines then v.chunkFail st.val c 7 else v.landChunk st.val c) := by
  refine next_congr ((if_neg (by simp [htype])).trans ((atStore_ok hat _).trans ?_))
  simp only [store_takeData, hchunk]

/-- A fetch that did not end well ends its chunk SUPER. -/
theorem exec_shardEnd_failed (hstatus : fld (plWord p 0) 15 8 ≠ 0) : exec (.shardEnd st p) s =
    .next (((s.takeData p).modStore st.val (fun x => { x with chunks := x.chunks.erase c })).shardDone st.val c 2) :=
  (exec_shardEnd_chunk hat htype hchunk).trans (next_congr (if_pos hstatus))

/-- A chunk whose lines have all come, each once, lands. -/
theorem exec_shardEnd_whole (hstatus : fld (plWord p 0) 15 8 = 0) (hdup : c.dup = false) (hlines : c.got.length = c.lines) :
    exec (.shardEnd st p) s =
      .next (((s.takeData p).modStore st.val (fun x => { x with chunks := x.chunks.erase c })).landChunk st.val c) :=
  (exec_shardEnd_chunk hat htype hchunk).trans
    (next_congr ((if_neg (not_not_intro hstatus)).trans (if_neg (by simp [hdup, hlines]))))

end

end

/-! ### Answers to SFETCH and SGATHER at a mover (R179, R180, R386) -/

section
variable {s : State} {i : CoreId} {p : DataPkt} {mv : Fin 2} {d : Started} {e : Expect}

/-- A data packet taken off the network leaves what a core's movers expect. -/
theorem expecting_takeData (s : State) (p : DataPkt) (i : CoreId) (ok : Started → Expect → Bool) :
    ((s.takeData p).core i).expecting ok = (s.core i).expecting ok := by
  cases i <;> rfl

/-- SHARD_DONE ends the answer that the SFETCH expects, and fails its descriptor with SUPER_ERROR where its status is not OK. -/
theorem exec_shardDone_expected (hat : AtCore s i p) (htype : p.type = 0x0D)
    (hexpects : (s.core i).expecting (fun _ e => e.has p.tag && decide (e.answer = .shard)) = some (mv, d, e)) :
    let u := (s.takeData p).setExpect ⟨i, mv⟩ d.q.serial e []
    exec (.shardDone i p) s = .next (if fld (plWord p 0) 7 0 = 0 then u else u.failDesc ⟨i, mv⟩ d.q.serial stSuperError 0 0) := by
  refine next_congr ((if_neg (by simp [htype])).trans ((atCore_ok hat _).trans ?_))
  simp only [expecting_takeData, hexpects]

/-- A GATHER_RSP with all the lines that are left lands them, and nothing more is expected. -/
theorem exec_gatherRsp_last {entries : List Nat} {left : Nat} (hat : AtCore s i p) (htype : p.type = 0x09)
    (hexpects : (s.core i).expecting (fun _ e => e.has p.tag) = some (mv, d, e)) (hanswer : e.answer = .gather entries left)
    (hlast : left ≤ p.payload.length / 64) : exec (.gatherRsp i p) s =
      .next (((State.landGather i d.q.a d.q.lines entries 16 p.payload (fld p.addr 17 0) (s.takeData p)).addRx i p).setExpect
        ⟨i, mv⟩ d.q.serial e []) := by
  refine next_congr ((if_neg (by simp [htype])).trans ((atCore_ok hat _).trans ?_))
  simp only [expecting_takeData, hexpects, hanswer, if_pos hlast]

end

/-! ### Entries of a colony's KV queue (R388, R390) -/

/-- A write of bytes leaves the open KV entries. -/
theorem kv_write (x : Store) (a : Nat) (bs : List Byte) : (x.write a bs).kv = x.kv := rfl

/-- A store with an entry of a colony closed: its STATUS and MAP written, KQ_DONE counted, and the entry no longer open (R390). -/
def kvClosed (x : Store) (c : Nat) (k : KvOpen) : Store :=
  let done := (Tbl.get 0 x.kvDone c + 1) % 2 ^ 64
  let a := kqEntry (x.kq c) k.entry
  let y := ((x.put64 (a + 40) (k.status * 2 ^ 56)).write (a + 64) k.mapBytes).put64 (x.kq c + 0x80) done
  { y with kvDone := Tbl.put 0 y.kvDone c done, kv := y.kv.erase k }

@[simp] theorem kvDone_kvClosed (x : Store) (c : Nat) (k : KvOpen) :
    Tbl.get 0 (kvClosed x c k).kvDone c = (Tbl.get 0 x.kvDone c + 1) % 2 ^ 64 :=
  Tbl_get_put_same _ _ _ _

/- By rewriting: by `rfl` the kernel would compare the bytes that the writes put with those that stood there. -/
@[simp] theorem kv_kvClosed (x : Store) (c : Nat) (k : KvOpen) : (kvClosed x c k).kv = x.kv.erase k := by
  unfold kvClosed Store.put64
  dsimp only
  rw [kv_write, kv_write, kv_write]

/-- An entry that awaits no answer and asks for no NOTIFY is closed. -/
theorem exec_kvEntryComplete_silent {s : State} {st : StoreId} {c : ColonyId} {e : W64} {k : KvOpen}
    (hentry : (s.store st.val).kv.find? (fun k => k.colony = c.val ∧ k.entry = e.toNat) = some k) (hanswered : k.expect = [])
    (hserves : (s.store st.val).stb = 2) (hsilent : bit k.w4 31 = false) :
    exec (.kvEntryComplete st c e) s = .next (s.modStore st.val (fun x => kvClosed x c.val k)) := by
  refine next_congr ?_
  simp only [hentry]
  exact (if_neg (by simp [hanswered, hserves])).trans (if_neg (by simp [hsilent]))

/-- Settles O40, by the arrival at a store's port or at a mover that expects the answer, and the rule of each command there. -/
theorem shardsOpenLandAndAreReported : Obligations.ShardsOpenLandAndAreReported := by
  unfold Obligations.ShardsOpenLandAndAreReported
  refine ⟨fun s st p hat => ⟨fun htype hroom => ⟨exec_shardOpen_lane hat htype hroom, exec_shardOpen_other hat htype hroom⟩,
      exec_shardData_lines hat,
      fun c htype hchunk => ⟨exec_shardEnd_failed hat htype hchunk, exec_shardEnd_whole hat htype hchunk⟩⟩,
    fun s i p mv d e hat => ⟨fun htype hexpects => ⟨fun hok => ?fetched, fun hfailed => ?failed⟩,
      fun entries left => exec_gatherRsp_last hat⟩,
    fun s st c => ⟨rfl, rfl, fun e k hentry hanswered hserves hsilent =>
      ⟨_, exec_kvEntryComplete_silent hentry hanswered hserves hsilent, by simp⟩⟩⟩
  case fetched => exact (exec_shardDone_expected hat htype hexpects).trans (next_congr (if_pos hok))
  case failed => exact (exec_shardDone_expected hat htype hexpects).trans (next_congr (if_neg hfailed))

end Sys2Proof.Laws

namespace Sys2Proof.Laws
open Sys2Proof.Machine

/-! ### Service ports (R277, R278, R284, R286, R287) -/

/-- A service port after it is changed. -/
@[simp] theorem vport_modPortV (s : State) (p : Nat) (f : VoicePort → VoicePort) : (s.modPortV p f).vport p = f (s.vport p) :=
  Tbl_get_put_same ..

/-- A data packet taken off the network leaves every service port. -/
theorem vport_takeData (s : State) (k : DataPkt) (p : Nat) : (s.takeData k).vport p = s.vport p := rfl

/-- A control packet taken off the network leaves every service port. -/
theorem vport_takeCtl (s : State) (k : CtlPkt) (p : Nat) : (s.takeCtl k).vport p = s.vport p := rfl

section
variable {s : State} {p : PortId}

theorem exec_servicePortLinkChange_service (hmode : s.octetMode (p.val / 2) = 3) (up : Bool) :
    exec (.servicePortLinkChange p up) s = .next (s.modPortV p.val (fun x => { x with linkUp := up })) :=
  next_congr (if_neg (not_not_intro hmode))

section
variable {bs : List Byte} {arrival : W32} (hmode : s.octetMode (p.val / 2) = 3) (hup : (s.vport p.val).linkUp = true)
include hmode hup

/-- A port in service mode whose link is up takes its frames. -/
theorem takes_frames : ¬ (s.octetMode (p.val / 2) ≠ 3 ∨ (!(s.vport p.val).linkUp) = true) := by
  simp [hmode, hup]

theorem exec_serviceFrameReceive_other (hframe : readFrame (s.portStation p.val) bs = .other) :
    exec (.serviceFrameReceive p bs arrival) s = .next ((s.vcount p.val vcFrames).vcount p.val vcUnsupported) := by
  refine next_congr ((if_neg (takes_frames hmode hup)).trans ?_)
  simp only [hframe]

theorem exec_serviceFrameReceive_arp {mac sip tip : List Byte} (hframe : readFrame (s.portStation p.val) bs = .arp mac sip tip) :
    exec (.serviceFrameReceive p bs arrival) s = .next ((s.vcount p.val vcFrames).portSend p.val
      (arpReply (s.portStation p.val) (s.objGet 0xB005 p.val 0) mac sip tip)) := by
  refine next_congr ((if_neg (takes_frames hmode hup)).trans ?_)
  simp only [hframe]

/-- A datagram to neither SVC_CTRL_PORT nor the RTCP port of an entry is media (R280). -/
theorem exec_serviceFrameReceive_media {o : List Byte} {d : Datagram} (hframe : readFrame (s.portStation p.val) bs = .udp o d)
    (hctl : d.dst.udp ≠ s.objU 0xB030 0 0) (hrtcp : (s.vport p.val).rtcpOf d = none) :
    exec (.serviceFrameReceive p bs arrival) s = .next ((s.vcount p.val vcFrames).media p.val d arrival) := by
  refine next_congr ((if_neg (takes_frames hmode hup)).trans ?_)
  simp only [hframe, hrtcp]
  exact if_neg hctl

end

/-- The NACK of a slot write ends its delivery, and nothing is written to the ring (R284). -/
theorem exec_ringDeliveryAck_nack {k : CtlPkt} {e : Delivery} (hcls : k.cls = 0x05) (hdst : k.dst = s.voiceEid p.val)
    (hcrc : k.crc = ctlCrc6 k) (hgen : k.gen = 0)
    (hfound : (s.vport p.val).deliveries.find? (fun e => e.tag = bits k.payload 32 16) = some e) :
    exec (.ringDeliveryAck p k) s = .next ((s.takeCtl k).modPortV p.val (fun x =>
      { x with deliveries := x.deliveries.filter (fun y => y.tag != bits k.payload 32 16) })) := by
  have hnack : decide (k.cls = 0x04) = false := by rw [hcls]; rfl
  refine next_congr ((if_neg (by simp [hcls, hdst])).trans ((arriveCtl_ok hcrc hgen s _ _ _).trans ?_))
  simp only [hnack, Bool.false_eq_true, if_false, vport_takeCtl, hfound]
  split
  next => rfl
  next => exact if_pos rfl

section
variable {k : DataPkt} (hmode : s.octetMode (p.val / 2) = 3) (htype : k.type = 0x01) (hat : AtEndpoint s (portSite p.val) 0xB4 k)
  (hdst : k.dst = s.voiceEid p.val)
include hmode htype hat hdst

/-- A well-formed record of an entry that is bound as outbound to the sender's colony is acknowledged and sent (R287). -/
theorem exec_egressRecord_bound {t : Stream} (hfound : (s.vport p.val).streams.find? (fun t =>
      decide (t.index = fld (plWord k 0) 13 0 ∧ t.home = k.colony.toNat) && t.out) = some t) (hok : egressOk k = true) :
    exec (.egressRecord p k) s = .next (((s.takeData k).ackData (s.voiceEid p.val) k).egressSend p.val t k) := by
  refine next_congr ((if_neg (by simp [htype, hdst, hmode])).trans ((endpoint_ok hat _).trans ?_))
  simp only [vport_takeData, hfound]
  exact if_pos hok

/-- A record of an entry that is not so bound is refused (R287). -/
theorem exec_egressRecord_unbound (hfound : (s.vport p.val).streams.find? (fun t =>
      decide (t.index = fld (plWord k 0) 13 0 ∧ t.home = k.colony.toNat) && t.out) = none) :
    exec (.egressRecord p k) s = .next ((s.takeData k).nackData (s.voiceEid p.val) k nkNotPermitted) := by
  refine next_congr ((if_neg (by simp [htype, hdst, hmode])).trans ((endpoint_ok hat _).trans ?_))
  simp only [vport_takeData, hfound]

end

/-- The free values of one RTCP report (log 65), and the panel once they are drawn. -/
def reportDraws (s : State) : List W64 × State :=
  let d0 := s.draw
  let d1 := d0.2.draw
  let d2 := d1.2.draw
  ([d0.1, d1.1, d2.1], d2.2)

/-- EXT_ID of the session of a direction, which its reports carry as CNAME (R286). -/
def extOf (s : State) (t : Stream) : W64 :=
  match s.sessions.find? (fun x => decide (x.slot = t.slot ∧ x.home = t.home)) with
  | some x => x.ext
  | none => 0

/-- A bound direction without SRTP reports by one datagram, from its RTCP port to that of the remote end (R286). -/
theorem exec_rtcpReportTimer_plain {entry : Fin 16384} {out : Bool} {t : Stream}
    (hfound : (s.vport p.val).streams.find? (fun t => decide (t.index = entry.val ∧ t.out = out)) = some t) (hplain : t.srtp = false) :
    exec (.rtcpReportTimer p entry out) s = .next (((reportDraws s).2.modStream p.val t.index out (fun y => { y with srtcp := y.srtcp + 1 })).udpSend
      p.val { src := { v6 := t.remote.v6, addr := s.portAddr p.val t.remote.v6, udp := t.localUdp + (if t.rtcpMux then 0 else 1) }
              dst := { t.remote with udp := t.remote.udp + (if t.rtcpMux then 0 else 1) }
              payload := reportBytes t (extOf s t) (reportDraws s).1 }) := by
  refine next_congr ?_
  simp only [hfound, hplain]
  rfl

end

/-- Settles O45, by the rule of each command at a port in service mode. -/
theorem servicePortsReceiveDeliverAndSend : Obligations.ServicePortsReceiveDeliverAndSend := by
  unfold Obligations.ServicePortsReceiveDeliverAndSend
  exact fun s p hmode => ⟨fun up => ⟨_, exec_servicePortLinkChange_service hmode up, by simp⟩,
    fun bs arrival hup => exec_serviceFrameReceive_other hmode hup,
    fun bs arrival mac sip tip hup => exec_serviceFrameReceive_arp hmode hup,
    fun bs arrival o d hup => exec_serviceFrameReceive_media hmode hup,
    fun k e hcls hdst hcrc hgen hfound => ⟨_, exec_ringDeliveryAck_nack hcls hdst hcrc hgen hfound, by simp [vport_takeCtl]⟩,
    fun k htype hat hdst => ⟨fun t => exec_egressRecord_bound hmode htype hat hdst, exec_egressRecord_unbound hmode htype hat hdst⟩,
    fun entry out t hfound hplain => ⟨_, exec_rtcpReportTimer_plain hfound hplain, _, _, rfl⟩⟩

end Sys2Proof.Laws

namespace Sys2Proof.Laws
open Sys2Proof.Machine

/-! ### Control datagrams (R288–R291) -/

/-- A new well-formed control datagram is acted on and answered. -/
theorem ctlRequest_next {s : State} {op n p : Nat} {d : Datagram} {rest : List (Nat × Datagram)} (h : CtlNext s op n p d rest)
    (act : Nat → List Byte → State → Nat × State) : s.ctlRequest op act = s.ctlDone p d n (act n d.payload (s.onCtl rest)) := by
  obtain ⟨hctl, hop, hexch, hnew, hwindow, hok⟩ := h
  unfold State.ctlRequest
  simp only [hctl, hop, hexch, hnew, hok, ne_eq, not_true_eq_false, if_false, if_neg hwindow, if_true]
  rfl

/-- An act that gives one result on the panel without the datagram is answered with that result. -/
theorem ctlRequest_eq {s : State} {op n p : Nat} {d : Datagram} {rest : List (Nat × Datagram)} (h : CtlNext s op n p d rest)
    {act : Nat → List Byte → State → Nat × State} {r : Nat × State} (hact : act n d.payload (s.onCtl rest) = r) :
    s.ctlRequest op act = s.ctlDone p d n r :=
  (ctlRequest_next h act).trans (congrArg _ hact)

/-! The waiting datagrams are no part of what a request is checked against. -/

section
variable (s : State) (l : List (Nat × Datagram))

@[simp] theorem homeSession_onCtl (home slot : Nat) : (s.onCtl l).homeSession home slot = s.homeSession home slot := rfl

@[simp] theorem bindRange_onCtl (b : List Byte) : (s.onCtl l).bindRange b = s.bindRange b := rfl

@[simp] theorem ringOf_onCtl (home slot : Nat) : (s.onCtl l).ringOf home slot = s.ringOf home slot := rfl

@[simp] theorem keyInUse_onCtl (home slot : Nat) (b : List Byte) : (s.onCtl l).keyInUse home slot b = s.keyInUse home slot b := rfl

@[simp] theorem bindIndex_onCtl (home slot : Nat) (b : List Byte) : (s.onCtl l).bindIndex home slot b = s.bindIndex home slot b := rfl

end

section
variable {s : State} {n p : Nat} {d : Datagram} {rest : List (Nat × Datagram)} {x : Session}

theorem exec_controlDatagramEnd_session (h : CtlNext s 3 n p d rest)
    (hsession : s.homeSession (dgHome d.payload) (dgSlot d.payload) = some x) :
    exec .controlDatagramEnd s = .next (s.ctlDone p d n (vsOk, (s.onCtl rest).endSession x 0)) :=
  next_congr (ctlRequest_eq h (by simp only [homeSession_onCtl, hsession]))

section
variable (h : CtlNext s 2 n p d rest) (hrange : s.bindRange (part d.payload 32 64) = true)
include h hrange

theorem exec_controlDatagramBind_noSession (hsession : s.homeSession (dgHome d.payload) (dgSlot d.payload) = none) :
    exec .controlDatagramBind s = .next (s.ctlDone p d n (vsNoSession, s.onCtl rest)) := by
  refine next_congr (ctlRequest_eq h ((if_neg (by simp [hrange])).trans ?_))
  simp only [homeSession_onCtl, hsession]

/-- A BIND that passes its checks installs its entry (R291). -/
theorem exec_controlDatagramBind_ok {ring : Eid × Nat} {k : Nat}
    (hsession : s.homeSession (dgHome d.payload) (dgSlot d.payload) = some x) (hlive : x.endReason = none)
    (hcodec : bindCodec (part d.payload 32 64) = true) (hring : s.ringOf x.home x.slot = some ring)
    (hkey : s.keyInUse x.home x.slot (part d.payload 32 64) = false) (hindex : s.bindIndex x.home x.slot (part d.payload 32 64) = some k) :
    exec .controlDatagramBind s = .next (s.ctlDone p d n (vsOk, (s.onCtl rest).bind x (part d.payload 32 64) k ring)) := by
  refine next_congr (ctlRequest_eq h ((if_neg (by simp [hrange])).trans ?_))
  simp only [homeSession_onCtl, hsession]
  refine (if_neg (by simp [hlive])).trans ((if_neg (by simp [hcodec])).trans ?_)
  simp only [ringOf_onCtl, hring]
  refine (if_neg (by simp [hkey])).trans ?_
  simp only [bindIndex_onCtl, hindex]

end

/-- An EVENT_ACK of a configured exchange is taken, and the event that it names waits no longer (R290). -/
theorem exec_eventAck_named (hctl : s.voice.ctl = (p, d) :: rest) (hop : beAt d.payload 5 1 = 4) (hexch : s.exchOf (beAt d.payload 8 4) = some n) :
    exec .eventAck s = .next (s.modVoice (fun v =>
      { v with ctl := rest, events := v.events.filter (fun e => !decide (e.exch = n ∧ e.serial = dgSeq d.payload)) })) := by
  refine next_congr ?_
  simp only [hctl]
  refine (if_neg (not_not_intro hop)).trans ?_
  simp only [hexch]

end

section
variable {s : State} {exch : Fin 8} {serial : W32} {e : SvcEvent}
  (hfound : s.voice.events.find? (fun e => decide (e.exch = exch.val ∧ e.serial = serial)) = some e)
include hfound

theorem exec_eventResend_again (hsends : e.sends < 50) : exec (.eventResend exch serial) s = .next ((s.modVoice (fun v =>
    { v with events := v.events.map (fun y => if y = e then { y with sends := y.sends + 1 } else y) })).exchSend exch.val e.bytes) := by
  refine next_congr ?_
  simp only [hfound]
  exact if_neg (Nat.not_le.2 hsends)

theorem exec_eventResend_spent (hsends : 50 ≤ e.sends) : exec (.eventResend exch serial) s =
    .next (s.modVoice (fun v => { v with events := v.events.filter (fun y => y != e) })) := by
  refine next_congr ?_
  simp only [hfound]
  exact if_pos hsends

end

/-! ### The media map (R282) -/

/-- A legal map of a static colony whose layout leaves segment 4,095 free is stored. -/
theorem exec_svcMediaMapWrite_ok {s : State} {r : Req} {m : MgmtSession} {c : ColonyId} {v : W64}
    (hg : Granted s r m (oref 0xB020 c.val 0) (toLe 8 v.toNat)) (hmap : mapOk (setBits v 20 17 0) = true)
    (h4095 : uses4095 (s.layout c.val) = false) (hstatic : s.colonyStatic c.val = true) (hup : s.bothUp = true) :
    exec (.svcMediaMapWrite r c v) s = .next (s.performed r m (fun t =>
      (0, (t.setObj (objKey 0xB020 c.val 0) (toLe 8 (setBits v 20 17 0).toNat)).burn (objKey 0xB020 c.val 0)
        (toLe 8 (setBits v 20 17 0).toNat)))) := by
  have h4095' : uses4095 ((s.admitted r m).layout c.val) = false := h4095
  have hstatic' : (s.admitted r m).colonyStatic c.val = true := hstatic
  refine next_congr ((writeReq_ok hg _).trans (perf_congr ?_))
  exact (if_neg (by simp [hmap, h4095'])).trans ((if_neg (by simp [hstatic'])).trans (if_pos hup))

/-- Settles O46, by the rule of a new control datagram and what each OP asks. -/
theorem controlDatagramsAreActedOnAndAnswered : Obligations.ControlDatagramsAreActedOnAndAnswered := by
  unfold Obligations.ControlDatagramsAreActedOnAndAnswered
  exact ⟨fun s n p d rest => ⟨fun h => next_congr (ctlRequest_next h _), fun x => exec_controlDatagramEnd_session,
      exec_controlDatagramBind_noSession, fun x ring k h hrange => exec_controlDatagramBind_ok h hrange,
      fun hctl hop hexch => ⟨_, exec_eventAck_named hctl hop hexch, rfl, rfl⟩⟩,
    fun s exch serial e hfound => ⟨exec_eventResend_again hfound, fun hsends => ⟨_, exec_eventResend_spent hfound hsends, rfl⟩⟩,
    fun s r m c v => exec_svcMediaMapWrite_ok⟩

end Sys2Proof.Laws

namespace Sys2Proof.Laws
open Sys2Proof.Machine

/-! ### Hops of data packets (R296, R306, R311, R314, R363) -/

section
variable {s : State} {i : Site} {ph : Phys} {p : DataPkt} {fl : Flight}
  (hfound : s.net.bulk.find? (Flight.atRouter i ph p) = some fl) (hcrc : p.hcrc = dataHcrc p) (hgen : p.gen = 0)
include hfound hcrc hgen

theorem exec_packetHop_move {si n : Nat} {dl : Bool} (hhop : s.hopOf i ph p.dst = .move si n dl) :
    exec (.packetHop i ph (.bulk p)) s = .next (s.onBulk (modFirst (Flight.atRouter i ph p)
      (fun f => { f with at_ := some (si, n), held := false, high := f.high || dl }) s.net.bulk)) := by
  refine next_congr ?_
  simp only [State.hopData, hfound, hcrc, hgen, hhop, ne_eq, not_true_eq_false, if_false]
  rfl

theorem exec_packetHop_hold {r : Nat} (hhop : s.hopOf i ph p.dst = .hold r) :
    exec (.packetHop i ph (.bulk p)) s = .next (s.onBulk (modFirst (Flight.atRouter i ph p)
      (fun f => { f with at_ := some (i.val, ph.val), held := true }) s.net.bulk)) := by
  refine next_congr ?_
  simp only [State.hopData, hfound, hcrc, hgen, hhop, ne_eq, not_true_eq_false, if_false]
  rfl

theorem exec_packetHop_nack {r : Nat} (hhop : s.hopOf i ph p.dst = .nack r) :
    exec (.packetHop i ph (.bulk p)) s = .next (s.routerNackData i p r) := by
  refine next_congr ?_
  simp only [State.hopData, hfound, hcrc, hgen, hhop, ne_eq, not_true_eq_false, if_false]

end

/-- A packet whose hold has reached its limit is refused with the reason it was held for (R311, R363). -/
theorem exec_holdExpiry_held {s : State} {i : Site} {ph : Phys} {p : DataPkt} {r : Nat} (hhop : s.hopOf i ph p.dst = .hold r)
    (hheld : s.net.bulk.any (fun f => f.atRouter i ph p && f.held) = true) :
    exec (.holdExpiry i ph (.bulk p)) s = .next (s.routerNackData i p r) := by
  refine next_congr ((if_pos hheld).trans ?_)
  simp only [hhop]

/-! ### Router registers (R308, R319) -/

/-- The router of a comb after it is changed. -/
@[simp] theorem router_comb_modRouter (s : State) (i : Site) (f : Router → Router) :
    ((s.modRouter i f).comb i).router = f (s.comb i).router := by
  simp [State.modRouter]

/-- The step of INDEX leaves the table of local entries. -/
@[simp] theorem Router_localTbl_step (r : Router) : r.step.localTbl = r.localTbl := by unfold Router.step; split <;> rfl

/-- BAD_WR is set, and nothing else of the router changes (R319). -/
theorem router_comb_routerBadWr (s : State) (i : Site) :
    ((s.routerBadWr i).comb i).router = { (s.comb i).router with badWr := true } := by
  unfold State.routerBadWr
  split
  case isTrue hbad => rw [← hbad]
  case isFalse => simp [State.combErr, comb_sendErr]

section
variable {s : State} {i : Site} {v : W64}

theorem exec_rtrDataWrite_site (htable : (s.comb i).router.table = 1)
    (hlegal : siteLegal i (s.comb i).router.index.toNat v = true) (k : Bool) :
    Answers (.rtrDataWrite i v k) s (fun t =>
      Tbl.get none (t.comb i).router.siteTbl (s.comb i).router.index.toNat = some (keep v siteMask)) := by
  refine ⟨_, next_congr ((if_neg (by simp [htable])).trans ((if_pos htable).trans (if_pos hlegal))), ?_⟩
  simp only [router_comb_modRouter, Tbl_get_put_same]

/-- A keeper's write of a local entry is discarded and sets BAD_WR (R308, R319). -/
theorem exec_rtrDataWrite_local_keeper (htable : (s.comb i).router.table = 2) (hindex : (s.comb i).router.index.toNat < 0xB0) :
    Answers (.rtrDataWrite i v true) s (fun t =>
      (t.comb i).router.badWr = true ∧ (t.comb i).router.localTbl = (s.comb i).router.localTbl) := by
  refine ⟨_, next_congr ((if_neg (by simp [htable])).trans ((if_neg (by simp [htable])).trans
    ((if_neg (by omega)).trans (if_pos rfl)))), ?_⟩
  simp only [router_comb_routerBadWr, router_comb_modRouter, Router_localTbl_step, and_self]

end

/-- Settles O29, by the lookup's answer for a packet found at its router, and the rule of each table. -/
theorem routersForwardHoldAndRefuse : Obligations.RoutersForwardHoldAndRefuse := by
  unfold Obligations.RoutersForwardHoldAndRefuse
  exact ⟨fun s i ph p fl hfound hcrc hgen => ⟨fun si n dl => exec_packetHop_move hfound hcrc hgen,
      fun r hhop => ⟨exec_packetHop_hold hfound hcrc hgen hhop, exec_holdExpiry_held hhop⟩,
      fun r => exec_packetHop_nack hfound hcrc hgen⟩,
    fun s i v => ⟨exec_rtrDataWrite_site, exec_rtrDataWrite_local_keeper, rfl⟩⟩

end Sys2Proof.Laws

namespace Sys2Proof.Laws
open Sys2Proof.Machine

/-! ### Whole-comb reset (R316, R317) -/

section
variable {s : State} {x : Site} {fails : List Nat}

section
variable (hdetour : (s.comb x).detour = false)
include hdetour

theorem exec_combReset_refused (drained hold : Bool) (hrefused : s.resetRefused x = true) :
    exec (.combReset x drained hold fails) s = .next s :=
  next_congr ((if_neg (by simp [hdetour])).trans (if_pos (.inr (.inr hrefused))))

variable (hstate : (s.comb x).state = 0) (hfree : s.resetRefused x = false)
include hstate hfree

theorem exec_combReset_drained (hold : Bool) :
    exec (.combReset x true hold fails) s = .next ((s.detourComb x).resetDrained x hold fails) :=
  next_congr ((if_neg (by simp [hdetour])).trans ((if_neg (by simp [hdetour, hstate, hfree])).trans (if_pos rfl)))

theorem exec_combReset_undrained (hold : Bool) :
    Answers (.combReset x false hold fails) s (fun t => (t.comb x).resetRun = some ⟨1, true⟩) :=
  ⟨_, next_congr ((if_neg (by simp [hdetour])).trans ((if_neg (by simp [hdetour, hstate, hfree])).trans (if_neg Bool.false_ne_true))),
    congrArg Comb.resetRun (comb_modComb _ x _)⟩

end

/-- A drain that failed once is tried again (R317). -/
theorem drainRetry_due {r : ResetRun} (hwaiting : r.waiting = false) (htries : r.tries = 1) (hdrain : (s.comb x).router.drain ≠ 0x1FFFF) :
    ¬(r.waiting = true ∨ r.tries ≠ 1 ∨ (s.comb x).router.drain = 0x1FFFF) :=
  not_or.2 ⟨by simp [hwaiting], not_or.2 ⟨not_not_intro htries, hdrain⟩⟩

section
variable {r : ResetRun} (hrun : (s.comb x).resetRun = some r)
include hrun

theorem exec_drainConfirmTimeout_waiting (hwaiting : r.waiting = true) : exec (.drainConfirmTimeout x) s =
    .next ((s.modComb x (fun k => { k with resetRun := some { r with waiting := false } })).combErr x 0x0207 1 0 0) := by
  refine next_congr ?_
  simp only [hrun]
  exact if_pos hwaiting

variable (hwaiting : r.waiting = false) (htries : r.tries = 1) (hdrain : (s.comb x).router.drain ≠ 0x1FFFF)
include hwaiting htries hdrain

theorem exec_drainRetry_drained : exec (.drainRetry x true fails) s = .next (s.resetDrained x false fails) := by
  refine next_congr ?_
  simp only [hrun]
  exact (if_neg (drainRetry_due hwaiting htries hdrain)).trans (if_pos trivial)

theorem exec_drainRetry_undrained : exec (.drainRetry x false fails) s =
    .next (((s.modComb x (fun k => { k with resetRun := some ⟨2, false⟩ })).undetour x).combErr x 0x0207 1 0 0) := by
  refine next_congr ?_
  simp only [hrun]
  exact (if_neg (drainRetry_due hwaiting htries hdrain)).trans (if_neg Bool.false_ne_true)

end

end

/-- Settles O30, by the three ends of a drain. -/
theorem combResetsDrainOrFail : Obligations.CombResetsDrainOrFail := by
  unfold Obligations.CombResetsDrainOrFail
  exact fun s x fails => ⟨fun hdetour hstate => ⟨exec_combReset_refused hdetour true false,
      exec_combReset_drained hdetour hstate, exec_combReset_undrained hdetour hstate⟩,
    fun r hrun => ⟨exec_drainConfirmTimeout_waiting hrun,
      fun hwaiting htries hdrain => ⟨exec_drainRetry_drained hrun hwaiting htries hdrain, exec_drainRetry_undrained hrun hwaiting htries hdrain⟩⟩⟩

end Sys2Proof.Laws

namespace Sys2Proof.Laws
open Sys2Proof.Machine

/-! ### Reads and writes of objects (R508–R510, R519) -/

section
variable {s : State} {r : Req} {m : MgmtSession} (hadm : Admitted s r m)
include hadm

theorem exec_ciardRead_value {b : ReadBody} {row : ObjRow} (hcheck : (s.admitted r m).objCheck m.role false b.obj = .ok row)
    (haccess : row.access ≠ .wo) : exec (.ciardRead r b) s =
      .next (((s.admitted r m).readValue r.session row b).2.2.answer r.session r.txn ((s.admitted r m).readValue r.session row b).1
        ((s.admitted r m).readValue r.session row b).2.1) := by
  refine next_congr ((request_ok hadm _ _).trans ?_)
  simp only [hcheck, if_neg haccess]

theorem exec_ciardRead_error {b : ReadBody} {e : Nat} (hcheck : (s.admitted r m).objCheck m.role false b.obj = .error e) :
    exec (.ciardRead r b) s = .next ((s.admitted r m).answer r.session r.txn e []) := by
  refine next_congr ((request_ok hadm _ _).trans ?_)
  simp only [hcheck]

/-- A write of an object without a command of its own is answered with the status of its segment (R509). -/
theorem exec_ciardWrite_plain {w : WriteBody} (d : List Byte) (hplain : rowObjs.contains w.obj.idx.toNat = false) :
    let e := (s.admitted r m).segWrite m.role r.session w d (fun _ s => (coOk, s)) (fun row v s => s.ciardEffect row w.obj v)
    exec (.ciardWrite r w d) s = .next (e.2.2.answer r.session r.txn e.1 e.2.1) :=
  next_congr ((if_neg (by rw [hplain, Bool.false_and]; exact Bool.false_ne_true)).trans (request_ok hadm _ _))

end

/-! ### Digest checks, commits and discards (R336, R337, R514–R516) -/

section
variable {s : State} {r : Req} {m : MgmtSession}

theorem exec_digestCheck_ok {dom : Byte} (fails : List Nat) (hg : Granted s r m (oref 0x2023 0 0) [dom]) (hdom : dom.toNat ≤ 0x41) :
    exec (.digestCheck r dom fails) s = .next (s.performed r m (fun t => (0, t.digestCheck dom.toNat fails))) :=
  next_congr ((writeReq_ok hg _).trans (perf_congr (if_neg (Nat.not_lt.2 hdom))))

section
variable (hboot : s.boot.state = 6) (hidle : s.mgmt.epoch.committing = false) (hheld : s.swarmHeld = false)
include hboot hidle hheld

/-- Nothing makes a commit BUSY (R514). -/
theorem commit_not_busy : ¬(s.boot.state ≠ 6 ∨ s.mgmt.epoch.committing = true ∨ s.swarmHeld = true) := by
  simp [hboot, hidle, hheld]

variable (hg : Granted s r m (oref 0x2020 0 0) [1])
include hg

theorem exec_epochCommit_none_late (fails : List Nat) : exec (.epochCommit r false [] [] fails) s =
    .next (s.performed r m (fun t => (0, (t.commitEpoch (t.mgmt.epoch.committed + 1) 1 []).digestCheck 0x40 fails))) :=
  next_congr ((writeReq_ok hg _).trans (perf_congr ((if_neg (commit_not_busy hboot hidle hheld)).trans (if_neg Bool.false_ne_true))))

/-- An aborted commit leaves the pending set, and is answered BUSY (R515). -/
theorem exec_epochCommit_aborted : exec (.epochCommit r true [] [] []) s =
    .next (s.performed r m (fun t => (coBusy, t.modMgmt (fun g => { g with epoch := { g.epoch with last := 2 } })))) :=
  next_congr ((writeReq_ok hg _).trans (perf_congr ((if_neg (commit_not_busy hboot hidle hheld)).trans (if_pos rfl))))

end

/-! ### Image updates, keeper restarts and steward rolls (R517, R518, R520, R521) -/

/-- An image that no source gives is not fetched: COLONY_IMAGE_STATE becomes FETCH_FAILED, and nothing else changes (R518). -/
theorem exec_imageUpdate_unfetched {c : ColonyId} {d : List Byte} {img : Option (List Byte)} {dl : Bool}
    (hg : Granted s r m (oref 0x5051 c.val 0) d) (href : imageRefOk true d = true)
    (hready : csReady ≤ (s.colony c.val).state) (hdraining : (s.colony c.val).state ≤ csDraining)
    (hloading : (s.work c.val).loading = false) (hupdate : (s.work c.val).updateDrain = false) (hsource : s.sourceValid d = false) :
    exec (.imageUpdate r c d img dl) s = .next (s.performed r m (fun t => (0, t.modWork c.val (fun w => { w with imageState := 4 })))) := by
  have hrun : ¬((s.colony c.val).state < csReady ∨ (s.colony c.val).state > csDraining ∨ (s.work c.val).loading = true ∨
      (s.work c.val).updateDrain = true) := by
    simp [Nat.not_lt.2 hready, Nat.not_lt.2 hdraining, hloading, hupdate]
  have hsource' : (s.admitted r m).sourceValid d = false := hsource
  refine next_congr ((writeReq_ok hg _).trans (perf_congr ((if_neg (by simp [href])).trans ((if_neg hrun).trans ?_))))
  simp only [hsource', Bool.false_eq_true, if_false]
  rfl

theorem exec_keeperRestart_free {h : Half} (hg : Granted s r m (oref 0x1023 0 h.code) [1]) (hlead : h ≠ s.lead)
    (hother : (s.keeper h.other).health = 0) (hroll : s.mgmt.rollState ≠ 1) :
    exec (.keeperRestart r h) s = .next (s.performed r m (fun t => (0, t.keeperBoot h))) :=
  next_congr ((writeReq_ok hg _).trans (perf_congr (if_neg (not_or.2 ⟨hlead, not_or.2 ⟨not_not_intro hother, hroll⟩⟩))))

theorem exec_keeperRestart_lead {h : Half} (hg : Granted s r m (oref 0x1023 0 h.code) [1]) (hlead : h = s.lead) :
    exec (.keeperRestart r h) s = .next (s.performed r m (fun t => (coBusy, t))) :=
  next_congr ((writeReq_ok hg _).trans (perf_congr (if_pos (.inl hlead))))

end

/-! ### Counters that a steward publishes (R320) -/

/-- A service port that changes leaves every comb. -/
@[simp] theorem comb_modPortV (s : State) (n : Nat) (f : VoicePort → VoicePort) (i : Site) : (s.modPortV n f).comb i = s.comb i := rfl

/-- A steward that serves moves its router's counts to NET_COUNTERS, here where another comb's steward reads the store base (R320). -/
theorem exec_counterPublish_serves {s : State} {i : Site} (hserves : (s.comb i).serves = true)
    (hsteward : s.storeSteward (storeOf i) ≠ i.val) : Answers (.counterPublish i) s (fun t =>
      (t.comb i).router.counters = 0 ∧ (t.comb i).netCounters = addCounts (s.comb i).netCounters (s.comb i).router.counters) := by
  refine ⟨_, next_congr ((if_neg (by simp [hserves])).trans (if_neg hsteward)), ?_⟩
  dsimp only
  rw [comb_modPortV, comb_modComb]
  exact ⟨by simp [Router.counters], rfl⟩

/-- Settles O54, by the service of an admitted request, the grant of a write, and what each command does with it. -/
theorem readsWritesCommitsAndUpdatesAct : Obligations.ReadsWritesCommitsAndUpdatesAct := by
  unfold Obligations.ReadsWritesCommitsAndUpdatesAct
  exact ⟨fun s r m hadm => ⟨fun b row => exec_ciardRead_value hadm, fun b e => exec_ciardRead_error hadm,
      fun w => exec_ciardWrite_plain hadm, fun h w d => next_congr (request_ok hadm _ _)⟩,
    fun s r m => ⟨fun dom fails => exec_digestCheck_ok fails,
      fun hg hboot hidle hheld => ⟨fun fails => exec_epochCommit_none_late hboot hidle hheld hg fails, exec_epochCommit_aborted hboot hidle hheld hg⟩,
      fun hg => next_congr (writeReq_ok hg _), fun c d img dl => exec_imageUpdate_unfetched,
      fun h hg => ⟨exec_keeperRestart_free hg, exec_keeperRestart_lead hg⟩, fun bad fails hg => next_congr (writeReq_ok hg _)⟩,
    fun s i => exec_counterPublish_serves⟩

end Sys2Proof.Laws

namespace Sys2Proof.Laws
open Sys2Proof.Machine

/-! ### wgo (R325–R327, R329) -/

/-- Each row of wgo is the operation of its OP. -/
theorem exec_wgo {c : (At → OpRRf → Instr) × Nat} (hc : c ∈ wgoRows) (s : State) (a : At) (f : OpRRf) :
    exec (c.1 a f) s = .next (s.wgo a f c.2) := by
  simp only [wgoRows, List.mem_cons, List.not_mem_nil, or_false] at hc
  rcases hc with rfl | rfl | rfl | rfl | rfl | rfl | rfl | rfl | rfl | rfl | rfl | rfl | rfl | rfl <;> rfl

/-! What a ready wgo does with an operation word of its row. -/

section
variable {s : State} {a : At} {f : OpRRf} {op : Nat} (hfn : f.fn = 0) (hready : Ready s a [f.rs1, f.rs2])
  (hop : fld (loW ((s.task a).x f.rs1)) 29 26 = op)
include hfn hready hop

/-- A malformed operation word gives BAD_OP (R326). -/
theorem wgo_bad (hbad : (s.issued a).wgoBad a.core (loW ((s.task a).x f.rs1)) ((s.task a).x f.rs2) = true) :
    s.wgo a f op = (s.issued a).modTask a (Task.wrote a.core f.rd (1 <<< 32)) := by
  refine (if_neg (by simp [hop])).trans ((issue_ready_of hready (by simp [hfn]) _).trans ?_)
  simp only [task_issued, hbad, if_true]
  rfl

variable (hgood : (s.issued a).wgoBad a.core (loW ((s.task a).x f.rs1)) ((s.task a).x f.rs2) = false)
include hgood

/-- An issuer that is no member gets NOT_MEMBER (R326). -/
theorem wgo_notMember
    (hmember : (s.issued a).wgoMember a.core op ((s.issued a).wgoGroup a.core (loW ((s.task a).x f.rs1))) = false) :
    s.wgo a f op = (s.issued a).modTask a (Task.wrote a.core f.rd (2 <<< 32)) := by
  refine (if_neg (by simp [hop])).trans ((issue_ready_of hready (by simp [hfn]) _).trans ?_)
  simp only [task_issued, hgood, hop, hmember, Bool.false_eq_true, if_false, Bool.not_false, if_true]
  rfl

variable (hmember : (s.issued a).wgoMember a.core op ((s.issued a).wgoGroup a.core (loW ((s.task a).x f.rs1))) = true)
include hmember

theorem wgo_member (hlt : op < 9) :
    s.wgo a f op = (s.issued a).wgoMemberOp a f.rd ((s.issued a).wgoGroup a.core (loW ((s.task a).x f.rs1)))
      (loW ((s.task a).x f.rs1)) ((s.task a).x f.rs2) := by
  refine (if_neg (by simp [hop])).trans ((issue_ready_of hready (by simp [hfn]) _).trans ?_)
  simp only [task_issued, hgood, hop, hmember, Bool.false_eq_true, if_false, Bool.not_true, if_pos hlt]

/-- What is no member operation goes to a keeper's own part: ABORT, or a solicited operation. -/
theorem wgo_keeper (hge : 9 ≤ op) {h : Half} {k : Fin 16} (hcore : a.core = .keeper h k) :
    s.wgo a f op =
      if op = 0xD then (s.issued a).wgoAbort a h f.rd ((s.issued a).wgoGroup a.core (loW ((s.task a).x f.rs1)))
      else (s.issued a).wgoSolicit a h f.rd ((s.issued a).wgoGroup a.core (loW ((s.task a).x f.rs1))) op
        (loW ((s.task a).x f.rs1)) ((s.task a).x f.rs2) := by
  refine (if_neg (by simp [hop])).trans ((issue_ready_of hready (by simp [hfn]) _).trans ?_)
  simp only [task_issued, hgood, hop, hmember, Bool.false_eq_true, if_false, Bool.not_true, if_neg (Nat.not_lt.2 hge)]
  obtain ⟨core, t⟩ := a
  cases hcore
  rfl

end

/-! Member and solicited operations (R327, R328, R335). -/

section
variable {s : State} {a : At} {rd : Reg} {g : Nat} {w : W32} {x : W64}

section
variable (hunclaimed : (s.wagMember a.core g).unclaimed = none)
include hunclaimed

theorem wgoMemberOp_idle (hopen : (s.wagMember a.core g).openOp = none) :
    s.wgoMemberOp a rd g w x = ((s.modMember a.core g (fun m => { m with openOp := some w })).wgoSend a.core g (fld w 29 26)
      (if fld w 29 26 = 0 then [] else [loW x])).waitFor a (.wgo rd g) := by
  simp only [State.wgoMemberOp, hunclaimed, hopen]

theorem wgoMemberOp_open (hopen : (s.wagMember a.core g).openOp ≠ none) :
    s.wgoMemberOp a rd g w x = s.waitFor a (.wgo rd g) := by
  obtain ⟨o, ho⟩ := Option.ne_none_iff_exists'.1 hopen
  simp only [State.wgoMemberOp, hunclaimed, ho]

end

theorem wgoMemberOp_unclaimed {st : Byte} {v : W32} (hunclaimed : (s.wagMember a.core g).unclaimed = some (w, st, v)) :
    s.wgoMemberOp a rd g w x =
      (s.modMember a.core g (fun m => { m with unclaimed := none })).modTask a (Task.wrote a.core rd (wgoResult st.toNat v)) := by
  simp only [State.wgoMemberOp, hunclaimed, if_true]
  rfl

section
variable {h : Half} {r : Site} (hroot : s.wagRoot 225 (keeperComb h) = some r)
include hroot

theorem wgoSolicit_idle {op : Nat} (hopen : (s.wagMember a.core (wagKey true g)).openOp = none) :
    s.wgoSolicit a h rd g op w x =
      ((s.modMember a.core (wagKey true g) (fun m => { m with openOp := some w })).waitFor a (.wgo rd (wagKey true g))).sendWag r.val 0
        (mkWag op true g (s.wagMember a.core (wagKey true g)).seq.toNat 0 [loW x, hiW x]) := by
  simp only [State.wgoSolicit, hopen, hroot, Option.isSome_none, Bool.false_eq_true, if_false]

theorem wgoAbort_rooted :
    s.wgoAbort a h rd g = (s.sendWag r.val 0 (mkWag 0xD true g 0 0 [])).modTask a (Task.wrote a.core rd 0) := by
  simp only [State.wgoAbort, hroot]
  rfl

end

end

/-- Settles O31, by what a ready wgo does with a malformed word, for no member, for a member and for a keeper. -/
theorem waggleOperationsWaitForTheirResults : Obligations.WaggleOperationsWaitForTheirResults := by
  unfold Obligations.WaggleOperationsWaitForTheirResults
  intro s a f hfn hready u w x g c hc hop
  rw [exec_wgo hc]
  refine ⟨fun hbad => next_congr (wgo_bad hfn hready hop hbad),
    fun hgood hmember => next_congr (wgo_notMember hfn hready hop hgood hmember), fun hgood hmember => ?_⟩
  have member (hlt) := wgo_member hfn hready hop hgood hmember hlt
  have keeper (hge) {h k} (hcore) := wgo_keeper hfn hready hop hgood hmember hge (h := h) (k := k) hcore
  refine ⟨fun hlt hnone hidle => next_congr ((member hlt).trans ?_), fun hlt hnone hopen => next_congr ((member hlt).trans (wgoMemberOp_open hnone hopen)),
    fun st v hlt hresult => next_congr ((member hlt).trans (wgoMemberOp_unclaimed hresult)),
    fun h k hge hlt hcore r hroot hidle => next_congr ((keeper hge hcore).trans ((if_neg hlt.ne).trans (wgoSolicit_idle hroot hidle))),
    fun h k habort hcore r hroot => next_congr ((keeper (by omega) hcore).trans ((if_pos habort).trans (wgoAbort_rooted hroot)))⟩
  rw [← hop]
  exact wgoMemberOp_idle hnone hidle

end Sys2Proof.Laws

namespace Sys2Proof.Laws
open Sys2Proof.Machine

/-! ### Waggle packets that are bad (R324) -/

section
variable {i : Site} {p : WagPkt}

/-- A packet that fails a check sets the check's error, up or down, and does nothing else. -/
theorem exec_waggleTokens_bad {b : Nat} (hbad : ∀ t : State, t.wagGood i p = some (t.wagErr i b)) (s : State) (input : BitVec 3) :
    exec (.waggleUpToken i input p) s = .next ((s.takeWag i.val input p).wagErr i b) ∧
      exec (.waggleDownToken i p) s = .next ((s.takeWag i.val 0 p).wagErr i b) := by
  constructor <;> exact next_congr (by simp only [hbad])

variable (s : State)

theorem wagGood_gen (hgen : p.gen ≠ 0) : s.wagGood i p = some (s.wagErr i weGen) := if_pos hgen

theorem wagGood_len (hgen : p.gen = 0) (hbad : 4 < p.len.toNat ∨ 0xE ≤ p.op.toNat) : s.wagGood i p = some (s.wagErr i weLen) :=
  (if_neg (not_not_intro hgen)).trans (if_pos hbad)

theorem wagGood_crc (hgen : p.gen = 0) (hlen : p.len.toNat ≤ 4) (hop : p.op.toNat < 0xE) (hcrc : p.crc ≠ wagCrc p) :
    s.wagGood i p = some (s.wagErr i weCrc) :=
  (if_neg (not_not_intro hgen)).trans ((if_neg (by omega)).trans (if_pos hcrc))

end

/-! ### Contributions to an open operation (R328) -/

section
variable {s : State} {i : Site} {input : Nat} {p : WagPkt} {o : WagOpen}
  (hgroup : bit (s.wagGroup i p.group.toNat) 63 = true)
  (hopen : s.wagOpen i (wagKey (isSolicited p.op.toNat) p.group.toNat) = some o)
include hgroup hopen

theorem wagContribute_failed (hstatus : p.status ≠ 0) : s.wagContribute i input p =
    s.wagFail i p.group.toNat (wagKey (isSolicited p.op.toNat) p.group.toNat) o p.status.toNat := by
  simp only [State.wagContribute, hgroup, hopen, Bool.not_true, Bool.false_eq_true, if_false]
  exact if_pos hstatus

variable (hstatus : p.status = 0)
include hstatus

theorem wagContribute_conflict (hother : o.op ≠ p.op ∨ o.seq ≠ p.seq) : s.wagContribute i input p =
    (s.wagErr i weConflict).wagFail i p.group.toNat (wagKey (isSolicited p.op.toNat) p.group.toNat) o 3 := by
  simp only [State.wagContribute, hgroup, hopen, hstatus, Bool.not_true, Bool.false_eq_true, if_false, ne_eq, not_true_eq_false]
  exact if_pos hother

variable (hop : o.op = p.op) (hseq : o.seq = p.seq)
include hop hseq

theorem wagContribute_member (hmembers : 0 < o.members) : s.wagContribute i 0 p =
    (s.setOpen i (wagKey (isSolicited p.op.toNat) p.group.toNat) (some ({ o with members := o.members - 1 }.add p.data))).wagTry i
      p.group.toNat (wagKey (isSolicited p.op.toNat) p.group.toNat) := by
  simp only [State.wagContribute, hgroup, hopen, hstatus, hop, hseq, Bool.not_true, Bool.false_eq_true, if_false, ne_eq,
    not_true_eq_false, or_self, if_true, if_neg hmembers.ne']

theorem wagContribute_input (hinput : input ≠ 0) (hawaited : o.inputs.contains input = true) : s.wagContribute i input p =
    (s.setOpen i (wagKey (isSolicited p.op.toNat) p.group.toNat) (some ({ o with inputs := o.inputs.erase input }.add p.data))).wagTry i
      p.group.toNat (wagKey (isSolicited p.op.toNat) p.group.toNat) := by
  simp only [State.wagContribute, hgroup, hopen, hstatus, hop, hseq, Bool.not_true, Bool.false_eq_true, if_false, ne_eq,
    not_true_eq_false, or_self, if_neg hinput, hawaited, if_true]

end

section
variable {s : State} {i : Site} {p : WagPkt} (hgen : p.gen = 0) (hlen : p.len.toNat ≤ 4) (hop : p.op.toNat < 0xE) (hcrc : p.crc = wagCrc p)
include hgen hlen hop hcrc

/-- A good packet that goes up is a contribution. -/
theorem exec_waggleUpToken_good (input : BitVec 3) (hup : p.down = false) :
    exec (.waggleUpToken i input p) s = .next ((s.takeWag i.val input p).wagContribute i input.toNat p) := by
  refine next_congr ?_
  simp only [wagGood_ok hgen hlen hop hcrc, hup, Bool.false_eq_true, if_false]

/-! ### Down tokens (R326, R328, R329, R335) -/

variable (hgroup : bit (s.wagGroup i p.group.toNat) 63 = true) (hdown : p.down = true)
include hgroup hdown

theorem exec_waggleDownToken_abort (habort : p.op.toNat = 0xD) : exec (.waggleDownToken i p) s =
    .next (let t := (((s.takeWag i.val 0 p).setOpen i p.group.toNat none).setOpen i (wagKey true p.group.toNat) none).wagPass i p
      (t.wagHere i p.group.toNat).foldl (fun s m => s.wagAbort m p.op.toNat p.group.toNat) t) := by
  refine next_congr ?_
  simp only [wagGood_ok hgen hlen hop hcrc, hdown, hgroup, Bool.not_true, Bool.false_eq_true, or_self, if_false]
  exact if_pos habort

theorem exec_waggleDownToken_request (hsol : isSolicited p.op.toNat = true) (hdata : p.len = 2) :
    exec (.waggleDownToken i p) s = .next ((s.takeWag i.val 0 p).wagRequest i p) := by
  have hother : p.op.toNat ≠ 0xD := by simp only [isSolicited, decide_eq_true_eq] at hsol; omega
  refine next_congr ?_
  simp only [wagGood_ok hgen hlen hop hcrc, hdown, hgroup, Bool.not_true, Bool.false_eq_true, or_self, if_false, if_neg hother, hsol,
    if_true, if_pos hdata]

theorem exec_waggleDownToken_close (hmember : isSolicited p.op.toNat = false) (hother : p.op.toNat ≠ 0xD) :
    exec (.waggleDownToken i p) s = .next (let t := ((s.takeWag i.val 0 p).setOpen i p.group.toNat none).wagPass i p
      (t.wagHere i p.group.toNat).foldl (fun s m => s.wagClose m p.op.toNat p.group.toNat p.status.toNat (nth 0 p.data 0)) t) := by
  refine next_congr ?_
  simp only [wagGood_ok hgen hlen hop hcrc, hdown, hgroup, Bool.not_true, Bool.false_eq_true, or_self, if_false, if_neg hother, hmember]

end

/-- The limit ends an open member operation TIMEOUT (R328). -/
theorem exec_waggleLimitExpiry_open {s : State} {i : Site} {group : BitVec 7} {o : WagOpen} (hopen : s.wagOpen i group.toNat = some o)
    (hsent : o.sent = false) (hlimited : ¬(group.toNat < 64 ∧ (s.comb i).waggle.colonyLimit = 0)) :
    exec (.waggleLimitExpiry i group) s = .next ((s.wagErr i weTimeout).wagFail i group.toNat group.toNat o 5) := by
  refine next_congr ((if_neg hlimited).trans ?_)
  simp only [hopen, hsent, Bool.false_eq_true, if_false]

/-- Settles O32, by the checks of a packet, the contribution to an open operation, and what each down token does. -/
theorem wagglePacketsCombineAndClose : Obligations.WagglePacketsCombineAndClose := by
  unfold Obligations.WagglePacketsCombineAndClose
  intro s i input p g op key u v
  refine ⟨fun hgen => exec_waggleTokens_bad (wagGood_gen · hgen) s input,
    fun hgen hbad => exec_waggleTokens_bad (wagGood_len · hgen hbad) s input,
    fun hgen hlen hop hcrc => exec_waggleTokens_bad (wagGood_crc · hgen hlen hop hcrc) s input,
    fun hgen hlen hop hcrc hgroup => ⟨fun o hup hopen => ?up, exec_waggleDownToken_close hgen hlen hop hcrc hgroup,
      exec_waggleDownToken_request hgen hlen hop hcrc hgroup, exec_waggleDownToken_abort hgen hlen hop hcrc hgroup⟩,
    fun o => exec_waggleLimitExpiry_open⟩
  have hgroup' : bit (u.wagGroup i g) 63 = true := hgroup
  have hopen' : u.wagOpen i key = some o := hopen
  rw [exec_waggleUpToken_good hgen hlen hop hcrc input hup]
  refine ⟨fun hstatus hsame hseq hown hmembers => next_congr ?_,
    fun hstatus hsame hseq hinput hawaited => next_congr (wagContribute_input hgroup' hopen' hstatus hsame hseq ?_ hawaited),
    fun hstatus hother => next_congr (wagContribute_conflict hgroup' hopen' hstatus hother),
    fun hstatus => next_congr (wagContribute_failed hgroup' hopen' hstatus)⟩
  · subst hown
    exact wagContribute_member hgroup' hopen' hstatus hsame hseq hmembers
  · simpa [← BitVec.toNat_inj] using hinput

end Sys2Proof.Laws

namespace Sys2Proof.Laws
open Sys2Proof.Machine

/-! ### Epochs and the registers of waggle and ranks (R203–R206, R337, R339, R340) -/

/-- The bits of a field are the field's number. -/
theorem toNat_bits {n : Nat} (w : BitVec n) (hi lo : Nat) : (bits w lo (hi + 1 - lo)).toNat = fld w hi lo := by
  simp only [bits, fld, BitVec.extractLsb'_toNat, Nat.shiftRight_eq_div_pow]

/-- The waggle registers of a comb after they are changed. -/
@[simp] theorem waggle_comb_modWag (s : State) (i : Site) (f : Waggle → Waggle) :
    ((s.modWag i f).comb i).waggle = f (s.comb i).waggle := by
  simp [State.modWag]

/-- The rank registers of a comb after they are changed. -/
@[simp] theorem ranks_comb_modRanks (s : State) (i : Site) (f : Ranks → Ranks) :
    ((s.modRanks i f).comb i).ranks = f (s.comb i).ranks := by
  simp [State.modRanks]

/-- The step of RNK_ADDR leaves rank memory. -/
@[simp] theorem Ranks_mem_step (k : Ranks) : k.step.mem = k.mem := by unfold Ranks.step; split <;> rfl

theorem swap_committed {e : UnitEpoch} {n : Nat} (h : e.commit = some n) : e.swap = { epoch := n, staged := none, commit := none } := by
  simp only [UnitEpoch.swap, h]

section
variable {s : State} {i : Site} {v : W64}

/-- A root takes PARENT 0 and its panel above while no group is open (R339). -/
theorem wagParentWrite_root (hparent : fld v 2 0 = 0) (hclosed : (s.comb i).waggle.anyOpen = false) :
    s.wagParentWrite i v = s.modWag i (fun w => { w with parent := 0, upPanel := bits v 8 8 }) := by
  have hbits : bits v 0 3 = 0 := BitVec.eq_of_toNat_eq ((toNat_bits v 2 0).trans hparent)
  simp only [State.wagParentWrite, hparent, hclosed, hbits]
  rfl

theorem wagParentWrite_bad (hparent : 5 ≤ fld v 2 0) : s.wagParentWrite i v = s.wagErr i weBadWr := if_pos (.inl hparent)

theorem wagGroupWrite_closed {g : Nat} (hzero : fld v 55 54 = 0) (hchildren : fld v 41 40 ≠ 3) (hmember : s.wagOpen i g = none)
    (hsolicited : s.wagOpen i (wagKey true g) = none) :
    s.wagGroupWrite i g v = s.modWag i (fun w => { w with group := Tbl.put 0 w.group g (keep v wagGroupMask) }) :=
  (if_neg (by simp [hzero, hchildren])).trans (if_neg (by simp [hmember, hsolicited]))

theorem wagGroupWrite_bad {g : Nat} (hzero : fld v 55 54 ≠ 0) : s.wagGroupWrite i g v = s.wagErr i weBadWr := if_pos (.inl hzero)

section
variable {c : Nat}

theorem rnkDirWrite_illegal (hlegal : rnkDirLegal v = false) : s.rnkDirWrite i c v = s.rnkBad i false := if_pos (by simp [hlegal])

theorem rnkDirWrite_running (hlegal : rnkDirLegal v = true) (hrun : s.colonyStoppedAt i c = false) : s.rnkDirWrite i c v = s.rnkBad i true :=
  (if_neg (by simp [hlegal])).trans (if_pos (by simp [hrun]))

theorem rnkDirWrite_stopped (hlegal : rnkDirLegal v = true) (hstop : s.colonyStoppedAt i c = true) :
    s.rnkDirWrite i c v = s.modRanks i (fun k => { k with dir := Tbl.put 0 k.dir c (keep v rnkDirMask) }) :=
  (if_neg (by simp [hlegal])).trans (if_neg (by simp [hstop]))

end

/-- A legal entry that may be changed is put at RNK_ADDR, which then steps (R205, R206). -/
theorem rnkDataWrite_free (hlegal : rnkLegal v = true) (hfree : s.rnkFree i (s.comb i).ranks.index.toNat v = true) :
    s.rnkDataWrite i v =
      (s.modRanks i (fun k => { k with mem := Tbl.put 0 k.mem (s.comb i).ranks.index.toNat (keep v rnkMask) })).modRanks i Ranks.step := by
  simp only [State.rnkDataWrite, hlegal, hfree, Bool.not_true, Bool.false_eq_true, if_false]

end

/-- Settles O33, by the check of each register's write. -/
theorem epochsSwapAndWaggleAndRankRegistersAreWritten : Obligations.EpochsSwapAndWaggleAndRankRegistersAreWritten := by
  unfold Obligations.EpochsSwapAndWaggleAndRankRegistersAreWritten
  refine ⟨fun s h n hcommit => ⟨_, rfl, ?swap⟩, fun s i k => rfl,
    fun s i v => ⟨fun hparent hclosed => ⟨_, next_congr (wagParentWrite_root hparent hclosed), ?parent⟩,
      fun hparent => next_congr (wagParentWrite_bad hparent)⟩,
    fun s i g v => ⟨fun hzero hchildren hmember hsolicited =>
        ⟨_, next_congr (wagGroupWrite_closed hzero hchildren hmember hsolicited), ?group⟩,
      fun hzero => next_congr (wagGroupWrite_bad hzero)⟩,
    fun s i => ⟨fun c v => ⟨fun hlegal hstop => ⟨_, next_congr (rnkDirWrite_stopped hlegal hstop), ?dir⟩,
        fun hlegal => next_congr (rnkDirWrite_illegal hlegal), fun hlegal hrun => next_congr (rnkDirWrite_running hlegal hrun)⟩,
      fun v hlegal hfree => ⟨_, next_congr (rnkDataWrite_free hlegal hfree), ?mem⟩, rfl⟩⟩
  case swap => simp only [keeper_setKeeper, swap_committed hcommit]
  case parent => simp only [waggle_comb_modWag]
  case group => simp only [State.wagGroup, waggle_comb_modWag, Tbl_get_put_same]
  case dir => simp only [ranks_comb_modRanks, Tbl_get_put_same]
  case mem => simp only [ranks_comb_modRanks, Ranks_mem_step, Tbl_get_put_same]

end Sys2Proof.Laws

namespace Sys2Proof.Laws
open Sys2Proof.Machine

/-! ### Fetches (R357–R359) -/

/-- A port router after it is changed. -/
@[simp] theorem port_comb_modPort (s : State) (i : Site) (n : Nat) (f : PortRouter → PortRouter) :
    ((s.modPort i n f).comb i).port n = f ((s.comb i).port n) := by
  simp [State.modPort, Comb.port, Tbl_get_put_same]

/-- What is on the network is no part of a comb. -/
theorem comb_withNet (s : State) (n : Net) (i : Site) : State.comb { s with net := n } i = s.comb i := rfl

/-- A packet put on an external lane leaves the comb's port routers. -/
@[simp] theorem port_comb_sendLane (s : State) (i : Site) (n : Nat) (p : DataPkt) (k : Nat) :
    ((s.sendLane i n p).comb i).port k = (s.comb i).port k := by
  simp only [State.sendLane, comb_withNet, State.modLink, comb_modComb, Comb.port]

section
variable {s : State} {i : Site} {pr : Fin 8} {p : DataPkt} (hsuper : s.superPort i pr.val = true)
  (hup : ((s.comb i).link (laneLink pr.val)).isUp = true)
include hsuper hup

/-- A well-formed FETCH_REQ opens a fetch with the request id that is free (R357, R358). -/
theorem exec_fetchReq_free {rid : Nat} (hat : AtEndpoint s i.val (0xB0 + pr.val) p) (htype : p.type = 0x18)
    (hok : fetchReqOk (p.payload.flatMap wordBytes) = true) (hrid : ((s.comb i).port pr.val).newRid = some rid) :
    Answers (.fetchReq i pr p) s (fun t => ∃ f ∈ ((t.comb i).port pr.val).fetches, f.rid = rid ∧ f.src = p.src ∧ f.tag = p.tag) := by
  have hsuper' : (s.takeData p).superPort i pr.val = true := hsuper
  have hcomb : (s.takeData p).comb i = s.comb i := rfl
  have hfor : ¬(p.type ≠ 0x18 ∨ p.dst ≠ s.portEid i pr.val ∨ ((s.comb i).port pr.val).newRid = none) := by
    simp [htype, hrid, hat.1, State.portEid]
  refine ⟨_, next_congr ((if_neg hfor).trans (endpoint_ok hat _)), ?_⟩
  simp only [hsuper', hcomb, hup, hok, hrid, Bool.not_true, Bool.false_eq_true, if_false, State.sendData, comb_withNet, port_comb_sendLane,
    port_comb_modPort]
  exact ⟨_, List.mem_append_right _ (List.mem_singleton_self _), rfl, rfl, rfl⟩

variable {f : Fetch} (hgood : superOk p = true) (hfetch : ((s.comb i).port pr.val).fetch p.tag.toNat = some f) (hopened : f.opened = true)
include hgood hfetch hopened

/-- Lines of a fetch whose landing is open are noted and go on to the store base (R358). -/
theorem exec_fetchData_opened (htype : p.type = 0x19) :
    exec (.fetchData i pr p) s =
      .next (let idx := (List.range (p.payload.length / 64)).map (p.addr.toNat + ·)
        let g : Fetch := { f with seen := f.seen ++ idx, dup := f.dup || idx.any (fun k => f.seen.contains k || decide (k ≥ f.lines)) }
        (s.setFetch i pr.val f g).forward i pr.val g (p.addr.toNat, p.payload)) := by
  refine next_congr ((if_neg (by simp [htype, hsuper, hup])).trans ((if_neg (by simp [hgood])).trans ?_))
  simp only [hfetch, hopened, if_true]

theorem exec_fetchEnd_opened (htype : p.type = 0x1A) :
    exec (.fetchEnd i pr p) s = .next (s.endFetch i pr.val f (f.finish (fld (plWord p 0) 7 0))) := by
  refine next_congr ((if_neg (by simp [htype, hsuper, hup])).trans ((if_neg (by simp [hgood])).trans ?_))
  simp only [hfetch, hopened, if_true]

end

theorem exec_fetchNoProgress_open {s : State} {i : Site} {pr : Fin 8} {rid : Fin 64} {f : Fetch}
    (hfetch : ((s.comb i).port pr.val).fetch rid.val = some f) : exec (.fetchNoProgress i pr rid) s =
      .next ((s.endFetch i pr.val f 4).modPort i pr.val (fun x => { x with quarantined := x.quarantined ++ [rid.val] })) := by
  refine next_congr ?_
  simp only [hfetch]

/-- Settles O37, by the rule of each command at a super port whose lane is up. -/
theorem fetchesOpenForwardAndEnd : Obligations.FetchesOpenForwardAndEnd := by
  unfold Obligations.FetchesOpenForwardAndEnd
  exact fun s i pr p hsuper hup => ⟨fun rid => exec_fetchReq_free hsuper hup,
    fun f htype hgood hfetch hopened => exec_fetchData_opened hsuper hup hgood hfetch hopened htype,
    fun f htype hgood hfetch hopened => exec_fetchEnd_opened hsuper hup hgood hfetch hopened htype,
    fun rid f => exec_fetchNoProgress_open⟩

end Sys2Proof.Laws

namespace Sys2Proof.Laws
open Sys2Proof.Machine

/-! ### Store bases (R382–R395) -/

/-- A record on its way leaves every store. -/
theorem store_sendErr (s : State) (site : Nat) (r : ErrRec) (n : Nat) : (s.sendErr site r).store n = s.store n := rfl

/-- An error bit is all that is set in its store. -/
theorem store_setStbErr (s : State) (n b : Nat) : ∃ e, (s.setStbErr n b).store n = { s.store n with err := e } := by
  unfold State.setStbErr
  split
  · exact ⟨_, rfl⟩
  · refine ⟨setBit (s.store n).err b true, ?_⟩
    rw [← store_modStore s n (fun x => { x with err := setBit x.err b true })]
    split
    · rfl
    · split <;> rfl

@[simp] theorem stb_setStbErr (s : State) (n b : Nat) : ((s.setStbErr n b).store n).stb = (s.store n).stb := by
  obtain ⟨_, h⟩ := store_setStbErr s n b
  rw [h]

/-- A fenced store is in state FENCED (R392). -/
theorem stb_fenceStore (s : State) (n : Nat) : ((s.fenceStore n).store n).stb = 3 := by
  unfold State.fenceStore
  split
  next hfenced => exact hfenced
  next =>
    have hchunks (l : List Chunk) (t : State) : ((l.foldl (fun s c => s.shardDone n c 3) t).store n).stb = (t.store n).stb := by
      refine foldl_keeps _ (fun u : State => (u.store n).stb) (fun _ _ => ?_) l t
      rfl
    rw [stb_setStbErr, hchunks, store_modStore]

section
variable {s : State} {st : StoreId}

theorem exec_storeScrubTick_up (hup : (s.store st.val).stb = 2) :
    exec (.storeScrubTick st) s = .next (((s.storeTouch st.val ((s.store st.val).scrubAt * 64) 64).2).modStore st.val (fun x =>
      { x with scrubAt := ((s.store st.val).scrubAt + 1) % storeGranules,
               passes := if (s.store st.val).scrubAt + 1 = storeGranules then x.passes + 1 else x.passes })) :=
  next_congr (if_neg (not_not_intro hup))

/-- SCRUB_NOW alone starts the pass of a store that is up again (R394). -/
theorem exec_scrubNow_up (hup : (s.store st.val).stb = 2) :
    exec (.scrubNow st 1) s = .next (s.modStore st.val (fun x => { x with scrubAt := 0 })) :=
  next_congr (by simp [State.stbCtrl, bit, hup])

/-- TEST alone begins the test of a store that is not fenced and has no extent (R391). -/
theorem exec_storeTest_noExtent (hup : (s.store st.val).stb = 2) (hnone : (s.store st.val).anyExtent = false) :
    exec (.storeTest st 2) s = .next (s.storeTest st.val) :=
  next_congr (by simp [State.stbCtrl, bit, hnone, hup])

theorem exec_storeTest_extent (hsome : (s.store st.val).anyExtent = true) :
    exec (.storeTest st 2) s = .next (s.setStbErr st.val sbStaticWr) :=
  next_congr (by simp [State.stbCtrl, bit, hsome])

theorem exec_storeChannelTimeout_up (hup : (s.store st.val).stb ≠ 0) :
    exec (.storeChannelTimeout st) s = .next (s.fenceStore st.val) := next_congr (if_neg hup)

/-- The store with the map of a test that has ended (R391). -/
theorem exec_storeTestComplete_testing (htest : (s.store st.val).stb = 1) (pass : Bool) (rows : List W64) :
    exec (.storeTestComplete st pass rows) s = .next (
      let t := s.modStore st.val (fun x =>
        { x with stb := 2, testMap := testMap st.val pass (s.leadTime.toNat / 1000000000) (rows.take 3072) })
      if pass then t else t.fenceStore st.val) :=
  next_congr (if_neg (not_not_intro htest))

/-- Zeroing starts: the units are zero from then on (R382, log 35). -/
theorem exec_storeZero_idle (hidle : (s.store st.val).zeroBusy = false) (v : W64) :
    Answers (.storeZero st v) s (fun t => (t.store st.val).zeroBusy = true ∧
      ∀ a, (s.store st.val).zeroBase.toNat * 65536 ≤ a →
        a < ((s.store st.val).zeroBase.toNat + min (fld v 19 0) (786432 - (s.store st.val).zeroBase.toNat)) * 65536 →
        Tbl.get 0 (t.store st.val).mem a = 0) := by
  refine ⟨_, next_congr (if_neg (by simp [hidle])), ?_⟩
  dsimp only
  rw [store_modStore]
  refine ⟨rfl, fun a hfrom hto => (Store_byte_zeroRange _ _ _ a).trans (if_neg ?_)⟩
  rw [Nat.add_mul] at hto
  omega

theorem exec_digestStart_idle {slot : Fin 2} (hidle : nth false (s.store st.val).digBusy slot.val = false) (v : W64) :
    exec (.digestStart st slot v) s = .next (s.modStore st.val (fun x =>
      { x with digLen := setNth x.digLen slot.val (bits v 0 28), digBusy := setNth x.digBusy slot.val true })) :=
  next_congr (if_neg (by simp [hidle]))

/-- The digest of a range without a bad granule is SHA-512 of its bytes (R387). -/
theorem exec_digestDone_good {slot : Fin 2} (hbusy : nth false (s.store st.val).digBusy slot.val = true) {a n : Nat}
    (ha : (nth 0 (s.store st.val).digAddr slot.val).toNat / 256 * 256 = a) (hn : (nth 0 (s.store st.val).digLen slot.val).toNat * 256 = n)
    (hgood : ∀ g ∈ granules a n, (s.store st.val).badGranule g = false) :
    exec (.digestDone st slot) s = .next (let u := (s.storeTouch st.val a n).2
      u.modStore st.val (fun x => { x with
        digBusy := setNth x.digBusy slot.val false
        digResult := setNth x.digResult slot.val (Config.sha512 ((u.store st.val).bytes a n)) })) := by
  refine next_congr ((if_neg (by simp [hbusy])).trans ?_)
  simp only [ha, hn, read_ok s st.val a n hgood]

section
variable {c : ColonyId} {v : W64}

theorem exec_stbExtWrite_legal (hlegal : (s.store st.val).extLegal st.val c.val v = true) (hstop : (s.store st.val).colonyStopped c.val = true) :
    exec (.stbExtWrite st c v) s = .next (s.modStore st.val (fun x => { x with ext := Tbl.put 0 x.ext c.val (keep v 0x800000FFFFFFFFFF) })) :=
  next_congr ((if_neg (by simp [hlegal])).trans (if_neg (by simp [hstop])))

theorem exec_stbExtWrite_illegal (hlegal : (s.store st.val).extLegal st.val c.val v = false) :
    exec (.stbExtWrite st c v) s = .next (s.setStbErr st.val sbBadWr) := next_congr (if_pos (by simp [hlegal]))

end

end

/-- Settles O41, by the rule of each command and the laws of a store's memory. -/
theorem storeBaseCommandsAct : Obligations.StoreBaseCommandsAct := by
  unfold Obligations.StoreBaseCommandsAct
  exact fun s st => ⟨exec_storeScrubTick_up, fun hup => ⟨_, exec_scrubNow_up hup, by simp⟩, exec_storeTest_noExtent, exec_storeTest_extent,
    rfl, exec_storeChannelTimeout_up,
    fun rows htest => ⟨⟨_, exec_storeTestComplete_testing htest true rows, by simp⟩,
      ⟨_, exec_storeTestComplete_testing htest false rows, stb_fenceStore ..⟩⟩,
    fun v hidle => exec_storeZero_idle hidle v, ⟨_, rfl, by simp⟩, fun slot v hidle => exec_digestStart_idle hidle v,
    fun slot hbusy => exec_digestDone_good hbusy rfl rfl,
    fun c v => ⟨fun hlegal hstop => ⟨_, exec_stbExtWrite_legal hlegal hstop, by simp [Store.extent, Tbl_get_put_same]⟩,
      exec_stbExtWrite_illegal⟩,
    ⟨_, rfl, by simp [State.stbEccRead]⟩⟩

end Sys2Proof.Laws

namespace Sys2Proof.Laws
open Sys2Proof.Machine

/-! ### Frames, replay and credits (R347–R351) -/

/-- A command on a link end that exists. -/
theorem onLink_congr {l : LinkAt} (hl : l.ok = true) {t u : State} (h : t = u) : onLink l t = .next u :=
  (onLink_of_ok hl t).trans (next_congr h)

section
variable {s : State} {l : LinkAt} {ch : Fin 16} (hl : l.ok = true) (hup : (s.linkAt l).isUp = true)
include hl hup

section
variable {f : LinkFrame} (hch : ch.val < l.chans)
include hch

omit hl in
/-- A channel of a link end that is up takes frames. -/
theorem takes_linkFrames : ¬((!(s.linkAt l).isUp) = true ∨ l.chans ≤ ch.val) := by
  simp [hup, hch]

section
variable (hcrc : f.crc = f.crcOf) (hblock : f.blockErr = false) (hcorrected : f.uncorrected = false)
include hcrc hblock hcorrected

/-- A whole frame with the next SEQ is accepted (R350). -/
theorem exec_linkFrameReceive_next (hinside : l.external = false) (hseq : f.seq = ((s.linkAt l).ch ch.val).rxSeq) :
    exec (.linkFrameReceive l ch f) s = .next (s.modLinkAt l (fun x => x.modCh ch.val (fun c =>
      { c with rxSeq := c.rxSeq + 1, rxPending := true, nakSent := false }))) := by
  refine onLink_congr hl ((if_neg (takes_linkFrames hup hch)).trans ((if_pos (by simp [hcrc, hblock, hcorrected, hseq])).trans ?_))
  cases l with
  | comb i k => exact if_neg (by simpa [LinkAt.external] using hinside)
  | keeper h => rfl

/-- A whole frame with another SEQ is discarded with a NAK (R350). -/
theorem exec_linkFrameReceive_other (hseq : f.seq ≠ ((s.linkAt l).ch ch.val).rxSeq) :
    exec (.linkFrameReceive l ch f) s = .next (s.modLinkAt l (fun x => x.modCh ch.val (fun c => { c with nakSent := true }))) := by
  refine onLink_congr hl ((if_neg (takes_linkFrames hup hch)).trans ((if_neg (by simp [hseq])).trans ?_))
  simp [hcrc, hblock, hcorrected]

end

/-- A frame whose CRC fails is discarded with a NAK and counted (R350, R371). -/
theorem exec_linkFrameReceive_crc (hcrc : f.crc ≠ f.crcOf) (hcorrected : f.uncorrected = false) :
    exec (.linkFrameReceive l ch f) s = .next (s.modLinkAt l (fun x =>
      let y := x.modCh ch.val (fun c => { c with nakSent := true }); { y with crcFails := satInc y.crcFails }.total 1)) := by
  refine onLink_congr hl ((if_neg (takes_linkFrames hup hch)).trans ((if_neg (by simp [hcrc])).trans ?_))
  simp [hcrc, hcorrected]

end

theorem exec_acknak_up (n : BitVec 12) (nak : Bool) : exec (.acknak l ch n nak) s =
    .next (let t := s.modLinkAt l (fun x => x.modCh ch.val (fun c => c.ack n)); if nak then t.resend l ch.val else t) :=
  onLink_congr hl (if_neg (by simp [hup]))

theorem exec_acknakSendTimer_up : exec (.acknakSendTimer l ch) s =
    .next (s.modLinkAt l (fun x => x.modCh ch.val (fun c => { c with rxPending := false }))) := onLink_congr hl (if_pos hup)

theorem exec_replayTimeout_up : exec (.replayTimeout l ch false) s = .next (s.resend l ch.val) :=
  onLink_congr hl (if_neg (by simp [hup]))

theorem exec_creditBlock_up (e0 e1 : BitVec 16) : exec (.creditBlock l ch e0 e1) s =
    .next (s.modLinkAt l (fun x => x.modCh ch.val (fun c => l.credit (l.credit c e0) e1))) :=
  onLink_congr hl (if_neg (by simp [hup]))

end

/-- A beat that leaves its packet short of its tokens is kept (R331, R347). -/
theorem exec_waggleBlock_short {s : State} {i : Site} {k : Fin 12} {t0 t1 : W32} (hl : linkExists i k = true)
    (hup : ((s.comb i).link k.val).isUp = true) (hlane : 8 ≤ k.val) (hswarm : s.octetMode (octetOf i) = 1)
    (hshort : ((((s.comb i).link k.val).ch 0).tokens ++ [t0, t1]).length <
      1 + wagLen (fld (nth 0 ((((s.comb i).link k.val).ch 0).tokens ++ [t0, t1]) 0) 13 11)) :
    exec (.waggleBlock (.comb i k) t0 t1) s = .next (s.modLink i k.val (fun x =>
      x.modCh 0 (fun c => { c with tokens := (((s.comb i).link k.val).ch 0).tokens ++ [t0, t1] }))) :=
  onLink_congr (l := .comb i k) hl ((if_neg (by simp [hup, hswarm, Nat.not_lt.2 hlane])).trans (if_pos hshort))

/-- Settles O34, by the rule of each command on a link end that is up. -/
theorem framesAreAcceptedAcknowledgedAndReplayed : Obligations.FramesAreAcceptedAcknowledgedAndReplayed := by
  unfold Obligations.FramesAreAcceptedAcknowledgedAndReplayed
  refine fun s l ch hl hup => ⟨fun f hch hinside hcrc hblock hcorrected =>
      ⟨exec_linkFrameReceive_next hl hup hch hcrc hblock hcorrected hinside, exec_linkFrameReceive_other hl hup hch hcrc hblock hcorrected⟩,
    fun f hch => exec_linkFrameReceive_crc hl hup hch, fun n => exec_acknak_up hl hup n false, fun n => exec_acknak_up hl hup n true,
    exec_acknakSendTimer_up hl hup, exec_replayTimeout_up hl hup, exec_creditBlock_up hl hup, fun i k t0 t1 hcomb => ?_⟩
  subst hcomb
  exact exec_waggleBlock_short hl hup

end Sys2Proof.Laws

namespace Sys2Proof.Laws
open Sys2Proof.Machine

/-! ### Training, flipped routes and recalibration (R352–R354, R363, R365) -/

section
variable {s : State} {l : LinkAt} (hl : l.ok = true)
include hl

/-- A valid record that a lane in TRAINING hears is kept for LINK_PEER (R373). -/
theorem exec_trainingRecord_valid {bs : List Byte} (htrain : (s.linkAt l).state = 2) (hlane : l.lane = true)
    (hcrc : fieldAt (fitTo 0 35 bs) 31 4 = (crc32 ((fitTo 0 35 bs).take 31)).toNat) : exec (.trainingRecord l bs) s =
      .next (s.modLinkAt l (fun x => { x with heard := some (fitTo 0 35 bs), peer := fitTo 0 35 bs })) := by
  refine onLink_congr hl ((if_neg (by simp [htrain, hlane])).trans ?_)
  simp only [hcrc, if_true]

section
variable {o : TrainOut} (htrain : (s.linkAt l).state = 2) (hinside : l.lane = false)
include htrain hinside

theorem exec_linkTraining_noSignal (hsignal : o.signal = false) : exec (.linkTraining l o) s =
    .next ((s.modLinkAt l (fun x => { x with wires := o.wires.foldl (fun t e => Tbl.put 0 t e.1.val e.2) [] })).trainFail l 3 false) := by
  refine onLink_congr hl ((if_pos htrain).trans ?_)
  simp only [State.train, hinside, hsignal, Bool.false_eq_true, if_false, Bool.not_false, if_true]

/-- With no bad wire the link trains at full width (R353). -/
theorem exec_linkTraining_up (hsignal : o.signal = true) (hwires : o.wires = []) (heq : o.eqOk = true) (hber : o.berOk = true) :
    exec (.linkTraining l o) s =
    .next ((s.modLinkAt l (fun x => { x with wires := o.wires.foldl (fun t e => Tbl.put 0 t e.1.val e.2) [] })).trainUp l false) := by
  refine onLink_congr hl ((if_pos htrain).trans ?_)
  simp only [State.train, hinside, hsignal, hwires, heq, hber, Bool.false_eq_true, if_false, Bool.not_true, if_true, List.foldl_nil,
    List.filter_nil, ne_eq, not_true_eq_false, false_and]

end

theorem exec_routeFlipTimer_down (hdown : (s.linkAt l).isUp = false) (hflipped : (s.linkAt l).flipped = false) :
    exec (.routeFlipTimer l) s = .next (s.modLinkAt l (fun x => { x with flipped := true })).resel.reselPanels :=
  onLink_congr hl (if_neg (by simp [hdown, hflipped]))

theorem exec_routeRestoreTimer_up (hup : (s.linkAt l).isUp = true) (hflipped : (s.linkAt l).flipped = true) :
    exec (.routeRestoreTimer l) s = .next (s.modLinkAt l (fun x => { x with flipped := false })).resel.reselPanels :=
  onLink_congr hl (if_neg (by simp [hup, hflipped]))

section
variable (hquarantined : (s.linkAt l).state = 5)
include hquarantined

theorem exec_linkRecalibration_clean : exec (.linkRecalibration l true) s =
    .next ((s.modLinkAt l (fun x => { x with history := [], recalFails := 0 })).startTraining l) :=
  onLink_congr hl (if_neg (not_not_intro hquarantined))

/-- A failure that is not the 24th in a row is counted (R365). -/
theorem exec_linkRecalibration_fails (hfew : (s.linkAt l).recalFails ≠ 23) : exec (.linkRecalibration l false) s =
    .next (s.modLinkAt l (fun x => { x with recalFails := x.recalFails + 1 })) :=
  onLink_congr hl ((if_neg (not_not_intro hquarantined)).trans ((if_neg Bool.false_ne_true).trans (if_neg (by omega))))

end

end

/-- Settles O35, by the rule of each command on a link end that exists. -/
theorem linksTrainFlipAndRecalibrate : Obligations.LinksTrainFlipAndRecalibrate := by
  unfold Obligations.LinksTrainFlipAndRecalibrate
  exact fun s l hl => ⟨fun bs => exec_trainingRecord_valid hl,
    fun o htrain hinside => ⟨exec_linkTraining_noSignal hl htrain hinside, exec_linkTraining_up hl htrain hinside⟩,
    fun hup => onLink_of_ok hl _, exec_routeFlipTimer_down hl, exec_routeRestoreTimer_up hl,
    fun hquarantined => ⟨exec_linkRecalibration_clean hl hquarantined, exec_linkRecalibration_fails hl hquarantined⟩⟩

end Sys2Proof.Laws

namespace Sys2Proof.Laws
open Sys2Proof.Machine

/-! ### Domains and inrush tokens (R407, R408, R413–R415) -/

section
variable {s : State} {i : Site} {d : Fin 80} {who : Option Half}

section
variable (hforeign : domEntitled i d.val who = false)
include hforeign

theorem exec_domainPowerOn_foreign : exec (.domainPowerOn i d who) s = .next (s.pwrErr i peBadWr) :=
  next_congr (if_pos (by simp [hforeign]))

theorem exec_domainPowerOff_foreign : exec (.domainPowerOff i d who) s = .next (s.pwrErr i peBadWr) :=
  next_congr (if_pos (by simp [hforeign]))

end

section
variable (hentitled : domEntitled i d.val who = true)
include hentitled

theorem exec_domainPowerOn_off (hstate : ((s.comb i).pw.dom d.val).state = 0) (hoff : ((s.comb i).pw.dom d.val).on = false)
    (horder : (s.comb i).pw.onOrder d.val = true) : exec (.domainPowerOn i d who) s =
    .next ((s.setDom i d.val { on := true, state := 1, reason := 0 }).modStore (storeOf i) (fun z => { z with waiting := z.waiting ++ [(i, d.val)] })) :=
  next_congr ((if_neg (by simp [hentitled])).trans ((if_neg (by simp [hstate, hoff])).trans (if_neg (by simp [horder]))))

theorem exec_domainPowerOff_on (hstate : ((s.comb i).pw.dom d.val).state = 3) (hon : ((s.comb i).pw.dom d.val).on = true)
    (horder : (s.comb i).pw.offOrder d.val = true) : exec (.domainPowerOff i d who) s = .next (s.domOff i d.val 0 0) :=
  next_congr ((if_neg (by simp [hentitled])).trans ((if_neg (by simp [hstate, hon])).trans (if_neg (by simp [horder]))))

end

theorem exec_inrushWaitTimeout_waiting (hwaits : ((s.comb i).pw.dom d.val).state = 1) : exec (.inrushWaitTimeout i d) s =
    .next (((s.withdraw i d.val).setDom i d.val { on := false, state := 0, reason := 1 }).pwrErr i peInrush) :=
  next_congr (if_neg (not_not_intro hwaits))

end

section
variable {s : State} {z : StoreId} {i : Site} {d : Nat}

/-- The first request of a zone whose token is free gets it where HEADROOM, with the zone's current as measured, allows (R413). -/
theorem exec_inrushGrant_room {rest : List (Site × Nat)} {current : Nat} {u : State}
    (hu : s.modStore z.val (fun x => { x with zoneCurrent := current }) = u) (hwaiting : (u.store z.val).waiting = (i, d) :: rest)
    (htoken : (u.store z.val).token = none) (hclosed : (u.store z.val).zoneOpen = false)
    (hroom : rampNeed d + u.zoneGuard z.val ≤ (u.store z.val).headroom) : exec (.inrushGrant z current) s =
    .next ((u.modStore z.val (fun x => { x with token := some (i, d), waiting := rest })).setDom i d { on := true, state := 2, reason := 0 }) := by
  refine next_congr ?_
  simp only [hu, hwaiting, htoken, hclosed]
  exact if_neg (by simpa using hroom)

variable (htoken : (s.store z.val).token = some (i, d))
include htoken

/-- Power good of a domain that is no sampler's (R413). -/
theorem exec_domainPowerGood_plain (hplain : d < 65 ∨ 68 < d) : exec (.domainPowerGood z) s =
    .next ((s.modStore z.val (fun x => { x with token := none })).setDom i d { on := true, state := 3, reason := 0 }) := by
  refine next_congr ?_
  simp only [htoken]
  exact if_neg (by omega)

theorem exec_domainRampTimeout_ramping :
    exec (.domainRampTimeout z) s = .next ((s.modStore z.val (fun x => { x with token := none })).domOff i d 4 2) := by
  refine next_congr ?_
  simp only [htoken]

end

/-! ### Regulators (R409, R417) -/

/-- A regulator of a comb after it is changed. -/
@[simp] theorem reg_comb_modReg (s : State) (i : Site) (r : Nat) (f : Regul → Regul) :
    ((s.modReg i r f).comb i).pw.reg r = f ((s.comb i).pw.reg r) := by
  simp [State.modReg, CombPower.reg, Tbl_get_put_same]

/-- A mask of one failed phase counts one. -/
theorem failed_one {x : Regul} {p : Fin 13} (h : x.phaseFail = setBit 0 p.val true) : x.failed = 1 := by
  have hcount : ∀ p : Fin 13, ((List.range 13).filter (fun q => bit (setBit (0 : BitVec 13) p.val true) q)).length = 1 := by decide
  rw [Regul.failed, h]
  exact hcount p

section
variable {s : State} {i : Site} {r : Fin 49}

/-- The first failed phase is covered by the spare (R409). -/
theorem exec_phaseFailure_first (hwhole : ((s.comb i).pw.reg r.val).phaseFail = 0) (p : Fin 13) (fit : Fin 17) :
    exec (.phaseFailure i r (some p) fit) s = .next ((s.modReg i r.val (fun x => { x with
      phaseFail := setBit x.phaseFail p.val true
      spareInUse := !bit (setBit x.phaseFail p.val true) 12 })).setPwrErr i pePhase (regKind i r.val).1 (regKind i r.val).2) := by
  refine next_congr ((if_neg (by simp [hwhole, bit])).trans ?_)
  simp only [reg_comb_modReg]
  rw [failed_one (by rw [hwhole])]
  rfl

theorem exec_vsetWrite_legal {v : W64} (hr : r.val < 48) (hlogic : r.val % 3 = 1) (hlow : 600 ≤ fld v 15 0) (hhigh : fld v 15 0 ≤ 900) :
    exec (.vsetWrite i r v) s = .next (s.modReg i r.val (fun x => { x with vsetLatch := some (bits v 0 16) })) :=
  next_congr (if_neg (by omega))

theorem exec_vsetWrite_low {v : W64} (hlow : fld v 15 0 < 600) : exec (.vsetWrite i r v) s = .next (s.pwrErr i peBadWr) :=
  next_congr (if_pos (.inr (.inr (.inl hlow))))

end

/-- Settles O48, by the rule of each command. -/
theorem domainsAndRegulatorsFollowTheirCommands : Obligations.DomainsAndRegulatorsFollowTheirCommands := by
  unfold Obligations.DomainsAndRegulatorsFollowTheirCommands
  exact fun s => ⟨fun i d who => ⟨fun hforeign => ⟨exec_domainPowerOn_foreign hforeign, exec_domainPowerOff_foreign hforeign⟩,
      exec_domainPowerOn_off, exec_domainPowerOff_on, exec_inrushWaitTimeout_waiting⟩,
    fun z i d => ⟨fun rest current hwaiting htoken hclosed => exec_inrushGrant_room rfl
        (by simpa using hwaiting) (by simpa using htoken) (by simpa using hclosed),
      fun htoken => ⟨exec_domainPowerGood_plain htoken, exec_domainRampTimeout_ramping htoken⟩⟩,
    fun i r => ⟨fun fit => rfl, fun fit p hwhole => exec_phaseFailure_first hwhole p fit, rfl, rfl, rfl,
      fun v => exec_vsetWrite_legal, fun v => exec_vsetWrite_low⟩⟩

end Sys2Proof.Laws

namespace Sys2Proof.Laws
open Sys2Proof.Machine

/-! ### References (R443, R444, R457) -/

/-- The power of a half after it is changed. -/
@[simp] theorem halfPower_modHalf (s : State) (h : Half) (f : HalfPower → HalfPower) : (s.modHalf h f).halfPower h = f (s.halfPower h) := by
  cases h <;> rfl

section
variable {s : State} {h : Half}

section
variable (hselected : (s.halfPower h).refState = 1)
include hselected

theorem exec_refclkLoss_switches (hother : (s.halfPower h).refB = true) :
    exec (.refclkLoss h false) s = .next ((s.modHalf h (fun p => { p with refA := false })).refTo h 2) :=
  next_congr ((if_neg (not_not_intro hselected)).trans (if_pos (by simpa [HalfPower.refOk] using hother)))

theorem exec_refclkLoss_holds (hother : (s.halfPower h).refB = false) :
    exec (.refclkLoss h false) s = .next ((s.modHalf h (fun p => { p with refA := false })).refTo h 3) :=
  next_congr ((if_neg (not_not_intro hselected)).trans (if_neg (by simpa [HalfPower.refOk] using hother)))

/-- Selection does not revert to an input that returns (R444). -/
theorem exec_refclkReturn_selected : exec (.refclkReturn h true) s = .next (s.modHalf h (fun p => { p with refB := true })) :=
  next_congr (if_neg (by simp [hselected]))

end

theorem exec_refclkReturn_holdover (hholds : (s.halfPower h).refState = 3) :
    exec (.refclkReturn h false) s = .next ((s.modHalf h (fun p => { p with refA := true })).refTo h 1) :=
  next_congr (if_pos (.inr hholds))

section
variable {r : Req} {m : MgmtSession} {v : Byte} (hg : Granted s r m (oref 0x8051 0 h.code) [v]) (hcode : v.toNat ≤ 1)
include hg hcode

theorem exec_refclkSelectWrite_lost (hlost : (s.halfPower h).refOk (v == 1) = false) :
    exec (.refclkSelectWrite r h v) s = .next (s.performed r m (fun t => (coBusy, t))) := by
  have hlost' : ((s.admitted r m).halfPower h).refOk (v == 1) = false := hlost
  exact next_congr ((writeReq_ok hg _).trans (perf_congr ((if_neg (Nat.not_lt.2 hcode)).trans (if_pos (by rw [hlost']; rfl)))))

theorem exec_refclkSelectWrite_valid (hvalid : (s.halfPower h).refOk (v == 1) = true) (hup : s.bothUp = true) :
    exec (.refclkSelectWrite r h v) s = .next (s.performed r m (fun t =>
      (0, ((t.setObj (objKey 0x8051 0 h.code) [v]).burn (objKey 0x8051 0 h.code) [v]).refTo h (1 + v.toNat)))) := by
  have hvalid' : ((s.admitted r m).halfPower h).refOk (v == 1) = true := hvalid
  exact next_congr ((writeReq_ok hg _).trans (perf_congr ((if_neg (Nat.not_lt.2 hcode)).trans
    ((if_neg (by rw [hvalid']; exact Bool.false_ne_true)).trans (if_pos hup)))))

end

end

/-! ### Transit clock inputs (R446, R456) -/

/-- Two changes that agree on a comb's power are the same change. -/
theorem modPw_congr {s : State} {i : Site} {f g : CombPower → CombPower} (h : f (s.comb i).pw = g (s.comb i).pw) :
    s.modPw i f = s.modPw i g :=
  congrArg (fun w => s.setComb i { s.comb i with pw := w }) h

section
variable {s : State} {i : Site}

section
variable {k : Fin 5} (hinput : hasInput i k.val = true)
include hinput

theorem exec_transitInputLoss_unselected (hother : (s.comb i).pw.clkSel.toNat ≠ k.val) :
    exec (.transitInputLoss i k) s = .next (s.modPw i (fun w => { w with clkLost := setBit w.clkLost k.val true })) :=
  next_congr ((if_neg (by simp [hinput])).trans (if_pos hother))

/-- A comb whose selected input is valid stays on it (log 82). -/
theorem exec_transitInputReturn_selected (hvalid : bit (s.comb i).pw.clkLost (s.comb i).pw.clkSel.toNat = false) :
    exec (.transitInputReturn i k) s = .next (s.modPw i (fun w => { w with clkLost := setBit w.clkLost k.val false })) :=
  next_congr ((if_neg (by simp [hinput])).trans (modPw_congr (if_neg (by simp [hvalid]))))

end

section
variable {v : W64}

theorem exec_clkCombWrite_has (hall : [fld v 10 8, fld v 14 12, fld v 18 16].all (hasInput i) = true) :
    exec (.clkCombWrite i v) s = .next (s.modPw i (fun w => { w with clkLatch := some v })) := next_congr (if_pos hall)

theorem exec_clkCombWrite_lacks (hall : [fld v 10 8, fld v 14 12, fld v 18 16].all (hasInput i) = false) :
    exec (.clkCombWrite i v) s = .next (s.setClkErr i ceBadWr) := next_congr (if_neg (by simp [hall]))

end

end

/-! ### Keeper time (R452, log 51) -/

/-- The two keepers with one time. -/
theorem time_setTime_both (s : State) (h : Half) (t : W64) :
    (((s.setTime h t).setTime h.other t).keeper .west).time = t ∧ (((s.setTime h t).setTime h.other t).keeper .east).time = t := by
  cases h <;> exact ⟨rfl, rfl⟩

/-- Settles O50, by the rule of each command. -/
theorem referencesInputsAndTimeAreKept : Obligations.ReferencesInputsAndTimeAreKept := by
  unfold Obligations.ReferencesInputsAndTimeAreKept
  exact ⟨fun s h hselected => ⟨exec_refclkLoss_switches hselected, exec_refclkLoss_holds hselected, exec_refclkReturn_selected hselected⟩,
    fun s h => exec_refclkReturn_holdover,
    fun s r m h v hg hcode => ⟨exec_refclkSelectWrite_lost hg hcode, exec_refclkSelectWrite_valid hg hcode⟩,
    fun s i k hinput => ⟨exec_transitInputLoss_unselected hinput, exec_transitInputReturn_selected hinput⟩,
    fun s i v => ⟨exec_clkCombWrite_has, exec_clkCombWrite_lacks⟩,
    fun s r m h v hg => next_congr (writeReq_ok hg _), fun s dt => ⟨_, rfl, time_setTime_both ..⟩⟩

end Sys2Proof.Laws

namespace Sys2Proof.Laws
open Sys2Proof.Machine

/-! ### The loader of a steward (R460–R462, log 52) -/

section
variable {s : State} {i : Site}

theorem exec_fwlArm_idle (hidle : (s.comb i).loader.state ≠ 2) :
    exec (.fwlArm i) s = .next (s.modLoader i (fun l => { l with state := 1, rx := [] })) := next_congr (if_neg hidle)

theorem exec_fwlCheck_armed (harmed : (s.comb i).loader.state = 1) :
    exec (.fwlCheck i) s = .next (s.modLoader i (fun l => { l with state := 2 })) := next_congr (if_pos harmed)

/-- The end of a check: MISSING, OK or MISMATCH (R461). -/
theorem exec_fwlCheckDone_checking (hchecking : (s.comb i).loader.state = 2) : exec (.fwlCheckDone i) s =
    .next (let l := (s.comb i).loader
      s.modLoader i (fun x => { x with
        state := if l.rx.length < l.len then 5 else if Config.sha512 ((s.comb i).stewardLines l.base l.len) = l.digestBytes then 3 else 4 })) :=
  next_congr (if_neg (not_not_intro hchecking))

theorem exec_fwlStart_keeper (hchecked : (s.comb i).loader.state = 3) :
    exec (.fwlStart i true) s = .next (s.modComb i (fun k => { k with steward := k.steward.boot (s.comb i).loader.entry })) :=
  next_congr (if_pos ⟨rfl, hchecked⟩)

theorem exec_fwlStart_other : exec (.fwlStart i false) s = .next (s.setFwlErr i feBadWr) :=
  next_congr (by simp [State.fwlStart])

section
variable {p : DataPkt} (hat : AtEndpoint s i.val 0xB9 p) (htype : p.type = 0x15) (hlines : (p.lenM1.toNat + 1) % 4 = 0)
include hat htype hlines

/-- Lines from a keeper inside the image of an armed loader are written and acknowledged (R462). -/
theorem exec_fwBlock_armed {n : Nat} (hn : (p.lenM1.toNat + 1) / 4 = n) (harmed : (s.comb i).loader.state = 1)
    (hkeeper : s.fromKeeper p.src = true) (hfirst : p.addr.toNat < 2 ^ 24) (hlast : p.addr.toNat + n ≤ (s.comb i).loader.len) :
    exec (.fwBlock i p) s = .next (let l := (s.comb i).loader
      (((s.takeData p).memWrite (.steward i) ((l.base + p.addr.toNat) * 64) p.payload).modLoader i (fun x =>
        { x with rx := x.rx ++ ((List.range n).map (p.addr.toNat + ·)).filter (fun k => !l.rx.contains k) })).ackData (s.eid i.val 0xB9) p) := by
  have hkeeper' : (s.takeData p).fromKeeper p.src = true := hkeeper
  have hcomb : (s.takeData p).comb i = s.comb i := rfl
  have hgood : ¬((s.comb i).loader.state ≠ 1 ∨ (!(s.takeData p).fromKeeper p.src) = true ∨ p.addr.toNat ≥ 2 ^ 24 ∨
      p.addr.toNat + n > (s.comb i).loader.len) := by
    simp only [hkeeper', Bool.not_true, Bool.false_eq_true, false_or]
    omega
  refine next_congr ((if_neg (by simp [htype, hat.1])).trans ((endpoint_ok hat _).trans ((if_neg (not_not_intro hlines)).trans ?_)))
  simp only [hcomb, hn]
  exact if_neg hgood

/-- A loader that is not armed refuses (R462). -/
theorem exec_fwBlock_unarmed (hunarmed : (s.comb i).loader.state ≠ 1) :
    exec (.fwBlock i p) s = .next (((s.takeData p).setFwlErr i feRefused).nackData (s.eid i.val 0xB9) p nkNotPermitted) :=
  next_congr ((if_neg (by simp [htype, hat.1])).trans ((endpoint_ok hat _).trans ((if_neg (not_not_intro hlines)).trans
    (if_pos (.inl hunarmed)))))

end

end

/-! ### Starts (R464–R468) -/

/-- A cold start where both halves have power and both keepers are down (R464). -/
theorem exec_coldStart_powered {s : State} (f : StartFinds)
    (hdown : ∀ h : Half, (s.halfPower h).on = true ∧ (s.halfPower h).stop ≠ 5 ∧ (s.keeper h).health = 2) :
    exec (.coldStart f) s = .next (s.coldStart f) := by
  obtain ⟨hwest, hwestStop, hwestHealth⟩ := hdown .west
  obtain ⟨-, heastStop, heastHealth⟩ := hdown .east
  have hhalves : s.halves (fun h s => if (s.halfPower h).stop = 5 then s.halfUp h else s) = s := by
    simp only [State.halves, if_neg hwestStop, if_neg heastStop]
  refine next_congr ?_
  simp only [hhalves]
  exact if_pos ⟨.inl hwest, by simp [hwestHealth], by simp [heastHealth]⟩

section
variable {s : State} {r : Req} {m : MgmtSession} (f : StartFinds)

section
variable (hready : s.boot.state = 6)
include hready

theorem exec_warmRestart_line : exec (.warmRestart none f) s = .next (s.warmStart f) := next_congr (if_pos hready)

theorem exec_warmRestart_object (hg : Granted s r m (oref 0x2003 0 0) [1]) :
    exec (.warmRestart (some r) f) s = .next (s.performed r m (fun t => (0, t.warmStart f))) :=
  next_congr ((writeReq_ok hg _).trans (perf_congr (if_neg (not_not_intro hready))))

end

section
variable (hbusy : s.boot.state ≠ 6)
include hbusy

theorem exec_warmRestart_line_busy : exec (.warmRestart none f) s = .next s := next_congr (if_neg hbusy)

theorem exec_warmRestart_object_busy (hg : Granted s r m (oref 0x2003 0 0) [1]) :
    exec (.warmRestart (some r) f) s = .next (s.performed r m (fun t => (coBusy, t))) :=
  next_congr ((writeReq_ok hg _).trans (perf_congr (if_pos hbusy)))

end

end

/-! ### PANEL_RESET_L and SAFE_STOP_L (R464, R488) -/

/-- What a half's power reads is no part of a keeper. -/
@[simp] theorem keeper_modHalf (s : State) (h : Half) (f : HalfPower → HalfPower) (g : Half) : (s.modHalf h f).keeper g = s.keeper g := by
  cases h <;> cases g <;> rfl

/-- The lead is no part of a keeper. -/
@[simp] theorem keeper_passLead (s : State) (h g : Half) : (s.passLead h).keeper g = s.keeper g := by
  unfold State.passLead
  split <;> cases g <;> rfl

/-- What is on the network is no part of a keeper. -/
theorem keeper_withNet (s : State) (n : Net) (g : Half) : State.keeper { s with net := n } g = s.keeper g := by
  cases g <;> rfl

/-- Combs that lose their power leave every keeper. -/
theorem keeper_foldl_modComb (s : State) (f : Comb → Comb) (l : List Site) (g : Half) :
    (l.foldl (fun s i => s.modComb i f) s).keeper g = s.keeper g :=
  foldl_keeps _ (fun u : State => u.keeper g) (fun u i => keeper_setComb u i _ g) l s

/-- Stores that lose their power leave every keeper. -/
theorem keeper_foldl_modStore (s : State) (f : Store → Store) (l : List Nat) (g : Half) :
    (l.foldl (fun s n => s.modStore n f) s).keeper g = s.keeper g := by
  refine foldl_keeps _ (fun u : State => u.keeper g) (fun u n => ?_) l s
  cases g <;> rfl

/-- A keeper that is replaced by one with the same PANEL_RESET_L keeps every keeper's. -/
theorem resetLow_setKeeper (s : State) (h : Half) {k : Keeper} (hk : k.resetLow = (s.keeper h).resetLow) (g : Half) :
    ((s.setKeeper h k).keeper g).resetLow = (s.keeper g).resetLow := by
  cases h with
  | west => cases g with
    | west => exact hk
    | east => rfl
  | east => cases g with
    | west => rfl
    | east => exact hk

/-- A half that stops leaves what its keeper holds of PANEL_RESET_L. -/
theorem resetLow_halfStop (s : State) (h : Half) (why : Nat) (g : Half) :
    ((s.halfStop h why).keeper g).resetLow = (s.keeper g).resetLow := by
  unfold State.halfStop
  split
  · rw [keeper_modHalf]
  · simp only [keeper_passLead, keeper_modHalf, keeper_withNet]
    refine (resetLow_setKeeper _ _ ?_ _).trans ?_
    · rfl
    · rw [keeper_foldl_modStore, keeper_foldl_modComb]

/-- The halves stopped in turn keep what the keepers hold of PANEL_RESET_L. -/
theorem resetLow_halves {f : Half → State → State} {g : Half} (hf : ∀ h u, ((f h u).keeper g).resetLow = (u.keeper g).resetLow) (s : State) :
    ((s.halves f).keeper g).resetLow = (s.keeper g).resetLow :=
  (hf .east _).trans (hf .west _)

/-- PANEL_RESET_L held low at a connector is noted, and leaves PANEL_STATE 0 (R464). -/
theorem exec_panelResetHold (s : State) (h : Half) :
    Answers (.panelResetHold h) s (fun t => t.boot.state = 0 ∧ (t.keeper h).resetLow = true) := by
  have hstop (g : Half) (u : State) :
      ((if (u.halfPower g).on = true ∨ (u.halfPower g).stop ≥ 3 then u.halfStop g 5 else u).keeper h).resetLow = (u.keeper h).resetLow := by
    split
    · exact resetLow_halfStop u g 5 h
    · rfl
  have hlow := (resetLow_halves hstop (s.setKeeper h { s.keeper h with resetLow := true })).trans
    (congrArg Keeper.resetLow (keeper_setKeeper s h _))
  refine ⟨_, rfl, rfl, ?_⟩
  cases h <;> exact hlow

/-- Settles O51, by the rule of each command. -/
theorem loadersStartsStopsAndDumpsAct : Obligations.LoadersStartsStopsAndDumpsAct := by
  unfold Obligations.LoadersStartsStopsAndDumpsAct
  exact ⟨fun s i => ⟨exec_fwlArm_idle, exec_fwlCheck_armed, exec_fwlCheckDone_checking,
      fun hchecked => ⟨exec_fwlStart_keeper hchecked, exec_fwlStart_other⟩,
      fun p hat htype hlines => ⟨exec_fwBlock_armed hat htype hlines rfl, exec_fwBlock_unarmed hat htype hlines⟩⟩,
    fun s f => exec_coldStart_powered f,
    fun s r m f hready => ⟨exec_warmRestart_line f hready, exec_warmRestart_object f hready⟩,
    fun s r m f hbusy => ⟨exec_warmRestart_line_busy f hbusy, exec_warmRestart_object_busy f hbusy⟩,
    exec_panelResetHold,
    fun s h => ⟨fun hserves => next_congr (if_pos ⟨rfl, hserves⟩), next_congr (if_neg fun hlow => Bool.false_ne_true hlow.1)⟩,
    fun s r m => ⟨fun hg => next_congr (writeReq_ok hg _), fun hg => next_congr (writeReq_ok hg _)⟩⟩

end Sys2Proof.Laws

namespace Sys2Proof.Laws
open Sys2Proof.Machine

/-! ### Steps (log 11) -/

theorem step_cons {s : State} {c : Instr} {rest : List Instr} (h : s.pending = c :: rest) : step s = exec c (s.withQueue rest) := by
  simp only [step, h]

theorem step_nil {s : State} (h : s.pending = []) : step s = .next s := by
  simp only [step, h]

/-- Settles O55, by the two cases of the queue; a command put in front of the queue leaves that queue behind when it is taken. -/
theorem stepRunsTheFrontCommand : Obligations.StepRunsTheFrontCommand := by
  unfold Obligations.StepRunsTheFrontCommand
  exact fun s => ⟨fun c rest => step_cons, fun c => step_cons rfl, step_nil, fun nbits w => ⟨rfl, rfl⟩⟩

end Sys2Proof.Laws
